-- ==== Sys2Proof/Word.lean ====
section
/-! DEFINITION. Word types of the Ilper and the table type its sparse stores are held in. -/

namespace Sys2Proof

abbrev Byte := BitVec 8
abbrev W16 := BitVec 16
abbrev W32 := BitVec 32
abbrev W64 := BitVec 64
/-- A transport packet sequence number (R9, R111). -/
abbrev Psn := BitVec 24

/-- A sparse store: key and value pairs, keys strictly rising (`Tab.wf` in Machine/Tables.lean). -/
abbrev Tab (α : Type) := List (Nat × α)

end Sys2Proof
end

