-- ==== Sys2Proof/Machine/Bytes.lean ====
section
/-! DEFINITION. Little-endian byte strings (R7) and bit fields. -/

namespace Sys2Proof.Machine

/-- The `n` low bytes of `v`, least significant first (R7). -/
def le : Nat → Nat → List Byte
  | 0, _ => []
  | n + 1, v => BitVec.ofNat 8 v :: le n (v / 256)

/-- The number whose little-endian bytes are given (R7). -/
def ofLe : List Byte → Nat
  | [] => 0
  | b :: bs => b.toNat + 256 * ofLe bs

/-- The `n` low bytes of `v`, most significant first, as the outside standards order them. -/
def be (n v : Nat) : List Byte := (le n v).reverse

def xorBytes (a b : List Byte) : List Byte := List.zipWith (· ^^^ ·) a b

/-- `n` bytes of zero: a reserved field (R8). -/
def zeros (n : Nat) : List Byte := List.replicate n 0

/-- `bs` cut or zero-filled to exactly `n` bytes. -/
def fit (n : Nat) (bs : List Byte) : List Byte := (bs ++ zeros n).take n

/-- `bs` with `new` written at offset `off`. -/
def patch (bs : List Byte) (off : Nat) (new : List Byte) : List Byte := bs.take off ++ new ++ bs.drop (off + new.length)

/-- Fields of a structure, each at its offset, in `n` bytes. -/
def struct (n : Nat) (fs : List (Nat × List Byte)) : List Byte := fit n (fs.foldl (fun b f => patch b f.1 f.2) (zeros n))

/-- The `len` bytes of `bs` from offset `off`; bytes beyond the end read as zero. -/
def slice (bs : List Byte) (off len : Nat) : List Byte := fit len (bs.drop off)

/-- The little-endian field of `size` bytes at offset `off`. -/
def fieldAt (bs : List Byte) (off size : Nat) : Nat := ofLe (slice bs off size)

/-- Bits [hi:lo] of a number. -/
def bits (v hi lo : Nat) : Nat := v / 2 ^ lo % 2 ^ (hi + 1 - lo)

def bit (v i : Nat) : Bool := v.testBit i

def boolNat (b : Bool) : Nat := if b then 1 else 0

/-- Saturating increment of a counter of `width` bits. -/
def satAdd (width v d : Nat) : Nat := min (v + d) (2 ^ width - 1)

/-- Index of the lowest set bit below `n` (0 when none). -/
def lowBit : Nat → Nat → Nat
  | 0, _ => 0
  | n + 1, v => if v % 2 = 1 then 0 else 1 + lowBit n (v / 2)

/-- Bytes of a text in ASCII, as CM and NVMe strings carry them. -/
def ascii (t : String) : List Byte := t.toList.map fun c => BitVec.ofNat 8 c.toNat

end Sys2Proof.Machine
end

