-- ==== Sys2Proof/Machine/Tables.lean ====
section
/-! DEFINITION. The canonical form of the sparse stores of State and the operations that keep it. -/

namespace Sys2Proof

namespace Tab

/-- The value stored under key `k`. -/
def get? {α : Type} : Tab α → Nat → Option α
  | [], _ => none
  | (j, v) :: t, k => if j = k then some v else if k < j then none else get? t k

/-- The table with `v` under key `k`, keys strictly rising. -/
def set {α : Type} : Tab α → Nat → α → Tab α
  | [], k, v => [(k, v)]
  | (j, w) :: t, k, v => if k < j then (k, v) :: (j, w) :: t else if j = k then (k, v) :: t else (j, w) :: set t k v

/-- The table without key `k`. -/
def del {α : Type} : Tab α → Nat → Tab α
  | [], _ => []
  | (j, w) :: t, k => if j = k then t else (j, w) :: del t k

/-- The value under `k`, or `d`. -/
def getD {α : Type} (t : Tab α) (k : Nat) (d : α) : α := (t.get? k).getD d

def has {α : Type} (t : Tab α) (k : Nat) : Bool := (t.get? k).isSome

/-- Apply `f` to the value under `k`, if there is one. -/
def upd {α : Type} (t : Tab α) (k : Nat) (f : α → α) : Tab α :=
  match t.get? k with
  | none => t
  | some v => t.set k (f v)

/-- The values in key order. -/
def vals {α : Type} (t : Tab α) : List α := t.map Prod.snd

def keys {α : Type} (t : Tab α) : List Nat := t.map Prod.fst

/-- Apply `f` to every value. -/
def mapVals {α : Type} (t : Tab α) (f : α → α) : Tab α := t.map fun e => (e.1, f e.2)

/-- Keep the entries that satisfy `p`. -/
def keep {α : Type} (t : Tab α) (p : Nat → α → Bool) : Tab α := t.filter fun e => p e.1 e.2

/-- The canonical form: keys strictly rising, every key at least `lo`. -/
def wfFrom {α : Type} : Nat → Tab α → Bool
  | _, [] => true
  | lo, (j, _) :: t => decide (lo ≤ j) && wfFrom (j + 1) t

/-- The canonical form. -/
def wf {α : Type} (t : Tab α) : Bool := wfFrom 0 t

end Tab

/-- The smallest natural number at or above `n` that `used` does not hold, looking at most `fuel` further. -/
def freeFrom (used : Nat → Bool) : Nat → Nat → Option Nat
  | 0, _ => none
  | fuel + 1, n => if used n then freeFrom used fuel (n + 1) else some n

end Sys2Proof
end

