-- ==== Sys2Proof/Machine/MapData.lean ====
section
/-! DEFINITION. State of the map engine and the metadata cache (08). Each field's comment gives its width, the rule that
names it and its value at reset. Page bodies are the spec's 4,096 bytes; `body` is the newest content, whichever of the
cache, the spoil buffer and DRAM holds it. -/

namespace Sys2Proof.Machine

/-- A page table entry (R218) with the page's newest body while it is resident. -/
structure Page where
  kind : Nat
  refs : Nat := 1
  pins : Nat := 0
  pxa : Nat := 0
  body : Option (List Byte) := some (zeros 4096)
  dirty : Option Nat := none
  writing : Bool := false
  lost : Bool := false
  first : Nat := 0
  claim : Nat := 0
  applied : Nat := 0
  used : Bool := true
  reading : Bool := false
  again : Bool := false
deriving DecidableEq, Repr

/-- A layer record (R229), with the LBA format and key slot of its namespace, which R231 compares. -/
structure Layer where
  kind : Nat
  levels : Nat
  flags : Nat := 0
  nsid : Nat
  parent : Nat := 0
  root : Nat := 0
  freezeWsn : Nat := 0
  createStamp : Nat
  nsze : Nat
  label : List Byte := zeros 16
  lbaf : Nat := 0
  keySlot : Nat := 0xFF
  dropKey : Bool := false
deriving DecidableEq, Repr

/-- Map state of a domain (R216, R247). -/
structure MapDomain where
  nextLayer : Nat := 1                   -- 32 | 08 R216 | 1
  checking : Option Bool := none         -- repair flag | 08 R247 check running | none
deriving DecidableEq, Repr

/-- A way of the metadata cache (R241) and the times of its clean parity errors (R244). -/
structure CacheWay where
  mpn : Nat := 0
  valid : Nat := 0
  dirty : Nat := 0
  nru : Bool := false
  aBit : Bool := false
  fill : Bool := false
  disabled : Bool := false
  errors : List Nat := []
deriving DecidableEq, Repr

/-- A spoil-buffer entry (R243). -/
structure Spoil where
  mpn : Nat
  sector : Nat
  seq : Nat
deriving DecidableEq, Repr

/-- A cold merge that has not staged its MERGE record yet (R228): the setts read so far, and whether a record above its basis WSN has
changed the ashlar. -/
structure ColdMerge where
  nsid : Nat
  ashlar : Nat
  basis : Nat
  setts : Tab (List Byte) := []
  touched : Bool := false
deriving DecidableEq, Repr

/-- The map engine (08). -/
structure MapState where
  pages : Tab Page := []                 -- page table by MPN | 08 R218 | empty
  layers : Tab Layer := []               -- by domain x 2^32 + layer | 08 R229 | none
  domains : Tab MapDomain := []          -- by domain | 08 R216 | counters at 1
  sets : Tab (List CacheWay) := []       -- 1,536 sets of 16 ways | 08 R240 | invalid
  spoil : List Spoil := []               -- 256 entries | 08 R243 | empty
  spoilSeq : Nat := 0                    -- counter | 08 R243 sequence number | DESIGN CHOICE 0
  area : Nat := 0                        -- 64, bytes | 08 R237 map area | 0 until reserved
  reservedEntries : Nat := 0             -- 64 | 08 R238 | 0
  mergeAge : Nat := 3600                 -- 32, s | 08 R248 | 3,600
  writebackAge : Nat := 30               -- 16, s | 08 R248 | 30
  areaHigh : Bool := false               -- 1 | 08 R238 EV_MAP_AREA_HIGH raised | 0
  pagesLow : Bool := false               -- 1 | 08 R238 EV_MAP_PAGES_LOW raised | 0
  sweeps : List (Nat × Nat) := []        -- (stripe, entries marked) | 08 R235 lost sweeps | none
  rechecks : List (Nat × Nat) := []      -- (nsid, ashlar) | 08 R246 queue | empty
  counters : List Nat := List.replicate 12 0  -- 12 x 64 | 08 R248 MAP_COUNTERS | 0
  hand : Nat := 0                        -- MPN | 08 R237 clock hand | DESIGN CHOICE 0
  pinning : List Nat := []               -- namespaces | 08 R239 | none
  pinned : List Nat := []                -- namespaces | 08 R239, 12 R385 class-A namespaces EV_MAP_PINNED was raised for | none
  merges : Tab ColdMerge := []           -- cold merges by read number | 08 R228 | none
deriving DecidableEq, Repr

end Sys2Proof.Machine
end

