-- ==== Sys2Proof/Machine/StripeData.lean ====
section
/-! DEFINITION. State of segments, stripes, journal, garbage collection and rebuild (09). Each field's comment gives
its width, the rule that names it and its value at reset. -/

namespace Sys2Proof.Machine

/-- Where the content of a placed item comes from, so that an abandoned stripe can be written again (R265). -/
inductive Source where
  | metaExtent (wsn : Nat)
  | extent (wsn index : Nat)
  | copy (pxa : Nat)
  | page (kind key : Nat)
deriving DecidableEq, Repr

/-- A continuation record of a whole-ashlar extent (R262). -/
structure Tagging where
  sett : Nat
  bucket : Nat
  tag : Nat
deriving DecidableEq, Repr

/-- A live extent of kinds 1 to 6, or a meta extent of kind 7 (R262, R268). -/
structure Extent where
  units : Nat
  kind : Nat
  raw : Bool := false
  nsid : Nat := 0
  tagged : Bool := false
  bucket : Nat := 0
  tag : Nat := 0
  keySlot : Nat := 0xFF
  conts : List Tagging := []
  wsn : Nat := 0
  firstExtent : Nat := 0
  mapCount : Nat := 0
  pending : Nat := 0
deriving DecidableEq, Repr

/-- An item placed in an open stripe: its unit offset, its summary record, its bytes and the rank of its work (R20, log entry 141; R261,
R262). -/
structure Item where
  off : Nat
  ext : Extent
  source : Source
  bytes : List Byte
  rank : Nat := 7
deriving DecidableEq, Repr

/-- Stripe states of R267. -/
inductive StripeState where
  | open
  | closed
  | abandoned
  | discarded
  | forwarded
  | lost
deriving DecidableEq, Repr

def StripeState.code : StripeState → Nat
  | .open => 1
  | .closed => 2
  | .abandoned => 3
  | .discarded => 4
  | .forwarded => 5
  | .lost => 6

/-- A stripe (R253, R263, R267). A stripe number that is not in the table is free. -/
structure Stripe where
  state : StripeState := .open
  stream : Nat := 0
  weak : Bool := false
  segment : Nat := 0
  row : Nat := 0
  live : Nat := 0
  records : Nat := 0
  summaryUnits : Nat := 0
  closeStamp : Nat := 0
  lowWsn : Nat := 0
  highWsn : Nat := 0
  items : List Item := []
  fill : Nat := 0
  since : Option Nat := none
  opened : Bool := false
  complete : Bool := false
  closing : Bool := false
  handed : Nat := 0
  programs : List Nat := []
  rank : Nat := 3
  stamp : Nat := 0
deriving DecidableEq, Repr

/-- Segment states of R287. -/
inductive SegState where
  | open
  | sealed
  | rebuilding
  | evacuating
  | erasing
deriving DecidableEq, Repr

def SegState.code : SegState → Nat
  | .open => 1
  | .sealed => 2
  | .rebuilding => 3
  | .evacuating => 4
  | .erasing => 5

/-- A segment (R251, R287). -/
structure Segment where
  state : SegState := .open
  data : Nat := 0
  parity : Nat := 0
  stream : Nat := 0
  layoutId : Nat := 0
  layoutRow : Nat := 0
  epoch : Nat := 0
  rowsWritten : Nat := 0
  rowsTotal : Nat := 0
  openStamp : Nat := 0
  missing : List Nat := []
  replaced : List Nat := []
  cells : List Nat := []
  failed : Bool := false
  replacement : Tab Nat := []
  rebuildRow : Nat := 0
  retired : List Nat := []
  refresh : Bool := false
  rebuilding : List (Nat × Nat) := []
  evacuating : Bool := false
  byEvac : Bool := false
deriving DecidableEq, Repr

/-- A segment is in the rebuild queue, to be rebuilt in place or by evacuation (R279, R280). -/
def Segment.toRebuild (g : Segment) : Bool := g.state == .rebuilding || (g.state == .evacuating && g.byEvac)

/-- The body of a journal record (R270). -/
inductive JBody where
  | stripeOpen (stripe stream row segment epoch : Nat)
  | stripeClose (stripe records lowWsn crc used summary : Nat)
  | stripeAbandon (stripe cause cell : Nat)
  | extentMove (old new units kind : Nat)
  | segmentOpen (segment data parity stream layoutId layoutRow rowsTotal epoch : Nat)
  | segmentMember (segment firstCell : Nat) (cells : List Nat)
  | segmentState (segment state : Nat)
  | memberReplace (segment cell old new : Nat)
  | stripeLost (stripe cause missing : Nat)
  | checkpoint (anchor lowWsn frameSeq : Nat)
  | lostClear (stripe : Nat)
  | domainSettings (level mode table flags bucketLog2 : Nat)
deriving DecidableEq, Repr

/-- A journal record (R270): `stamp` is its event stamp. -/
structure JRecord where
  wsn : Nat
  stamp : Nat
  body : JBody
deriving DecidableEq, Repr

/-- A frame written to the trio (R272): the modules that have acknowledged it, and the records the mirror peer still
has to acknowledge. -/
structure JFrame where
  seq : Nat
  claim : Nat
  records : List JRecord
  acks : List Nat := []
  unmirrored : List Nat := []
deriving DecidableEq, Repr

/-- The journal of a domain (R270 to R274). -/
structure Journal where
  trio : List Nat := []                  -- 3 modules | 09 R273 | none
  degraded : Bool := false               -- 1 | 09 R273 | 0
  repair : Option Nat := none            -- module | 09 R273 new member being filled | none
  seq : Nat := 0                         -- 64 | 09 R272 newest frame_seq | 0
  open_ : List JRecord := []             -- at most 63 records | 09 R272 records of the next frame | none
  flight : List JFrame := []             -- list | 09 R272 frames sent and not durable, oldest first | none
  kept : List JFrame := []               -- list | 09 R273, R274 durable frames since the checkpoint | none
  checkpointSeq : Nat := 0               -- 64 | 09 R274 | 0
  checkpointLow : Nat := 0               -- 64 | 09 R274 | 0
  bad : List Nat := []                   -- modules | 09 R273 members that failed an append | none
  rank : Nat := 7                        -- 3 | 09 R272 lowest rank waiting on the open frame | 7
deriving DecidableEq, Repr

/-- Settings and cursor of a domain (R256, R259, R276, R287). -/
structure StripeDomain where
  layoutId : Nat := 0                    -- 8 | 09 R287 | 0
  closeAge : Nat := 50                   -- 16, ms | 09 R287 | 50
  gcStart : Nat := 64                    -- 16 | 09 R287 | 64
  gcStop : Nat := 128                    -- 16 | 09 R287 | 128
  gcReserve : Nat := 8                   -- 16 | 09 R287 | 8
  journalWindow : Nat := 64              -- 16, MiB | 09 R287 | 64
  freeCeiling : Nat := 0                 -- 32 | 09 R287 | 0
  cursor : Nat := 0                      -- 16 | 09 R259 row cursor | 0
  turn : Nat := 0                        -- 16 | 09 R465 next module of the claim turn | DESIGN CHOICE 0
  gcSuspended : Bool := false            -- 1 | 09 R287 GC_CONTROL | 0
  gcRunning : Bool := false              -- 1 | 09 R276 | 0
  victims : List (Nat × Nat) := []       -- (segment, rank) | 09 R277, R287, 10 R320 queued victims | none
  stalled : List Nat := []               -- streams | 09 R259 EV_LAYOUT_STALLED raised | none
  reserveRaised : Bool := false          -- 1 | 09 R256 EV_GC_RESERVE raised | 0
  queues : List (List Item) := [[], [], []]  -- 3 streams | 09 R261 items waiting for a stripe | none
  urgent : List (Option Nat) := [none, none, none]  -- 3 x rank | 09 R264 stripes to close at once while items wait | none
  checkpointWanted : Bool := false       -- 1 | 09 R274, R277 a CHECKPOINT is forced | 0
  anchorPxa : Nat := 0                   -- 64 | 09 R267 PXA of the anchor page written for the next CHECKPOINT | 0
  anchor : Nat := 0                      -- 64 | 09 R267, R274 PXA of the anchor page that the newest CHECKPOINT names | 0
  tables : List (Nat × Nat × Nat) := []  -- (kind, index, PXA) | 09 R267 page-table, layer and ledger pages that anchor lists | none
  fresh : List (Nat × Nat × Nat) := []   -- (kind, index, PXA) | 09 R267, R274 those written for the next CHECKPOINT | none
  tablesOut : Bool := false              -- 1 | 09 R274 they have been handed to the stripe engine | 0
deriving DecidableEq, Repr

/-- An entry of the lost-stripe table (R283). -/
structure LostEntry where
  cause : Nat
  missing : Nat
  swept : Bool
  stamp : Nat
deriving DecidableEq, Repr

/-- Rebuild (R279 to R282). -/
structure Rebuild where
  floor : Nat := 2000                    -- 32, MB/s | 09 R287 | 2,000
  gateMax : Nat := 50                    -- 16, 0.1 ms | 09 R287 | 50
  running : Bool := false                -- 1 | 09 R279 a rebuild runs | 0
  current : Option Nat := none           -- segment | 09 R287 segment in progress | none
  tokens : Nat := 0                      -- bytes | 09 R281 token bucket | DESIGN CHOICE 0
  progress : Nat := 0                    -- bytes | 09 R281 progress in this window | 0
  windows : List Nat := []               -- bytes | 09 R281 progress of the windows of the last second | none
  gate : Option Nat := none              -- 64, tick | 09 R281 the floor gate is closed until | open
  below : Nat := 0                       -- windows | 09 R281 windows below the floor with the gate at gate_max | 0
  belowRaised : Bool := false            -- 1 | 09 R281 | 0
  done : Nat := 0                        -- 64 | 09 R287 segments done | 0
  cells : Nat := 0                       -- 64 | 09 R287 cells rebuilt | 0
  bytes : Nat := 0                       -- 64 | 09 R287 bytes programmed | 0
  gateUs : Nat := 0                      -- 64 | 09 R287 gate time in us | 0
  lost : Nat := 0                        -- 64 | 09 R287 stripes lost | 0
  started : Nat := 0                     -- 64, stamp | 09 R289 start of the rebuild | 0
deriving DecidableEq, Repr

/-- The stripe engine (09). -/
structure Stripes where
  stripes : Tab Stripe := []             -- stripe table | 09 R267 | empty
  segments : Tab Segment := []           -- segment table | 09 R267, R287 | empty
  extents : Tab Extent := []             -- live extents by PXA, with map and pending counts | 09 R268 | empty
  forward : Tab Nat := []                -- source to target PXA | 09 R269 | empty
  lost : Tab LostEntry := []             -- lost-stripe table, at most 1,048,576 | 09 R283 | empty
  domains : Tab StripeDomain := []       -- settings by domain | 09 R287 | reset values
  journals : Tab Journal := []           -- journals by domain | 09 R270 | empty
  copies : Tab (List Byte) := []         -- extents read for copying, by old PXA | 09 R277 | none
  rebuild : Rebuild := {}                -- rebuild (09 R279 to R282)
  counters : List Nat := List.replicate 12 0  -- 12 x 64 | 09 R287 STRIPE_COUNTERS | 0
  fwdHigh : Bool := false                -- 1 | 09 R269 EV_FORWARD_AREA_HIGH raised | 0
deriving DecidableEq, Repr

end Sys2Proof.Machine
end

