-- ==== Sys2Proof/Machine/WriteData.lean ====
section
/-! DEFINITION. State of the write path: staging log, ingest area, reduction settings, de-duplication index (06). Each
field's comment gives its width, the rule that names it and its value at reset. -/

namespace Sys2Proof.Machine

/-- A map delta (R181, R226). -/
structure Delta where
  ashlar : Nat
  op : Nat
  sett : Nat := 0
  mask : Nat := 0
  action : Nat := 0
  raw : Bool := false
  units : Nat := 0
  target : Nat := 0
  clen : Nat := 0
  src : Nat := 0xFF
deriving DecidableEq, Repr

/-- A staging record (R181), where it lies in the log, and how far it has come: `unmirrored` while its mirror
acknowledgement is outstanding, `placed` the extents placed in stripes, `pxas` their PXAs, `stripes` those that hold a
part of it, `closed` once every one is closed, `applied` after step 13. -/
structure Staged where
  wsn : Nat
  kind : Nat
  flags : Nat
  units : Nat
  unit : Nat
  fetch : Nat
  stage : Nat
  nsid : Nat
  domain : Nat
  keySlot : Nat
  deltas : List Delta
  fps : List (List Byte) := []
  extents : List (List Byte) := []
  slba : Nat := 0
  nlb : Nat := 0
  claim : Nat
  rank : Nat
  replayed : Bool := false
  unmirrored : Bool := false
  sends : Nat := 0
  ackDeadline : Option Nat := none
  meta_ : Bool := false
  placed : Nat := 0
  pxas : List Nat := []
  stripes : List Nat := []
  applied : Bool := false
  released : Bool := false
  dropped : Bool := false
  acc : Option Nat := none
  pages : Nat := 0
  marks : Option Nat := none
deriving DecidableEq, Repr

def Staged.metaUnits (r : Staged) : Nat := (64 + 32 * r.deltas.length + 32 * r.fps.length + 255) / 256

/-- A record touches an ashlar of a namespace, a layer op that replaces its head layer all of them (R228). -/
def Staged.touches (r : Staged) (nsid a : Nat) : Bool :=
  r.nsid == nsid && r.deltas.any fun e =>
    ((decide (e.op ≤ 6) || e.op == 12 || e.op == 16) && e.ashlar == a) || e.op == 10 || e.op == 15 ||
      ((e.op == 7 || e.op == 8) && decide (e.ashlar ≤ a) && decide (a < e.ashlar + e.target))

/-- Reduction settings of a domain (R177, R184). -/
structure ReduceDomain where
  level : Nat := 5                       -- 8 | 06 R184 | 5
  mode : Nat := 2                        -- 8 | 06 R184 | 2
  table : Nat := 0                       -- 8 | 06 R184 | 0
  flags : Nat := 1                       -- 8 | 06 R184 | 0x01
  bucketLog2 : Nat := 0                  -- 8 | 06 R184 | 0
deriving DecidableEq, Repr

/-- A change to an index page that waits until the page is in DRAM: a decrement, an extent that moved, a stripe that is lost
(R171, R174). -/
inductive IndexOp where
  | sub (bucket : Nat) (tag : List Byte) (form sett pxa : Nat)
  | move (bucket old new : Nat)
  | purge (stripe : Nat)
deriving DecidableEq, Repr

/-- An index page (R169, R174): its DRAM copy, its flash copy, and the changes queued while it is not in DRAM. -/
structure IndexPage where
  body : Option (List Byte) := some (zeros 4096)
  pxa : Nat := 0
  dirty : Bool := false
  rebuilding : Bool := false
  queued : List IndexOp := []
deriving DecidableEq, Repr

/-- The write path (06). -/
structure WritePath where
  log : List Staged := []                -- records from the tail, in log order | 06 R163 | empty
  logUnits : Nat := 0                    -- 64, units | 06 R160 size of the staging log | 0 until DRAM is reserved
  head : Nat := 0                        -- 64, units | 06 R163 unit offset of the log head | 0
  tail : Nat := 0                        -- 64, units | 06 R163 unit offset of the log tail | 0
  occupancy : Nat := 0                   -- 64, units | 06 R163 | 0
  reserved : Nat := 0                    -- 64, units | 06 R161 | 0
  limit : Nat := 0                       -- 64, units | 06 R160, 02 R50 unit limit | 0
  wsn : Nat := 0                         -- 64 | 01 R28 last WSN assigned | 0
  applied : Tab Nat := []                -- by domain | 08 R224 highest WSN applied | 0
  slotsUsed : Nat := 0                   -- 13 | 06 R161 ingest slots in use | 0
  classASlots : Nat := 512               -- 16 | 06 R162 | 512
  cacheMib : Nat := 64                   -- 32, MiB | 06 R184 index_cache_mib | DESIGN CHOICE 64, the lowest
  high : Bool := false                   -- 1 | 06 R164 EV_STAGING_HIGH raised | 0
  stalled : Nat := 0                     -- 8 | 06 R162 EV_WRITE_STALLED raised per rank | 0
  reduce : Tab ReduceDomain := []        -- by domain | 06 R184 | 5, 2, 0, 0x01, no index
  index : Tab IndexPage := []            -- pages by domain x 2^40 + page | 06 R169 | empty
  holds : Tab Nat := []                  -- by (domain x 2^36 + bucket) x 16 + slot | 06 R170 | none
  counters : List Nat := List.replicate 17 0  -- 17 x 64, saturating | 06 R185 | 0
  skips : List (Nat × Nat × Nat) := []   -- (unit offset, units, WSN of the record it precedes) | 06 R163 skip records | none
  waiting : List Staged := []            -- list, oldest first | 01 R28, 02 R50 map-engine records that wait for a place | none
  waitingMoves : List (Nat × Nat × JBody) := []  -- (domain, rank, body) | 01 R28 journal records that wait for a WSN | none
  settings : List (Nat × Nat × ReduceDomain) := []  -- (packet, domain, settings) | 06 R184 waiting to be durable | none
deriving DecidableEq, Repr

end Sys2Proof.Machine
end

