-- ==== Sys2Proof/Machine/ImageData.lean ====
section
/-! DEFINITION. What the hods read from flash to replay a domain's journal (R275): an operand of JOURNAL_REPLAY. -/

namespace Sys2Proof.Machine

/-- The reads of a replay, as the flash returns them: the frames of every trio member and journal-set module, byte for byte;
the tables that the newest checkpoint's anchor names, with the PXAs it lists (kind, index, PXA); every map page the replay touches; the summaries and the staging records
of the stripes closed since; the index pages; and the namespace definitions recorded in the map (number, size, format, class, key slot). The
spec gives the anchor page, count pages and page-table pages no byte layout, so the tables come as records. -/
structure LedgerImage where
  frames : List (List Byte) := []
  stripes : Tab Stripe := []
  segments : Tab Segment := []
  extents : Tab Extent := []
  forward : Tab Nat := []
  lost : Tab LostEntry := []
  pages : Tab Page := []
  layers : Tab Layer := []
  nextLayer : Nat := 1
  summaries : Tab (List Item) := []
  records : List Staged := []
  index : Tab IndexPage := []
  namespaces : List (Nat × Nat × Nat × Nat × Nat) := []
  tables : List (Nat × Nat × Nat) := []
deriving DecidableEq, Repr

end Sys2Proof.Machine
end

