-- ==== Sys2Proof/Syntax.lean ====
section
/-! DEFINITION. The commands of the Ilper: one constructor per row of opcode_table.json, with the operands the
row carries, and the operand types. -/

namespace Sys2Proof

open Machine (LedgerImage)

/-- What a DMA read of one submission slot returned (R70, R73): the slot's bytes from offset 0 (bytes beyond the
list read as zero) or a completion error or poisoned data. -/
inductive SlotRead where
  | bytes (data : List Byte)
  | fault
deriving DecidableEq, Repr

/-- The three triggers of a PCIe reset (R53). -/
inductive PcieResetKind where
  | perst
  | hotReset
  | linkDown
deriving DecidableEq, Repr

/-- The run of a fetched packet: `acc` is its accept stamp (R83), which names it; `dma` is false when a DMA to or from
its data buffer failed (ST_DATA_FAULT, R92); `data` is what the buffer held where the packet reads it; `internal` is
the location code of an internal fault that stopped the packet (ST_INTERNAL, R455), if one did. -/
structure PktOp where
  acc : Nat
  dma : Bool := true
  data : List Byte := []
  internal : Option (BitVec 64) := none
deriving DecidableEq, Repr

/-- What SPD and training report of one channel's DIMM (R367, R368, R371): `supported` is false outside R367, `trains`
false when its training fails, `spares` are the bank groups for which the DIMM reports a spare row (R375). -/
structure DimmReport where
  present : Bool
  spdReadable : Bool := true
  supported : Bool := true
  trains : Bool := true
  speed : Nat := 6400
  ranks : Nat := 1
  height : Nat := 1
  density : Nat := 16
  capacity : Nat := 0
  spares : List Nat := []
  oscillator : Nat := 0
deriving DecidableEq, Repr

/-- A codeword that the patrol or a sweep read, with `symbols` symbols in error (R373, R374), 0 when it is good: its region
code, its site, and the object that holds it (`obj`: a WSN, page number, connection, index page or record, by region).
For DRAM the site is channel, lane, logical rank, bank group, bank and row; for SRAM island, tile, macro and word. -/
structure LintelHit where
  region : Nat
  symbols : Nat
  obj : Nat := 0
  domain : Nat := 0
  channel : Nat := 0
  sub : Nat := 0
  lane : Nat := 0
  rank : Nat := 0
  bankGroup : Nat := 0
  bank : Nat := 0
  row : Nat := 0
  symbol : Nat := 0
  island : Nat := 0
  tile : Nat := 0
  macr : Nat := 0
  word : Nat := 0
deriving DecidableEq, Repr

/-- A word of the metadata cache that a sweep read (R244): whether its parity fails, where it is, whether in the tag array or in
a data sector, and the one bit that differs, if exactly one does. -/
structure ParityHit where
  set : Nat
  way : Nat
  tag : Bool
  sector : Nat := 0
  macr : Nat := 0
  word : Nat := 0
  bitIx : Option Nat := none
  bad : Bool := true
deriving DecidableEq, Repr

/-- A request waiting at a keystone arbiter (R380): its rank, request tick, requester index and island. -/
structure KsRequest where
  rank : Nat
  tick : Nat
  requester : Nat
  island : Nat
deriving DecidableEq, Repr

/-- The AETH of a received response (R112 to R115). -/
inductive Aeth where
  | ack
  | rnr (timer : Nat)
  | seqNak
  | invalidRequest
  | remoteAccess
  | remoteOperational
deriving DecidableEq, Repr

/-- A received transport packet of the RC service: its logical port, destination QPN, BTH opcode (the 5 operation bits),
PSN, AckReq, the CE mark, whether ICRC and P_Key pass, its RETH and AETH, and its payload (R99, R111). -/
structure RcPacket where
  lport : Nat
  qpn : Nat
  op : Nat
  psn : Nat
  ackReq : Bool := false
  ce : Bool := false
  icrcOk : Bool := true
  pkeyOk : Bool := true
  va : Nat := 0
  key : Nat := 0
  len : Nat := 0
  aeth : Aeth := .ack
  payload : List Byte := []
  pcp : Nat := 0
  frameLen : Nat := 0
deriving DecidableEq, Repr

/-- The sender of a received CM REP (R98, R103): its QPN and its source MAC address. -/
structure CmRep where
  qpn : Nat
  srcMac : List Byte
deriving DecidableEq, Repr

/-- A received CNP (R99, R109): the destination QPN, and whether its ICRC and its P_Key check out. -/
structure CnpPacket where
  qpn : Nat
  icrcOk : Bool := true
  pkeyOk : Bool := true
deriving DecidableEq, Repr

/-- A received CM REQ (R105): its addressing, the sender's QPN and starting PSN, path MTU code (1 to 5 for 256 to 4,096),
CM timeout in ticks, retries, depths and private data. -/
structure CmReq where
  lport : Nat
  dstIp : List Byte
  srcMac : List Byte
  srcIp : List Byte
  pcp : Nat
  dscp : Nat
  qpn : Nat
  psn : Nat
  mtu : Nat
  timeout : Nat
  retries : Nat
  initiatorDepth : Nat
  responderResources : Nat
  priv : List Byte
deriving DecidableEq, Repr

/-- A received Ethernet frame: its bytes from the destination MAC without the FCS, and whether the FCS passes (R97). -/
structure EthFrame where
  bytes : List Byte
  fcsOk : Bool := true
deriving DecidableEq, Repr

/-- A Plinth RESPONSE frame (R293, R299): the module that sent it, its cmd_id and its payload. -/
structure PlResponse where
  link : Nat
  module : Nat
  cmdId : Nat
  status : Nat
  dataFrames : Nat := 0
  dieTemp : Int := 0
  readCount : Nat := 0
  detail : Nat := 0
  eraseCount : Nat := 0
  bgState : Nat := 0
deriving DecidableEq, Repr

/-- What a restart scan is for (R315): a module that attaches, or a domain being acquired. -/
inductive ScanTarget where
  | module (m : Nat)
  | domain (d : Nat)
deriving DecidableEq, Repr


/-- A received coping-ring frame (R343): the direction it travels, its type, origin, ttl and seq, its 48-byte body, and
whether its CRC passes. -/
structure RingFrame where
  direction : Nat
  typ : Nat
  origin : Nat
  ttl : Nat
  seq : Nat
  body : List Byte
  crcOk : Bool := true
deriving DecidableEq, Repr

/-- A command of the block. The docstring of each constructor names its row and the rule that states it. -/
inductive Instr where
  /-- POWER_ON (R56). -/
  | powerOn (vbus : Nat)
  /-- CORE_RAILS_IN_REGULATION (R56). -/
  | coreRailsInRegulation
  /-- AUTO_RESET_RELEASE (R56). -/
  | autoResetRelease (straps : BitVec 6)
  /-- VBUS_LOW (R40). -/
  | vbusLow (vbus : Nat)
  /-- BROWNOUT (R39). -/
  | brownout (vbus : Nat)
  /-- BROWNOUT_RELEASE (R39). -/
  | brownoutRelease (vbus : Nat)
  /-- VBUS_STOP (R39). -/
  | vbusStop (vbus : Nat)
  /-- VBUS_FAIL (R46). -/
  | vbusFail
  /-- DRAIN_QUIESCE_END (R46). -/
  | drainQuiesceEnd
  /-- DRAINED_STATE_ENTER (R46). -/
  | drainedStateEnter
  /-- LOAD_BAND_CROSSING (R44). -/
  | loadBandCrossing (band : Nat)
  /-- PHASE_PLAN_REDERIVED (R44). -/
  | phasePlanRederived
  /-- ISLAND_WAKE_ADMIT (R42). -/
  | islandWakeAdmit
  /-- ISLAND_RAMP_END (R43). -/
  | islandRampEnd (island : Nat)
  /-- CLOCK_LOSS (R52). -/
  | clockLoss (clock : Nat)
  /-- CLOCK_RESTORED (R52). -/
  | clockRestored (clock : Nat)
  /-- RESET_PIN_ASSERT (R54). -/
  | resetPinAssert
  /-- INTERNAL_RESET_BEGIN (R54). -/
  | internalResetBegin
  /-- RESET_PIN_RELEASE (R55). -/
  | resetPinRelease (straps : BitVec 6)
  /-- PCIE_RESET (R74). -/
  | pcieReset (kind : PcieResetKind)
  /-- BUS_MASTER_OR_D_STATE_CHANGE (R67). -/
  | busMasterOrDStateChange (bme : Bool) (d0 : Bool)
  /-- THERMAL_ALERT_ASSERT (R63). -/
  | thermalAlertAssert (sensor : Nat) (temp : W16)
  /-- THERMAL_ALERT_RELEASE (R63). -/
  | thermalAlertRelease (temps : List W16)
  /-- THERMAL_TRIP (R63). -/
  | thermalTrip (sensor : Nat) (temp : W16)
  /-- SMB_STATUS_CLEAR (R62). -/
  | smbStatusClear (value : Byte)
  /-- SMB_REGISTER_WRITE (R61). -/
  | smbRegisterWrite (code : Nat) (value : W16)
  /-- TAP_INSTRUCTION (R64). -/
  | tapInstruction (ir : Option Byte) (shiftIn : List Bool)
  /-- ISLAND_POWER (R65). -/
  | islandPower (op : PktOp)
  /-- POWER_STATUS (R65). -/
  | powerStatus (op : PktOp)
  /-- HOLDUP_CONFIG (R50). -/
  | holdupConfig (op : PktOp)
  /-- CHIP_POWER_DOWN (R57). -/
  | chipPowerDown (op : PktOp)
  /-- POWER_DOWN_COMMANDS_SETTLED (R57). -/
  | powerDownCommandsSettled
  /-- POWER_DOWN_DRAIN_DONE (R57). -/
  | powerDownDrainDone
  /-- CHIP_RESET (R65). -/
  | chipReset (op : PktOp)
  /-- SOFTWARE_RESET_EXPIRY (R53). -/
  | softwareResetExpiry
  /-- STAMP_CHECKPOINT_INTERVAL (R30). -/
  | stampCheckpointInterval (failure : Nat)
  /-- SQ_TAIL_DB (R68). -/
  | sqTailDb (n : Nat) (v : W32)
  /-- RQ_HEAD_DB (R68). -/
  | rqHeadDb (n : Nat) (v : W32)
  /-- EVQ_HEAD_DB (R457). -/
  | evqHeadDb (v : W32)
  /-- RING_ENABLE (R72). -/
  | ringEnable (n : Nat) (v : W32)
  /-- RING_STOP (R72). -/
  | ringStop (n : Nat) (v : W32)
  /-- RING_STOP_DRAINED (R72). -/
  | ringStopDrained (n : Nat)
  /-- EVQ_ENABLE (R457). -/
  | evqEnable (v : W32)
  /-- EVQ_DISABLE (R457). -/
  | evqDisable (v : W32)
  /-- REGISTER_WRITE (R75). -/
  | registerWrite (bar : Nat) (off : Nat) (size : Nat) (v : W64)
  /-- PACKET_FETCH (R70). -/
  | packetFetch (slot : SlotRead)
  /-- REPLY_WRITE_REFUSED (R73). -/
  | replyWriteRefused (n : Nat)
  /-- EVENT_POST (R88). -/
  | eventPost
  /-- EVENT_WRITE_REFUSED (R457). -/
  | eventWriteRefused
  /-- NOP (R86). -/
  | nop (op : PktOp)
  /-- CHIP_IDENTIFY (R86). -/
  | chipIdentify (op : PktOp)
  /-- STAMP_READ (R86). -/
  | stampRead (op : PktOp)
  /-- EVENT_CONFIG (R86). -/
  | eventConfig (op : PktOp)
  /-- EVENT_COUNTS (R86). -/
  | eventCounts (op : PktOp)
  /-- STAMP_LO_READ (R90). -/
  | stampLoRead
  /-- DUMP_WINDOW_BASE_WRITE (R91). -/
  | dumpWindowBaseWrite (v : W64)
  /-- KS_PRIO_WRITE (R381). -/
  | ksPrioWrite (a : Nat) (v : W32)
  /-- DG_LW_DATA_WRITE (R193). -/
  | dgLwDataWrite (c : Nat) (v : W64)
  /-- DG_LW_CTRL_WRITE (R193). -/
  | dgLwCtrlWrite (c : Nat) (v : W32)
  /-- PORT_LINK_UP (R96). -/
  | portLinkUp (lport : Nat)
  /-- PORT_LINK_DOWN (R96). -/
  | portLinkDown (lport : Nat)
  /-- SERDES_ENVELOPE_CROSSING (R95). -/
  | serdesEnvelopeCrossing (port : Nat) (lane : Nat)
  /-- FRAME_RECEIVE (R97). -/
  | frameReceive (lport : Nat) (frame : EthFrame)
  /-- PFC_FRAME_RECEIVE (R106). -/
  | pfcFrameReceive (lport : Nat) (enabled : Nat) (quanta : List Nat)
  /-- PFC_PAUSE_EXPIRY (R106). -/
  | pfcPauseExpiry (lport : Nat) (prio : Nat)
  /-- PFC_PAUSE_LONG_EXPIRY (R108). -/
  | pfcPauseLongExpiry (lport : Nat) (prio : Nat)
  /-- CM_REQ_RECEIVE (R105). -/
  | cmReqReceive (req : CmReq)
  /-- CM_REP_RECEIVE (R103). -/
  | cmRepReceive (conn : Nat) (rep : CmRep) (psn : Nat) (mtu : Nat)
  /-- CM_RTU_RECEIVE (R103). -/
  | cmRtuReceive (conn : Nat)
  /-- CM_REJ_RECEIVE (R103). -/
  | cmRejReceive (conn : Nat)
  /-- CM_RETRY_EXPIRY (R103). -/
  | cmRetryExpiry (conn : Nat)
  /-- CM_DREQ_RECEIVE (R103). -/
  | cmDreqReceive (conn : Nat)
  /-- CM_DREP_RECEIVE (R103). -/
  | cmDrepReceive (conn : Nat)
  /-- DREQ_RETRY_EXPIRY (R103). -/
  | dreqRetryExpiry (conn : Nat)
  /-- TIMEWAIT_EXPIRY (R103). -/
  | timewaitExpiry (conn : Nat)
  /-- RC_REQUEST_RECEIVE (R111). -/
  | rcRequestReceive (pkt : RcPacket)
  /-- ACK_COALESCE_EXPIRY (R112). -/
  | ackCoalesceExpiry (conn : Nat)
  /-- RC_ACK_RECEIVE (R114). -/
  | rcAckReceive (pkt : RcPacket)
  /-- RC_SEQ_NAK_RECEIVE (R114). -/
  | rcSeqNakReceive (pkt : RcPacket)
  /-- RC_RNR_NAK_RECEIVE (R115). -/
  | rcRnrNakReceive (pkt : RcPacket)
  /-- RC_ERROR_NAK_RECEIVE (R114). -/
  | rcErrorNakReceive (pkt : RcPacket)
  /-- RNR_TIMER_EXPIRY (R115). -/
  | rnrTimerExpiry (conn : Nat)
  /-- RDMA_READ_RESPONSE_RECEIVE (R120). -/
  | rdmaReadResponseReceive (pkt : RcPacket)
  /-- RETRANSMIT_TIMER_EXPIRY (R113). -/
  | retransmitTimerExpiry (conn : Nat)
  /-- CNP_RECEIVE (R110). -/
  | cnpReceive (lport : Nat) (cnp : CnpPacket)
  /-- RATE_TIMER_EXPIRY (R110). -/
  | rateTimerExpiry (conn : Nat)
  /-- ALPHA_TIMER_EXPIRY (R110). -/
  | alphaTimerExpiry (conn : Nat)
  /-- CONTEXT_FETCH_COMPLETE (R123). -/
  | contextFetchComplete (conn : Nat)
  /-- PORT_CONFIG (R126). -/
  | portConfig (op : PktOp)
  /-- TRANSPORT_CONFIG (R126). -/
  | transportConfig (op : PktOp)
  /-- CONN_QUERY (R126). -/
  | connQuery (op : PktOp)
  /-- CONN_PIN (R124). -/
  | connPin (op : PktOp)
  /-- PORT_STATUS (R126). -/
  | portStatus (op : PktOp)
  /-- PORT_COUNTERS (R127). -/
  | portCounters (op : PktOp)
  /-- CTRL_FRAME_SEND (R98). -/
  | ctrlFrameSend (op : PktOp)
  /-- CTRL_FRAME_RECV (R98). -/
  | ctrlFrameRecv (op : PktOp)
  /-- TRANSPORT_COUNTERS (R127). -/
  | transportCounters (op : PktOp)
  /-- CONN_DISCONNECT (R126). -/
  | connDisconnect (op : PktOp)
  /-- FABRICS_CONNECT (R133). -/
  | fabricsConnect (conn : Nat)
  /-- PROPERTY_SET (R134). -/
  | propertySet (conn : Nat)
  /-- SHUTDOWN_COMPLETE (R134). -/
  | shutdownComplete (cntlid : Nat)
  /-- PROPERTY_GET (R134). -/
  | propertyGet (conn : Nat)
  /-- GET_LOG_PAGE (R140). -/
  | getLogPage (conn : Nat)
  /-- NVME_IDENTIFY (R139). -/
  | nvmeIdentify (conn : Nat)
  /-- ABORT (R149). -/
  | abort (conn : Nat)
  /-- SET_FEATURES (R141). -/
  | setFeatures (conn : Nat)
  /-- GET_FEATURES (R141). -/
  | getFeatures (conn : Nat)
  /-- ASYNC_EVENT_REQUEST (R138). -/
  | asyncEventRequest (conn : Nat)
  /-- KEEP_ALIVE (R136). -/
  | keepAlive (conn : Nat)
  /-- KEEP_ALIVE_EXPIRY (R136). -/
  | keepAliveExpiry (cntlid : Nat)
  /-- FORMAT_NVM (R151). -/
  | formatNvm (conn : Nat)
  /-- SANITIZE_BLOCK_ERASE (R152). -/
  | sanitizeBlockErase (conn : Nat)
  /-- SANITIZE_CRYPTO_ERASE (R152). -/
  | sanitizeCryptoErase (conn : Nat)
  /-- SANITIZE_EXIT_FAILURE (R152). -/
  | sanitizeExitFailure (conn : Nat)
  /-- ERASE_OPERATION_STEP (R154). -/
  | eraseOperationStep (index : Nat)
  /-- ERASE_OPERATION_END (R154). -/
  | eraseOperationEnd (index : Nat)
  /-- NVME_FLUSH (R147). -/
  | nvmeFlush (conn : Nat)
  /-- FLUSH_COMPLETE (R147). -/
  | flushComplete (cmd : Nat)
  /-- NVME_WRITE (R144). -/
  | nvmeWrite (conn : Nat)
  /-- NVME_READ (R144). -/
  | nvmeRead (conn : Nat)
  /-- WRITE_ZEROES (R167). -/
  | writeZeroes (conn : Nat)
  /-- DATASET_MANAGEMENT (R167). -/
  | datasetManagement (conn : Nat)
  /-- SUBSYS_CONFIG (R157). -/
  | subsysConfig (op : PktOp)
  /-- SUBSYS_DELETE (R157). -/
  | subsysDelete (op : PktOp)
  /-- SUBSYS_HOSTS (R157). -/
  | subsysHosts (op : PktOp)
  /-- NS_CREATE (R157). -/
  | nsCreate (op : PktOp)
  /-- NS_DELETE (R157). -/
  | nsDelete (op : PktOp)
  /-- NS_RESIZE (R157). -/
  | nsResize (op : PktOp)
  /-- NS_SET_CLASS (R19). -/
  | nsSetClass (op : PktOp)
  /-- NS_QUERY (R157). -/
  | nsQuery (op : PktOp)
  /-- CTRL_QUERY (R157). -/
  | ctrlQuery (op : PktOp)
  /-- CTRL_TEARDOWN (R157). -/
  | ctrlTeardown (op : PktOp)
  /-- HEALTH_SET (R155). -/
  | healthSet (op : PktOp)
  /-- ERASE_START (R157). -/
  | eraseStart (op : PktOp)
  /-- ERASE_STATUS (R157). -/
  | eraseStatus (op : PktOp)
  /-- DISC_LOG_SET (R142). -/
  | discLogSet (op : PktOp)
  /-- WRITE_ADMIT (R161). -/
  | writeAdmit
  /-- WRITE_STALLED_EXPIRY (R162). -/
  | writeStalledExpiry (rank : Nat)
  /-- MERGE_READ_ISSUE (R165). -/
  | mergeReadIssue (cmd : Nat) (sett : Nat)
  /-- INDEX_LOOKUP (R170). -/
  | indexLookup (cmd : Nat) (unit : Nat) (ashlar : Bool)
  /-- BYTE_COMPARE_VERIFY (R175). -/
  | byteCompareVerify (cmd : Nat) (unit : Nat) (ashlar : Bool)
  /-- COMPRESSION_JOB_END (R178). -/
  | compressionJobEnd (cmd : Nat) (unit : Nat) (ashlar : Bool)
  /-- STAGING_PLACE (R182). -/
  | stagingPlace (cmd : Nat)
  /-- INDEX_PAGE_REBUILD (R174). -/
  | indexPageRebuild (domain : Nat) (page : Nat)
  /-- REDUCE_CONFIG (R184). -/
  | reduceConfig (op : PktOp)
  /-- INDEX_CONFIG (R184). -/
  | indexConfig (op : PktOp)
  /-- COMP_JOB (R184). -/
  | compJob (op : PktOp)
  /-- DECOMP_JOB (R184). -/
  | decompJob (op : PktOp)
  /-- REDUCE_STATUS (R184). -/
  | reduceStatus (op : PktOp)
  /-- REDUCE_COUNTERS (R185). -/
  | reduceCounters (op : PktOp)
  /-- INDEX_QUERY (R184). -/
  | indexQuery (op : PktOp)
  /-- REDUCE_CONFIG_CHIP (R162). -/
  | reduceConfigChip (op : PktOp)
  /-- DG_START (R191). -/
  | dgStart (op : PktOp)
  /-- DG_UPDATE (R192). -/
  | dgUpdate (op : PktOp)
  /-- DG_FINISH (R194). -/
  | dgFinish (op : PktOp)
  /-- DG_SUSPEND (R195). -/
  | dgSuspend (op : PktOp)
  /-- DG_RESUME (R195). -/
  | dgResume (op : PktOp)
  /-- DG_ABANDON (R196). -/
  | dgAbandon (op : PktOp)
  /-- DG_STATUS (R213). -/
  | dgStatus (op : PktOp)
  /-- DG_QUEUE_DEADLINE_EXPIRY (R191). -/
  | dgQueueDeadlineExpiry (acc : Nat)
  /-- KEY_LOAD (R201). -/
  | keyLoad (op : PktOp)
  /-- KEY_GENERATE (R204). -/
  | keyGenerate (op : PktOp)
  /-- KEY_DERIVE (R205). -/
  | keyDerive (op : PktOp)
  /-- KEY_EXPORT (R203). -/
  | keyExport (op : PktOp)
  /-- KEY_DESTROY (R200). -/
  | keyDestroy (op : PktOp)
  /-- KEY_QUERY (R206). -/
  | keyQuery (op : PktOp)
  /-- KEY_POLICY (R201). -/
  | keyPolicy (op : PktOp)
  /-- GCM_JOB (R210). -/
  | gcmJob (op : PktOp)
  /-- ENTROPY_TEST_FAIL (R204). -/
  | entropyTestFail (test : Nat)
  /-- MAP_PAGE_READ_COMPLETE (R245). -/
  | mapPageReadComplete (page : Nat)
  /-- MAP_APPLY_RECORD (R224). -/
  | mapApplyRecord (wsn : Nat)
  /-- COLD_MERGE_SWEEP (R228). -/
  | coldMergeSweep (nsid : Nat) (ashlar : Nat)
  /-- WRITEBACK_AGE_EXPIRY (R237). -/
  | writebackAgeExpiry (page : Nat)
  /-- MAP_PAGE_EVICT (R237). -/
  | mapPageEvict
  /-- SPOIL_DRAIN_ACK (R243). -/
  | spoilDrainAck (seq : Nat)
  /-- MAP_PIN_COMPLETE (R239). -/
  | mapPinComplete (nsid : Nat)
  /-- LOST_SWEEP (R235). -/
  | lostSweep (stripe : Nat)
  /-- LAYER_RELEASE_END (R234). -/
  | layerReleaseEnd (domain : Nat) (layer : Nat)
  /-- MAP_CONFIG (R248). -/
  | mapConfig (op : PktOp)
  /-- SNAP_CREATE (R230). -/
  | snapCreate (op : PktOp)
  /-- SNAP_DELETE (R234). -/
  | snapDelete (op : PktOp)
  /-- CLONE_ATTACH (R231). -/
  | cloneAttach (op : PktOp)
  /-- SNAP_ROLLBACK (R232). -/
  | snapRollback (op : PktOp)
  /-- LAYER_QUERY (R248). -/
  | layerQuery (op : PktOp)
  /-- LAYER_LIST (R248). -/
  | layerList (op : PktOp)
  /-- MAP_LOOKUP (R248). -/
  | mapLookup (op : PktOp)
  /-- MAP_CHECK (R247). -/
  | mapCheck (op : PktOp)
  /-- MAP_CHECK_END (R247). -/
  | mapCheckEnd (domain : Nat)
  /-- MAP_STATUS (R248). -/
  | mapStatus (op : PktOp)
  /-- MAP_COUNTERS (R248). -/
  | mapCounters (op : PktOp)
  /-- ASHLAR_RECHECK (R246). -/
  | ashlarRecheck (op : PktOp)
  /-- ASHLAR_RECHECK_RUN (R246). -/
  | ashlarRecheckRun (nsid : Nat) (ashlar : Nat)
  /-- SEGMENT_OPEN (R259). -/
  | segmentOpen (domain : Nat) (stream : Nat)
  /-- FREE_POOL_REPLENISH (R465). -/
  | freePoolReplenish (domain : Nat)
  /-- STRIPE_PROGRAMS_DONE (R263). -/
  | stripeProgramsDone (stripe : Nat)
  /-- CLOSE_AGE_EXPIRY (R264). -/
  | closeAgeExpiry (stripe : Nat)
  /-- JOURNAL_FRAME_SEND (R272). -/
  | journalFrameSend (domain : Nat)
  /-- JOURNAL_RECORD_DURABLE (R272). -/
  | journalRecordDurable (domain : Nat)
  /-- JOURNAL_DEGRADED (R273). -/
  | journalDegraded (domain : Nat)
  /-- JOURNAL_REPAIR_END (R273). -/
  | journalRepairEnd (domain : Nat)
  /-- JOURNAL_CHECKPOINT (R274). -/
  | journalCheckpoint (domain : Nat)
  /-- JOURNAL_REPLAY (R275). -/
  | journalReplay (domain : Nat) (image : LedgerImage)
  /-- GC_VICTIM_START (R277). -/
  | gcVictimStart (domain : Nat)
  /-- GC_SEGMENT_ERASE (R277). -/
  | gcSegmentErase (segment : Nat)
  /-- REBUILD_START (R279). -/
  | rebuildStart (module : Nat)
  /-- REBUILD_ROW (R282). -/
  | rebuildRow (segment : Nat)
  /-- REBUILD_FLOOR_WINDOW_END (R281). -/
  | rebuildFloorWindowEnd
  /-- FLOOR_GATE_OPEN (R281). -/
  | floorGateOpen
  /-- STRIPE_CONFIG (R287). -/
  | stripeConfig (op : PktOp)
  /-- REBUILD_CONFIG (R287). -/
  | rebuildConfig (op : PktOp)
  /-- STRIPE_QUERY (R287). -/
  | stripeQuery (op : PktOp)
  /-- SEGMENT_QUERY (R287). -/
  | segmentQuery (op : PktOp)
  /-- REBUILD_STATUS (R287). -/
  | rebuildStatus (op : PktOp)
  /-- LOST_LIST (R287). -/
  | lostList (op : PktOp)
  /-- LOST_CLEAR (R283). -/
  | lostClear (op : PktOp)
  /-- GC_CONTROL (R287). -/
  | gcControl (op : PktOp)
  /-- MODULE_RETIRE (R285). -/
  | moduleRetire (op : PktOp)
  /-- JOURNAL_STATUS (R287). -/
  | journalStatus (op : PktOp)
  /-- STRIPE_COUNTERS (R287). -/
  | stripeCounters (op : PktOp)
  /-- PLINTH_LINK_TRAINED (R292). -/
  | plinthLinkTrained (link : Nat)
  /-- HELLO_INTERVAL (R292). -/
  | helloInterval (link : Nat)
  /-- PLINTH_HELLO_ANSWER (R295). -/
  | plinthHelloAnswer (link : Nat) (module : Nat) (credits : Nat) (session : Nat)
  /-- PLINTH_LINK_LOSS (R292). -/
  | plinthLinkLoss (link : Nat) (cause : Nat)
  /-- PLINTH_SILENCE_EXPIRY (R292). -/
  | plinthSilenceExpiry (link : Nat)
  /-- KEEPALIVE_INTERVAL (R292). -/
  | keepaliveInterval (link : Nat)
  /-- CREDIT_INTERVAL (R294). -/
  | creditInterval (link : Nat)
  /-- PLINTH_CREDIT_RECEIVE (R294). -/
  | plinthCreditReceive (link : Nat) (keepalive : Bool) (value : Nat)
  /-- READ_ISSUE (R312). -/
  | readIssue (module : Nat) (die : Nat)
  /-- SCHEDULE_FRAME_START (R307). -/
  | scheduleFrameStart
  /-- SLOT_START (R311). -/
  | slotStart (module : Nat) (slot : Nat)
  /-- SUSPEND_TRIGGER (R313). -/
  | suspendTrigger (module : Nat) (die : Nat)
  /-- SUSPEND_AGE_EXPIRY (R313). -/
  | suspendAgeExpiry (module : Nat) (die : Nat)
  /-- PLINTH_READ_DATA (R317). -/
  | plinthReadData (link : Nat) (module : Nat) (cmdId : Nat) (attempt : Nat) (index : Nat) (bytes : List Byte)
  /-- PLINTH_READ_RESPONSE (R299). -/
  | plinthReadResponse (r : PlResponse)
  /-- PLINTH_PROGRAM_RESPONSE (R299). -/
  | plinthProgramResponse (r : PlResponse)
  /-- PLINTH_ERASE_RESPONSE (R299). -/
  | plinthEraseResponse (r : PlResponse)
  /-- PLINTH_JOURNAL_APPEND_RESPONSE (R463). -/
  | plinthJournalAppendResponse (r : PlResponse)
  /-- PLINTH_CLAIM_PRESENT_RESPONSE (R301). -/
  | plinthClaimPresentResponse (r : PlResponse)
  /-- PLINTH_BLOCK_COMMAND_RESPONSE (R306). -/
  | plinthBlockCommandResponse (r : PlResponse)
  /-- PLINTH_SUSPEND_RESPONSE (R313). -/
  | plinthSuspendResponse (r : PlResponse)
  /-- PLINTH_INFO_RESPONSE (R298). -/
  | plinthInfoResponse (r : PlResponse) (data : List (List Byte))
  /-- PLINTH_RESPONSE_EXPIRY (R304). -/
  | plinthResponseExpiry (module : Nat) (cmdId : Nat)
  /-- RESTART_SCAN (R315). -/
  | restartScan (target : ScanTarget)
  /-- MODULE_ATTACH (R323). -/
  | moduleAttach (module : Nat)
  /-- MODULE_DETACH (R324). -/
  | moduleDetach (module : Nat) (cause : Nat)
  /-- LINKS_DOWN_READ_EXPIRY (R324). -/
  | linksDownReadExpiry (module : Nat)
  /-- PLINTH_ENVELOPE_CROSSING (R290). -/
  | plinthEnvelopeCrossing (link : Nat) (tjBand : Nat) (loadBand : Nat)
  /-- FLASH_SCRUB_VISIT (R321). -/
  | flashScrubVisit
  /-- FLASH_CONFIG (R325). -/
  | flashConfig (op : PktOp)
  /-- LINK_CONFIG (R325). -/
  | linkConfig (op : PktOp)
  /-- LINK_STATUS (R325). -/
  | linkStatus (op : PktOp)
  /-- MODULE_QUERY (R325). -/
  | moduleQuery (op : PktOp)
  /-- BLOCK_QUERY (R325). -/
  | blockQuery (op : PktOp)
  /-- READ_LEVEL_QUERY (R325). -/
  | readLevelQuery (op : PktOp)
  /-- SCHEDULE_STATUS (R325). -/
  | scheduleStatus (op : PktOp)
  /-- FLASH_COUNTERS (R325). -/
  | flashCounters (op : PktOp)
  /-- HEAD_CONFIG (R328). -/
  | headConfig (op : PktOp)
  /-- PEER_TABLE (R329). -/
  | peerTable (op : PktOp)
  /-- PEER_CONNECT_RETRY (R329). -/
  | peerConnectRetry (head : Nat) (lane : Nat)
  /-- RING_JOIN (R344). -/
  | ringJoin (op : PktOp)
  /-- RING_LEAVE (R344). -/
  | ringLeave (op : PktOp)
  /-- DOMAIN_ACQUIRE (R339). -/
  | domainAcquire (op : PktOp)
  /-- DOMAIN_RELEASE (R340). -/
  | domainRelease (op : PktOp)
  /-- DOMAIN_QUERY (R364). -/
  | domainQuery (op : PktOp)
  /-- HEAD_STATUS (R364). -/
  | headStatus (op : PktOp)
  /-- FAILOVER_FORCE (R346). -/
  | failoverForce (op : PktOp)
  /-- HEARTBEAT_INTERVAL (R344). -/
  | heartbeatInterval
  /-- HEARTBEAT (R345). -/
  | heartbeat (frame : RingFrame)
  /-- HEARTBEAT_MISS_EXPIRY (R345). -/
  | heartbeatMissExpiry (head : Nat) (direction : Nat)
  /-- JOIN (R343). -/
  | join (frame : RingFrame)
  /-- LEAVE (R344). -/
  | leave (frame : RingFrame)
  /-- CLAIM_INTENT (R343). -/
  | claimIntent (frame : RingFrame)
  /-- CLAIM_DONE (R341). -/
  | claimDone (frame : RingFrame)
  /-- RELEASE (R343). -/
  | release (frame : RingFrame)
  /-- FAILED (R346). -/
  | failed (frame : RingFrame)
  /-- TAKEOVER_DELAY_EXPIRY (R348). -/
  | takeoverDelayExpiry (head : Nat)
  /-- MIRROR_REPLAY (R352). -/
  | mirrorReplay (domain : Nat)
  /-- TAKEOVER_DONE (R349). -/
  | takeoverDone (head : Nat)
  /-- MIRROR_NOTE (R333). -/
  | mirrorNote (conn : Nat)
  /-- MIRROR_ACK (R334). -/
  | mirrorAck (conn : Nat)
  /-- MIRROR_ACK_EXPIRY (R334). -/
  | mirrorAckExpiry (lane : Nat) (seq : Nat)
  /-- JOURNAL_MIRROR (R333). -/
  | journalMirror (conn : Nat)
  /-- PROGRESS_MIRROR (R333). -/
  | progressMirror (conn : Nat)
  /-- TAIL (R335). -/
  | tail (conn : Nat)
  /-- TAIL_INTERVAL (R335). -/
  | tailInterval
  /-- MIRROR_BIND (R331). -/
  | mirrorBind (conn : Nat)
  /-- BIND_REPLY (R331). -/
  | bindReply (conn : Nat)
  /-- MIRROR_BIND_RETRY (R337). -/
  | mirrorBindRetry
  /-- RESILVER_COMPLETE (R337). -/
  | resilverComplete
  /-- RESYNC_QUERY (R354). -/
  | resyncQuery (conn : Nat)
  /-- RESYNC_REPLY (R354). -/
  | resyncReply (conn : Nat)
  /-- REPL_OPEN (R356). -/
  | replOpen (op : PktOp)
  /-- REPL_CLOSE (R361). -/
  | replClose (op : PktOp)
  /-- REPL_SEND (R357). -/
  | replSend (op : PktOp)
  /-- REPL_STATUS (R364). -/
  | replStatus (op : PktOp)
  /-- REPL_PUMP (R362). -/
  | replPump (op : PktOp)
  /-- DELTA_BEGIN (R361). -/
  | deltaBegin (session : Nat)
  /-- OFFERS (R359). -/
  | offers (session : Nat)
  /-- NEEDS (R360). -/
  | needs (session : Nat)
  /-- EXTENT (R360). -/
  | extent (session : Nat)
  /-- DELTA_END (R361). -/
  | deltaEnd (session : Nat)
  /-- DELTA_DONE (R361). -/
  | deltaDone (session : Nat)
  /-- SYNC_WRITE (R363). -/
  | syncWrite (session : Nat)
  /-- SYNC_ACK (R363). -/
  | syncAck (session : Nat)
  /-- SYNC_TIMEOUT_EXPIRY (R363). -/
  | syncTimeoutExpiry (session : Nat) (seq : Nat)
  /-- DRAM_TRAINING (R371). -/
  | dramTraining (dimms : List DimmReport) (headerOk : Bool) (sectionsOk : Bool)
  /-- DQS_OSCILLATOR_CHECK (R371). -/
  | dqsOscillatorCheck (channel : Nat) (oscillator : Nat) (drift : Nat)
  /-- DRAM_PATROL_SCRUB (R376). -/
  | dramPatrolScrub (channel : Nat) (lines : Nat) (hits : List LintelHit)
  /-- SRAM_SWEEP (R376). -/
  | sramSweep (island : Nat) (hits : List LintelHit) (metadata : Option (List ParityHit))
  /-- JOINT_FLIT_REFUSED (R378). -/
  | jointFlitRefused (joint : Nat) (symbols : Nat) (first : Bool)
  /-- ARBITER_CONTEST (R380). -/
  | arbiterContest (a : Nat) (arrivals : List KsRequest)
  /-- KS_STARVATION_EXPIRY (R383). -/
  | ksStarvationExpiry (a : Nat) (rank : Nat)
  /-- DRAM_CONFIG (R389). -/
  | dramConfig (op : PktOp)
  /-- DRAM_STATUS (R389). -/
  | dramStatus (op : PktOp)
  /-- DRAM_REPAIR_LIST (R389). -/
  | dramRepairList (op : PktOp)
  /-- LATENCY_CONFIG (R384). -/
  | latencyConfig (op : PktOp)
  /-- LATENCY_STATUS (R388). -/
  | latencyStatus (op : PktOp)
  /-- KS_WATCH_READ (R389). -/
  | ksWatchRead (op : PktOp)
  /-- FABRIC_COUNTERS (R389). -/
  | fabricCounters (op : PktOp)
  /-- BOOT_ROM (R393). -/
  | bootRom (lost : List Nat) (bad : List (Nat × Nat)) (weak : List (Nat × Nat))
  /-- LOCKSTEP_MISCOMPARE (R392). -/
  | lockstepMiscompare (memory : Bool) (loc : Nat)
  /-- WATCHDOG_EXPIRY (R392). -/
  | watchdogExpiry
  /-- FIELD_IMAGE_START (R442). -/
  | fieldImageStart
  /-- SELF_TEST (R417). -/
  | selfTest (hods : List Nat) (ways : List (Nat × Nat)) (sram : Bool) (channels : List Nat) (engines : List (Nat × Nat)) (lanes : List Nat)
  /-- STARTUP_SERVICE (R418). -/
  | startupService
  /-- HOD_FIND_WORK (R415). -/
  | hodFindWork (hod : Nat)
  /-- VAULT_WEAK_BLOCK_COPY (R396). -/
  | vaultWeakBlockCopy
  /-- LOG_BLOCK_RECLAIM (R397). -/
  | logBlockReclaim
  /-- VAULT_LOWERING_COMPLETE (R401). -/
  | vaultLoweringComplete
  /-- TEMPLATE_LOAD (R419). -/
  | templateLoad (op : PktOp)
  /-- TEMPLATE_COMMIT (R24). -/
  | templateCommit (op : PktOp)
  /-- TEMPLATE_BANK_DRAINED (R25). -/
  | templateBankDrained
  /-- TEMPLATE_DISCARD (R421). -/
  | templateDiscard (op : PktOp)
  /-- TEMPLATE_GENERATE (R420). -/
  | templateGenerate (op : PktOp)
  /-- TEMPLATE_QUERY (R421). -/
  | templateQuery (op : PktOp)
  /-- HOD_STATUS (R421). -/
  | hodStatus (op : PktOp)
  /-- SELF_TEST_RESULT (R421). -/
  | selfTestResult (op : PktOp)
  /-- VAULT_STATUS (R422). -/
  | vaultStatus (op : PktOp)
  /-- VAULT_READ (R422). -/
  | vaultRead (op : PktOp) (bad : List Nat) (weak : List (Nat × Nat))
  /-- VAULT_PROTECT_RAISE (R400). -/
  | vaultProtectRaise (op : PktOp)
  /-- VAULT_PROTECT_LOWER (R401). -/
  | vaultProtectLower (op : PktOp)
  /-- UPDATE_OPEN (R408). -/
  | updateOpen (op : PktOp)
  /-- UPDATE_CHUNK (R409). -/
  | updateChunk (op : PktOp) (failure : Nat)
  /-- UPDATE_STATUS (R422). -/
  | updateStatus (op : PktOp)
  /-- UPDATE_CLOSE (R411). -/
  | updateClose (op : PktOp)
  /-- UPDATE_ABORT (R411). -/
  | updateAbort (op : PktOp)
  /-- IMAGE_CONFIRM (R412). -/
  | imageConfirm (op : PktOp)
  /-- IMAGE_SELECT (R412). -/
  | imageSelect (op : PktOp)
  /-- SETTINGS_RESET (R398). -/
  | settingsReset (op : PktOp)
  /-- RUBBLE_DUMP (R434). -/
  | rubbleDump
  /-- DUMP_SECTIONS_COPIED (R434). -/
  | dumpSectionsCopied (faults : List (Nat × Nat)) (failed : List Nat)
  /-- VAULT_SUMMARY_WRITTEN (R440). -/
  | vaultSummaryWritten
  /-- FAULT_STATUS (R453). -/
  | faultStatus (op : PktOp)
  /-- ERROR_LOG_READ (R453). -/
  | errorLogRead (op : PktOp)
  /-- ERROR_LOG_CLEAR (R453). -/
  | errorLogClear (op : PktOp)
  /-- DUMP_CLEAR (R453). -/
  | dumpClear (op : PktOp)
  /-- DUMP_SUMMARY_LIST (R453). -/
  | dumpSummaryList (op : PktOp)
  /-- FOOTING_ENTER (R448). -/
  | footingEnter (op : PktOp)
  /-- FOOTING_EXIT (R451). -/
  | footingExit (op : PktOp)
  /-- FAULT_INJECT (R453). -/
  | faultInject (op : PktOp)
  /-- ANATT_EXPIRY (R145). -/
  | anattExpiry (domain : Nat)
  /-- LAST_WORD_WAIT_EXPIRY (R194). -/
  | lastWordWaitExpiry (c : Nat)
  /-- ENTROPY_TEST_PASS (R204). -/
  | entropyTestPass
  /-- CHIP_STATE_HEARTBEAT_TICK (R90). -/
  | chipStateHeartbeatTick
  /-- MSIX_INTERVAL_EXPIRY (R76). -/
  | msixIntervalExpiry (vec : Nat)
  /-- VBUS_RISE_ABOVE_9V5 (R40). -/
  | vbusRiseAbove9v5 (vbus : Nat)
  /-- PCIE_PERST_L_RISE (R56). -/
  | pciePerstLRise
deriving DecidableEq, Repr

end Sys2Proof
end

