-- ==== Sys2Proof/Decode.lean ====
section
/-! DEFINITION. Commands spelled by table words. The opcode table gives the bits of no row, so no word spells a command. -/

namespace Sys2Proof

/-- The command a word of the table spells: none, for every word, since no row of the table has bits. -/
def decodeTableWord (_nbits _w : Nat) : Option Instr := none

end Sys2Proof
end

