-- ==== Sys2Proof/Machine/Crypto.lean ====
section
/-! DEFINITION. The public algorithms the chip's engines run: SHA-2 (FIPS 180-4, R188, R194), HMAC (RFC 2104, R197), the
counter-mode KDF (SP 800-108, R205), AES-256 with XTS (IEEE 1619, R208) and GCM (SP 800-38D, R210), the CRCs (R143, R184,
R219). The spec names the algorithms and takes them from these standards (PRESUMED: their text is outside it). -/

namespace Sys2Proof.Machine

/-! ### SHA-2 (R168, R188, R194) -/

/-- What tells SHA-256 from SHA-384 and SHA-512: rounds' constants, rotations, first chaining value, digest bytes. -/
structure Sha2 (w : Nat) where
  ks : List (BitVec w)
  big0 : Nat × Nat × Nat
  big1 : Nat × Nat × Nat
  small0 : Nat × Nat × Nat
  small1 : Nat × Nat × Nat
  init : List (BitVec w)
  digest : Nat

def sha256Rounds : List (BitVec 32) :=
  [0x428A2F98, 0x71374491, 0xB5C0FBCF, 0xE9B5DBA5, 0x3956C25B, 0x59F111F1, 0x923F82A4, 0xAB1C5ED5] ++
  [0xD807AA98, 0x12835B01, 0x243185BE, 0x550C7DC3, 0x72BE5D74, 0x80DEB1FE, 0x9BDC06A7, 0xC19BF174] ++
  [0xE49B69C1, 0xEFBE4786, 0x0FC19DC6, 0x240CA1CC, 0x2DE92C6F, 0x4A7484AA, 0x5CB0A9DC, 0x76F988DA] ++
  [0x983E5152, 0xA831C66D, 0xB00327C8, 0xBF597FC7, 0xC6E00BF3, 0xD5A79147, 0x06CA6351, 0x14292967] ++
  [0x27B70A85, 0x2E1B2138, 0x4D2C6DFC, 0x53380D13, 0x650A7354, 0x766A0ABB, 0x81C2C92E, 0x92722C85] ++
  [0xA2BFE8A1, 0xA81A664B, 0xC24B8B70, 0xC76C51A3, 0xD192E819, 0xD6990624, 0xF40E3585, 0x106AA070] ++
  [0x19A4C116, 0x1E376C08, 0x2748774C, 0x34B0BCB5, 0x391C0CB3, 0x4ED8AA4A, 0x5B9CCA4F, 0x682E6FF3] ++
  [0x748F82EE, 0x78A5636F, 0x84C87814, 0x8CC70208, 0x90BEFFFA, 0xA4506CEB, 0xBEF9A3F7, 0xC67178F2]

def sha512Rounds : List (BitVec 64) :=
  [0x428A2F98D728AE22, 0x7137449123EF65CD, 0xB5C0FBCFEC4D3B2F, 0xE9B5DBA58189DBBC] ++
  [0x3956C25BF348B538, 0x59F111F1B605D019, 0x923F82A4AF194F9B, 0xAB1C5ED5DA6D8118] ++
  [0xD807AA98A3030242, 0x12835B0145706FBE, 0x243185BE4EE4B28C, 0x550C7DC3D5FFB4E2] ++
  [0x72BE5D74F27B896F, 0x80DEB1FE3B1696B1, 0x9BDC06A725C71235, 0xC19BF174CF692694] ++
  [0xE49B69C19EF14AD2, 0xEFBE4786384F25E3, 0x0FC19DC68B8CD5B5, 0x240CA1CC77AC9C65] ++
  [0x2DE92C6F592B0275, 0x4A7484AA6EA6E483, 0x5CB0A9DCBD41FBD4, 0x76F988DA831153B5] ++
  [0x983E5152EE66DFAB, 0xA831C66D2DB43210, 0xB00327C898FB213F, 0xBF597FC7BEEF0EE4] ++
  [0xC6E00BF33DA88FC2, 0xD5A79147930AA725, 0x06CA6351E003826F, 0x142929670A0E6E70] ++
  [0x27B70A8546D22FFC, 0x2E1B21385C26C926, 0x4D2C6DFC5AC42AED, 0x53380D139D95B3DF] ++
  [0x650A73548BAF63DE, 0x766A0ABB3C77B2A8, 0x81C2C92E47EDAEE6, 0x92722C851482353B] ++
  [0xA2BFE8A14CF10364, 0xA81A664BBC423001, 0xC24B8B70D0F89791, 0xC76C51A30654BE30] ++
  [0xD192E819D6EF5218, 0xD69906245565A910, 0xF40E35855771202A, 0x106AA07032BBD1B8] ++
  [0x19A4C116B8D2D0C8, 0x1E376C085141AB53, 0x2748774CDF8EEB99, 0x34B0BCB5E19B48A8] ++
  [0x391C0CB3C5C95A63, 0x4ED8AA4AE3418ACB, 0x5B9CCA4F7763E373, 0x682E6FF3D6B2B8A3] ++
  [0x748F82EE5DEFB2FC, 0x78A5636F43172F60, 0x84C87814A1F0AB72, 0x8CC702081A6439EC] ++
  [0x90BEFFFA23631E28, 0xA4506CEBDE82BDE9, 0xBEF9A3F7B2C67915, 0xC67178F2E372532B] ++
  [0xCA273ECEEA26619C, 0xD186B8C721C0C207, 0xEADA7DD6CDE0EB1E, 0xF57D4F7FEE6ED178] ++
  [0x06F067AA72176FBA, 0x0A637DC5A2C898A6, 0x113F9804BEF90DAE, 0x1B710B35131C471B] ++
  [0x28DB77F523047D84, 0x32CAAB7B40C72493, 0x3C9EBE0A15C9BEBC, 0x431D67C49C100D4C] ++
  [0x4CC5D4BECB3E42B6, 0x597F299CFC657E2A, 0x5FCB6FAB3AD6FAEC, 0x6C44198C4A475817]

def sha256Spec : Sha2 32 :=
  { ks := sha256Rounds, big0 := (2, 13, 22), big1 := (6, 11, 25), small0 := (7, 18, 3), small1 := (17, 19, 10),
    init := [0x6A09E667, 0xBB67AE85, 0x3C6EF372, 0xA54FF53A, 0x510E527F, 0x9B05688C, 0x1F83D9AB, 0x5BE0CD19], digest := 32 }

def sha512Spec : Sha2 64 :=
  { ks := sha512Rounds, big0 := (28, 34, 39), big1 := (14, 18, 41), small0 := (1, 8, 7), small1 := (19, 61, 6),
    init :=
      [0x6A09E667F3BCC908, 0xBB67AE8584CAA73B, 0x3C6EF372FE94F82B, 0xA54FF53A5F1D36F1] ++
      [0x510E527FADE682D1, 0x9B05688C2B3E6C1F, 0x1F83D9ABFB41BD6B, 0x5BE0CD19137E2179], digest := 64 }

def sha384Spec : Sha2 64 :=
  { sha512Spec with init :=
      [0xCBBB9D5DC1059ED8, 0x629A292A367CD507, 0x9159015A3070DD17, 0x152FECD8F70E5939] ++
      [0x67332667FFC00B31, 0x8EB44A8768581511, 0xDB0C2E0D64F98FA7, 0x47B5481DBEFA4FA4], digest := 48 }

section Sha2
variable {w : Nat}

def bigSigma (r : Nat × Nat × Nat) (x : BitVec w) : BitVec w := x.rotateRight r.1 ^^^ x.rotateRight r.2.1 ^^^ x.rotateRight r.2.2
def smallSigma (r : Nat × Nat × Nat) (x : BitVec w) : BitVec w := x.rotateRight r.1 ^^^ x.rotateRight r.2.1 ^^^ (x >>> r.2.2)

/-- One round over the eight working words. -/
def Sha2.round (f : Sha2 w) (k m : BitVec w) : List (BitVec w) → List (BitVec w)
  | [a, b, c, d, e, g, h, i] =>
    let t := i + bigSigma f.big1 e + ((e &&& g) ^^^ (~~~e &&& h)) + k + m
    let u := bigSigma f.big0 a + ((a &&& b) ^^^ (a &&& c) ^^^ (b &&& c))
    [t + u, a, b, c, d + t, e, g, h]
  | v => v

/-- The rounds, with the message schedule held as its next 16 words. -/
def Sha2.rounds (f : Sha2 w) : List (BitVec w) → List (BitVec w) → List (BitVec w) → List (BitVec w)
  | [], _, v => v
  | k :: ks, m :: ms, v =>
    let next := smallSigma f.small1 (ms.getD 13 0) + ms.getD 8 0 + smallSigma f.small0 (ms.getD 0 0) + m
    f.rounds ks (ms ++ [next]) (f.round k m v)
  | _ :: _, [], v => v

/-- Big-endian words of a block. -/
def bigWords (w n : Nat) (bs : List Byte) : List (BitVec w) :=
  (List.range n).map fun i => ((bs.drop (w / 8 * i)).take (w / 8)).foldl (fun (v : BitVec w) b => v <<< 8 ||| b.setWidth w) 0

def bigBytes (v : BitVec w) : List Byte := (List.range (w / 8)).map fun i => (v >>> (w - 8 - 8 * i)).setWidth 8

/-- The blocks of a padded message, in order. -/
def Sha2.blocks (f : Sha2 w) : Nat → List Byte → List (BitVec w) → List (BitVec w)
  | 0, _, h => h
  | n + 1, bs, h => f.blocks n (bs.drop (2 * w)) (List.zipWith (· + ·) h (f.rounds f.ks (bigWords w 16 bs) h))

/-- Padding of FIPS 180-4 from the count of the message's bytes (R194). -/
def shaPad (w n : Nat) : List Byte :=
  let tail := w / 4
  0x80 :: zeros ((4 * w - 1 - tail - n % (2 * w)) % (2 * w)) ++ (le tail (8 * n)).reverse

def Sha2.hash (f : Sha2 w) (bs : List Byte) : List Byte :=
  let n := bs.length
  let p := bs ++ shaPad w n
  ((f.blocks (p.length / (2 * w)) p f.init).flatMap bigBytes).take f.digest

end Sha2

/-- A digest of the algorithm numbers of R194: 1, 2, 3 for SHA-256, SHA-384, SHA-512. -/
def sha (alg : Nat) (bs : List Byte) : List Byte :=
  if alg = 1 then sha256Spec.hash bs else if alg = 2 then sha384Spec.hash bs else sha512Spec.hash bs

/-- HMAC (R197). -/
def hmac (alg : Nat) (key bs : List Byte) : List Byte :=
  let size := if alg = 1 then 64 else 128
  let k := fit size (if size < key.length then sha alg key else key)
  sha alg (k.map (· ^^^ 0x5C) ++ sha alg (k.map (· ^^^ 0x36) ++ bs))

/-- The KDF in counter mode with HMAC-SHA-256 (R205): 32-bit big-endian counter and length fields (log entry 54). -/
def kdf (key label context : List Byte) (len : Nat) : List Byte :=
  let block (i : Nat) : List Byte := hmac 1 key (be 4 (i + 1) ++ label ++ [0] ++ context ++ be 4 (8 * len))
  ((List.range ((len + 31) / 32)).flatMap block).take len

/-! ### AES-256 (R188) -/

/-- Multiply by x in GF(2^8) with polynomial 0x11B. -/
def aesDouble (b : Byte) : Byte := (b <<< 1) ^^^ (if b.msb then 0x1B else 0)

def aesMul : Nat → Byte → Byte → Byte
  | 0, _, _ => 0
  | n + 1, a, b => (if b.getLsbD 0 then a else 0) ^^^ aesMul n (aesDouble a) (b >>> 1)

/-- a^254, the inverse of a, or 0. -/
def aesInverse (a : Byte) : Byte :=
  let sq (x : Byte) : Byte := aesMul 8 x x
  (List.range 6).foldl (fun (r : Byte) _ => aesMul 8 (sq r) a) a |> sq

def aesAffine (x : Byte) : Byte :=
  x ^^^ x.rotateLeft 1 ^^^ x.rotateLeft 2 ^^^ x.rotateLeft 3 ^^^ x.rotateLeft 4 ^^^ 0x63

def sboxTable : List Byte := (List.range 256).map fun i => aesAffine (aesInverse (BitVec.ofNat 8 i))
def sboxArray : Array Byte := sboxTable.toArray
def invSboxArray : Array Byte := ((List.range 256).map fun i => BitVec.ofNat 8 (sboxTable.idxOf (BitVec.ofNat 8 i))).toArray

def subByte (b : Byte) : Byte := sboxArray.getD b.toNat 0
def invSubByte (b : Byte) : Byte := invSboxArray.getD b.toNat 0

/-- The 60 words of the AES-256 key schedule, newest first. -/
def aesExpand : Nat → Nat → Byte → List (List Byte) → List (List Byte)
  | 0, _, _, ws => ws
  | n + 1, i, rcon, ws =>
    let last := ws.headD []
    let t := if i % 8 = 0 then xorBytes ((last.drop 1 ++ last.take 1).map subByte) [rcon, 0, 0, 0]
      else if i % 8 = 4 then last.map subByte else last
    aesExpand n (i + 1) (if i % 8 = 0 then aesDouble rcon else rcon) (xorBytes (ws.getD 7 []) t :: ws)

/-- The 15 round keys of a 32-byte key. -/
def aesKeys (key : List Byte) : List (List Byte) :=
  let ws := ((List.range 8).map fun i => slice key (4 * i) 4).reverse
  let all := (aesExpand 52 8 1 ws).reverse
  (List.range 15).map fun r => ((all.drop (4 * r)).take 4).flatten

/-- Byte r + 4c of the state comes from column c + r (or c - r for the inverse). -/
def shiftRows (inverse : Bool) (s : List Byte) : List Byte :=
  let a := s.toArray
  (List.range 16).map fun i => a.getD (i % 4 + 4 * ((i / 4 + (if inverse then 4 - i % 4 else i % 4)) % 4)) 0

def mixColumn (k : List Byte) (col : List Byte) : List Byte :=
  (List.range 4).map fun r => (List.range 4).foldl (fun (v : Byte) c => v ^^^ aesMul 4 (col.getD c 0) (k.getD ((c + 4 - r) % 4) 0)) 0

def mixColumns (inverse : Bool) (s : List Byte) : List Byte :=
  (List.range 4).flatMap fun c => mixColumn (if inverse then [14, 11, 13, 9] else [2, 3, 1, 1]) (slice s (4 * c) 4)

def aesRounds : List (List Byte) → List Byte → List Byte
  | [], s => s
  | [k], s => xorBytes (shiftRows false (s.map subByte)) k
  | k :: ks, s => aesRounds ks (xorBytes (mixColumns false (shiftRows false (s.map subByte))) k)

/-- Encrypt one block with the round keys. -/
def aesEncrypt (keys : List (List Byte)) (block : List Byte) : List Byte :=
  match keys with
  | [] => block
  | k :: ks => aesRounds ks (xorBytes block k)

def aesInvRounds : List (List Byte) → List Byte → List Byte
  | [], s => s
  | [k], s => xorBytes ((shiftRows true s).map invSubByte) k
  | k :: ks, s => aesInvRounds ks (mixColumns true (xorBytes ((shiftRows true s).map invSubByte) k))

def aesDecrypt (keys : List (List Byte)) (block : List Byte) : List Byte :=
  match keys.reverse with
  | [] => block
  | k :: ks => aesInvRounds ks (xorBytes block k)

/-! ### XTS (R208, R209) -/

/-- The tweak of the next block: times x in GF(2^128), bytes least significant first. -/
def xtsNext (t : List Byte) : List Byte :=
  let v := 2 * ofLe t
  le 16 (if v < 2 ^ 128 then v else (v - 2 ^ 128) ^^^ 0x87)

def xtsBlocks (f : List Byte → List Byte) : Nat → List Byte → List Byte → List Byte
  | 0, _, _ => []
  | n + 1, t, bs => xorBytes (f (xorBytes (bs.take 16) t)) t ++ xtsBlocks f n (xtsNext t) (bs.drop 16)

/-- The first tweak: the data unit number is the slot's tweak base, read little-endian (R208). -/
def xtsTweak (key : List Byte) : List Byte := aesEncrypt (aesKeys (slice key 32 32)) (slice key 64 16)

/-- Encrypt one data unit, a whole number of 16-byte blocks, under the 80-byte key of a slot (R208). -/
def xtsEnc (key bs : List Byte) : List Byte :=
  xtsBlocks (aesEncrypt (aesKeys (slice key 0 32))) (bs.length / 16) (xtsTweak key) bs

def xtsDec (key bs : List Byte) : List Byte :=
  xtsBlocks (aesDecrypt (aesKeys (slice key 0 32))) (bs.length / 16) (xtsTweak key) bs

/-! ### GCM (R210): 96-bit IV, 128-bit tag -/

/-- The number whose big-endian bytes are given. -/
def ofBe (bs : List Byte) : Nat := ofLe bs.reverse

/-- Product in GF(2^128) as GCM orders its bits. -/
def ghashMul : Nat → BitVec 128 → BitVec 128 → BitVec 128 → BitVec 128
  | 0, _, _, z => z
  | n + 1, x, v, z =>
    ghashMul n (x <<< 1) ((v >>> 1) ^^^ (if v.getLsbD 0 then 0xE1000000000000000000000000000000 else 0)) (if x.msb then z ^^^ v else z)

def ghash (h : BitVec 128) : Nat → List Byte → BitVec 128 → BitVec 128
  | 0, _, y => y
  | n + 1, bs, y => ghash h n (bs.drop 16) (ghashMul 128 (y ^^^ BitVec.ofNat 128 (ofBe (fit 16 bs))) h 0)

/-- Key stream from a counter value. -/
def gcmStream (keys : List (List Byte)) (iv : List Byte) : Nat → Nat → List Byte → List Byte
  | 0, _, _ => []
  | n + 1, c, bs => xorBytes (bs.take 16) (aesEncrypt keys (fit 12 iv ++ be 4 c)) ++ gcmStream keys iv n (c + 1) (bs.drop 16)

/-- The ciphertext of a plaintext, or the plaintext of a ciphertext. -/
def gcmEnc (key iv bs : List Byte) : List Byte := gcmStream (aesKeys key) iv ((bs.length + 15) / 16) 2 bs
def gcmDec (key iv bs : List Byte) : List Byte := gcmEnc key iv bs

/-- The 16-byte tag over AAD and ciphertext. -/
def gcmTag (key iv aad cipher : List Byte) : List Byte :=
  let keys := aesKeys key
  let h := BitVec.ofNat 128 (ofBe (aesEncrypt keys (zeros 16)))
  let pad (bs : List Byte) : List Byte := bs ++ zeros ((16 - bs.length % 16) % 16)
  let all := pad aad ++ pad cipher ++ be 8 (8 * aad.length) ++ be 8 (8 * cipher.length)
  xorBytes (be 16 (ghash h (all.length / 16) all 0).toNat) (aesEncrypt keys (fit 12 iv ++ be 4 1))

/-! ### CRCs -/

/-- Eight steps of a reflected CRC-32. -/
def crcStep (poly : BitVec 32) : Nat → BitVec 32 → BitVec 32
  | 0, c => c
  | n + 1, c => crcStep poly n ((c >>> 1) ^^^ (if c.getLsbD 0 then poly else 0))

def crcReflected (poly : BitVec 32) (bs : List Byte) : BitVec 32 :=
  ~~~ bs.foldl (fun (c : BitVec 32) (b : Byte) => crcStep poly 8 (c ^^^ b.setWidth 32)) 0xFFFFFFFF

/-- CRC-32 as gzip uses it (R184). -/
def crc32 (bs : List Byte) : BitVec 32 := crcReflected 0xEDB88320 bs
/-- CRC-32C (R219, R330, R397). -/
def crc32c (bs : List Byte) : BitVec 32 := crcReflected 0x82F63B78 bs

def guardStep : Nat → BitVec 16 → BitVec 16
  | 0, c => c
  | n + 1, c => guardStep n ((c <<< 1) ^^^ (if c.msb then 0x8BB7 else 0))

/-- The 16-bit T10 guard of protection information (R143). -/
def guard16 (bs : List Byte) : Nat :=
  (bs.foldl (fun (c : BitVec 16) (b : Byte) => guardStep 8 (c ^^^ ((b.setWidth 16 : BitVec 16) <<< 8))) 0).toNat

end Sys2Proof.Machine
end

