-- ==== Sys2Proof/Config.lean ====
section
/-! DEFINITION. What the chip fixes once (order code, engines defined by outside standards) and the free values.
Every constant without a body is uninterpreted: no proof can see its value. -/

namespace Sys2Proof

/-- The two order codes (R1). -/
inductive OrderCode where
  | a0f
  | a0n
deriving DecidableEq, Repr

namespace Config

/-- Where the package-merge of R177 has equal counts, the spec gives no order of the symbols: this rank orders them. A free value. -/
opaque huffmanTie (symbol : Nat) : Nat
/-- Whether a package goes before a symbol of the same weight in the package-merge of R177. A free value. -/
opaque packageFirst : Bool
/-- The chip root key, fused and readable by no packet (R205). -/
opaque rootKey : List Byte
/-- The image key, fused (R407). -/
opaque imageKey : List Byte
/-- Output of the random bit generator at its n-th use, `len` bytes (R204). A free value. -/
opaque randomBits (n len : Nat) : List Byte
/-- ECDSA P-256 verification against ROM key `index` (R404 check 3). -/
opaque signatureGood (index : Nat) (manifest : List Byte) : Bool
/-- The fused digest of the ROM agrees with the computed one at the n-th start (R393 stage 0). A free value. -/
opaque romDigestGood (n : Nat) : Bool
/-- A free value used where the spec leaves a value undefined: the n-th such value. -/
opaque freeValue (n : Nat) : Nat
/-- Bytes of receive buffer that each priority of a logical port has (R106 gives the headroom inside it, not its size). A free value. -/
opaque receiveBuffer : Nat
/-- Which set of the context cache a context index hashes to (R122: a hash the spec does not give). A free value;
the set number used is this modulo 4,096. -/
opaque contextSetHash (index : Nat) : Nat
/-- Wake weight, in sixths of a milliwatt, of an island that no line of R37's rail budget names (17, 31, 32, 34, 35 and 36). A free
value; the weight used is `min 54000` of it (R42: none weighs more than 9 W). -/
opaque wakeWeight (island : Nat) : Nat
/-- Whether a VBUS_FAIL that went high is still high at a stamp count (R458): no row shows its fall. A free value. -/
opaque vbusFailHeld (stamp : Nat) : Bool
/-- Input current in mA and input power in units of 10 mW as measured at a stamp count (R61: read-only measurements). Free values. -/
opaque inputCurrent (stamp : Nat) : Nat
opaque inputPower (stamp : Nat) : Nat
/-- Initial request PSN of the n-th connection set up (the spec gives none). A free value. -/
opaque initialPsn (n : Nat) : BitVec 24
/-- First byte values of the serial (R61, R86): the unique chip identity, 16 bytes. -/
opaque serialByte (i : Nat) : Byte
/-- Boot ROM version (R86: no value given). -/
opaque romVersion : Nat
/-- Drain bandwidth in MB/s of a slot schedule and layout (R266 defines it as a rate the chip computes: the spec
gives no formula): program starts per frame, D and P. A free value. -/
opaque drainRate (startsPerFrame d p : Nat) : Nat
/-- The chip's own LDPC decoder (R317): whether a codeword decodes from the reads taken up to a soft step, and the
number of corrected bits; the argument is the raw read data. -/
opaque ldpc (step : Nat) (reads : List (List Byte)) : Option (Nat × List Byte)

/-- The 512 parity bytes of the chip's own LDPC code over 4,096 data bytes (R317). -/
opaque ldpcParity (data : List Byte) : List Byte
/-- Factory bad blocks of the Vault that took a spare (R394 states at most 80). A free value. -/
opaque factoryBad : Nat
def factoryBadBlocks : Nat := min 80 factoryBad
/-- Bytes of a Vault page whose layout the spec does not give: partition, page or record number, write sequence (R395,
R397). A free value. -/
opaque vaultBytes (partition number seq : Nat) : List Byte
/-- Bytes of a dump section whose layout the spec does not give: section, dump_seq (R439). A free value. -/
opaque dumpBytes (section_ seq : Nat) : List Byte
/-- Instruction code of the n-th public TAP instruction in the order of R64, which gives no codes. A free value; BYPASS alone has the
all-ones code that IEEE 1149.1 fixes. -/
opaque tapCode (n : Nat) : Byte
def bypassCode : Byte := 0xFF#8
/-- Cells of the boundary register: one for each signal ball of R33 but the TAP balls, the reference clocks, MEM_CAL, VBUS_SENSE and
VBUS_RTN_SENSE (R64): 3,136 balls less 72 VBUS, 72 VBUS_RTN, 26 DNC, 832 VSS, 5 TAP, 9 clock, 3 MEM_CAL and 2 sense balls (log
entry 105). -/
def boundaryLength : Nat := 3136 - 72 - 72 - 26 - 832 - 5 - 9 - 3 - 2
/-- Islands the chip numbers (R11). -/
def islandCount : Nat := 37
/-- PCI vendor and device (R66). -/
def vendorId : Nat := 0x1F6A
def deviceId : Nat := 0x9648
/-- PCI revision ID of stepping A0, and the class code: mass storage controller, other (R3, R66). -/
def revisionId : Nat := 0x00
def classCode : Nat := 0x018000
/-- JTAG IDCODE (R64). -/
def idcode : BitVec 32 := 0x0964834B#32
/-- BAR0_CAP (R75). -/
def bar0Cap : BitVec 32 := 0x0A100101#32
/-- The 16-byte serial. -/
def serial : List Byte := (List.range 16).map serialByte
/-- Ramp limit of R42, 20 W, in sixths of a milliwatt. -/
def rampLimit : Nat := 120000
/-- The rail budget of R37 at full load: the islands of each consumer and its rail power in milliwatts. -/
def railBudget : List (List Nat × Nat) :=
  [([3, 4, 5, 6], 14000), ([7], 3500), ([22, 23, 24, 25, 26, 27], 31000), ([33], 2000), ([28, 29, 30], 15000), ([8, 9], 11000),
   ([10], 3000), ([11, 12], 9000), ([13, 14, 15, 16], 35000), ([18], 6000), ([19, 20], 9000), ([21], 5000), ([0, 1, 2], 6000)]
/-- The wake weight of an island (R42): its consumer's rail power, shared evenly by the consumer's islands, in sixths of a milliwatt
(log entry 124). -/
def weight (island : Nat) : Nat :=
  match railBudget.find? fun b => b.1.contains island with
  | some b => 6 * b.2 / b.1.length
  | none => min 54000 (wakeWeight island)

end Config
end Sys2Proof
end

