-- ==== Sys2Proof/Machine/Deflate.lean ====
section
/-! DEFINITION. The compression and decompression engines: the DEFLATE profile (R177, R178, R180) over the raw format of
RFC 1951 (R179), whose tables of length and distance symbols are the standard's. -/

namespace Sys2Proof.Machine

/-! ### Bits, least significant first -/

/-- Bytes written so far, and the bits of the unfinished byte. -/
structure BitSink where
  bytes : Array Byte := #[]
  part : Nat := 0
  count : Nat := 0

/-- Take whole bytes out of `v`, which holds `n` bits. -/
def BitSink.flush : Nat → Array Byte → Nat → Nat → BitSink
  | 0, a, v, n => { bytes := a, part := v, count := n }
  | k + 1, a, v, n => if n < 8 then { bytes := a, part := v, count := n } else flush k (a.push (BitVec.ofNat 8 v)) (v / 256) (n - 8)

/-- Write the `n` low bits of `v`, `n` at most 32. -/
def BitSink.put (s : BitSink) (v n : Nat) : BitSink := BitSink.flush 6 s.bytes (s.part + v % 2 ^ n * 2 ^ s.count) (s.count + n)

/-- The bytes, the last one filled with zero bits. -/
def BitSink.close (s : BitSink) : List Byte :=
  (if s.count = 0 then s.bytes else s.bytes.push (BitVec.ofNat 8 s.part)).toList

/-- The `n` bits of `v` in reverse: codes go most significant bit first. -/
def reverseBits : Nat → Nat → Nat
  | 0, _ => 0
  | n + 1, v => v % 2 * 2 ^ n + reverseBits n (v / 2)

/-! ### Length and distance symbols (RFC 1951) -/

def lengthBases : List Nat :=
  [3, 4, 5, 6, 7, 8, 9, 10, 11, 13, 15, 17, 19, 23, 27] ++ [31, 35, 43, 51, 59, 67, 83, 99, 115, 131, 163, 195, 227, 258]
def lengthExtra : List Nat :=
  [0, 0, 0, 0, 0, 0, 0, 0, 1, 1, 1, 1, 2, 2, 2] ++ [2, 3, 3, 3, 3, 4, 4, 4, 4, 5, 5, 5, 5, 0]
def distanceBases : List Nat :=
  [1, 2, 3, 4, 5, 7, 9, 13, 17, 25, 33, 49, 65, 97, 129] ++
  [193, 257, 385, 513, 769, 1025, 1537, 2049, 3073, 4097, 6145, 8193, 12289, 16385, 24577]
/-- Extra bits of distance symbol `d`. -/
def distanceExtra (d : Nat) : Nat := d / 2 - 1

/-- Index of the last base at most `v`. -/
def baseIndex (v : Nat) (bases : List Nat) : Nat := (bases.takeWhile fun b => decide (b ≤ v)).length - 1

/-- Symbol, extra bits and their value of a match length. -/
def lengthSymbol (l : Nat) : Nat × Nat × Nat :=
  let i := baseIndex l lengthBases
  (257 + i, lengthExtra.getD i 0, l - lengthBases.getD i 0)

def distanceSymbol (d : Nat) : Nat × Nat × Nat :=
  let i := baseIndex d distanceBases
  (i, distanceExtra i, d - distanceBases.getD i 0)

/-! ### Codes from code lengths (RFC 1951) -/

/-- How many symbols have each length 0 to `m`. -/
def lengthCounts (m : Nat) (lens : List Nat) : List Nat := (List.range (m + 1)).map fun l => lens.count l

/-- The first code of each length 1 upwards, from the counts of those lengths. -/
def firstCodes : Nat → List Nat → List Nat
  | _, [] => []
  | c, n :: ns => c :: firstCodes ((c + n) * 2) ns

/-- Length and code of each symbol. -/
def codesOf (lens : List Nat) : Array (Nat × Nat) :=
  let start := (0 :: firstCodes 0 ((lengthCounts 15 lens).drop 1)).toArray
  (lens.foldl (fun (x : Array (Nat × Nat) × Array Nat) l =>
    (x.1.push (l, x.2.getD l 0), x.2.modify l (· + 1))) ((#[] : Array (Nat × Nat)), start)).1

def BitSink.code (s : BitSink) (x : Nat × Nat) : BitSink := s.put (reverseBits x.1 x.2) x.1

/-- RFC 1951's fixed literal/length code. -/
def fixedLitLen : List Nat := List.replicate 144 8 ++ List.replicate 112 9 ++ List.replicate 24 7 ++ List.replicate 8 8
def fixedDist : List Nat := List.replicate 30 5

/-! ### Length-limited codes by package-merge (R177) -/

/-- A symbol, or a package of them: weight, tie rank, symbols. -/
abbrev Package := Nat × Nat × List Nat

def packageLe (x y : Package) : Bool := decide (x.1 < y.1) || (x.1 == y.1 && decide (x.2.1 ≤ y.2.1))

/-- The packages of a level: its members two by two. -/
def pairUp : List Package → List Package
  | x :: y :: zs => (x.1 + y.1, (if Config.packageFirst then 0 else 2 ^ 32), x.2.2 ++ y.2.2) :: pairUp zs
  | _ => []

def mergePackages : Nat → List Package → List Package → List Package
  | 0, xs, ys => xs ++ ys
  | _ + 1, [], ys => ys
  | _ + 1, xs, [] => xs
  | n + 1, x :: xs, y :: ys => if packageLe x y then x :: mergePackages n xs (y :: ys) else y :: mergePackages n (x :: xs) ys

/-- Code lengths of at most `limit` bits for the symbols of nonzero count. Among equal counts the spec gives no order
(`Config.huffmanTie`, `Config.packageFirst`, log entry 55). One symbol alone has length 1. -/
def packageMerge (limit : Nat) (counts : List Nat) : List Nat :=
  let leaves : List Package := ((counts.zipIdx.filter fun c => c.1 ≠ 0).map fun c => (c.1, 1 + Config.huffmanTie c.2 % 2 ^ 31, [c.2])).mergeSort packageLe
  let n := leaves.length
  if n ≤ 1 then counts.map fun c => if c = 0 then 0 else 1
  else
    let top := (List.range (limit - 1)).foldl (fun (ps : List Package) _ => mergePackages (2 * n + ps.length) leaves (pairUp ps)) leaves
    let used := (top.take (2 * n - 2)).flatMap fun p => p.2.2
    (used.foldl (fun (a : Array Nat) s => a.modify s (· + 1)) (counts.map fun _ => 0).toArray).toList

/-! ### Matches (R177) -/

/-- Chain depth, nice length and lazy length of a level. -/
def levelOf : Nat → Nat × Nat × Option Nat
  | 1 => (1, 8, none)
  | 2 => (2, 16, none)
  | 3 => (4, 32, none)
  | 4 => (8, 32, some 16)
  | 5 => (12, 64, some 32)
  | 6 => (16, 128, some 64)
  | 7 => (24, 128, some 128)
  | 8 => (32, 258, some 258)
  | _ => (64, 258, some 258)

def byteAt (a : Array Byte) (p : Nat) : Nat := (a.getD p 0).toNat

def hashAt (a : Array Byte) (p : Nat) : Nat :=
  ((byteAt a p <<< 10) ^^^ (byteAt a (p + 1) <<< 5) ^^^ byteAt a (p + 2)) &&& 0x7FFF

/-- Equal bytes at `p` and `c`, at most `n` more than `k`. -/
def runLength (a : Array Byte) (p c : Nat) : Nat → Nat → Nat
  | 0, k => k
  | n + 1, k => if byteAt a (p + k) = byteAt a (c + k) then runLength a p c n (k + 1) else k

/-- The longest match among candidates, newest first: the nearest of equal lengths, stopping at the nice length. -/
def searchChain (a : Array Byte) (p limit nice : Nat) : List Nat → Nat × Nat → Nat × Nat
  | [], m => m
  | c :: cs, m =>
    let l := runLength a p c limit 0
    let m := if m.1 < l then (l, p - c) else m
    if nice ≤ l then m else searchChain a p limit nice cs m

/-- A compression job: its input and rules. -/
structure CompJob where
  input : Array Byte
  depth : Nat
  nice : Nat
  lazyLen : Option Nat
  usable : Nat → Nat → Bool

/-- The match at a position of a block that ends at `e`: length 0 for none. -/
def CompJob.matchAt (j : CompJob) (chains : Array (List Nat)) (p e : Nat) : Nat × Nat :=
  if e < p + 3 then (0, 0)
  else
    let near := ((chains.getD (hashAt j.input p) []).takeWhile fun c => decide (p ≤ c + 32768)).take j.depth
    let m := searchChain j.input p (min 258 (e - p)) j.nice near (0, 0)
    if m.1 < 3 then (0, 0) else m

def CompJob.insert (j : CompJob) (p : Nat) (chains : Array (List Nat)) : Array (List Nat) :=
  if p + 2 < j.input.size then chains.modify (hashAt j.input p) (p :: ·) else chains

inductive Token where
  | lit (b : Nat)
  | copy (len dist : Nat)

/-- The tokens of the block from `p` to `e`, newest first. -/
def CompJob.tokens (j : CompJob) (e : Nat) : Nat → Nat → Array (List Nat) → List Token → List Token × Array (List Nat)
  | 0, _, chains, ts => (ts, chains)
  | n + 1, p, chains, ts =>
    if e ≤ p then (ts, chains)
    else
      let m := j.matchAt chains p e
      let after := j.insert p chains
      let waits := match j.lazyLen with
        | none => false
        | some z => decide (m.1 < z) && decide (m.1 < (j.matchAt after (p + 1) e).1)
      if m.1 = 0 || !j.usable m.1 m.2 || waits then j.tokens e n (p + 1) after (.lit (byteAt j.input p) :: ts)
      else j.tokens e n (p + m.1) ((List.range (m.1 - 1)).foldl (fun c i => j.insert (p + 1 + i) c) after) (.copy m.1 m.2 :: ts)

/-! ### Blocks (R177, R178) -/

/-- A pair of codes with the bits that announce it. -/
structure BlockCode where
  header : List (Nat × Nat)
  lit : Array (Nat × Nat)
  dist : Array (Nat × Nat)

/-- Bits of a token under a pair of codes, as (value, count) pieces. -/
def BlockCode.pieces (c : BlockCode) : Token → List (Nat × Nat)
  | .lit b => let x := c.lit.getD b (0, 0); [(reverseBits x.1 x.2, x.1)]
  | .copy l d =>
    let s := lengthSymbol l
    let t := distanceSymbol d
    let x := c.lit.getD s.1 (0, 0)
    let y := c.dist.getD t.1 (0, 0)
    [(reverseBits x.1 x.2, x.1), (s.2.2, s.2.1), (reverseBits y.1 y.2, y.1), (t.2.2, t.2.1)]

/-- End of block. -/
def BlockCode.stop (c : BlockCode) : Nat × Nat := let x := c.lit.getD 256 (0, 0); (reverseBits x.1 x.2, x.1)

def pieceBits (ps : List (Nat × Nat)) : Nat := ps.foldl (fun n p => n + p.2) 0

def BlockCode.bits (c : BlockCode) (ts : List Token) : Nat :=
  pieceBits c.header + c.stop.2 + ts.foldl (fun n t => n + pieceBits (c.pieces t)) 0

def BlockCode.write (c : BlockCode) (ts : List Token) (s : BitSink) : BitSink :=
  let s := c.header.foldl (fun s p => s.put p.1 p.2) s
  let s := ts.foldl (fun s t => (c.pieces t).foldl (fun s p => s.put p.1 p.2) s) s
  s.put c.stop.1 c.stop.2

def fixedCode : BlockCode := { header := [], lit := codesOf fixedLitLen, dist := codesOf fixedDist }

/-- Runs of equal lengths. -/
def lengthRuns : List Nat → List (Nat × Nat)
  | [] => []
  | l :: ls => match lengthRuns ls with
    | (v, n) :: rs => if v = l then (v, n + 1) :: rs else (l, 1) :: (v, n) :: rs
    | [] => [(l, 1)]

/-- Code-length symbols of `n` zero lengths: symbol, extra value, extra bits. -/
def zeroRun : Nat → Nat → List (Nat × Nat × Nat)
  | 0, _ => []
  | k + 1, n =>
    if n = 0 then []
    else if 11 ≤ n then (18, min n 138 - 11, 7) :: zeroRun k (n - min n 138)
    else if 3 ≤ n then [(17, n - 3, 3)]
    else (0, 0, 0) :: zeroRun k (n - 1)

/-- Code-length symbols that repeat length `v` `n` more times. -/
def repeatRun (v : Nat) : Nat → Nat → List (Nat × Nat × Nat)
  | 0, _ => []
  | k + 1, n =>
    if n = 0 then []
    else if 3 ≤ n then (16, min n 6 - 3, 2) :: repeatRun v k (n - min n 6)
    else (v, 0, 0) :: repeatRun v k (n - 1)

/-- Repeat codes 16, 17 and 18 wherever they shorten the header; a run may cross from the literal/length lengths to the distance
lengths (log entry 55). -/
def lengthSymbols (lens : List Nat) : List (Nat × Nat × Nat) :=
  (lengthRuns lens).flatMap fun r => if r.1 = 0 then zeroRun r.2 r.2 else (r.1, 0, 0) :: repeatRun r.1 r.2 (r.2 - 1)

def codeLengthOrder : List Nat := [16, 17, 18, 0, 8, 7, 9, 6, 10, 5] ++ [11, 4, 12, 3, 13, 2, 14, 1, 15]

/-- The header of a block with dynamic tables, after BTYPE: `hlit` literal/length and `hdist` distance lengths. -/
def tableHeader (hlit hdist : Nat) (lit dist : List Nat) : List (Nat × Nat) :=
  let syms := lengthSymbols (lit.take hlit ++ dist.take hdist)
  let counts := (syms.foldl (fun (a : Array Nat) s => a.modify s.1 (· + 1)) (Array.replicate 19 0)).toList
  let lens := packageMerge 7 counts
  let codes := codesOf lens
  let ordered := codeLengthOrder.map fun i => lens.getD i 0
  let hclen := max 4 (19 - (ordered.reverse.takeWhile (· == 0)).length)
  [(hlit - 257, 5), (hdist - 1, 5), (hclen - 4, 4)] ++ ((ordered.take hclen).map fun l => (l, 3)) ++
    syms.flatMap fun s => let x := codes.getD s.1 (0, 0); [(reverseBits x.1 x.2, x.1), (s.2.1, s.2.2)]

def tableCode (hlit hdist : Nat) (lit dist : List Nat) : BlockCode :=
  { header := tableHeader hlit hdist lit dist, lit := codesOf lit, dist := codesOf dist }

/-- Symbol counts of a block, end of block included. -/
def symbolCounts (ts : List Token) : Array Nat × Array Nat :=
  ts.foldl (fun x t => match t with
    | .lit b => (x.1.modify b (· + 1), x.2)
    | .copy l d => (x.1.modify (lengthSymbol l).1 (· + 1), x.2.modify (distanceSymbol d).1 (· + 1)))
    ((Array.replicate 286 0).modify 256 (· + 1), Array.replicate 30 0)

/-- One more than the last used symbol, at least `least`. -/
def usedLength (least : Nat) (lens : List Nat) : Nat := max least (lens.length - (lens.reverse.takeWhile (· == 0)).length)

/-- The dynamic table built for a block. -/
def dynamicCode (ts : List Token) : BlockCode :=
  let c := symbolCounts ts
  let lit := packageMerge 15 c.1.toList
  let dist := packageMerge 15 c.2.toList
  tableCode (usedLength 257 lit) (usedLength 1 dist) lit dist

/-- Bits of a stored block of `n` bytes that starts `k` bits into a byte. -/
def storedBits (k n : Nat) : Nat := 3 + (8 - (k + 3) % 8) % 8 + 32 + 8 * n

/-- A block written in the smallest of its forms; of equal sizes dynamic, fixed, static, stored. The table argument is the
code of the mode's own table and whether it is the static one. -/
def writeBlock (table : Option (BlockCode × Bool)) (last : Bool) (bs : List Byte) (ts : List Token) (s : BitSink) : BitSink :=
  let fixed : BlockCode × Nat × Nat := (fixedCode, 1, 3 + fixedCode.bits ts)
  let options := match table with
    | none => [fixed]
    | some (c, true) => [(c, 2, 3 + c.bits ts)]
    | some (c, false) => [(c, 2, 3 + c.bits ts), fixed]
  let best := options.foldl (fun (b : Option (BlockCode × Nat × Nat)) o => match b with
    | none => some o
    | some x => if o.2.2 < x.2.2 then some o else some x) none
  let n := bs.length
  match best with
  | some (c, t, size) =>
    if storedBits s.count n < size then
      let s := (s.put (boolNat last) 1).put 0 2
      let s := s.put 0 ((8 - s.count) % 8)
      bs.foldl (fun s b => s.put b.toNat 8) ((s.put n 16).put (65535 - n) 16)
    else c.write ts ((s.put (boolNat last) 1).put t 2)
  | none => s

/-- The blocks of a job from position `p`. -/
def CompJob.blocks (j : CompJob) (code : List Token → Option (BlockCode × Bool)) (final : Bool) :
    Nat → Nat → Array (List Nat) → BitSink → BitSink
  | 0, _, _, s => s
  | n + 1, p, chains, s =>
    let e := min j.input.size (p + 16384)
    let x := j.tokens e (e - p) p chains []
    let ts := x.1.reverse
    let s := writeBlock (code ts) (final && n == 0) (j.input.extract p e).toList ts s
    j.blocks code final n e x.2 s

/-- A table of the static Huffman template (R180): its 328 bytes. -/
def staticLitLen (table : List Byte) : List Nat := ((table.drop 8).take 288).map BitVec.toNat
def staticDist (table : List Byte) : List Nat := ((table.drop 0x128).take 32).map BitVec.toNat

/-- Raw DEFLATE output of a compression job (R177, R178): level, table mode, the static table (empty otherwise), final flag,
input. -/
def deflate (level mode : Nat) (table : List Byte) (final : Bool) (input : List Byte) : List Byte :=
  let x := levelOf level
  let lit := (staticLitLen table).toArray
  let dist := (staticDist table).toArray
  let usable (l d : Nat) : Bool :=
    mode ≠ 1 || (lit.getD (lengthSymbol l).1 0 ≠ 0 && dist.getD (distanceSymbol d).1 0 ≠ 0)
  let j : CompJob := { input := input.toArray, depth := x.1, nice := x.2.1, lazyLen := x.2.2, usable := usable }
  let static_ := tableCode (fieldAt table 2 2) (fieldAt table 4 1) (staticLitLen table) (staticDist table)
  let code (ts : List Token) : Option (BlockCode × Bool) :=
    if mode = 0 then none else if mode = 1 then some (static_, true) else some (dynamicCode ts, false)
  if input.isEmpty then (fixedCode.write [] (((({} : BitSink)).put (boolNat final) 1).put 1 2)).close
  else (j.blocks code final ((input.length + 16383) / 16384) 0 (Array.replicate 32768 []) {}).close

/-! ### Decompression (R179) -/

/-- A canonical code as decoding uses it: the count of each length from 1, and the symbols in code order. -/
structure Huff where
  counts : List Nat
  symbols : Array Nat

def huffOf (lens : List Nat) : Huff :=
  { counts := (lengthCounts 15 lens).drop 1,
    symbols := ((List.range 15).flatMap fun l => (lens.zipIdx.filter fun x => x.1 = l + 1).map Prod.snd).toArray }

/-- Codes of 15 bits left unused by a set of lengths; below 0 when it is over-subscribed. -/
def codesLeft (counts : List Nat) : Int := counts.foldl (fun (n : Int) (c : Nat) => 2 * n - (c : Int)) 1

/-- A usable code: complete, or a single code of length 1. -/
def Huff.good (h : Huff) : Bool := codesLeft h.counts == 0 || (h.symbols.size ≤ 1 && decide (0 ≤ codesLeft h.counts) && h.counts.getD 0 0 = h.symbols.size)

def bitAt (a : Array Byte) (p : Nat) : Option Nat := if p < 8 * a.size then some (boolNat ((a.getD (p / 8) 0).getLsbD (p % 8))) else none

/-- Read `n` bits, least significant first. -/
def readBits (a : Array Byte) (p : Nat) : Nat → Option Nat
  | 0 => some 0
  | n + 1 => do return (← bitAt a p) + 2 * (← readBits a (p + 1) n)

/-- Read one symbol: the symbol and the next position; none for a code not in use or the end of the input. -/
def Huff.walk (h : Huff) (a : Array Byte) : List Nat → Nat → Nat → Nat → Nat → Option (Nat × Nat)
  | [], _, _, _, _ => none
  | c :: cs, code, first, index, p => do
    let b ← bitAt a p
    let code := code + b
    if code < first + c then some (h.symbols.getD (index + code - first) 0, p + 1)
    else h.walk a cs (2 * code) (2 * (first + c)) (index + c) (p + 1)

def Huff.read (h : Huff) (a : Array Byte) (p : Nat) : Option (Nat × Nat) := h.walk a h.counts 0 0 0 p

/-- What a step of decompression answers: more, done, or the byte offset of the fault. -/
abbrev Inflated := Except Nat (Nat × Array Byte)

def copyBack (dist : Nat) : Nat → Array Byte → Array Byte
  | 0, out => out
  | n + 1, out => copyBack dist n (out.push (out.getD (out.size - dist) 0))

/-- The symbols of a block to its end, from bit `p`. A fault lies in the byte where the element at fault starts (log entry 56). -/
def inflateSymbols (a : Array Byte) (lit dist : Huff) : Nat → Nat → Array Byte → Inflated
  | 0, p, _ => .error (p / 8)
  | n + 1, p, out =>
    match lit.read a p with
    | none => .error (p / 8)
    | some (s, q) =>
      if s < 256 then inflateSymbols a lit dist n q (out.push (BitVec.ofNat 8 s))
      else if s = 256 then .ok (q, out)
      else if 285 < s then .error (p / 8)
      else
        let x : Option (Nat × Nat × Nat) := do
          let l ← readBits a q (lengthExtra.getD (s - 257) 0)
          let q := q + lengthExtra.getD (s - 257) 0
          let (d, r) ← dist.read a q
          let e ← readBits a r (distanceExtra d)
          return (lengthBases.getD (s - 257) 0 + l, (if 29 < d then 0 else distanceBases.getD d 0 + e), r + distanceExtra d)
        match x with
        | none => .error (p / 8)
        | some (l, d, r) =>
          if d = 0 || out.size < d then .error (p / 8) else inflateSymbols a lit dist n r (copyBack d l out)

/-- Code lengths of a dynamic block: `n` of them. -/
def readLengths (a : Array Byte) (h : Huff) (n : Nat) : Nat → Nat → List Nat → Except Nat (Nat × List Nat)
  | 0, p, _ => .error (p / 8)
  | k + 1, p, ls =>
    if ls.length = n then .ok (p, ls.reverse)
    else match h.read a p with
    | none => .error (p / 8)
    | some (s, q) =>
      if s < 16 then readLengths a h n k q (s :: ls)
      else
        let (extra, least, v) : Nat × Nat × Option Nat :=
          if s = 16 then (2, 3, ls.head?) else if s = 17 then (3, 3, some 0) else (7, 11, some 0)
        match readBits a q extra, v with
        | some e, some v =>
          if n < ls.length + least + e then .error (p / 8)
          else readLengths a h n k (q + extra) (List.replicate (least + e) v ++ ls)
        | _, _ => .error (p / 8)

/-- The two codes of a dynamic block. -/
def readTables (a : Array Byte) (p : Nat) : Except Nat (Nat × Huff × Huff) :=
  match readBits a p 5, readBits a (p + 5) 5, readBits a (p + 10) 4 with
  | some x, some y, some z =>
    let hlit := 257 + x
    let hdist := 1 + y
    match (List.range (z + 4)).mapM fun i => readBits a (p + 14 + 3 * i) 3 with
    | none => .error (p / 8)
    | some cl =>
      let lens := (List.range 19).map fun s => cl.getD (codeLengthOrder.idxOf s) 0
      let h := huffOf lens
      if 286 < hlit || !(codesLeft h.counts == 0) then .error (p / 8)
      else match readLengths a h (hlit + hdist) (hlit + hdist + 1) (p + 14 + 3 * (z + 4)) [] with
        | .error e => .error e
        | .ok (q, ls) =>
          let lit := huffOf (ls.take hlit)
          let dist := huffOf (ls.drop hlit)
          if ls.getD 256 0 = 0 || !lit.good || !dist.good then .error (p / 8) else .ok (q, lit, dist)
  | _, _, _ => .error (p / 8)

/-- The blocks from bit `p`. -/
def inflateBlocks (a : Array Byte) (fuel : Nat) : Nat → Nat → Array Byte → Inflated
  | 0, p, _ => .error (p / 8)
  | n + 1, p, out =>
    match bitAt a p, readBits a (p + 1) 2 with
    | some last, some kind =>
      let q := p + 3
      let r : Inflated :=
        if kind = 0 then
          let k := (q + 7) / 8
          match readBits a (8 * k) 16, readBits a (8 * k + 16) 16 with
          | some len, some nlen =>
            if len + nlen ≠ 65535 || a.size < k + 4 + len then .error k
            else .ok (8 * (k + 4 + len), out ++ a.extract (k + 4) (k + 4 + len))
          | _, _ => .error k
        else if kind = 1 then inflateSymbols a (huffOf fixedLitLen) (huffOf (List.replicate 32 5)) fuel q out
        else if kind = 2 then match readTables a q with
          | .error e => .error e
          | .ok (q, lit, dist) => inflateSymbols a lit dist fuel q out
        else .error (p / 8)
      match r with
      | .error e => .error e
      | .ok (q, out) => if last = 1 then .ok (q, out) else inflateBlocks a fuel n q out
    | _, _ => .error (p / 8)

/-- RFC 1951 decompression (R179): the output, or the byte offset of the fault. Bytes after the last block are not read. -/
def inflate (input : List Byte) : Except Nat (List Byte) :=
  let a := input.toArray
  let n := 8 * a.size + 1
  match inflateBlocks a n n 0 #[] with
  | .error e => .error e
  | .ok (_, out) => .ok out.toList

end Sys2Proof.Machine
end

