-- ==== Sys2Proof/Machine/EventTable.lean ====
section
/-! DEFINITION. The event codes (R432), their severities and the island that raises them unless the raiser names
another (R87, R433 and the event tables of the class chapters). -/

namespace Sys2Proof.Machine.Ev

def vbusLow : Nat := 0x0001
def brownout : Nat := 0x0002
def vbusFail : Nat := 0x0003
def drained : Nat := 0x0004
def drainRate : Nat := 0x0005
def pwrPlanEnvelope : Nat := 0x0006
def clockLoss : Nat := 0x0007
def clockRestored : Nat := 0x0008
def strapInvalid : Nat := 0x0009
def thermalAlert : Nat := 0x000A
def firmwareRunning : Nat := 0x0101
def selfTest : Nat := 0x0102
def hodDisabled : Nat := 0x0103
def engineDisabled : Nat := 0x0104
def templateEpoch : Nat := 0x0105
def templateEpochRetired : Nat := 0x0106
def ringFault : Nat := 0x0110
def pcieReset : Nat := 0x0111
def portUp : Nat := 0x0201
def portDown : Nat := 0x0202
def serdesEnvelope : Nat := 0x0203
def connError : Nat := 0x0204
def pfcPausedLong : Nat := 0x0205
def ctrlCreated : Nat := 0x0301
def ctrlDestroyed : Nat := 0x0302
def katoExpired : Nat := 0x0303
def hostRejected : Nat := 0x0304
def anaState : Nat := 0x0305
def eraseDone : Nat := 0x0306
def eraseFailed : Nat := 0x0307
def eraseResumed : Nat := 0x0308
def nsMismatch : Nat := 0x0309
def stagingHigh : Nat := 0x0401
def stagingNormal : Nat := 0x0402
def writeStalled : Nat := 0x0403
def dedupCollision : Nat := 0x0404
def indexPageRebuild : Nat := 0x0405
def indexPageRebuilt : Nat := 0x0406
def keySlotChanged : Nat := 0x0501
def entropyFault : Nat := 0x0502
def digestForcedRelease : Nat := 0x0503
def keyMissing : Nat := 0x0504
def mapPinned : Nat := 0x0601
def mapAreaHigh : Nat := 0x0602
def mapPagesLow : Nat := 0x0603
def layerFrozen : Nat := 0x0604
def snapDeleted : Nat := 0x0605
def mapLostSwept : Nat := 0x0606
def mapPageLost : Nat := 0x0607
def mapConsistency : Nat := 0x0608
def mcacheParity : Nat := 0x0609
def mcacheParityFatal : Nat := 0x060A
def mcacheWayDisabled : Nat := 0x060B
def mapCheckDone : Nat := 0x060C
def stripeLost : Nat := 0x0701
def stripeDiscarded : Nat := 0x0702
def stripeAbandoned : Nat := 0x0703
def rebuildStart : Nat := 0x0704
def rebuildDone : Nat := 0x0705
def rebuildBelowFloor : Nat := 0x0706
def journalDegraded : Nat := 0x0707
def journalRepaired : Nat := 0x0708
def gcReserve : Nat := 0x0709
def layoutStalled : Nat := 0x070A
def forwardAreaHigh : Nat := 0x070B
def lostTableFull : Nat := 0x070C
def moduleRetired : Nat := 0x070D
def plinthLinkUp : Nat := 0x0801
def plinthLinkDown : Nat := 0x0802
def moduleAttached : Nat := 0x0803
def moduleDetached : Nat := 0x0804
def moduleMismatch : Nat := 0x0805
def fenced : Nat := 0x0806
def plinthRetryExhausted : Nat := 0x0807
def flashEarlyWarning : Nat := 0x0808
def flashReadLevelEnvelope : Nat := 0x0809
def plinthEnvelope : Nat := 0x080A
def blockRetired : Nat := 0x080B
def dieFailed : Nat := 0x080C
def flashRefresh : Nat := 0x080D
def eraseReissued : Nat := 0x080E
def startDeferredLong : Nat := 0x080F
def scrubPassDone : Nat := 0x0810
def ringJoined : Nat := 0x0901
def ringDirectionLost : Nat := 0x0902
def headJoined : Nat := 0x0903
def headFailed : Nat := 0x0904
def isolated : Nat := 0x0905
def takeoverStart : Nat := 0x0906
def takeoverDone : Nat := 0x0907
def takeoverUnmirrored : Nat := 0x0908
def mirrorLost : Nat := 0x0909
def mirrorLive : Nat := 0x090A
def domainAcquired : Nat := 0x090B
def domainReleased : Nat := 0x090C
def domainTaken : Nat := 0x090D
def claimFailed : Nat := 0x090E
def replDeltaDone : Nat := 0x090F
def replFailed : Nat := 0x0910
def replSyncBroken : Nat := 0x0911
def dramTrained : Nat := 0x0A01
def dimmExcluded : Nat := 0x0A02
def dramInsufficient : Nat := 0x0A03
def dramEarlyWarning : Nat := 0x0A04
def lintelUncorrectable : Nat := 0x0A05
def lintelFatal : Nat := 0x0A06
def dramRowRepairQueued : Nat := 0x0A07
def dramRowRepaired : Nat := 0x0A08
def jointReplay : Nat := 0x0A09
def fabricEarlyWarning : Nat := 0x0A0A
def ksStarvation : Nat := 0x0A0B
def vaultEarlyWarning : Nat := 0x0B01
def vaultReadFault : Nat := 0x0B02
def vaultBlockRetired : Nat := 0x0B03
def vaultSpareLow : Nat := 0x0B04
def vaultProtection : Nat := 0x0B05
def vaultLowered : Nat := 0x0B06
def updateOpened : Nat := 0x0B07
def updateClosed : Nat := 0x0B08
def imageRejected : Nat := 0x0B09
def imageFallback : Nat := 0x0B0A
def imageConfirmed : Nat := 0x0B0B
def settingsReset : Nat := 0x0B0C
def recoveryBoot : Nat := 0x0B0D
def dumpStart : Nat := 0x0C01
def jointFatal : Nat := 0x0C02
def resetCause : Nat := 0x0C03
def footingEntered : Nat := 0x0C04
def footingLeft : Nat := 0x0C05
def internalFault : Nat := 0x0C06
def errorLogHigh : Nat := 0x0C07
def dumpCleared : Nat := 0x0C08
def dumpHeld : Nat := 0x0C09

/-- Every event code of the chip (R432). -/
def codes : List Nat :=
  [0x0001, 0x0002, 0x0003, 0x0004, 0x0005, 0x0006, 0x0007, 0x0008, 0x0009, 0x000A, 0x0101, 0x0102, 0x0103,
   0x0104, 0x0105, 0x0106, 0x0110, 0x0111, 0x0201, 0x0202, 0x0203, 0x0204, 0x0205, 0x0301, 0x0302, 0x0303,
   0x0304, 0x0305, 0x0306, 0x0307, 0x0308, 0x0309, 0x0401, 0x0402, 0x0403, 0x0404, 0x0405, 0x0406, 0x0501,
   0x0502, 0x0503, 0x0504, 0x0601, 0x0602, 0x0603, 0x0604, 0x0605, 0x0606, 0x0607, 0x0608, 0x0609, 0x060A,
   0x060B, 0x060C, 0x0701, 0x0702, 0x0703, 0x0704, 0x0705, 0x0706, 0x0707, 0x0708, 0x0709, 0x070A, 0x070B,
   0x070C, 0x070D, 0x0801, 0x0802, 0x0803, 0x0804, 0x0805, 0x0806, 0x0807, 0x0808, 0x0809, 0x080A, 0x080B,
   0x080C, 0x080D, 0x080E, 0x080F, 0x0810, 0x0901, 0x0902, 0x0903, 0x0904, 0x0905, 0x0906, 0x0907, 0x0908,
   0x0909, 0x090A, 0x090B, 0x090C, 0x090D, 0x090E, 0x090F, 0x0910, 0x0911, 0x0A01, 0x0A02, 0x0A03, 0x0A04,
   0x0A05, 0x0A06, 0x0A07, 0x0A08, 0x0A09, 0x0A0A, 0x0A0B, 0x0B01, 0x0B02, 0x0B03, 0x0B04, 0x0B05, 0x0B06,
   0x0B07, 0x0B08, 0x0B09, 0x0B0A, 0x0B0B, 0x0B0C, 0x0B0D, 0x0C01, 0x0C02, 0x0C03, 0x0C04, 0x0C05, 0x0C06,
   0x0C07, 0x0C08, 0x0C09]

/-- The codes of severity 0. -/
def severity0 : List Nat :=
  [0x0004, 0x0005, 0x0006, 0x0008, 0x0101, 0x0102, 0x0105, 0x0106, 0x0201, 0x0203, 0x0301, 0x0302, 0x0305,
   0x0306, 0x0402, 0x0406, 0x0501, 0x0601, 0x0604, 0x0605, 0x060C, 0x0705, 0x0708, 0x070D, 0x0801, 0x0803,
   0x0809, 0x080A, 0x080D, 0x0810, 0x0901, 0x0903, 0x0907, 0x090A, 0x090B, 0x090C, 0x090F, 0x0A01, 0x0A08,
   0x0B05, 0x0B07, 0x0B08, 0x0B0B, 0x0C05, 0x0C08]

/-- The codes of severity 2. EV_RESET_CAUSE is of severity 1 or 2: its raiser says which. -/
def severity2 : List Nat :=
  [0x0002, 0x0003, 0x0007, 0x0103, 0x0104, 0x0307, 0x0502, 0x0607, 0x0608, 0x0701, 0x0707, 0x070A, 0x0805,
   0x0806, 0x080C, 0x0904, 0x0905, 0x0908, 0x090D, 0x090E, 0x0910, 0x0A02, 0x0A03, 0x0A05, 0x0B02, 0x0B09,
   0x0B0A, 0x0C06]

/-- The codes of severity 3. -/
def severity3 : List Nat :=
  [0x060A, 0x070C, 0x0A06, 0x0C01, 0x0C02, 0x0C04]

/-- Severity of an event (R87); EV_RESET_CAUSE with causes 5 to 8 is raised with severity 2 by its raiser. -/
def severity (code : Nat) : Nat :=
  if severity3.contains code then 3 else if severity2.contains code then 2 else if severity0.contains code then 0 else 1

/-- Codes that EVENT_CONFIG cannot mask (R89). -/
def unmaskable (code : Nat) : Bool :=
  severity code ≥ 2 || code == ringFault || code == pcieReset || code == resetCause

/-- The class of a fault (R427, R459): 0 or 1 without an error record, 2 failed request, 3 data lost, 4 fatal with a
dump, 5 fatal with footing mode. `cause` is the first byte of the params of EV_MAP_CONSISTENCY and EV_RESET_CAUSE. -/
def faultClass (code severity cause : Nat) : Nat :=
  if severity < 2 then severity
  else if severity = 3 then (if code = lostTableFull || code = footingEntered then 5 else 4)
  else if code = stripeLost || code = mapPageLost || code = takeoverUnmirrored then 3
  else if code = mapConsistency then (if cause = 2 || cause = 5 then 3 else 2)
  else if code = resetCause then (if cause = 5 then 4 else 6)
  else 2

/-- The island that raises a code when its raiser names none (R11, R87). -/
def island (code : Nat) : Nat :=
  if code = ringFault || code = pcieReset then 33
  else if 0x0609 ≤ code && code ≤ 0x060B then 20
  else if 0x090F ≤ code && code ≤ 0x0911 then 31
  else match code / 256 with
    | 0 => 34 | 2 => 8 | 3 => 10 | 4 => 11 | 5 => 17 | 6 => 19 | 7 => 21 | 8 => 22 | 9 => 32 | 10 => 28 | _ => 0

end Sys2Proof.Machine.Ev
end

