-- ==== Sys2Proof/Machine/DigestData.lean ====
section
/-! DEFINITION. State of the digest channels and the key slots (07). Each field's comment gives its width, the rule
that names it and its value at reset. -/

namespace Sys2Proof.Machine

/-- The states of R189. -/
inductive ChanState where
  | free
  | owned
  | lastWord
deriving DecidableEq, Repr

/-- The message a channel carries, and what a suspension saves (R189, R195). `bytes` stands for the chaining value and
the partial block: the message received so far; its length is the internal count. -/
structure Message where
  algorithm : Nat := 0
  mode : Nat := 0
  keySlot : Nat := 0xFF
  key : List Byte := []
  keyGen : Nat := 0
  declared : Nat := 0
  bytes : List Byte := []
  owner : Nat := 0
deriving DecidableEq, Repr

/-- A queued DG_START or DG_RESUME (R191). -/
structure Waiter where
  acc : Nat
  deadline : Nat
deriving DecidableEq, Repr

/-- A digest channel 0 to 34 (R189). -/
structure Channel where
  state : ChanState := .free             -- 2 | 07 R189 | FREE
  gen : Nat := 0                         -- 24 | 07 R190 generation | DESIGN CHOICE 0
  msg : Message := {}                    -- message state | 07 R189, R195 | none
  waiters : List Waiter := []            -- FIFO of 16 | 07 R191 | empty
  lwData : List Byte := []               -- 64 | 03 R90 DG_LW_DATA[c] | 0
  lwError : Bool := false                -- 1 | 03 R90 DG_LW_STATUS.ERROR | 0
  finish : Option (Nat × Nat) := none    -- (accept stamp, deadline tick) | 07 R194 DG_FINISH awaiting its last word | none
deriving DecidableEq, Repr

/-- A suspension record or shadow (R195); `lost` when an uncorrectable codeword freed it (R374). -/
structure SaveSlot where
  gen : Nat := 0
  saved : Option Message := none
  lost : Bool := false
deriving DecidableEq, Repr

/-- The digest engine (R188 to R198). -/
structure Digest where
  channels : List Channel := List.replicate 35 {}  -- 35 channels | 07 R189 | FREE
  poolWaiters : List (List Waiter) := [[], []]  -- two FIFOs of 16 | 07 R191 | empty
  records : Tab SaveSlot := []           -- 1,024 records | 07 R195 | free, generation DESIGN CHOICE 0
  shadows : Tab SaveSlot := []           -- 6 shadows | 07 R195 | free, generation DESIGN CHOICE 0
  taken34 : Bool := false                -- 1 | 07 R188 channel 34 serves an open update | 0
  grant34 : Option Nat := none           -- packet | 07 R191, 13 R408 queued UPDATE_OPEN that took channel 34 | none
deriving DecidableEq, Repr

/-- A key slot (R199). -/
structure KeySlot where
  kind : Nat := 0                        -- 8 | 07 R199 kind, 0 empty | empty
  attributes : Nat := 0                  -- 8 | 07 R199 | empty
  origin : Nat := 0                      -- 8 | 07 R199 | empty
  key : List Byte := []                  -- key material | 07 R199 | empty
  gen : Nat := 0                         -- 32 | 07 R199 generation | DESIGN CHOICE 0
  loadCount : Nat := 0                   -- 16 | 07 R199 load count, kept in the Vault | DESIGN CHOICE 0 as shipped
  nsRefs : Nat := 0                      -- 32 | 07 R199, R207 namespace definitions that name the slot | 0
  changed : Nat := 0                     -- 64 | 07 R213 change stamp | DESIGN CHOICE 0
  invocation : Nat := 0                  -- 64 | 07 R211 encryptions under this placement | 0
  missing : Bool := false                -- 1 | 07 R207 EV_KEY_MISSING raised since the slot was emptied | 0
deriving DecidableEq, Repr

/-- Key slots, policy, entropy (R199 to R211). -/
structure Keys where
  slots : List KeySlot := List.replicate 64 {}  -- 64 slots | 07 R199 | empty
  policy : Nat := 0                      -- 2 | 07 R201 KEY_POLICY | 0
  entropyFailed : Bool := false          -- 1 | 07 R204 a health test has failed | 0
deriving DecidableEq, Repr

end Sys2Proof.Machine
end

