-- ==== Sys2Proof/Machine/PcieData.lean ====
section
/-! DEFINITION. State of the PCIe function: rings, packets in progress, events, MSI-X, direct registers (03). Each
field's comment gives its width, the rule that names it and its value at reset. -/

namespace Sys2Proof.Machine

/-- The ring states of R72; the event ring uses the first two and the last (R457). -/
inductive RingState where
  | disabled
  | enabled
  | stopping
  | faulted
deriving DecidableEq, Repr

/-- The code of RING_STATUS.STATE and EVQ_STATUS.STATE (R75). -/
def RingState.code : RingState → Nat
  | .disabled => 0
  | .enabled => 1
  | .stopping => 2
  | .faulted => 3

/-- A packet fetched and not yet replied (R77, R83). `waiting` is true once its effect has been taken and only the
end of the work it started is awaited; `queued` while it waits for a resource under the queue flag, when it holds no packet of its
object back (R85). `discard` is true when a PCIe reset has taken its ring away (R74). -/
structure Packet where
  ring : Nat
  opcode : Nat
  ordered : Bool
  queue : Bool
  tag : Nat
  params : List Byte
  dataLen : Nat
  dataAddr : Nat
  acc : Nat
  waiting : Bool := false
  queued : Bool := false
  discard : Bool := false
deriving DecidableEq, Repr

/-- A status reply (R83). `dataOut` is what the chip wrote to the data buffer, from offset `dataAt` of it. -/
structure Reply where
  status : Nat
  opcode : Nat
  tag : Nat
  sqHead : Nat
  ring : Nat
  phase : Bool
  dataOut : List Byte
  acc : Nat
  result : Nat
  dataAt : Nat := 0
deriving DecidableEq, Repr

/-- The 32 bytes of a reply entry (R7, R83). -/
def Reply.bytes (r : Reply) : List Byte :=
  let flags := (if r.phase then 1 else 0) + (if r.dataOut.isEmpty then 0 else 2)
  le 2 r.status ++ le 2 r.opcode ++ le 4 r.tag ++ le 2 r.sqHead ++ le 1 r.ring ++ le 1 flags ++ le 4 r.dataOut.length ++
    le 8 r.acc ++ le 8 r.result

/-- A reply that waits on chip while DMA is stopped (R67): everything but the fields fixed when it is written. `order` numbers the
replies in the order in which their packets finished (R83). -/
structure PendingReply where
  status : Nat
  opcode : Nat
  tag : Nat
  dataOut : List Byte
  acc : Nat
  result : Nat
  dataAt : Nat := 0
  ordered : Bool := false
  order : Nat := 0
deriving DecidableEq, Repr

/-- One ring pair (R68 to R75). -/
structure Ring where
  sqBase : W64 := 0                      -- 64 | 03 R75 | 0
  rqBase : W64 := 0                      -- 64 | 03 R75 | 0
  sizeLog2 : Nat := 0                    -- 4 | 03 R75 RING_CFG.SIZE_LOG2 | 0
  vector : Nat := 0                      -- 8 | 03 R75 RING_CFG.MSIX_VECTOR | 0
  irqEn : Bool := false                  -- 1 | 03 R75 RING_CFG.IRQ_EN | 0
  enable : Bool := false                 -- 1 | 03 R75 RING_CFG.ENABLE | 0
  state : RingState := .disabled         -- 2 | 03 R72, R75 RING_STATUS.STATE | DISABLED
  faultCause : Nat := 0                  -- 4 | 03 R73, R75 RING_STATUS.FAULT_CAUSE | 0
  lostReplies : Nat := 0                 -- 16, saturating | 03 R72, R75 RING_STATUS.LOST_REPLIES | 0
  sqHead : Nat := 0                      -- 16 | 03 R75 SQ_HEAD | 0
  sqTail : Nat := 0                      -- 16 | 03 R68 SQn_TAIL_DB as last accepted | 0
  rqTail : Nat := 0                      -- 16 | 03 R75 RQ_TAIL | 0
  phase : Bool := false                  -- 1 | 03 R69, R75 RQ_TAIL [16] | 0
  rqHead : Nat := 0                      -- 16 | 03 R68 RQn_HEAD_DB as last accepted | 0
  released : Bool := false               -- 1 | 03 R72 ENABLE has been written 0 in FAULTED | 0
  refused : Bool := false                -- 1 | 03 R72 a reply write of the pair has been refused | 0
  inProgress : List Packet := []         -- at most 64 packets | 03 R71, R75 RING_STATUS.IN_PROGRESS | none
  held : List PendingReply := []         -- list | 03 R67 replies waiting on chip, oldest first | none
deriving DecidableEq, Repr

/-- An event (R87). `complete` is false for EV_PCIE_RESET until its params are known (R74). -/
structure Event where
  code : Nat
  severity : Nat
  island : Nat
  seq : Nat
  stamp : Nat
  location : Nat
  params : List Byte
  complete : Bool := true
deriving DecidableEq, Repr

/-- The 64 bytes of an event packet, with the phase and the lost count of its writing (R7, R87). -/
def Event.bytes (e : Event) (phase : Bool) (lostCount : Nat) : List Byte :=
  let flags := (if phase then 1 else 0) + (if lostCount = 0 then 0 else 2)
  le 2 e.code ++ le 1 1 ++ le 1 e.severity ++ le 1 flags ++ le 1 e.island ++ le 2 lostCount ++ le 8 e.seq ++ le 8 e.stamp ++
    le 8 e.location ++ fit 32 e.params

/-- A PCIe reset whose EV_PCIE_RESET waits for its params: the event's stamp, the packets and replies discarded so far, and the
started packets that still run (R74). -/
structure PcieResetCount where
  stamp : Nat
  packets : Nat
  replies : Nat
  left : List Nat
deriving DecidableEq, Repr

/-- A record of the error log (R429). -/
structure ErrorRecord where
  code : Nat
  severity : Nat
  cls : Nat
  island : Nat
  count : Nat
  firstStamp : Nat
  lastStamp : Nat
  location : Nat
  params : List Byte
  seqs : List Nat
deriving DecidableEq, Repr

/-- Events and the error log (R87 to R89, R429, R430). -/
structure Events where
  counters : Tab Nat := []               -- 64 per code | 03 R86 EVENT_COUNTS | 0
  masked : List Nat := []                -- set of codes | 03 R89 | every code posts
  backlog : List Event := []             -- at most 1,024 | 03 R88 | empty
  seq : Nat := 0                         -- 64 | 03 R87 last event_seq given | 0
  lost : Nat := 0                        -- 64, saturating | 03 R75 EVQ_LOST | 0
  lostSince : Nat := 0                   -- 16, saturating | 03 R87 lost_count | 0
  posted : List Event := []              -- newest posted events, at most 1,024 | 14 R439 section 2 | none
  errors : List ErrorRecord := []        -- at most 4,096 records, oldest first | 14 R429 | empty
  dropped : Nat := 0                     -- 64 | 14 R430 records dropped | 0
  highRaised : Bool := false             -- 1 | 14 R430 EV_ERROR_LOG_HIGH raised | 0
deriving DecidableEq, Repr

/-- One MSI-X vector: its table entry and the interval of R76. -/
structure Vector32 where
  addr : W64 := 0                        -- 64 | 03 R75 MSI-X table | PRESUMED 0 (PCIe)
  data : W32 := 0                        -- 32 | 03 R75 MSI-X table | PRESUMED 0 (PCIe)
  control : W32 := 1                     -- 32 | 03 R75 MSI-X table, bit 0 masks | PRESUMED 1 (PCIe: masked)
  pending : Bool := false                -- 1 | 03 R75 MSI-X PBA | 0
  interval : Bool := false               -- 1 | 03 R76 the 1 us interval runs | 0
  again : Bool := false                  -- 1 | 03 R76 a message is held back by the interval | 0
deriving DecidableEq, Repr

/-- The event ring (R457). -/
structure EventRing where
  base : W64 := 0                        -- 64 | 03 R75 EVQ_BASE | 0
  sizeLog2 : Nat := 0                    -- 5 | 03 R75 EVQ_CFG.SIZE_LOG2 | 0
  vector : Nat := 0                      -- 8 | 03 R75 EVQ_CFG.MSIX_VECTOR | 0
  irqEn : Bool := false                  -- 1 | 03 R75 EVQ_CFG.IRQ_EN | 0
  enable : Bool := false                 -- 1 | 03 R75 EVQ_CFG.ENABLE | 0
  state : RingState := .disabled         -- 2 | 03 R457 EVQ_STATUS.STATE | DISABLED
  faultCause : Nat := 0                  -- 4 | 03 R457 EVQ_STATUS.FAULT_CAUSE | 0
  tail : Nat := 0                        -- 16 | 03 R75 EVQ_TAIL | 0
  phase : Bool := false                  -- 1 | 03 R75 EVQ_TAIL [16] | 0
  head : Nat := 0                        -- 16 | 03 R68 EVQ_HEAD_DB as last accepted | 0
deriving DecidableEq, Repr

/-- The PCIe endpoint function (R66, R67, R71, R74). -/
structure Pcie where
  bme : Bool := false                    -- 1 | 03 R67 Bus Master Enable | PRESUMED 0 (PCIe)
  d0 : Bool := true                      -- 1 | 03 R67 D-state D0 or D3hot | PRESUMED D0 (PCIe)
  perstHigh : Bool := false              -- 1 | 02 R53, R56 PCIE_PERST_L level | DESIGN CHOICE low
  linkUp : Bool := false                 -- 1 | 02 R46, R52 PCIe link | DESIGN CHOICE down
  answers : Bool := false                -- 1 | 02 R56 endpoint answers configuration requests | 0
  rings : List Ring := List.replicate 16 {}  -- 16 ring pairs | 03 R72 | every pair DISABLED
  rotation : Nat := 0                    -- 4 | 03 R71 next ring of the rotation | DESIGN CHOICE 0
  evq : EventRing := {}                  -- event ring | 03 R457 | DISABLED
  vectors : List Vector32 := List.replicate 32 {}  -- 32 vectors | 03 R76 | see the fields
  resets : List PcieResetCount := []     -- list | 03 R74 PCIe resets whose counts are not complete | none
  finished : Nat := 0                    -- counter | 03 R67, R83 replies kept on chip so far | 0
  orphans : List Packet := []            -- list | 03 R74 started packets whose ring a PCIe reset took away | none
deriving DecidableEq, Repr

/-- Direct registers of BAR1 with storage of their own (R90); the digest last-word registers stand with the digest
channels, and CHIP_STATE, FOOTING_STATUS and DUMP_STATUS are read from the state they report. -/
structure Direct where
  stampHi : W32 := 0                     -- 32 | 03 R90 STAMP_HI | 0
  scratch : W32 := 0                     -- 32 | 03 R90 SCRATCH | 0
  dumpWindowBase : W64 := 0              -- 64 | 03 R90 DUMP_WINDOW_BASE | 0
  ksPrio : List W32 := List.replicate 256 0xFF#32  -- 256 x 32 | 03 R90 KS_PRIO[a] | 0x0000_00FF
  heartbeat : W16 := 0                   -- 16 | 03 R90 CHIP_STATE.HEARTBEAT | 0
  phase : Nat := 0                       -- 4 | 03 R90 CHIP_STATE.PHASE | 0
  recoveryBoot : Bool := false           -- 1 | 03 R90 CHIP_STATE.RECOVERY_BOOT | 0
deriving DecidableEq, Repr

end Sys2Proof.Machine
end

