-- ==== Sys2Proof/Machine/FaultsData.lean ====
section
/-! DEFINITION. State of the rubble dump, the reset causes and footing mode (14). Each field's comment gives its width,
the rule that names it and its value at reset. -/

namespace Sys2Proof.Machine

/-- The dump header, and the header page of a Vault summary (R438, R440, R441). -/
structure DumpHeader where
  state : Nat
  cause : Nat
  fatalClass : Nat
  seq : Nat
  fatalStamp : Nat
  endStamp : Nat
  location : Nat
  fatalEvent : Nat
  region : Nat
  flags : Nat
  headId : Nat
  configuration : Nat
  phase : Nat
  imageVersion : Nat
  epoch : Nat
  channels : Nat
  highestWsn : Nat
  dumpSize : Nat
  runStart : Nat
  owned : List Nat
  fatalParams : List Byte
deriving DecidableEq, Repr

/-- A dump as copied: its header, the sections the model holds as records (R439 sections 1 and 2), the lines each section
copied uncorrected, and the sections that failed. -/
structure DumpImage where
  header : DumpHeader
  errors : List ErrorRecord
  events : List Event
  faults : List (Nat × Nat) := []
  failed : List Nat := []
deriving DecidableEq, Repr

/-- A fault of class 4 whose dump has not started (R427, R434). -/
structure FatalFault where
  event : Nat
  region : Nat
  location : Nat
  stamp : Nat
  params : List Byte
deriving DecidableEq, Repr

/-- How far the sequence of R434 has come. -/
inductive DumpStage where
  | none
  | copying
  | copied
deriving DecidableEq, Repr

/-- The rubble dump (R434 to R441). -/
structure Dump where
  fault : Option FatalFault := none      -- record | 14 R434 class-4 fault awaiting its dump | none
  second : Bool := false                 -- 1 | 14 R435 a second class-4 fault met the dump | 0
  stage : DumpStage := .none             -- 2 | 14 R434 | none
  state : Nat := 0                       -- 2 | 03 R90 DUMP_STATUS.STATE | 0
  vaultSummary : Bool := false           -- 1 | 03 R90 DUMP_STATUS.VAULT_SUMMARY | 0
  size : Nat := 0                        -- 64 | 03 R90 DUMP_SIZE | 0
  image : Option DumpImage := none       -- dump region | 14 R436 | none
  wiped : Bool := false                  -- 1 | 14 R453 DUMP_CLEAR zeroed the header of the region | 0
deriving DecidableEq, Repr

/-- Reset causes, fault injection (R442 to R446, R453). -/
structure Run where
  lastCause : Nat := 0                   -- 8 | 14 R442, R453 last reset cause | DESIGN CHOICE 0 (none reported yet)
  start : Nat := 0                       -- 64 | 14 R445 run_start_stamp | DESIGN CHOICE 0
  lastCheckpoint : Nat := 0              -- 64 | 01 R30 stamp of the newest checkpoint of this run | DESIGN CHOICE 0
  wsnCeiling : Nat := 0                  -- 64 | 01 R28, 14 R445 wsn_ceiling of the newest checkpoint | DESIGN CHOICE 0
  hoursFrom : Nat := 0                   -- 64, stamp | 05 R155 power-on hours counted up to | 0
  powerOnReset : Bool := true            -- 1 | 14 R442 this run began with a power-on reset | true at power-on
  inject : Option (Nat × Nat) := none    -- (target, region) | 14 R453 armed fault | none
deriving DecidableEq, Repr

/-- Footing mode (R447 to R451). -/
structure Footing where
  active : Bool := false                 -- 1 | 03 R90 FOOTING_STATUS.ACTIVE | 0
  readService : Bool := false            -- 1 | 03 R90 FOOTING_STATUS.READ_SERVICE | 0
  cause : Nat := 0                       -- 4 | 03 R90 FOOTING_STATUS.CAUSE | 0
  startup : List Nat := []               -- list of causes | 14 R447 causes found at start-up | none
  stopped : Bool := false                -- 1 | 14 R448 background work stopped | 0
  left : Bool := false                   -- 1 | 14 R451 this head left the ring on entry, and rejoins after a reset | 0
deriving DecidableEq, Repr

end Sys2Proof.Machine
end

