-- ==== Sys2Proof/Machine/Outputs.lean ====
section
/-! DEFINITION. What the block sends out: one constructor per kind of message an outside party can see. The list
`State.out` holds them newest first; it is the model's own field (log entry 3). -/

namespace Sys2Proof.Machine

inductive Out where
  /-- An MSI-X message (R76). -/
  | msix (vector : Nat) (addr : W64) (data : W32)
  /-- A reply entry written to a reply ring (R83). -/
  | reply (slot : Nat) (r : Reply)
  /-- An event packet written to the event ring (R87). -/
  | event (slot : Nat) (phase : Bool) (lostCount : Nat) (e : Event)
  /-- The value a register read returned. -/
  | readData (value : Nat)
  /-- A keystone arbiter's grant (R380): arbiter, requester, rank it won with. -/
  | grant (arbiter requester rank : Nat)
  /-- A Plinth COMMAND frame (R293, R296), with the codewords, soft step and read-level offsets of a READ, the last
  parameter (cause, frame_seq, below or count) of other opcodes, the token cost of a start and the link_seq given when it is sent. -/
  | plinthCommand (link module head cmdId attempt opcode domain die addr page claim : Nat) (reads : List Nat) (mode : Nat)
      (offsets : List Int) (param cost : Nat) (seq : Nat)
  /-- A Plinth DATA frame to the bridge. -/
  | plinthData (link module cmdId index : Nat) (bytes : List Byte) (head attempt seq : Nat)
  /-- HELLO (R295), CREDIT (R294) and KEEPALIVE (R292) frames. -/
  | plinthHello (link session head credits : Nat)
  | plinthCredit (link limit : Nat)
  | plinthKeepalive (link seq : Nat)
  /-- An Ethernet frame the chip sends by itself: an ARP or Neighbor reply, or a control frame (R97, R98). -/
  | frame (lport pcp : Nat) (bytes : List Byte)
  /-- A CM message by its name: the local context, the remote QPN, the starting PSN and the private data or reason
  (R103, R105). -/
  | cm (lport : Nat) (name : String) (conn remoteQpn psn : Nat) (data : List Byte)
  /-- A request packet of a connection (R111): BTH opcode, PSN, AckReq, RETH and payload. -/
  | packet (lport pcp conn op psn : Nat) (ackReq : Bool) (va key len : Nat) (payload : List Byte)
  /-- A read response, an acknowledgement and a negative acknowledgement (R111 to R115, R118). -/
  | readResponse (conn op psn : Nat) (payload : List Byte)
  | ack (conn psn : Nat)
  | nak (conn psn : Nat) (code : Aeth)
  /-- A PFC frame for one priority: XOFF with quanta, XON with 0 (R106). -/
  | pfc (lport prio quanta : Nat)
  /-- A Congestion Notification Packet (R109). -/
  | cnp (conn pcp dscp : Nat)
  /-- A coping-ring frame (R343): direction, type, origin, ttl, seq, body. -/
  | ring (direction type origin ttl seq : Nat) (body : List Byte)
  /-- The coping-ring bypass closes or opens (R58, R344). -/
  | bypass (closed : Bool)
  /-- The bits a TAP instruction shifted out on TDO (R64). -/
  | tap (bits : List Bool)
  /-- The TAP drives the boundary cells named, releases every pin (no cell), or lets go of the pins again (R64). -/
  | pins (cells : Option (List Bool))
deriving DecidableEq, Repr

/-- A Plinth frame with its link_seq (R293). -/
def Out.numbered (n : Nat) : Out → Out
  | .plinthCommand l m h c a o d i b p k r x f q t _ => .plinthCommand l m h c a o d i b p k r x f q t n
  | .plinthData l m c i b h a _ => .plinthData l m c i b h a n
  | o => o

end Sys2Proof.Machine
end

