-- ==== Sys2Proof/Machine/FlashData.lean ====
section
/-! DEFINITION. State of the Plinth links, flash modules and flash sequencers (10). Each field's comment gives its
width, the rule that names it and its value at reset. -/

namespace Sys2Proof.Machine

/-- Link states of R292. -/
inductive LinkState where
  | disabled
  | training
  | hello
  | up
deriving DecidableEq, Repr

/-- A Plinth link (R292 to R295, R325). -/
structure Link where
  state : LinkState := .disabled         -- 2 | 10 R292 | DISABLED
  enable : Bool := false                 -- 1 | 10 R325 LINK_CONFIG | 0
  plane : Nat := 0                       -- 1 | 10 R325 | 0
  invert : Nat := 0                      -- 2 | 10 R325 | 0
  session : Nat := 0                     -- 64 | 10 R295 | DESIGN CHOICE 0 before the first training
  module : Nat := 0xFFFF                 -- 16 | 10 R295 module reached | DESIGN CHOICE 0xFFFF none
  seq : Nat := 0                         -- 16 | 10 R293 link_seq of the next frame sent | 0
  limit : Nat := 0                       -- 16 | 10 R294 credit_limit received | DESIGN CHOICE 0
  rxSeq : Nat := 0                       -- 16 | 10 R294 link_seq expected next | 0
  freed : Nat := 0                       -- 8 | 10 R294 frames freed since the last CREDIT | 0
  lastRx : Nat := 0                      -- 64, tick | 10 R292 tick of the last good frame | 0
  downSince : Nat := 0                   -- 64, tick | 10 R324 tick in which it left UP | 0
  envelope : Option (Nat × Nat) := none  -- (Tj band, load band) | 10 R290, 04 R95 | none stored
  txq : List (Nat × Out) := []           -- frames waiting for credits or for UP, with their cmd_id | 10 R294, R324 | none
  counters : List Nat := List.replicate 6 0  -- 6 x 64, saturating | 10 R325 LINK_STATUS | 0
deriving DecidableEq, Repr

/-- The place of a block group (R255). -/
inductive Place where
  | spare
  | free (domain : Nat)
  | segment (seg : Nat)
  | out
deriving DecidableEq, Repr

/-- The chip's copy of a block-group record (R306), and what the chip keeps beside it. -/
structure BgRecord where
  state : Nat := 0                       -- 8 | 10 R306 | as read from the bridge
  domain : Nat := 0                      -- 8 | 10 R306 | as read from the bridge
  flags : Nat := 0                       -- 8 | 10 R306 | as read from the bridge
  eraseCount : Nat := 0                  -- 32 | 10 R306 | as read from the bridge
  lastPage : Nat := 0xFFFF               -- 16 | 10 R306 | as read from the bridge
  readCount : Nat := 0                   -- 32 | 10 R306 | as read from the bridge
  place : Place := .out                  -- 2 | 09 R255 | out of every pool
  warned : Bool := false                 -- 1 | 10 R318 early warning raised since the last erase | 0
  refresh : Bool := false                -- 1 | 10 R320 refresh queued since the last erase | 0
  soft4 : List Nat := []                 -- stamps | 10 R322 reads that needed soft step 4, 24 h | none
  erasing : Bool := false                -- 1 | 10 R314, R315 an erase of this chip is queued, running or suspended | 0
  failed : Bool := false                 -- 1 | 09 R266, 10 R322 failed block group | 0
deriving DecidableEq, Repr

/-- A read-level entry (R319): `sent` counts the probe READs issued under it, `probes` holds by their number the bits corrected. -/
structure ReadLevel where
  valid : Bool := false
  band : Nat := 0
  offsets : List Int := []
  sent : Nat := 0
  probes : Tab Nat := []
deriving DecidableEq, Repr

/-- The NAND operation that a die runs or has suspended (R313). -/
structure DieOp where
  cmd : Nat
  erase : Bool
  domain : Nat
  addr : Nat
  since : Nat
  suspends : Nat := 0
  suspendedAt : Option Nat := none
  resumeQueued : Bool := false
deriving DecidableEq, Repr

structure Die where
  op : Option DieOp := none              -- operation | 10 R313 | none
  tempBand : Nat := 0                    -- 2 | 10 R319 last reported temperature band | DESIGN CHOICE 0
  levels : List ReadLevel := List.replicate 16 {}  -- 16 entries | 10 R319 | none derived
  retired : List Nat := []               -- stamps | 10 R322 block groups retired in 24 h | none
  failed : Bool := false                 -- 1 | 10 R322 | 0
deriving DecidableEq, Repr

/-- State of a module (R323 to R325). -/
inductive ModState where
  | detached
  | attached
  | retiring
deriving DecidableEq, Repr

/-- Why the chip reads a codeword range; the read's end goes to this consumer. -/
inductive ReadUse where
  /-- Setts of a host read, each with its place in the extent. -/
  | host (cmd : Nat) (raw whole : Bool) (setts : List (Nat × Nat))
  /-- A merge read of a write's sett (R165). -/
  | merge (cmd sett : Nat) (raw whole : Bool) (src : Nat)
  /-- A verify read of a sett or, with `ashlar`, of an ashlar of a write (R175). -/
  | verify (cmd unit : Nat) (ashlar raw whole : Bool) (src : Nat)
  | mapPage (mpn : Nat)
  | indexPage (domain page : Nat)
  | copy (pxa : Nat)
  | row (segment row : Nat)
  /-- All codewords of a stripe: a lost stripe takes the cause (R282, R321). -/
  | scrub (stripe cause : Nat)
  | recheck (nsid ashlar sett : Nat) (raw whole : Bool)
  | cold (nsid ashlar sett : Nat) (raw whole : Bool) (src : Nat)
  | repl (session seq index : Nat)
deriving DecidableEq, Repr

/-- What a Plinth command is for; its response settles that work. -/
inductive PlUse where
  | identify
  | scan
  | read (job cell : Nat)
  | program (stripe cell : Nat)
  | rebuild (segment cell row : Nat)
  | erase (addr : Nat)
  | journal (domain seq : Nat)
  | claim (domain : Nat)
  | blockClaim (addr domain : Nat)
  | blockReturn (addr : Nat)
  | blockRetire (addr : Nat)
  | suspend
  | resume
  | reclaim (domain : Nat)
  | query (acc : Nat)
  /-- The record of a block group is read to settle a command of that opcode (R464). -/
  | check (opcode addr domain cause : Nat)
  | journalRead (domain seq : Nat)
  | present (domain : Nat)
  | probe (domain : Nat)
deriving DecidableEq, Repr

/-- FLASH_CONFIG (R325). -/
structure FlashConfig where
  ewThreshold : Nat := 60                -- 16 | 10 R325 | 60
  scrubDays : Nat := 14                  -- 16 | 10 R325 | 14
  readLimit : Nat := 500000              -- 32 | 10 R325 | 500,000
  suspendRank : Nat := 1                 -- 8 | 10 R325 | 1
  maxSuspends : Nat := 8                 -- 8 | 10 R325 | 8
  minRunUs : Nat := 500                  -- 16 | 10 R325 | 500
  detachMs : Nat := 200                  -- 16 | 10 R325 | 200
deriving DecidableEq, Repr

/-- A command outstanding at a bridge (R296, R304). `reads` lists the codewords a READ asks for, `mode` its soft step,
`data` those that arrived undecoded, `decoded` the others, `errs` the bits corrected in them, `offsets` its read-level steps. `cost` is
the token cost of a start (R310), `config` the FLASH_CONFIG in force when the command was issued (R325). -/
structure PlCmd where
  id : Nat
  module : Nat
  opcode : Nat
  domain : Nat := 0
  die : Nat := 0
  addr : Nat := 0
  page : Nat := 0
  claim : Nat := 0
  rank : Nat := 0
  attempt : Nat := 0
  deadline : Option Nat := none
  use : PlUse
  reads : List Nat := []
  mode : Nat := 0
  got : Nat := 0
  bad : Bool := false
  param : Nat := 0
  frame : List Byte := []
  fencedRetry : Bool := false
  data : List (Nat × List Byte) := []
  entry : Nat := 0
  probe : Option Nat := none
  count : Nat := 0
  ready : Nat := 0
  slots : Nat := 0
  errs : Nat := 0
  decoded : Tab (List Byte) := []
  offsets : List Int := []
  cost : Nat := 0
  config : FlashConfig := {}
deriving DecidableEq, Repr

/-- A start waiting for its slot (R311): a PROGRAM, ERASE, RESUME or JOURNAL_APPEND. While it `waits` its die is busy and its ready stamp
has not been taken. -/
structure Start where
  module : Nat
  opcode : Nat
  domain : Nat
  die : Nat
  addr : Nat
  page : Nat := 0
  rank : Nat
  ready : Nat
  waits : Bool := false
  deferred : Bool := false
  slots : Nat := 0
  raised : Bool := false
  use : PlUse
  data : List Byte := []
  param : Nat := 0
deriving DecidableEq, Repr

/-- A READ waiting for its die (R312). -/
structure ReadReq where
  job : Nat
  cell : Nat
  module : Nat
  die : Nat
  addr : Nat
  page : Nat
  words : List Nat
  mode : Nat
  rank : Nat
  arrival : Nat
deriving DecidableEq, Repr

/-- A read of a range of one stripe: the codewords it needs, by cell x 16 + index, what has been decoded, the raw reads
of those not decoded yet, and those that are missing or undecodable (R253, R286, R317). `pending` marks an erase-pending answer (R314), `warn` an early
warning (R318); a finished read that waits for its user has `done` and its result; a page that failed its trailer check once has
`failedCheck` (R245). -/
structure ReadJob where
  use : ReadUse
  rank : Nat
  stripe : Nat
  off : Nat
  units : Nat
  need : List Nat
  want : List Nat
  got : Tab (List Byte) := []
  raw : Tab (List (List Byte)) := []
  bad : List Nat := []
  recon : Bool := false
  pending : Bool := false
  warn : Bool := false
  done : Bool := false
  result : Option (List Byte) := none
  failedCheck : Bool := false
deriving DecidableEq, Repr

/-- A flash module (R298, R323 to R325). -/
structure FModule where
  state : ModState := .detached          -- 2 | 10 R325 | detached
  ever : Bool := false                   -- 1 | 10 R325 attached at some time | 0
  identified : Bool := false             -- 1 | 10 R323 step 2 | 0
  scanned : Bool := false                -- 1 | 10 R323 step 3 | 0
  record : List Byte := []               -- 128 B | 10 R298 | none
  nextCmd : Nat := 1                     -- 32 | 10 R295 next cmd_id | 1
  sessions : Tab Nat := []               -- links | 10 R295 the session the bridge last accepted on each link | none
  dies : Tab Die := []                   -- dies | 10 R313, R319, R322 | see the fields
  exhausted : Nat := 0                   -- counter | 10 R324 consecutive commands with exhausted retries | 0
  claimed : List Nat := []               -- domains | 10 R301 domains whose claim this session presented | none
  admitted : Nat := 0                    -- 64 | 10 R325 SCHEDULE_STATUS starts admitted | 0
  longest : Nat := 0                     -- 32, slots | 10 R325 longest deferral | 0
  refusals : Nat := 0                    -- 64 | 10 R310, R325 ST_PL_TOKENS refusals | 0
  retired : Bool := false                -- 1 | 09 R285 EV_MODULE_RETIRED raised | 0
deriving DecidableEq, Repr

/-- Links, modules, sequencers (10). -/
structure Flash where
  links : List Link := List.replicate 96 {}  -- 96 links | 10 R292 | DISABLED
  modules : Tab FModule := []            -- modules | 10 R323 | none attached
  blocks : Tab BgRecord := []            -- block groups by 5-byte address | 10 R306 | none read
  cmds : List PlCmd := []                -- list | 10 R304 commands outstanding | none
  held : List PlCmd := []                -- list | 10 R300 commands that wait for room at their die or module | none
  starts : List Start := []              -- list | 10 R311 starts queued or deferred | none
  reads : List ReadReq := []             -- list | 10 R312 READs waiting | none
  jobs : Tab ReadJob := []               -- reads in progress | 10 R317, 09 R286 | none
  nextJob : Nat := 0                     -- counter | the model's own: name of the next read | DESIGN CHOICE 0
  config : FlashConfig := {}             -- FLASH_CONFIG (10 R325)
  slot : Nat := 0                        -- 16 | 10 R307 slot of the running schedule frame | 0
  frameEpoch : Nat := 0                  -- 32 | 10 R307 epoch of the running schedule frame | 0
  counters : List Nat := List.replicate 20 0  -- 20 x 64 | 10 R325 FLASH_COUNTERS | 0
  scrubNext : Nat := 0                   -- stripe | 10 R321 next stripe of the scrub pass | DESIGN CHOICE 0
  scrub : Nat × Nat × Nat := (0, 0, 0)   -- codewords, refreshes, rows decided in this pass | 10 R321 | 0
deriving DecidableEq, Repr

end Sys2Proof.Machine
end

