-- ==== Sys2Proof/Machine/HeadsData.lean ====
section
/-! DEFINITION. State of the head, ring, claims, mirroring and replication logic (11). Each field's comment gives its
width, the rule that names it and its value at reset. -/

namespace Sys2Proof.Machine

/-- Another head of the configuration (R329, R344 to R346, R364). -/
structure Peer where
  ip4 : List (List Byte) := [zeros 4, zeros 4]    -- 2 x 4 B | 11 R329 | as listed
  ip6 : List (List Byte) := [zeros 16, zeros 16]  -- 2 x 16 B | 11 R329 | as listed
  state : Nat := 0                       -- 8 | 11 R364 0 unknown, 1 active, 2 failed, 3 left | 0
  misses : List Nat := [0, 0]            -- 2 x 8 | 11 R345 | 0
  deadline : List Nat := [0, 0]          -- 2 x 64, tick | 11 R345 | 0
  lastBeat : Nat := 0                    -- 64, tick | 11 R364 | 0
  owned : Nat := 0                       -- 256 | 11 R343 owned bitmap of the last HEARTBEAT | 0
  highWsn : Nat := 0                     -- 64 | 11 R343 highest WSN of the last HEARTBEAT | 0
  claimed : List Nat := []               -- domains | 11 R348 CLAIM_DONE seen since the last HEARTBEAT | none
  lastPacket : Nat := 0                  -- 64, tick | 11 R346 last peer packet accepted | 0
  seqs : List Nat := []                  -- seqs | 11 R343 sequence numbers acted on | none
  retryAt : Nat := 0                     -- 64, tick | 11 R329 next connect attempt | 0
  mirrorPeer : Nat := 0                  -- 16 | 11 R343 mirror_peer of the last HEARTBEAT | 0
  seenWsn : Nat := 0                     -- 64 | 11 R333 highest WSN of this head seen | 0
  asked : Bool := false                  -- 1 | 11 R354 RESYNC_QUERY sent since RING_JOIN | 0
deriving DecidableEq, Repr

/-- Identity and ring settings of this head (R328, R344, R345, R364). -/
structure Head where
  configuration : Nat := 0               -- 8 | 11 R328, 00 0 not set, 1 Pair, 2 Mesh | 0
  headId : Nat := 0xFFFF                 -- 16 | 11 R328, 03 R86 | 0xFFFF
  hbInterval : Nat := 1024               -- 16, ticks | 11 R364 | 1,024
  hbMisses : Nat := 8                    -- 8 | 11 R364 | 8
  mirrorRetries : Nat := 3               -- 8 | 11 R364 | 3
  ackTicks : Nat := 15625                -- 32, ticks | 11 R364 | 15,625
  takeoverDelay : Nat := 4               -- 32, ms | 11 R364 | 4
  joined : Bool := false                 -- 1 | 11 R344, R364 ring state | 0
  ringSeq : Nat := 0                     -- 64 | 11 R343 seq of the last frame sent | 0
  beats : Nat := 0                       -- 32 | 11 R343 HEARTBEAT count | 0
  lostDir : Nat := 0                     -- 2 | 11 R345 directions lost | 0
  isolated : Bool := false               -- 1 | 11 R346 EV_ISOLATED raised | 0
  beatAt : Nat := 0                      -- 64, tick | 11 R344 next HEARTBEAT | 0
  peers : Tab Peer := []                 -- by head ID | 11 R329 | none
deriving DecidableEq, Repr

/-- Domain states of R347. -/
inductive DomState where
  | none
  | acquiring
  | owned
  | releasing
deriving DecidableEq, Repr

def DomState.code : DomState → Nat
  | .none => 0
  | .acquiring => 1
  | .owned => 2
  | .releasing => 3

/-- An ownership domain (R338 to R341, R347). The fields from `tries` are the progress of an acquisition: the claim being
presented, the modules still to answer, those to scan, and the records to replay. -/
structure Domain where
  state : DomState := .none              -- 2 | 11 R347 | NONE
  claim : Nat := 0                       -- 64 | 11 R338 claim number held | 0
  epoch : Nat := 0                       -- 48 | 11 R338 highest epoch known | 0
  owner : Nat := 0                       -- 16 | 11 R364 owner head ID | 0
  released : Bool := true                -- 1 | 11 R340 a RELEASE was seen since the owner's CLAIM_DONE | 1
  intent : Nat := 0                      -- 16 | 11 R340 head acquiring it | 0
  tries : Nat := 0                       -- 3 | 11 R339 | 0
  trying : Nat := 0                      -- 64 | 11 R339 claim being presented | 0
  answers : List Nat := []               -- modules | 11 R339 still to answer | none
  stale : Bool := false                  -- 1 | 11 R339 an answer was stale | 0
  scanning : Bool := false               -- 1 | 11 R339 restart scan wanted | 0
  replaying : Bool := false              -- 1 | 11 R339 journal replay wanted | 0
  mirrorLeft : Nat := 0                  -- 64 | 11 R364 replay records left | 0
  takeover : Option Nat := none          -- head | 11 R348 failed head it is taken from | none
  journalDone : Bool := false            -- 1 | 11 R352 journal replay ended | 0
  highWsn : Nat := 0                     -- 64 | 11 R364 highest WSN applied | 0
  mirrorDone : Bool := false             -- 1 | 11 R352 mirror replay placed | 0
  lastClaim : Nat := 0                   -- 64 | 11 R352 newest claim of another head seen | 0
  releaseAcc : Option Nat := none        -- packet | 11 R340 release under way | none
  checkpointing : Bool := false          -- 1 | 11 R340 step 4 of the release is reached | 0
  tookOver : Bool := false               -- 1 | 11 R361 the domain came by a takeover | 0
deriving DecidableEq, Repr

/-- State of the mirror peer (R334 to R337). -/
inductive PeerState where
  | none
  | resilvering
  | live
deriving DecidableEq, Repr

/-- A mirror area held for another head (R331 to R335): the records it holds and, by domain, its journal mirror. -/
structure Area where
  bound : Option Nat := none             -- head | 11 R331 head it is bound to | FREE
  units : Nat := 0                       -- 32 | 11 R331 | 0
  mem : Tab (List Byte) := []            -- 256-byte units written, by unit offset | 11 R331 | none
  records : Tab (Nat × Nat × Nat) := []  -- (unit offset, units, domain) by WSN | 11 R333 | none
  journal : Tab (List (Nat × List (List Byte))) := []  -- (frame_seq, records) by domain | 11 R333 | none
  tailUnit : Nat := 0                    -- 32 | 11 R335 | 0
  tailWsn : Nat := 0                     -- 64 | 11 R335 | 0
  liveAt : Bool := false                 -- 1 | 11 R348 the area was live at the declaration | 0
  lost : List Nat := []                  -- WSNs | 12 R374 records marked not held | none
deriving DecidableEq, Repr

/-- A message the owner awaits an acknowledgement of (R334). -/
inductive MirrorWait where
  | record (wsn : Nat)
  | journal (domain seq : Nat)
  | progress (op : Nat)
deriving DecidableEq, Repr

structure MirrorMsg where
  seq : Nat
  lane : Nat
  what : MirrorWait
  deadline : Nat
  sends : Nat := 1
deriving DecidableEq, Repr

/-- Mirroring to the peer, and the areas held for others (R331 to R337). -/
structure Mirror where
  state : PeerState := .none             -- 2 | 11 R364 mirror state | none
  peer : Nat := 0                        -- 16 | 11 R336 mirror peer | 0
  candidate : Option Nat := none         -- head | 11 R336 head a bind was sent to | none
  refused : List Nat := []               -- heads | 11 R336 heads that refused | none
  bound : Bool := false                  -- 1 | 11 R331 MIRROR_BIND has succeeded | 0
  key : Nat := 0                         -- 32 | 11 R331 | 0
  va : Nat := 0                          -- 64 | 11 R331 | 0
  waits : List MirrorMsg := []           -- messages | 11 R334 | none
  resilver : List Nat := []              -- WSNs | 11 R337 records still to acknowledge | none
  resilverJournal : List (Nat × Nat) := []  -- (domain, frame_seq) | 11 R337 | none
  resilvered : Nat := 0                  -- 64, bytes | 11 R366 | 0
  areas : List Area := [{}, {}]          -- 2 areas | 11 R331 | FREE
  tailSent : Nat := 0                    -- 32 | 11 R335 last tail_unit reported | 0
  tailTick : Nat := 0                    -- 64, tick | 11 R335 tick of the last TAIL or NOTE | 0
  progress : Tab (List Byte) := []       -- progress records by kind x 2^32 + target | 11 R350 | none
  resync : Option Nat := none            -- WSN | 11 R354 highest WSN reported | none
  lostRaised : Bool := false             -- 1 | 11 R331 EV_MIRROR_LOST raised for want of a peer | 0
  retryAt : Nat := 0                     -- 64, tick | 11 R337 next MIRROR_BIND | 0
deriving DecidableEq, Repr

/-- A takeover (R348, R349). -/
structure Takeover where
  failed : Nat                           -- head
  domains : List Nat                     -- domains to take
  since : Nat                            -- stamp
  deadline : Nat                         -- tick at which the wait ends
  probed : Bool := false
  probes : List Nat := []                -- own domains whose probe is outstanding
  cancelled : Bool := false
  area : Option Nat := none
  replayed : Nat := 0
  started : Bool := false
deriving DecidableEq, Repr

/-- A delta record (R358), with the extent it names at the source. -/
structure DeltaRec where
  ashlar : Nat
  op : Nat
  sett : Nat := 0
  mask : Nat := 0
  units : Nat := 0
  flags : Nat := 0
  src : Nat := 0xFF
  bucket : Nat := 0
  tag : List Byte := zeros 16
  clen : Nat := 0
  pxa : Nat := 0
deriving DecidableEq, Repr

/-- A replication session (R356 to R363). -/
structure Session where
  role : Nat := 0                        -- 8 | 11 R356 | closed
  mode : Nat := 0                        -- 8 | 11 R364 | 0
  flags : Nat := 0                       -- 8 | 11 R364 | 0
  nsid : Nat := 0                        -- 32 | 11 R364 | 0
  tag : Nat := 0                         -- 64 | 11 R364 | 0
  port : Nat := 0                        -- 8 | 11 R364 | 0
  keySlot : Nat := 0                     -- 8 | 11 R364 | 0
  timeout : Nat := 0                     -- 32, ms | 11 R364 | 0
  ip : List Byte := []                   -- 16 B | 11 R364 | 0
  state : Nat := 0                       -- 8 | 11 R364 0 closed, 1 idle, 2 sending, 3 broken | 0
  common : Nat := 0                      -- 32 | 11 R357 common layer | 0
  sending : Nat := 0                     -- 32 | 11 R357 new layer N | 0
  conn : Option Nat := none              -- context | 11 R356 | none
  records : List DeltaRec := []          -- records not yet offered | 11 R358 | none
  offers : Tab (List DeltaRec) := []     -- records of OFFERS and SYNC_WRITEs in hand, by msg_seq | 11 R359, R363 | none
  unanswered : Nat := 0                  -- 5 | 11 R359 OFFERS without NEEDS | 0
  baseLabel : List Byte := zeros 16      -- 16 B | 11 R359 | 0
  newLabel : List Byte := zeros 16       -- 16 B | 11 R359 | 0
  bucketLog2 : Nat := 0                  -- 8 | 11 R359 the source's | 0
  dirty : Bool := false                  -- 1 | 11 R361 the target's head layer holds an unfinished delta | 0
  ended : Bool := false                  -- 1 | 11 R361 DELTA_END seen or sent | 0
  txq : List (List Byte) := []           -- messages | 11 R362 ready for the remote side | none
  txSeq : Nat := 1                       -- 64 | 11 R330 | 1
  rxSeq : Nat := 1                       -- 64 | 11 R330 | 1
  sync : Tab (Nat × Nat × Nat) := []     -- (command, WSN, deadline tick) by msg_seq | 11 R363 | none
  syncIn : Tab (Nat × List Nat × Nat) := []  -- (WSN at the source, records placed, extents awaited) by msg_seq | 11 R363 | none
  rxq : List (List Byte) := []           -- messages | 11 R362 received through REPL_PUMP | none
  wanted : Tab (List Nat) := []          -- indices by msg_seq | 11 R359 extents a target still awaits | none
  delta : List Nat := [0, 0, 0]          -- 3 x 64 | 11 R359, R366 records, extents and extent bytes of the delta | 0
  counts : List Nat := [0, 0, 0, 0, 0]   -- 5 x 64 | 11 R364 REPL_STATUS | 0
deriving DecidableEq, Repr

/-- Takeovers and replication (R348, R356). -/
structure Heads where
  takeovers : List Takeover := []        -- takeovers | 11 R348 | none
  sessions : Tab Session := []           -- 64 | 11 R356 | closed
  discarded : Nat := 0                   -- counter | 11 R330 messages discarded | 0
deriving DecidableEq, Repr

end Sys2Proof.Machine
end

