-- ==== Sys2Proof/Machine/MasonData.lean ====
section
/-! DEFINITION. State of the Mason core, hods, Vault, firmware update and templates (13). Each field's comment gives its
width, the rule that names it and its value at reset. -/

namespace Sys2Proof.Machine

/-- A template as held in a bank (R23, R419): its body, its digest and where it came from: 1 generated, 2 loaded, 3 carried
over (R421). -/
structure Template where
  body : List Byte
  digest : List Byte
  source : Nat
deriving DecidableEq, Repr

/-- Template banks and epochs (R22 to R26, R419). -/
structure Templates where
  epoch : Nat := 0                       -- 32 | 01 R26 | 0
  active : Tab Template := []            -- by kind 1 to 5 | 01 R22, R24 | empty
  load : Tab Template := []              -- by kind | 01 R22 load bank | empty
  draining : Option (Tab Template) := none  -- old bank | 01 R25 bank that drains | none
  switchStamp : Nat := 0                 -- 64 | 01 R24 | 0
deriving DecidableEq, Repr

/-- The boot control record (R402). Its two copies are equal, since a write makes both. -/
structure BootRecord where
  seq : Nat := 1                         -- 32 | 13 R402 | DESIGN CHOICE 1 as shipped
  level : Nat := 1                       -- 8 | 13 R400, R402 protection level | 1 as shipped
  lowerPending : Nat := 0xFF             -- 8 | 13 R402 | DESIGN CHOICE 0xFF none
  active : Nat := 0xFF                   -- 8 | 13 R402 | DESIGN CHOICE 0xFF none
  pending : Nat := 0xFF                  -- 8 | 13 R402 | DESIGN CHOICE 0xFF none
  attempts : Nat := 0                    -- 8 | 13 R402 | DESIGN CHOICE 0
  slots : List Nat := [0, 0]             -- 2 x 8 | 13 R402 slot states | DESIGN CHOICE both EMPTY as shipped
  bootOnce : Bool := false               -- 1 | 13 R402 flags [0] | DESIGN CHOICE 0
  revoked : Nat := 0                     -- 4 | 13 R402 flags [7:4] | DESIGN CHOICE 0
  floor : Nat := 0                       -- 32 | 13 R402 version_floor | DESIGN CHOICE 0
  versions : List Nat := [0, 0]          -- 2 x 32 | 13 R402 image versions | 0 while EMPTY
  updateId : Nat := 0                    -- 32 | 13 R402 | DESIGN CHOICE 0
  digest : List Byte := []               -- 32 B | 13 R402 manifest_digest | DESIGN CHOICE zero
deriving DecidableEq, Repr

/-- A LOG record (R397). `health` stands for the body of a type-4 record, whose layout the spec does not give. -/
structure LogRecord where
  typ : Nat
  key : Nat
  seq : Nat
  stamp : Nat
  body : List Byte := []
  health : Tab (List Nat) := []
deriving DecidableEq, Repr

/-- A LOG block in use: its number within the partition and its records in page order (R397). -/
structure LogBlock where
  block : Nat
  records : List LogRecord := []
deriving DecidableEq, Repr

/-- A chunk as stored: its plaintext and its seal (R407). -/
structure Chunk where
  data : List Byte
  mac : List Byte
deriving DecidableEq, Repr

/-- An image slot's blocks (R395, R407). -/
structure ImageSlot where
  manifest : List Byte := []             -- manifest | 13 R395 first block | erased
  chunks : Tab Chunk := []               -- chunks by index | 13 R395, R407 | erased
deriving DecidableEq, Repr

/-- A summary slot of the DUMP partition (R440, R441). -/
structure Summary where
  header : DumpHeader
  image : Option DumpImage := none
  valid : Bool := true
deriving DecidableEq, Repr

/-- The Vault (R394 to R402, R440). Erase counts and retirements are kept by physical block. -/
structure Vault where
  boot : BootRecord := {}                -- boot control record | 13 R402 | see its fields
  log : List LogBlock := []              -- blocks in use, oldest first | 13 R397 | DESIGN CHOICE empty as shipped
  logGone : List Nat := []               -- LOG blocks without replacement | 13 R396 | none
  logSeq : Nat := 0                      -- 32 | 13 R397 seq of the newest record | DESIGN CHOICE 0
  images : List ImageSlot := [{}, {}]    -- 2 slots | 13 R395 | erased
  summaries : Tab Summary := []          -- 64 slots | 14 R440 | none
  spareUsed : Nat := 0                   -- 16 | 13 R395 spares taken in service | 0 as shipped
  returned : List Nat := []              -- physical blocks | 13 R396 erased weak blocks returned | none
  grown : Tab Nat := []                  -- replacement by logical block | 13 R396 grown bad-block table and map | none
  grownBad : Nat := 0                    -- 16 | 13 R422 grown bad blocks | 0
  erases : Tab Nat := []                 -- erase counts by physical block | 13 R394 | DESIGN CHOICE 0 as shipped
  warned : List Nat := []                -- physical blocks | 13 R396 early warning raised since the last erase | none
  weak : List Nat := []                  -- logical blocks | 13 R396 weak blocks to copy out | none
  warnings : Nat := 0                    -- 32 | 13 R422 early warnings | 0
  lastReclaim : Option Nat := none       -- 64, stamp | 13 R397 last LOG block reclaimed | none
  resetSettings : Bool := false          -- 1 | 13 R398 SETTINGS_RESET awaits the next reset | 0
deriving DecidableEq, Repr

/-- A task descriptor (R413). -/
structure Task where
  kind : Nat
  rank : Nat
  range : Bool
  job : Nat
  first : Nat
  count : Nat
deriving DecidableEq, Repr

/-- A hod (R413, R415, R421). The head of each deque is its top, the end its bottom. -/
structure Hod where
  disabled : Bool := false               -- 1 | 13 R417, R421 | 0
  urgent : List Task := []               -- at most 512 | 13 R413 | empty
  background : List Task := []           -- at most 512 | 13 R413 | empty
  tasks : Nat := 0                       -- 64 | 13 R421 tasks run | 0
  steals : Nat := 0                      -- 64 | 13 R421 steals made | 0
  stolen : Nat := 0                      -- 64 | 13 R421 tasks stolen from it | 0
deriving DecidableEq, Repr

/-- Results of the self-test (R417, R421). -/
structure SelfTest where
  run : Nat := 0                         -- 32 | 13 R421 tests run | 0
  failed : Nat := 0                      -- 32 | 13 R421 tests failed | 0
  engines : Nat := 0                     -- 128 | 13 R421 engines disabled | 0
  lanes : Nat := 0                       -- 192 | 13 R421 lanes failed | 0
  channels : Nat := 0                    -- 16 | 13 R421 channels excluded | 0
deriving DecidableEq, Repr

/-- Where start-up stands (R393, R418). -/
inductive Boot where
  | none
  | halted
  | chosen
  | running
  | recovery
deriving DecidableEq, Repr

/-- The Mason core, hods, Vault (13). -/
structure Mason where
  vault : Vault := {}                    -- the Vault (13 R394)
  boot : Boot := .none                   -- 3 | 13 R393, R405 where start-up stands | none
  starts : Nat := 0                      -- counter | the model's own: starts of the ROM | DESIGN CHOICE 0
  slot : Nat := 0xFF                     -- 8 | 03 R86 image_slot | 0xFF until an image runs
  attempt : Nat := 0                     -- 8 | 13 R425 attempt of a trial boot | 0
  closedUpdate : Bool := false           -- 1 | 13 R405 UPDATE_CLOSE in this recovery boot | 0
  lowering : Bool := false               -- 1 | 13 R401 the lowering erase runs | 0
  halted : Bool := false                 -- 1 | 13 R392 both cores stopped by a miscompare | 0
  lastBeat : Nat := 0                    -- 64, stamp | 13 R392 last advance of the heartbeat | 0
  hods : List Hod := List.replicate 64 {}  -- 64 hods | 13 R413 | see the fields
  jobs : Tab Nat := []                   -- outstanding counts by job | 13 R414 | none
  turn : Nat := 0                        -- 6 | 13 R414 next hod of the round robin | DESIGN CHOICE 0
  roots : List (Nat × Nat × Nat) := []   -- (kind, rank, units) | 13 R414 root tasks that wait for a job number or for room | none
  test : SelfTest := {}                  -- self-test results (13 R421)
  badLog : List Nat := []                -- seqs | 13 R396 LOG records found unreadable at the last start | none
  serviceBy : Option Nat := none         -- 64, tick | 13 R418 step 3 ends | none
deriving DecidableEq, Repr

end Sys2Proof.Machine
end

