-- ==== Sys2Proof/Machine/MemoryData.lean ====
section
/-! DEFINITION. State of the DDR5 channels, the mortar fabric and the keystone arbiters (12). Each field's comment gives
its width, the rule that names it and its value at reset. -/

namespace Sys2Proof.Machine

/-- State of a channel's DIMM (R389 DRAM_STATUS). -/
inductive DimmState where
  | empty
  | excluded (reason : Nat)
  | trained
deriving DecidableEq, Repr

/-- A row of a repair list (R375): state 1 pending, 2 repaired, 3 no resource. -/
structure RepairRow where
  rank : Nat
  bankGroup : Nat
  bank : Nat
  row : Nat
  state : Nat
deriving DecidableEq, Repr

/-- A DDR5 channel (R367 to R376). -/
structure DramChannel where
  dimm : DimmState := .empty             -- 2 | 12 R389 state and exclusion reason | empty
  speed : Nat := 0                       -- 16 | 12 R389 | 0
  ranks : Nat := 0                       -- 8 | 12 R389 logical ranks | 0
  density : Nat := 0                     -- 8 | 12 R389 | 0
  capacity : Nat := 0                    -- 64 | 12 R389 | 0
  corrected : Nat := 0                   -- 64 | 12 R389 | 0
  uncorrectable : Nat := 0               -- 64 | 12 R389 | 0
  scrubbed : Nat := 0                    -- 64 | 12 R389 lines scrubbed | 0
  trainStamp : Nat := 0                  -- 64 | 12 R389 | 0
  repairs : List RepairRow := []         -- at most 64 rows, in the Vault | 12 R375 | empty as shipped
  corrections : Tab (List Nat) := []     -- stamps per lane and rank, 24 h | 12 R375 | none
  rowHits : Tab (List Nat) := []         -- stamps per row, 24 h | 12 R375 | none
  warned : Tab Nat := []                 -- stamp of the last early warning per lane and rank | 12 R375 | none
  dqsBaseline : Nat := 0                 -- counter | 12 R371 DQS oscillator baseline | DESIGN CHOICE 0
deriving DecidableEq, Repr

/-- DRAM configuration and channels (R389). -/
structure Dram where
  channels : List DramChannel := List.replicate 12 {}  -- 12 channels | 12 R367 | empty
  scrubHours : Nat := 24                 -- 16 | 12 R389 | 24
  dramEw : Nat := 1024                   -- 32 | 12 R389 | 1,024
  watchTicks : Nat := 15625000           -- 64 | 12 R389 | 15,625,000
  trained : Bool := false                -- 1 | 12 R371 training has ended in this run | 0
  mapped : Nat := 0                      -- 12 | 14 R437 channels trained at the end of training, over which the dump region lies | 0
  sramCorrected : Nat := 0               -- 64 | 12 R389 SRAM corrections | 0
  sramSweeps : Nat := 0                  -- 64 | 12 R389 SRAM sweep passes | 0
  mcacheSweeps : Nat := 0                -- 64 | 12 R389 metadata-cache sweep passes | 0
  flitsCorrected : Nat := 0              -- 64 | 12 R389 | 0
  replays : Nat := 0                     -- 64 | 12 R389 | 0
  fatalReplays : Nat := 0                -- 64 | 12 R389 | 0
  jointHits : Tab (List Nat) := []       -- stamps per joint, 1 h | 12 R378 | none
  jointCopies : Tab Nat := []            -- replays of the flit now refused, per joint | 12 R378 | none
deriving DecidableEq, Repr

/-- The watch counters of one rank at an arbiter (R383). -/
structure Watch where
  longest : Nat := 0                     -- 64, ticks | 12 R383 | 0
  overs : Nat := 0                        -- 64 | 12 R383 | 0
  raised : Bool := false                 -- 1 | 12 R383 EV_KS_STARVATION raised since the last grant | 0
deriving DecidableEq, Repr

/-- A keystone arbiter (R379 to R383). -/
structure Arbiter where
  waiting : List KsRequest := []         -- list | 12 R380 requests waiting | none
  watch : List Watch := List.replicate 8 {}  -- ranks 0 to 7, ranks 2 to 7 used | 12 R383 | 0
deriving DecidableEq, Repr

/-- Latency measurement of class-A reads (R384, R388). -/
structure Latency where
  guard : Bool := false                  -- 1 | 12 R384 | 0
  reads : Nat := 0                       -- 64 | 12 R388 | 0
  outside : Nat := 0                     -- 64 | 12 R388 | 0
  conditions : List Nat := List.replicate 12 0  -- 12 x 64 | 12 R388 conditions 1 to 11 and R387 | 0
  longest : Nat := 0                     -- 64, ns | 12 R388 | 0
deriving DecidableEq, Repr

end Sys2Proof.Machine
end

