-- ==== Sys2Proof/Machine/NvmeData.lean ====
section
/-! DEFINITION. State of the NVMe target (05) and of commands in flight (01, 05, 06). Each field's comment gives its
width, the rule that names it and its value at reset. -/

namespace Sys2Proof.Machine

/-- An NVM subsystem (R153, R155, R157). -/
structure Subsystem where
  flags : Nat := 0                       -- 16 | 05 R157 SUBSYS_CONFIG | as configured
  nqn : List Byte := []                  -- 256 B | 05 R157 | as configured
  sn : List Byte := []                   -- 20 B | 05 R157 | as configured
  mn : List Byte := []                   -- 40 B | 05 R157 | as configured
  fr : List Byte := []                   -- 8 B | 05 R157 | as configured
  hosts : List (List Byte) := []         -- NQNs | 05 R157 SUBSYS_HOSTS | none
  warnings : Nat := 0                    -- 8 | 05 R155 critical warning bits set by HEALTH_SET | 0
  spare : Nat := 0                       -- 8 | 05 R157 | 0
  threshold : Nat := 0                   -- 8 | 05 R157 | 0
  used : Nat := 0                        -- 8 | 05 R157 | 0
  sstat : Nat := 0                       -- 3 | 05 R153 | 0
  sprog : Nat := 0xFFFF                  -- 16 | 05 R153 | 0xFFFF
  erased : Bool := false                 -- 1 | 05 R153 global data erased | 0
  scdw10 : Nat := 0                      -- 32 | 05 R153 | 0
  backupCleared : Bool := false          -- 1 | 05 R155 HEALTH_SET has cleared bit 4 since start-up | 0
  busyFrom : Option Nat := none          -- stamp to which busy time is counted, while a command is outstanding | 05 R155 | none
  busyNs : Nat := 0                      -- 36, ns of the minute that has begun | 05 R155 Controller Busy Time | 0
  stats : List Nat := List.replicate 6 0 -- 6 x 64: units read, written, reads, writes, busy minutes, media errors | 05 R155 | Vault
deriving DecidableEq, Repr

def minuteNs : Nat := 60000000000

/-- Count the busy time up to a stamp (R155). -/
def Subsystem.busyTo (now : Nat) (u : Subsystem) : Subsystem :=
  match u.busyFrom with
  | none => u
  | some t =>
    let ns := u.busyNs + (now - t)
    { u with stats := u.stats.modify 4 (· + ns / minuteNs), busyNs := ns % minuteNs, busyFrom := some now }

/-- A namespace definition (R157). -/
structure Namespace where
  subsys : Nat
  domain : Nat
  cls : Nat
  nsze : Nat
  lbaf : Nat
  pi : Nat
  tag : Nat
  keySlot : Nat
  nguid : List Byte
  eui : List Byte
  layer : Nat := 0
  formatting : Bool := false
deriving DecidableEq, Repr

/-- An Error Information log entry (R140, R156). -/
structure ErrorEntry where
  count : Nat
  sqid : Nat
  cid : Nat
  status : Nat
  lba : Nat
  nsid : Nat
deriving DecidableEq, Repr

/-- A controller (R133 to R136, R140, R141, R145, R156). `subsys` is none for a discovery controller, `opened` says that an I/O
queue's Connect has been accepted, `aers` holds the CIDs of Asynchronous Event Requests with the key each invalidates. -/
structure Controller where
  subsys : Option Nat
  host : List Byte
  hostId : List Byte
  admin : Nat
  lport : Nat
  katoMs : Nat
  deadline : Nat
  cc : Nat := 0
  rdy : Bool := false
  cfs : Bool := false
  shst : Nat := 0
  queues : Tab Nat := []
  opened : Bool := false
  granted : Option (Nat × Nat) := none
  shutdown : List Nat := []
  wce : Bool := true
  tempThreshold : Nat := 373
  underThreshold : Nat := 0
  shown : Nat := 0
  aerConfig : Nat := 0x91F
  aers : List (Nat × Option Nat) := []
  masked : List Nat := []
  errors : List ErrorEntry := []
  errorCount : Nat := 0
  changed : List Nat := []
deriving DecidableEq, Repr

/-- A format or sanitize (R151 to R154). `cmd` is the connection and CID of the Format that waits for it, `inv` the key that its
completion invalidates (R137). -/
structure EraseOp where
  kind : Nat
  action : Nat
  state : Nat := 1
  phase : Nat := 1
  target : Nat
  total : Nat
  done : Nat := 0
  startStamp : Nat
  checkpoint : Nat := 0
  checkpointDone : Nat := 0
  restarts : Nat := 0
  newLbaf : Nat := 0
  tag : Nat := 0
  cdw10 : Nat := 0
  stripes : List Nat := []
  cmd : Option (Nat × Nat) := none
  inv : Option Nat := none
  nsids : List Nat := []
  parked : Bool := false
  stored : Bool := false
deriving DecidableEq, Repr

/-- How a fingerprint look-up stands (R170, R175): a hit names its bucket and slot and copies the entry found. -/
inductive Look where
  | none
  | wanted
  | miss
  | unindexed
  | verify (bucket slot : Nat) (entry : List Byte)
  | hit (bucket slot : Nat) (entry : List Byte)
deriving DecidableEq, Repr

/-- A compression job of the write path (R22, R176 to R178): not needed, begun under a template epoch, or its stored bytes. -/
inductive Job where
  | none
  | wanted (epoch : Nat)
  | done (raw : Bool) (clen : Nat) (stored : List Byte)
deriving DecidableEq, Repr

/-- A sett of a write in flight, by sett number (R165 to R168, R176). -/
structure SettWork where
  data : List Byte
  partial_ : Bool := false
  off : Nat := 0
  merged : Bool := true
  issued : Bool := false
  fp : List Byte := []
  look : Look := .none
  job : Job := .none
deriving DecidableEq, Repr

/-- An ashlar of a write in flight (R168, R176); `known` says that the map engine has answered whether it is coarse. -/
structure AshlarWork where
  whole : Bool
  fp : List Byte := []
  look : Look := .none
  job : Job := .none
  coarse : Bool := true
  known : Bool := true
deriving DecidableEq, Repr

/-- What a fetched command does. -/
inductive CmdKind where
  | write
  | read
  | zeroes
  | dealloc
  | flush
deriving DecidableEq, Repr

/-- A fetched I/O command, by its fetch stamp (R15, R144, R150). `stage` is its step of the write path. -/
structure Cmd where
  kind : CmdKind
  conn : Nat
  cntlid : Nat
  cid : Nat
  nsid : Nat
  domain : Nat := 0
  capsule : List Byte
  rank : Nat
  cls : Nat
  stage : Nat := 2
  slba : Nat := 0
  nlb : Nat := 0
  flushPoint : Bool := false
  late : Bool := false
  ranges : List (Nat × Nat) := []
  since : Nat := 0
  admitted : Bool := false
  need : Nat := 0
  slots : Nat := 0
  data : List Byte := []
  fetched : Bool := false
  setts : Tab SettWork := []
  ashlars : Tab AshlarWork := []
  wsn : Nat := 0
  got : Tab (List Byte) := []
  await : List Nat := []
  torn : Bool := false
  pages : Nat := 0
  syncWait : Bool := false
  error : Option Nat := none
  restarted : Bool := false
  accepted : Nat := 0
  outside : Nat := 0
  recon : Bool := false
  reduce : ReduceDomain := {}
deriving DecidableEq, Repr

/-- The NVMe target (05). -/
structure Nvme where
  subsystems : Tab Subsystem := []       -- 1,024 | 05 R130 | none
  namespaces : Tab Namespace := []       -- 65,536 | 05 R130 | none
  controllers : Tab Controller := []     -- 4,096 by controller ID | 05 R130 | none
  discovery : Tab (List (List Byte)) := []  -- by logical port | 05 R142 | empty
  genctr : Nat := 0                      -- 64 | 05 R142 GENCTR | 0
  cmds : Tab Cmd := []                   -- by fetch stamp | 05 R144, 01 R15 | none
  erases : Tab EraseOp := []             -- 16 operations | 05 R130, R154 | as recorded in the Vault
  ana : List Nat := List.replicate 256 3 -- 256 x 4 | 05 R145 group states | Inaccessible
  anaSince : List Nat := List.replicate 256 0  -- 256 x 64, tick | 05 R145 tick of the last change | 0
  anaChg : List Nat := List.replicate 256 0  -- 256 x 64 | 05 R140 change count at the last change of the group | 0
  anaCount : Nat := 0                    -- 64 | 05 R145 ANA change count | 0
  saved : Tab (List Nat) := []           -- counters by subsystem | 05 R155 as last saved in the Vault | from the Vault
  backupFailed : Bool := false           -- 1 | 05 R155 last drain did not reach the drained state | 0
  unsafeShutdowns : Nat := 0             -- 64 | 05 R155 | from the Vault
  powerCycles : Nat := 0                 -- 64 | 05 R155 | from the Vault
  powerOnHours : Nat := 0                -- 64 | 05 R155 | from the Vault
deriving DecidableEq, Repr

end Sys2Proof.Machine
end

