-- ==== Sys2Proof/Machine/PowerData.lean ====
section
/-! DEFINITION. State of the package, power stage, clocks, reset and sideband (02). Each field's comment gives its
width, the rule that names it and its value at reset. -/

namespace Sys2Proof.Machine

/-- Power state of an island (R11, R12, R42, R43). -/
inductive Island where
  | absent
  | asleep
  | ramp (sleepAfter : Bool)
  | awake
deriving DecidableEq, Repr

/-- Where a drain stands (R46). -/
inductive Drain where
  | none
  | quiesce
  | draining
  | drained
deriving DecidableEq, Repr

/-- Where the power-down sequence stands (R57). -/
inductive PowerDown where
  | none
  | settling
  | draining
deriving DecidableEq, Repr

/-- The stored phase plan of a load band: the envelope it was derived in (R44). -/
structure PhasePlan where
  vbusBand : Nat
  tjBand : Nat
  vaulted : Nat := 0
  fresh : Bool := false
deriving DecidableEq, Repr

/-- An ISLAND_POWER packet whose ramps or sleeps have not all finished (R65). -/
structure IslandWait where
  acc : Nat
  left : List Nat
deriving DecidableEq, Repr

/-- Supply, islands, clocks, reset, straps, sideband (02). -/
structure Power where
  vbus : Nat := 0                        -- 16, mV | 02 R61 SMB_VBUS | DESIGN CHOICE 0
  ibus : Nat := 0                        -- 16, mA | 02 R61 SMB_IBUS | DESIGN CHOICE 0
  pbus : Nat := 0                        -- 16, 10 mW | 02 R61 SMB_PBUS | DESIGN CHOICE 0
  temps : List W16 := List.replicate 18 0  -- 18 x 16 | 02 R61 sensors of SMB_TJ_SEL | DESIGN CHOICE 0
  standbyRail : Bool := false            -- 1 | 02 R39, R56 standby rail up | off
  coreRails : Bool := false              -- 1 | 02 R56 core rails up | off
  pwrGood : Bool := false                -- 1 | 02 R62 PWR_GOOD | 0
  resetL : Bool := false                 -- 1 | 02 R54 level of RESET_L | DESIGN CHOICE low (its pull-down)
  internalReset : Bool := true           -- 1 | 02 R62 IN_RESET | 1
  selfRefreshing : Bool := false         -- 1 | 02 R54 DIMMs entering self-refresh before internal reset | 0
  selfRefresh : Bool := false            -- 1 | 02 R54 DIMMs in self-refresh | 0
  standby : Bool := false                -- 1 | 02 R460 in standby | 0
  tripped : Bool := false                -- 1 | 02 R63 THERM_TRIP_L asserted | 0
  lowArmed : Bool := true                -- 1 | 02 R40 EV_VBUS_LOW armed | DESIGN CHOICE armed
  brownout : Bool := false               -- 1 | 02 R39 brown-out blocking in force | 0
  vbusFail : Bool := false               -- 1 | 02 R45, R458 VBUS_FAIL has gone high, and has not been seen low | 0 (its pull-down)
  vbusFailSeen : Bool := false           -- 1 | 02 R62 SMB_STATUS [2] | 0
  brownoutSeen : Bool := false           -- 1 | 02 R62 SMB_STATUS [3] | 0
  thermAlert : Bool := false             -- 1 | 02 R62 SMB_STATUS [4], THERM_ALERT_L | 0
  tripSeen : Bool := false               -- 1 | 02 R62 SMB_STATUS [5] | 0
  alertMask : Byte := 0                  -- 8 | 02 R61 SMB_ALERT_MASK | 0x00
  tjSel : Byte := 0                      -- 8 | 02 R61 SMB_TJ_SEL | 0x00
  thermSet : W16 := 0x0640               -- 16 | 02 R61 SMB_THERM_SET | 0x0640
  thermHyst : Byte := 5                  -- 8 | 02 R61 SMB_THERM_HYST | 0x05
  bypassClosed : Bool := true            -- 1 | 02 R58 coping-ring bypass | closed
  drain : Drain := .none                 -- 2 | 02 R46, R62 DRAINING and DRAINED | none
  drainStart : Nat := 0                  -- 64 | 14 R446 drain_start_stamp | 0
  drainBytes : Nat := 0                  -- 64 | 02 R46 S | 0
  held : List Bool := [false, false, false]  -- 3 | 02 R47, 14 R435 resets held: pin, software, PCIe | none
  pdown : PowerDown := .none             -- 2 | 02 R57 | none
  pdownAcc : Nat := 0                    -- 64 | 02 R57 the CHIP_POWER_DOWN packet | 0
  pdownDeadline : Nat := 0               -- 64, tick | 02 R57 the 50 ms bound | 0
  firmwareRunning : Bool := false        -- 1 | 02 R56, R458 EV_FIRMWARE_RUNNING raised in this run | 0
  loadBand : Nat := 0                    -- 3 | 02 R44 load band in force | DESIGN CHOICE 0
  plans : Tab PhasePlan := []            -- 6 plans | 02 R44 stored phase plans | DESIGN CHOICE none stored
  rederiving : Bool := false             -- 1 | 02 R44 a re-derivation runs | 0
  islands : List Island := List.replicate 37 .asleep  -- 37 | 01 R11, 02 R42 | asleep
  wakeQueue : List (Nat × Nat) := []     -- list of (island, request stamp) | 02 R42 | empty
  islandWaits : List IslandWait := []    -- list | 02 R65 ISLAND_POWER packets awaiting their ramps | none
  clocksLost : List Bool := [false, false, false, false, false]  -- 5 | 02 R52 | none lost
  straps : BitVec 6 := 0                 -- 6 | 02 R55 straps as sampled | DESIGN CHOICE 0
  sampled : Bool := false                -- 1 | 02 R55 straps sampled since internal reset began | 0
  bootMode : Nat := 0                    -- 2 | 02 R55 boot select as taken | DESIGN CHOICE 0
  stagingLimit : Nat := 0                -- 64 | 02 R50 staging limit | 0
  bDrain : Nat := 0                      -- 32 | 02 R50 B_drain last reported | DESIGN CHOICE 0
  tapIr : Byte := Config.tapCode 1       -- 8 | 02 R64 TAP instruction register | PRESUMED IDCODE (IEEE 1149.1)
  tapData : List Bool := []              -- 2,115 | 02 R64 boundary register as last shifted | DESIGN CHOICE empty
  tapDriven : Option (Byte × List Bool) := none  -- (code, cells) | 02 R64 what the TAP drives or releases | none
  swResetAt : Option Nat := none         -- 64, tick | 02 R53, R65 scheduled software reset | none
  stamps : Bool := false                 -- 1 | 02 R458, 13 R393 the stamp counter is loaded, stamps are granted | 0
  early : List (Nat × List Byte) := []   -- (code, params) | 02 R458 events that wait until stamps are granted | none
  autoAt : Option Nat := none            -- 64, tick | 02 R56 RESET_L taken as rising | none
deriving DecidableEq, Repr

end Sys2Proof.Machine
end

