-- ==== Sys2Proof/Machine/TransportData.lean ====
section
/-! DEFINITION. State of the Ethernet ports and the RDMA transport (04). Each field's comment gives its width, the rule
that names it and its value at reset. -/

namespace Sys2Proof.Machine

/-- A physical port, 0 to 7 host and 8 to 9 partner (R93, R126). R93 lets partner ports run only in mode 1 and gives no mode before
their first PORT_CONFIG: the model starts every port in mode 0, disabled (DESIGN CHOICE, log entry 130). -/
structure EthPort where
  mode : Nat := 0                        -- 2 | 04 R93, R126 | 0 disabled
  enableMask : Nat := 0                  -- 4 | 04 R126 | 0
  txInvert : Nat := 0                    -- 4 | 04 R126 | 0
  rxInvert : Nat := 0                    -- 4 | 04 R126 | 0
  sub : List (List Byte) := List.replicate 4 (zeros 48)  -- 4 x 48 B sub-port records | 04 R126 | 0
  envelope : List (Option (Nat × Nat)) := List.replicate 4 none  -- (Tj band, load band) per lane | 04 R95 | none stored
deriving DecidableEq, Repr

/-- A packet or frame on its way out of a logical port: its priority, its rank, its connection and its bytes in the frame, without
the FCS (R96, R106, R107). -/
structure TxEntry where
  pcp : Nat
  rank : Nat
  conn : Option Nat
  out : Out
  bytes : Nat
deriving DecidableEq, Repr

/-- A logical port, 0 to 33 (R93, R96 to R98, R106 to R108). -/
structure LogPort where
  up : Bool := false                     -- 1 | 04 R96 | link down
  ctrl : List (List Byte) := []          -- 64 frames | 04 R98 control-frame queue | empty
  pause : List (Option Nat) := List.replicate 8 none  -- 8 x 64, tick | 04 R106 pause of a priority ends | none
  pausedAt : List (Option Nat) := List.replicate 8 none  -- 8 x 64, tick | 04 R108 pause began | none
  pauseSeen : List (Option Nat) := List.replicate 8 none  -- 8 x 64, tick | 12 R385 condition 4: last pause of a priority | none
  longRaised : Nat := 0                  -- 8 | 04 R108 EV_PFC_PAUSED_LONG raised | 0
  counters : List Nat := List.replicate 32 0  -- 32 x 64, saturating | 04 R127 | 0
  txq : List TxEntry := []               -- packets | 04 R96, R106 waiting to be sent | none
  etsSent : List Nat := List.replicate 8 0  -- 8 x 64, bytes | 04 R107 sent of each traffic class, for the shares of ETS | 0
  rxq : List RcPacket := []              -- packets | 04 R123 held in order behind a context fetch that cannot start | none
  xoff : Nat := 0                        -- 8 | 04 R106 priorities this end has stopped with XOFF | 0
deriving DecidableEq, Repr

/-- Context states of R103. -/
inductive ConnState where
  | free
  | connecting
  | ready
  | error
  | disconnecting
  | timewait
deriving DecidableEq, Repr

def ConnState.code : ConnState → Nat
  | .free => 0
  | .connecting => 1
  | .ready => 2
  | .error => 3
  | .disconnecting => 4
  | .timewait => 5

/-- What a connection is for: an NVMe queue, a peer connection (its lane 0 control, 1 to 3 mirror A to C, R329) or a
replication session (R356). -/
inductive ConnUse where
  | nvme (qid hsq : Nat)
  | peer (head lane : Nat)
  | repl (session : Nat)
deriving DecidableEq, Repr

/-- Why the chip sent a request: its end goes to this user. `ranked` only names the rank it travels at, and `classA` a class-A read's
data with the tick its capsule was accepted, the conditions of R385 it failed and whether it was reconstructed (R388). -/
inductive RcUse where
  | none
  | response
  | ranked (rank : Nat)
  | classA (rank start outside : Nat) (recon : Bool)
  | writeData (cmd : Nat)
  | connectData
  | mirrorRecord (wsn : Nat)
  | message (seq : Nat)
deriving DecidableEq, Repr

/-- The requests the chip sends (R100). -/
inductive RcOp where
  | send (bytes : List Byte) (inv : Option Nat)
  | write (va key : Nat) (bytes : List Byte)
  | read (va key len : Nat)
deriving DecidableEq, Repr

/-- A request not yet acknowledged: its PSN range, and what its READ has returned (R111 to R114, R120). -/
structure RcReq where
  psn : Nat
  count : Nat
  op : RcOp
  use : RcUse
  got : List Byte := []
  gotPkts : Nat := 0
  failed : Bool := false
deriving DecidableEq, Repr

/-- A message being received: a SEND's bytes so far, or an RDMA WRITE's place and length (R111, R118, R121). -/
structure RxMsg where
  write : Bool
  va : Nat := 0
  len : Nat := 0
  bytes : List Byte := []
deriving DecidableEq, Repr

/-- A connection context (R102, R103, R110 to R116, R122, R126). -/
structure Conn where
  gen : Nat := 1                         -- 3 | 04 R102 generation | DESIGN CHOICE 1, the lowest
  state : ConnState := .free             -- 3 | 04 R103 | FREE
  use : ConnUse := .nvme 0 0             -- use | 04 R105 | none
  active : Bool := false                 -- 1 | 04 R105 the chip is the active CM side | 0
  port : Nat := 0                        -- 6 | 04 R116 logical port of the primary path | 0
  alt : Option Nat := none               -- 6 | 04 R116, R125 logical port of the alternate path | none
  onAlt : Bool := false                  -- 1 | 04 R126 path | 0
  udp : Nat := 0                         -- 16 | 04 R116 UDP source port | 0
  mac : List Byte := []                  -- 6 B | 04 R105 | 0
  ip : List Byte := []                   -- 16 B | 04 R105 | 0
  pcp : Nat := 0                         -- 3 | 04 R105 | 0
  dscp : Nat := 0                        -- 6 | 04 R105 | 0
  remoteQpn : Nat := 0                   -- 24 | 04 R126 | 0
  depth : Nat := 16                      -- 5 | 04 R99 outstanding RDMA READs | 16
  pmtu : Nat := 4096                     -- 13 | 04 R101 | 0
  private_ : List Byte := []             -- bytes | 04 R105 private data of the REQ | none
  cmDeadline : Option Nat := none        -- 64, tick | 04 R103 CM, DREQ or TIMEWAIT timer | none
  cmTimeout : Nat := 0                   -- 64, ticks | 04 R103 CM timeout of the REQ | 0
  cmRetries : Nat := 0                   -- 4 | 04 R103 CM or DREQ retries left | 0
  epsn : Nat := 0                        -- 24 | 04 R111 | 0
  nakFor : Option Nat := none            -- 24 | 04 R111 ePSN a sequence NAK was sent for | none
  rx : Option RxMsg := none              -- message | 04 R111 message being received | none
  rxKey : Nat := 0                       -- 32 | 04 R118 key of the WRITE being received | 0
  slots : Nat := 0                       -- 11 | 04 R115 receive slots | 0
  inbox : List (List Byte) := []         -- messages | 04 R115 receive slots in use, oldest first | none
  inboxAt : List Nat := []               -- ticks | 12 R385 in which the capsules of the receive slots were accepted | none
  takenAt : Nat := 0                     -- 64, tick | 12 R385 of the capsule last taken | 0
  rxPending : Nat := 0                   -- 5 | 04 R112 packets executed since the last ACK | 0
  ackDue : Option Nat := none            -- 64, stamp | 04 R112 coalesced ACK due | none
  dupAck : Option Nat := none            -- 64, stamp | 04 R111 last ACK of a duplicate | none
  nextPsn : Nat := 0                     -- 24 | 04 R126 next_psn | 0
  sent : List RcReq := []                -- requests | 04 R113 unacknowledged, oldest first | none
  waiting : List (RcOp × RcUse) := []    -- requests | 04 R96, R115 waiting to be sent | none
  deadline : Option Nat := none          -- 64, tick | 04 R113 retransmit deadline | none
  retries : Nat := 7                     -- 3 | 04 R113 retries left | 7
  rnrLeft : Nat := 7                     -- 3 | 04 R115 RNR retries left | 7
  rnrUntil : Option Nat := none          -- 64, tick | 04 R115 RNR wait ends | none
  rnrPsn : Nat := 0                      -- 24 | 04 R115 NAKed PSN | 0
  resend : Option Nat := none            -- 24 | 04 R96, R113, R114 PSN to send again from once its port can send | none
  resendTimed : Bool := false            -- 1 | 04 R113 that resend re-arms the timer when it is sent | 0
  nakSeen : List Nat := []               -- PSNs | 04 R114 NAKs answered in this timer period | none
  timeoutK : Nat := 10                   -- 5 | 04 R113 | 10
  retryCnt : Nat := 7                    -- 3 | 04 R113 | 7
  rnrRetry : Nat := 7                    -- 3 | 04 R115 | 7
  rnrTimer : Nat := 1                    -- 5 | 04 R115 | 1
  rate : Nat := 0                        -- 32, Mbit/s | 04 R110 | line rate at READY
  target : Nat := 0                      -- 32, Mbit/s | 04 R110 | line rate at READY
  alpha : Nat := 65536                   -- 17, units of 2^-16 | 04 R110 | 1
  step : Nat := 0                        -- 8 | 04 R110 | 0
  rateAt : Nat := 0                      -- 64, stamp | 04 R110 rate timer restarted | 0
  alphaAt : Nat := 0                     -- 64, stamp | 04 R110 alpha timer restarted | 0
  sentBytes : Nat := 0                   -- 32 | 04 R110 bytes sent since the restart | 0
  cnpAt : Option Nat := none             -- 64, stamp | 04 R110 last CNP acted on | none
  cnpSent : Option Nat := none           -- 64, stamp | 04 R109 last CNP sent | none
  cause : Nat := 0                       -- 32 | 04 R126 last ERROR cause | 0
  packetsRx : Nat := 0                   -- 64 | 04 R126 | 0
  packetsTx : Nat := 0                   -- 64 | 04 R126 | 0
  retransmitted : Nat := 0               -- 64 | 04 R126 | 0
  pinned : Bool := false                 -- 1 | 04 R124 | 0
  resident : Bool := false               -- 1 | 04 R122 | 0
  dirty : Bool := false                  -- 1 | 04 R124 | 0
  lastUse : Nat := 0                     -- 64, stamp | 04 R124 for least recently used | 0
  held : List RcPacket := []             -- packets | 04 R123 held while the context is fetched | none
  sqHead : Nat := 0                      -- 16 | 05 R133 SQ head carried in completions | 0
  txSeq : Nat := 1                       -- 64 | 11 R330 msg_seq of the next message sent | 1
  rxSeq : Nat := 1                       -- 64 | 11 R330 msg_seq expected | 1
deriving DecidableEq, Repr

/-- A region of DRAM exposed to remote access (R117, R119). `owner` names what it exposes: 0 and 1 the mirror areas,
others replication receive areas. -/
structure Region where
  live : Bool := false                   -- 1 | 04 R117 | 0
  gen : Nat := 0                         -- 8 | 04 R119 | DESIGN CHOICE 0
  base : Nat := 0                        -- 64 | 04 R117 | 0
  len : Nat := 0                         -- 64 | 04 R117 | 0
  canWrite : Bool := false               -- 1 | 04 R117 | 0
  canRead : Bool := false                -- 1 | 04 R117 | 0
  domain : Nat := 0                      -- protection domain | 04 R117 | 0
  reused : List Nat := []                -- stamps | 04 R119 reuses of the last second, newest first | none
deriving DecidableEq, Repr

/-- TRANSPORT_CONFIG (R126). -/
structure TransportConfig where
  timeoutK : Nat := 10                   -- 8 | 04 R126 | 10
  retryCnt : Nat := 7                    -- 8 | 04 R126 | 7
  rnrRetry : Nat := 7                    -- 8 | 04 R126 | 7
  rnrTimer : Nat := 1                    -- 8 | 04 R126 | 0x01
  cnpInterval : Nat := 50                -- 16, us | 04 R126 | 50
  alphaGain : Nat := 256                 -- 16 | 04 R126 | 256
  rateTimer : Nat := 60                  -- 16, us | 04 R126 | 60
  alphaTimer : Nat := 60                 -- 16, us | 04 R126 | 60
  byteCounter : Nat := 8192              -- 32, KiB | 04 R126 | 8,192
  aiRate : Nat := 50                     -- 32, Mbit/s | 04 R126 | 50
  haiRate : Nat := 200                   -- 32, Mbit/s | 04 R126 | 200
  minRate : Nat := 20                    -- 32, Mbit/s | 04 R126 | 20
  ecnEnable : Nat := 3                   -- 2 | 04 R126 | 0b11
deriving DecidableEq, Repr

/-- Ports, connections, regions (04). -/
structure Transport where
  ports : List EthPort := List.replicate 10 {}   -- 10 ports | 04 R93 | disabled
  lports : List LogPort := List.replicate 34 {}  -- 34 logical ports | 04 R93 | link down
  conns : Tab Conn := []                 -- contexts by index, FREE ones of generation 1 unlisted | 04 R102 | all FREE
  regions : Tab Region := []             -- regions by index | 04 R117 | none
  config : TransportConfig := {}         -- TRANSPORT_CONFIG (04 R126)
  counters : List Nat := List.replicate 16 0  -- 16 x 64, saturating | 04 R127 | 0
  mra : List CmReq := []                 -- REQs | 04 R105 answered with MRA, in arrival order | none
  psnSeed : Nat := 0                     -- counter | the model's own: initial PSNs drawn | DESIGN CHOICE 0
  establishedAt : List Nat := []         -- stamps | 04 R105 establishments of the last second | none
deriving DecidableEq, Repr

end Sys2Proof.Machine
end

