-- ==== Sys2Proof/Machine/State.lean ====
section
/-! DEFINITION. The state of the block, its faults and refusals, and the state after reset. -/

namespace Sys2Proof.Machine

/-- Reasons to stop with a fault. No command of this block stops it: errors are replies, events and flags, so nothing
raises the one reason. -/
inductive Fault where
  /-- Raised by nothing: the block has no command that stops it. Safe, since no claim rests on it. -/
  | none
deriving DecidableEq, Repr

/-- Reasons to refuse a command. -/
inductive Refusal where
  /-- Raised by an arm of `exec` whose command has no meaning yet. Safe: the machine stops. -/
  | notModelled (mnemonic : String)
deriving DecidableEq, Repr

/-- Everything the spec gives the block, and the model's own `out`, `free` and `pending`. -/
structure State where
  orderCode : OrderCode := .a0f          -- 1 | 00 R1 | DESIGN CHOICE CZ9648-A0F
  now : Nat := 0                         -- 64 | 01 R29 stamp counter | 0 at first power-on (13 R393)
  power : Power := {}                    -- supply, islands, clocks, reset, sideband (02)
  pcie : Pcie := {}                      -- PCIe function, rings (03)
  events : Events := {}                  -- events and error log (03, 14)
  direct : Direct := {}                  -- direct registers (03)
  digest : Digest := {}                  -- digest channels (07)
  keys : Keys := {}                      -- key slots (07)
  head : Head := {}                      -- head identity and ring settings (11)
  domains : Tab Domain := []             -- ownership domains 0 to 255 (11 R347)
  mirror : Mirror := {}                  -- mirroring (11)
  heads : Heads := {}                    -- takeovers, replication (11)
  net : Transport := {}                  -- ports, connections (04)
  nvme : Nvme := {}                      -- NVMe target (05)
  wp : WritePath := {}                   -- write path (06)
  map : MapState := {}                   -- map engine (08)
  flash : Flash := {}                    -- Plinth links, modules, sequencers (10)
  stripe : Stripes := {}                 -- stripes, journal, rebuild (09)
  dram : Dram := {}                      -- DRAM channels and the fabric (12)
  arbiters : List Arbiter := List.replicate 130 {}  -- 130 keystone arbiters (12 R379)
  latency : Latency := {}                -- class-A latency (12)
  dump : Dump := {}                      -- the rubble dump (14)
  run : Run := {}                        -- reset causes and run stamps (14, 01)
  footing : Footing := {}                -- footing mode (14)
  templates : Templates := {}            -- template banks (01, 13)
  mason : Mason := {}                    -- Mason core, hods, Vault (13)
  out : List Out := []                   -- list | the model's own: what was sent, newest first | DESIGN CHOICE empty
  free : Nat := 0                        -- counter | the model's own: free values used | DESIGN CHOICE 0
  pending : List Instr := []             -- list | the model's own: commands waiting, first in first out | empty
deriving DecidableEq, Repr

/-- The state after reset: every field at the value its comment names. -/
def State.reset : State := {}

end Sys2Proof.Machine
end

