-- ==== Sys2Proof/Machine/Status.lean ====
section
/-! DEFINITION. The status codes of every class (R92 and the status tables of the class chapters). -/

namespace Sys2Proof.Machine.St

def ok : Nat := 0x0000
def invalidVersion : Nat := 0x0001
def invalidOpcode : Nat := 0x0002
def paramLength : Nat := 0x0003
def reservedNonzero : Nat := 0x0004
def invalidField : Nat := 0x0005
def outOfRange : Nat := 0x0006
def limitExceeded : Nat := 0x0007
def dataLength : Nat := 0x0008
def dataFault : Nat := 0x0009
def busy : Nat := 0x000A
def notReady : Nat := 0x000B
def footing : Nat := 0x000C
def notOwner : Nat := 0x000D
def internal : Nat := 0x000E
def templateDigest : Nat := 0x0101
def templateInvalid : Nat := 0x0102
def templateBankBusy : Nat := 0x0103
def templateBankFull : Nat := 0x0104
def epochMismatch : Nat := 0x0105
def setDigest : Nat := 0x0106
def loadBankEmpty : Nat := 0x0107
def portEnabled : Nat := 0x0201
def portAsleep : Nat := 0x0202
def connUnknown : Nat := 0x0203
def pinSetFull : Nat := 0x0204
def frameQueueEmpty : Nat := 0x0205
def linkDown : Nat := 0x0206
def connState : Nat := 0x0207
def nsExists : Nat := 0x0301
def nsUnknown : Nat := 0x0302
def subsysUnknown : Nat := 0x0303
def subsysInUse : Nat := 0x0304
def nsBusy : Nat := 0x0305
def shrinkRefused : Nat := 0x0306
def ctrlUnknown : Nat := 0x0307
def outputSpace : Nat := 0x0401
def deflateInvalid : Nat := 0x0402
def tableAbsent : Nat := 0x0403
def indexNotEmpty : Nat := 0x0404
def busyOwned : Nat := 0x0501
def noChannel : Nat := 0x0502
def handleStale : Nat := 0x0503
def lengthMismatch : Nat := 0x0504
def noLastWord : Nat := 0x0505
def channelState : Nat := 0x0506
def verifyFail : Nat := 0x0507
def saveFull : Nat := 0x0508
def keyGeneration : Nat := 0x0509
def keyInUse : Nat := 0x050A
def keyUsage : Nat := 0x050B
def keyUnwrap : Nat := 0x050C
def gcmTag : Nat := 0x050D
def cipherAbsent : Nat := 0x050E
def clearLoadLocked : Nat := 0x050F
def entropy : Nat := 0x0510
def ivExhausted : Nat := 0x0511
def layerUnknown : Nat := 0x0601
def layerKind : Nat := 0x0602
def layerBusy : Nat := 0x0603
def cloneMismatch : Nat := 0x0604
def checkRunning : Nat := 0x0605
def layoutAbsent : Nat := 0x0701
def stripeUnknown : Nat := 0x0702
def segmentUnknown : Nat := 0x0703
def lostInUse : Nat := 0x0704
def moduleState : Nat := 0x0705
def segmentBusy : Nat := 0x0706
def flashErasePending : Nat := 0x0801
def linkState : Nat := 0x0802
def moduleUnknown : Nat := 0x0803
def dieUnknown : Nat := 0x0804
def headNotConfigured : Nat := 0x0901
def headConfigured : Nat := 0x0902
def ringState : Nat := 0x0903
def domainState : Nat := 0x0904
def peerUnknown : Nat := 0x0905
def sessionUnknown : Nat := 0x0906
def sessionState : Nat := 0x0907
def replBase : Nat := 0x0908
def replAsleep : Nat := 0x0909
def arbiterUnknown : Nat := 0x0A01
def channelAbsent : Nat := 0x0A02
def updateOpen : Nat := 0x0B01
def updateUnknown : Nat := 0x0B02
def updateIncomplete : Nat := 0x0B03
def imageFormat : Nat := 0x0B04
def imagePolicy : Nat := 0x0B05
def chunkTag : Nat := 0x0B06
def chunkDigest : Nat := 0x0B07
def slotInUse : Nat := 0x0B08
def slotState : Nat := 0x0B09
def imageNotTrial : Nat := 0x0B0A
def vaultFull : Nat := 0x0B0B
def vaultProtected : Nat := 0x0B0C
def vaultReadFault : Nat := 0x0B0D
def vaultBusy : Nat := 0x0B0E
def dumpNone : Nat := 0x0C01
def dumpSeq : Nat := 0x0C02
def footingHolds : Nat := 0x0C03
def notFooting : Nat := 0x0C04
def injectRefused : Nat := 0x0C05

end Sys2Proof.Machine.St
end

