-- ==== Sys2Proof/Machine/Ops.lean ====
section
/-! DEFINITION. The operations every family shares: the outcome forms, stamps and ticks, events and error records,
MSI-X messages, and the writing of replies. -/

namespace Sys2Proof.Machine

/-- The outcome of a command. -/
abbrev Result := Host.Outcome State Fault Refusal

/-- A command whose trigger holds takes its effect; one whose trigger does not hold changes nothing (log entry 1). -/
def onlyIf (c : Bool) (s t : State) : Result := .next (if c then t else s)

/-- The data path runs: no internal reset is active and no rubble dump has frozen it (R54, R434). -/
def State.runs (s : State) : Bool := !s.power.internalReset && s.dump.stage == .none

/-- A command of the data path: nothing happens while the data path does not run. -/
def dataIf (c : Bool) (s t : State) : Result := onlyIf (s.runs && c) s t

/-- A drain, the power-down sequence or a rubble dump refuses packets (R65, R82). -/
def State.draining (s : State) : Bool :=
  s.power.drain != .none || s.power.pdown != .none || s.dump.stage != .none

/-- Command fetch goes on: no drain, no power-down sequence and no dump has stopped it (R46, R57, R434). -/
def State.fetching (s : State) : Bool := s.runs && s.power.drain == .none && s.power.pdown == .none

/-- Put a message on the output record. -/
def State.emit (o : Out) (s : State) : State := { s with out := o :: s.out }

/-- Put several messages on the output record, the first sent first. -/
def State.emitAll (os : List Out) (s : State) : State := { s with out := os.reverse ++ s.out }

/-- Grant a stamp: the counter's value, which then moves on, so that no two grants are equal (R29). -/
def State.stamp (s : State) : Nat := s.now

def State.granted (s : State) : State := { s with now := s.now + 1 }

/-- The tick number: the stamp counter shifted right by 6 bits (R31). -/
def State.tick (s : State) : Nat := s.now / 64

/-- A deadline has expired once its tick has ended (R31). -/
def State.expired (s : State) (deadline : Nat) : Bool := deadline < s.tick

/-- Ticks of 64 ns in a time of nanoseconds, rounded up, so that a wait is never shorter than the time named. -/
def ticksOf (ns : Nat) : Nat := (ns + 63) / 64

/-- Take a free value: the counter moves on (R10, values the spec leaves open). -/
def State.freeNat (s : State) : Nat := Config.freeValue s.free

def State.freed (s : State) : State := { s with free := s.free + 1 }

/-! ### MSI-X (R76) -/

/-- DMA is possible: Bus Master Enable is 1 and the function is in D0 (R67). -/
def State.dma (s : State) : Bool := s.pcie.bme && s.pcie.d0 && s.pcie.linkUp

/-- Send the message of a vector, or hold it back while the vector's 1 us interval runs or DMA is stopped (a message is a write of
the function, R67), or mark it pending while the vector is masked. -/
def State.notify (v : Nat) (s : State) : State :=
  let e := s.pcie.vectors.getD v {}
  if e.control.getLsbD 0 then
    { s with pcie.vectors := s.pcie.vectors.set v { e with pending := true } }
  else if e.interval || !s.dma then
    { s with pcie.vectors := s.pcie.vectors.set v { e with again := true } }
  else
    { s with pcie.vectors := s.pcie.vectors.set v { e with interval := true, pending := false },
             out := .msix v e.addr e.data :: s.out }

/-! ### Events (R87 to R89, R429, R430) -/

/-- Drop the oldest event of severity 0 or 1 from the backlog (R88). -/
def dropMinor : List Event → List Event
  | [] => []
  | e :: es => if e.severity < 2 then es else e :: dropMinor es

def backlogLimit : Nat := 1024

/-- Count a lost event (R88). -/
def Events.lose (v : Events) : Events :=
  { v with lost := satAdd 64 v.lost 1, lostSince := satAdd 16 v.lostSince 1 }

/-- Enter an event in the backlog by the rules of a full one (R88). -/
def Events.enqueue (v : Events) (e : Event) : Events :=
  if v.backlog.length < backlogLimit then { v with backlog := v.backlog ++ [e] }
  else if e.severity < 2 then v.lose
  else if v.backlog.any fun x => decide (x.severity < 2) then
    { v.lose with backlog := dropMinor v.backlog ++ [e] }
  else v.lose

/-- Count an event, and post it unless its code is masked (R86, R89). -/
def Events.commit (v : Events) (code sev island stamp location : Nat) (params : List Byte) (complete : Bool) : Events :=
  let v := { v with counters := v.counters.set code (v.counters.getD code 0 + 1) }
  if v.masked.contains code then v
  else
    ({ v with seq := v.seq + 1 }).enqueue
      { code := code, severity := sev, island := island, seq := v.seq + 1, stamp := stamp, location := location,
        params := fit 32 params, complete := complete }

/-- An error record's event still waits in the backlog (R430). -/
def Events.waits (v : Events) (r : ErrorRecord) : Bool := v.backlog.any fun e => r.seqs.contains e.seq

/-- Remove the oldest record of severity 2 whose event no longer waits (R430). -/
def Events.evict (v : Events) : List ErrorRecord → Option (List ErrorRecord)
  | [] => none
  | r :: rs =>
    if r.severity = 2 && !v.waits r then some rs
    else match v.evict rs with
      | none => none
      | some t => some (r :: t)

/-- The merge of R430: a record of the same code and location whose last stamp lies within 2^30 counts. -/
def mergesWith (r : ErrorRecord) (code location stamp : Nat) : Bool :=
  r.code == code && r.location == location && decide (stamp - r.lastStamp < 2 ^ 30)

def mergeRecord (code location stamp seq : Nat) (params : List Byte) : List ErrorRecord → List ErrorRecord
  | [] => []
  | r :: rs =>
    if mergesWith r code location stamp then
      { r with count := satAdd 16 r.count 1, lastStamp := stamp, params := params, seqs := seq :: r.seqs } :: rs
    else r :: mergeRecord code location stamp seq params rs

def errorLogSize : Nat := 4096

/-- Write or merge an error record (R429, R430). -/
def Events.record (v : Events) (code sev cls island stamp location : Nat) (params : List Byte) : Events :=
  if v.errors.any fun r => mergesWith r code location stamp then
    { v with errors := mergeRecord code location stamp v.seq (fit 32 params) v.errors }
  else
    let r : ErrorRecord := { code := code, severity := sev, cls := cls, island := island, count := 1, firstStamp := stamp,
                             lastStamp := stamp, location := location, params := fit 32 params, seqs := [v.seq] }
    if v.errors.length < errorLogSize then { v with errors := v.errors ++ [r] }
    else match v.evict v.errors with
      | some rs => { v with errors := rs ++ [r] }
      | none => { v with dropped := v.dropped + 1 }

/-- Raise EV_ERROR_LOG_HIGH at 3,072 records, once until the log has been brought below 2,048 (R430). -/
def State.errorLogHigh (s : State) : State :=
  if decide (3072 ≤ s.events.errors.length) && !s.events.highRaised then
    let n := s.events.errors.length
    let n3 := (s.events.errors.filter fun r => r.severity == 3).length
    { s with
      now := s.now + 1,
      events := { s.events.commit Ev.errorLogHigh 1 36 s.now 0 (le 2 n ++ le 2 n3) true with highRaised := true } }
  else s

/-- Raise an event with everything named: its stamp is granted at its commit, its code counted, its packet queued and,
for classes 2 to 5, its error record written (R29, R87, R429). -/
def State.raiseWith (code sev island location : Nat) (params : List Byte) (s : State) : State :=
  let cls := Ev.faultClass code sev (fieldAt params 0 1)
  let v := s.events.commit code sev island s.now location params true
  let v := if 2 ≤ cls then v.record code sev cls island s.now location params else v
  ({ s with now := s.now + 1, events := v }).errorLogHigh

/-- Raise an event with its listed severity, from the island that raises its code, with no site. -/
def State.raise (code : Nat) (params : List Byte) (s : State) : State :=
  s.raiseWith code (Ev.severity code) (Ev.island code) 0 params

/-- Raise an event from a named island. -/
def State.raiseFrom (island code : Nat) (params : List Byte) (s : State) : State :=
  s.raiseWith code (Ev.severity code) island 0 params

/-- The island of a Plinth link, of a DDR5 channel and of a hod (R11). -/
def linkIsland (l : Nat) : Nat := 22 + l % 96 / 16
def dramIsland (c : Nat) : Nat := 28 + c % 12 / 4
def hodIsland (h : Nat) : Nat := 1 + h % 64 / 32

/-- The island of an engine of arbiter pool 64 to 76 (R11, R379). -/
def poolIsland (pool : Nat) : Nat :=
  if pool < 68 then pool - 51 else if pool < 72 then pool - 55 else if pool < 74 then pool - 61
  else if pool = 74 then 11 else if pool = 75 then 18 else 19

/-- Raise an event with a location code (R13). -/
def State.raiseAt (location : Nat) (code : Nat) (params : List Byte) (s : State) : State :=
  s.raiseWith code (Ev.severity code) (location / 2 ^ 55 % 64) location params

/-- A location code (R13). -/
def location (die island tile macr word sym depth : Nat) : Nat :=
  die * 2 ^ 61 + island * 2 ^ 55 + tile * 2 ^ 47 + macr * 2 ^ 39 + word * 2 ^ 16 + sym * 2 ^ 8 + depth

/-! ### Replies (R69, R70, R72, R74, R83) -/

def State.ring (s : State) (n : Nat) : Ring := s.pcie.rings.getD n {}

def State.setRing (n : Nat) (r : Ring) (s : State) : State := { s with pcie.rings := s.pcie.rings.set n r }

def Ring.slots (r : Ring) : Nat := 2 ^ r.sizeLog2

/-- Reply entries written and not yet released (R70). -/
def Ring.unreleased (r : Ring) : Nat := (r.rqTail + r.slots - r.rqHead) % r.slots

/-- The reply as written: the chip adds its submission head, the ring and the phase (R83). -/
def Ring.entry (r : Ring) (n : Nat) (p : PendingReply) : Reply :=
  { status := p.status, opcode := p.opcode, tag := p.tag, sqHead := r.sqHead, ring := n, phase := r.phase,
    dataOut := p.dataOut, acc := p.acc, result := p.result, dataAt := p.dataAt }

/-- The reply tail after a write: it wraps to slot 0, where the phase inverts (R69). -/
def Ring.advanced (r : Ring) : Ring :=
  if r.rqTail + 1 = r.slots then { r with rqTail := 0, phase := !r.phase } else { r with rqTail := r.rqTail + 1 }

/-- Write one reply entry to a ring: discarded and counted once a write has been refused (R72), kept on chip while DMA is
stopped (R67), else written at the reply tail. -/
def State.writeEntry (n : Nat) (p : PendingReply) (s : State) : State :=
  let r := s.ring n
  if r.refused then s.setRing n { r with lostReplies := satAdd 16 r.lostReplies 1 }
  else if !s.dma then
    { s.setRing n { r with held := r.held ++ [{ p with order := s.pcie.finished }] } with pcie.finished := s.pcie.finished + 1 }
  else (s.setRing n r.advanced).emit (.reply r.rqTail (r.entry n p))

/-- Write one reply, with the message of its ring when it was written (R76). -/
def State.writeReply (n : Nat) (p : PendingReply) (s : State) : State :=
  let r := s.ring n
  let t := s.writeEntry n p
  if r.irqEn && s.dma && !r.refused then t.notify r.vector else t

/-- Complete each EV_PCIE_RESET whose started packets have all ended with the counts of its own reset (R74). -/
def State.completePcieReset (s : State) : State :=
  let complete (e : Event) : Event :=
    match s.pcie.resets.find? fun x => x.left.isEmpty && x.stamp == e.stamp with
    | some x => if e.code = Ev.pcieReset then { e with params := fit 32 (le 4 x.packets ++ le 4 x.replies), complete := true } else e
    | none => e
  { s with events.backlog := s.events.backlog.map complete, pcie.resets := s.pcie.resets.filter fun x => !x.left.isEmpty }

/-- Take a packet off its ring and write its reply, its data from offset `dataAt` of the data buffer. A reply with data that cannot
be written, because DMA is stopped, is ST_DATA_FAULT (R67, R92). A reply of a packet whose ring a PCIe reset took away is discarded
and counted (R74). -/
def State.replyAt (p : Packet) (status result dataAt : Nat) (dataOut : List Byte) (s : State) : State :=
  if p.discard then
    let count (x : PcieResetCount) : PcieResetCount :=
      if x.left.contains p.acc then { x with replies := x.replies + 1, left := x.left.filter fun a => a != p.acc } else x
    ({ s with
      pcie.orphans := s.pcie.orphans.filter fun q => q.acc != p.acc,
      pcie.resets := s.pcie.resets.map count }).completePcieReset
  else
    let r := s.ring p.ring
    let blocked := !dataOut.isEmpty && !s.dma
    (s.setRing p.ring { r with inProgress := r.inProgress.filter fun q => q.acc != p.acc }).writeReply p.ring
      { status := if blocked then St.dataFault else status, opcode := p.opcode, tag := p.tag, dataOut := if blocked then [] else dataOut,
        acc := p.acc, result := if blocked then 0 else result, dataAt := dataAt, ordered := p.ordered }

/-- A reply whose data stands at the start of the data buffer. -/
def State.reply (p : Packet) (status result : Nat) (dataOut : List Byte) (s : State) : State := s.replyAt p status result 0 dataOut

/-- A reply of status ST_OK with no result and no data. -/
def State.replyOk (p : Packet) (s : State) : State := s.reply p St.ok 0 []

/-- A reply whose status is not ST_OK: the packet has changed nothing (R79). -/
def State.fail (p : Packet) (status : Nat) (s : State) : State := s.reply p status 0 []

/-- ST_INVALID_FIELD or another field error: the result names the field's first byte in the slot (R78). -/
def State.failField (p : Packet) (status off : Nat) (s : State) : State := s.reply p status (0x20 + off) []

/-- Change the flags of a packet in progress. -/
def State.markPacket (p : Packet) (f : Packet → Packet) (s : State) : State :=
  let mark (q : Packet) : Packet := if q.acc = p.acc then f q else q
  if p.discard then { s with pcie.orphans := s.pcie.orphans.map mark }
  else
    let r := s.ring p.ring
    s.setRing p.ring { r with inProgress := r.inProgress.map mark }

/-- The packet's effect is taken and its reply waits for the end of its work (R80). -/
def State.await (p : Packet) (s : State) : State := s.markPacket p fun q => { q with waiting := true }

/-- The packet waits for its resource under the queue flag, and holds no packet of its object back (R85). -/
def State.queueUp (p : Packet) (s : State) : State := s.markPacket p fun q => { q with waiting := true, queued := true }

/-- A waiting packet has obtained its resource: its command may run again (R85). -/
def State.unwait (p : Packet) (s : State) : State := s.markPacket p fun q => { q with waiting := false, queued := false }

/-- Every packet fetched and not yet replied, started or not. -/
def State.inFlight (s : State) : List Packet := s.pcie.rings.flatMap Ring.inProgress ++ s.pcie.orphans

/-- The packet with an accept stamp, wherever it is in progress. -/
def State.packet? (s : State) (acc : Nat) : Option Packet :=
  s.inFlight.find? fun q => q.acc == acc

/-- Reply to a waiting packet, if it is still in progress. -/
def State.replyTo (acc status result : Nat) (dataOut : List Byte) (s : State) : State :=
  match s.packet? acc with
  | none => s
  | some p => s.reply p status result dataOut

/-- A field of a packet's parameters (R7, R77). -/
def Packet.f (p : Packet) (off size : Nat) : Nat := fieldAt p.params off size

/-- Bytes of a packet's parameters. -/
def Packet.bytes (p : Packet) (off len : Nat) : List Byte := slice p.params off len

/-- What the packet read from its data buffer. -/
def Packet.buffer (p : Packet) (op : PktOp) : List Byte := fit p.dataLen op.data

end Sys2Proof.Machine
end

