-- ==== Sys2Proof/Machine/Fields.lean ====
section
/-! DEFINITION. Numbers that the fields of several packets and units share: ports and sub-ports, LBA formats, key lengths
(R93, R199, R213, R217). -/

namespace Sys2Proof.Machine

/-- Physical port of a logical port, and its sub-port (R93). -/
def physOf (lp : Nat) : Nat := if lp < 32 then lp / 4 else lp - 24
def subOf (lp : Nat) : Nat := if lp < 32 then lp % 4 else 0

/-- Sub-ports of a mode (R93). -/
def modeSubs (mode : Nat) : Nat := match mode with
  | 1 => 1
  | 2 => 2
  | 3 => 4
  | _ => 0

/-- LBAs per sett and per ashlar, and data bytes per LBA, of an LBA format (R143, R217). -/
def lbasPerSett (lbaf : Nat) : Nat := if lbaf % 2 = 0 then 1 else 8
def lbasPerAshlar (lbaf : Nat) : Nat := 16 * lbasPerSett lbaf
def dataSize (lbaf : Nat) : Nat := if lbaf % 2 = 0 then 4096 else 512

/-- Key lengths a kind allows, from the first to the second (R199, R213). -/
def keyLenRange (kind : Nat) : Nat × Nat :=
  if kind = 1 then (80, 80) else if kind = 4 then (16, 64) else if kind = 5 then (16, 128) else (32, 32)

def keyLenOk (kind len : Nat) : Bool := decide ((keyLenRange kind).1 ≤ len) && decide (len ≤ (keyLenRange kind).2)

end Sys2Proof.Machine
end

