-- ==== Sys2Proof/Machine/PacketTable.lean ====
section
/-! DEFINITION. The packet table: for every opcode of the class chapters its parameter length, data buffer, parameter
fields, footing and start-up admission and object (R77 to R82, R85, R450), and the checks of R78 over it. Offsets count
from the start of the parameters. -/

namespace Sys2Proof.Machine

/-- The parameter lengths an opcode allows. -/
inductive LenRule where
  | exact (n : Nat)
  /-- `base` bytes, then as many entries of `entry` bytes as the 2-byte field at `off` counts. -/
  | entries (base entry off : Nat)
  /-- `base` bytes and as many more as the 1-byte fields at the given offsets add up to. -/
  | plus (base : Nat) (offs : List Nat)
deriving DecidableEq, Repr

/-- The data buffer an opcode needs. -/
inductive BufRule where
  | none
  /-- At least `n` bytes. -/
  | atLeast (n : Nat)
  /-- At least `base + mult * field` bytes, the field of `size` bytes at `off`. -/
  | scaled (base mult off size : Nat)
  /-- From `lo` to `hi` bytes. -/
  | span (lo hi : Nat)
  /-- No buffer when the field at `off` is not `v`, else at least `n` bytes. -/
  | when (off v n : Nat)
  /-- As many bytes as the 1-byte field at `off` says, and `more` when the 1-byte field at `flag` is 1. -/
  | wrapped (off flag more : Nat)
deriving DecidableEq, Repr

/-- A check of one parameter field. -/
inductive Check where
  | reserved (off size : Nat)
  /-- Bits outside `mask` are reserved. -/
  | mask (off size mask : Nat)
  /-- The field must be one of the values. -/
  | enum (off size : Nat) (vals : List Nat)
  /-- The field's encodings run from `lo` to `hi`. -/
  | code (off size lo hi : Nat)
  /-- Bits outside `mask` name things that are not permitted. -/
  | bitset (off size mask : Nat)
  | range (off size lo hi : Nat)
  /-- Bit `b` of the field must be `v`. -/
  | bitIs (off b : Nat) (v : Bool)
  /-- From `lo` to `hi`, or the value `v` that stands beside the range (R184, R364). -/
  | rangeOr (off size v lo hi : Nat)
  | multiple (off size m : Nat)
  /-- The entries of EVENT_CONFIG (R86). -/
  | eventEntries
  /-- The region of FAULT_INJECT by its target (R453). -/
  | injectRegion
deriving DecidableEq, Repr

/-- The kinds of object that the class chapters name (R85). Packets of different classes that act on one namespace, domain or other
object name it by the same kind. -/
inductive ObjKind where
  | eventConfig | islands | holdup | chip
  | domain | domainIndex | namespace_ | subsystem | controller | eraseSlot
  | port | connection | transport
  | channel | keySlot | keyPolicy
  | reduction | mapConfig | layer | stripe | segment | rebuild | module | link | flash
  | headConfig | session | memory | dramChannel | arbiter | latency
  | bank | hods | vault | update | errorLog | dump | footing
deriving DecidableEq, Repr

/-- An object: its kind and its number. -/
abbrev Obj := ObjKind × Nat

/-- How a packet names the object it acts on (R85). -/
inductive ObjRule where
  | none
  | whole (kind : ObjKind)
  | numbered (kind : ObjKind) (n : Nat)
  | field (kind : ObjKind) (off size : Nat)
  /-- The port of the logical port named at `off`. -/
  | lport (off : Nat)
  /-- The digest channel named at `off`; none for the two pools, whose channel is not known before it is taken (R190, R191). -/
  | chanSel (off : Nat)
  /-- DG_ABANDON: the channel of the handle, or with force the channel named (R196). -/
  | abandon
  /-- ERASE_START: the namespace or subsystem that is erased (R157). -/
  | erase
deriving DecidableEq, Repr

structure PacketRow where
  opcode : Nat
  len : LenRule
  buf : BufRule := .none
  checks : List Check := []
  startup : Bool := false
  footing : Bool := false
  object : ObjRule := .none
deriving DecidableEq, Repr

/-- The result of R78: the status and the result field. -/
abbrev Verdict := Option (Nat × Nat)

/-- The result field that names bit `b` of the field whose first byte is at parameter offset `off` (R78). -/
def siteOf (off b : Nat) : Nat := (0x20 + off + b / 8) + (b % 8) * 2 ^ 16

def LenRule.ok (p : List Byte) (n : Nat) : LenRule → Bool
  | .exact k => n == k
  | .entries base entry off => decide (base ≤ n) && n == base + entry * fieldAt p off 2
  | .plus base offs => decide (base ≤ n) && n == base + (offs.map fun o => fieldAt p o 1).sum

def BufRule.ok (p : List Byte) (n : Nat) : BufRule → Bool
  | .none => n == 0
  | .atLeast k => decide (k ≤ n)
  | .scaled base mult off size => decide (base + mult * fieldAt p off size ≤ n)
  | .span lo hi => decide (lo ≤ n) && decide (n ≤ hi)
  | .when off v k => if fieldAt p off 1 = v then decide (k ≤ n) else n == 0
  | .wrapped off flag more => decide (fieldAt p off 1 + (if fieldAt p flag 1 = 1 then more else 0) ≤ n)

def Check.reservedSite (p : List Byte) : Check → Option Nat
  | .reserved off size => let v := fieldAt p off size; if v = 0 then none else some (siteOf off (lowBit (8 * size) v))
  | .mask off size m =>
    let v := fieldAt p off size &&& ((2 ^ (8 * size) - 1) ^^^ m)
    if v = 0 then none else some (siteOf off (lowBit (8 * size) v))
  | .eventEntries =>
    if fieldAt p 2 2 ≠ 0 then some (siteOf 2 (lowBit 16 (fieldAt p 2 2)))
    else
      match (List.range (fieldAt p 0 2)).find? fun i => decide (fieldAt p (7 + 4 * i) 1 ≠ 0) with
      | some i => some (siteOf (7 + 4 * i) (lowBit 8 (fieldAt p (7 + 4 * i) 1)))
      | none => none
  | _ => none

def Check.codeSite (p : List Byte) : Check → Option Nat
  | .enum off size vals => if vals.contains (fieldAt p off size) then none else some (siteOf off 0)
  | .code off size lo hi =>
    let v := fieldAt p off size
    if decide (lo ≤ v) && decide (v ≤ hi) then none else some (siteOf off 0)
  | .bitset off size m =>
    let v := fieldAt p off size &&& ((2 ^ (8 * size) - 1) ^^^ m)
    if v = 0 then none else some (siteOf off (lowBit (8 * size) v))
  | .bitIs off b v => if bit (fieldAt p off (b / 8 + 1)) b = v then none else some (siteOf off 0)
  | .eventEntries =>
    (List.range (fieldAt p 0 2)).findSome? fun i =>
      let c := fieldAt p (4 + 4 * i) 2
      let a := fieldAt p (6 + 4 * i) 1
      if !Ev.codes.contains c || (a == 1 && Ev.unmaskable c) then some (siteOf (4 + 4 * i) 0)
      else if 1 < a then some (siteOf (6 + 4 * i) 0)
      else none
  | .injectRegion =>
    let t := fieldAt p 0 1
    let r := fieldAt p 1 1
    if t = 1 || t = 2 then (if r = 0 then none else some (siteOf 1 0))
    else if t = 3 || t = 4 then (if 1 ≤ r && r ≤ 17 then none else some (siteOf 1 0))
    else some (siteOf 0 0)
  | _ => none

def Check.rangeSite (p : List Byte) : Check → Option Nat
  | .range off size lo hi =>
    let v := fieldAt p off size
    if decide (lo ≤ v) && decide (v ≤ hi) then none else some (siteOf off 0)
  | .rangeOr off size d lo hi =>
    let v := fieldAt p off size
    if v = d || (decide (lo ≤ v) && decide (v ≤ hi)) then none else some (siteOf off 0)
  | .multiple off size m => if fieldAt p off size % m = 0 then none else some (siteOf off 0)
  | _ => none

/-- The checks of PORT_CONFIG (R126): a port above 7 takes mode 1 alone, the mask covers the mode's sub-ports, unused records are
zero, and each record in use is checked. -/
def portChecks (p : List Byte) : List Check :=
  let n := modeSubs (fieldAt p 1 1)
  let ets (o : Nat) : List Nat := ((List.range 8).map fun t => fieldAt p (o + 0x28 + t) 1).filter (· != 0xFF)
  (if 8 ≤ fieldAt p 0 1 then [.code 1 1 1 1] else []) ++ [.code 2 1 0 (2 ^ n - 1)] ++
  (List.range 4).flatMap fun k =>
    let o := 8 + 48 * k
    if n ≤ k then [.reserved o 48]
    else
      [.mask (o + 6) 2 0xFFF, .mask (o + 0x1F) 1 1, .mask (o + 0x21) 1 7, .mask (o + 0x22) 1 63, .mask (o + 0x23) 1 7,
       .mask (o + 0x24) 4 0x77777777, .bitIs o 0 false, .code (o + 0x1E) 1 3 5] ++
      (if bit (fieldAt p 2 1) k && fieldAt p (o + 8) 4 == 0 then [.code (o + 0xC) 16 1 (2 ^ 128 - 1)] else []) ++
      [.range (o + 0x1C) 2 1536 9216] ++
      (if 3 < ((List.range 8).filter fun i => bit (fieldAt p (o + 0x20) 1) i).length then [.range (o + 0x20) 1 0 0] else []) ++
      (if !(ets o).isEmpty && (ets o).sum != 100 then [.range (o + 0x28) 8 1 0] else [])

/-- The checks of fields whose encodings or ranges other fields of the packet fix. -/
def extraChecks (opcode : Nat) (p : List Byte) (dlen : Nat) : List Check :=
  let f off size := fieldAt p off size
  let keyLen (kindOff lenOff : Nat) : Check := .range lenOff 1 (keyLenRange (f kindOff 1)).1 (keyLenRange (f kindOff 1)).2
  let pool (off : Nat) : Bool := decide (32 ≤ f off 1) && f off 1 != 0xFE
  match opcode with
  | 0x0200 => portChecks p
  | 0x0303 => (if f 0x10 1 < 2 then [.code 0x11 1 0 0] else []) ++ [.multiple 8 8 (lbasPerSett (f 0x10 1))]
  | 0x030B => if f 0 1 = 1 then [.code 1 1 0 2] else [.enum 1 1 [2, 4]]
  | 0x0402 => [.multiple 4 4 8, .range 4 4 (f 0 4) dlen]
  | 0x0403 => [.multiple 4 4 8, .range 4 4 (f 0 4) dlen]
  | 0x0500 =>
    [if pool 0 then .code 2 1 2 3 else .code 2 1 0 1, if 2 ≤ f 2 1 then .code 3 1 0 63 else .code 3 1 0xFF 0xFF] ++
      (if pool 0 then [.range 8 8 0 0] else [])
  | 0x0504 => [.bitIs 0 11 (pool 4)]
  | 0x0505 => if bit (f 4 1) 0 then [.code 5 1 0 34] else []
  | 0x0510 => (if f 1 1 = 1 then [.range 2 1 0 63] else []) ++ [keyLen 3 5]
  | 0x0511 => [keyLen 1 3]
  | 0x0512 => [keyLen 1 3]
  | 0x0520 => if f 1 1 = 1 then [.code 2 1 1 1] else []
  | 0x0700 => [.range 6 2 (f 4 2 + 1) 8192, .range 8 2 0 (f 4 2 - 1)]
  | 0x0910 => (if f 1 1 = 1 || f 1 1 = 3 then [.range 16 1 0 31] else []) ++ (if bit (f 3 1) 0 then [.range 17 1 0 63] else [])
  | 0x0914 => [.range 8 4 0 dlen]
  | _ => []

/-- The packets of class 0x00 (R86, R65). -/
def packets00 : List PacketRow := [
  { opcode := 0x0000, len := .exact 0, footing := true },
  { opcode := 0x0001, len := .exact 0, buf := .atLeast 256, footing := true },
  { opcode := 0x0002, len := .exact 0, footing := true },
  { opcode := 0x0003, len := .entries 4 4 0, object := .whole .eventConfig, checks := [.eventEntries, .range 0 2 1 1015], footing := true },
  { opcode := 0x0004, len := .exact 4, object := .whole .eventConfig, buf := .scaled 0 8 2 2, checks := [.range 2 2 1 1024], footing := true },
  { opcode := 0x0020, len := .exact 9, object := .whole .islands, checks := [.enum 8 1 [0, 1], .bitset 0 8 0x800000F8], footing := true },
  { opcode := 0x0021, len := .exact 0, buf := .atLeast 64, footing := true },
  { opcode := 0x0022, len := .exact 8, object := .whole .holdup, checks := [.multiple 0 8 65536], footing := true },
  { opcode := 0x0023, len := .exact 0, object := .whole .chip, footing := true },
  { opcode := 0x0024, len := .exact 0, object := .whole .chip, footing := true }]

/-- The packets of class 0x05 (R213). -/
def packets05 : List PacketRow := [
  { opcode := 0x0500, len := .exact 16, object := .chanSel 0, footing := true,
    checks := [.reserved 4 4, .enum 0 1 ((List.range 35) ++ [0xFE, 0xFF]), .code 1 1 1 3, .code 2 1 0 3,
      .enum 3 1 ((List.range 64) ++ [0xFF]), .range 8 8 0 (2 ^ 61 - 1)] },
  { opcode := 0x0501, len := .exact 8, object := .field .channel 0 1, buf := .span 1 16777216, checks := [.reserved 4 4], footing := true },
  { opcode := 0x0502, len := .exact 72, object := .field .channel 0 1, buf := .atLeast 0, checks := [.reserved 5 3], footing := true },
  { opcode := 0x0503, len := .exact 8, object := .field .channel 0 1, checks := [.reserved 4 4], footing := true },
  { opcode := 0x0504, len := .exact 8, object := .chanSel 4, footing := true,
    checks := [.reserved 5 3, .enum 4 1 ((List.range 35) ++ [0xFE, 0xFF])] },
  { opcode := 0x0505, len := .exact 8, object := .abandon, checks := [.mask 4 1 1, .reserved 6 2], footing := true },
  { opcode := 0x0506, len := .exact 4, object := .field .channel 0 1, buf := .atLeast 32, checks := [.reserved 1 3, .range 0 1 0 34],
    footing := true },
  { opcode := 0x0510, len := .exact 8, object := .field .keySlot 0 1, buf := .wrapped 5 1 48, footing := true,
    checks := [.reserved 6 2, .mask 4 1 1, .code 1 1 0 1, .code 3 1 1 6, .range 0 1 0 63] },
  { opcode := 0x0511, len := .exact 4, object := .field .keySlot 0 1, footing := true,
    checks := [.mask 2 1 1, .code 1 1 1 6, .range 0 1 0 63] },
  { opcode := 0x0512, len := .exact 72, object := .field .keySlot 0 1, footing := true,
    checks := [.mask 2 1 1, .reserved 6 2, .code 1 1 1 6, .range 0 1 0 63, .range 5 1 1 64,
      .enum 4 1 ((List.range 64) ++ [0xFE])] },
  { opcode := 0x0513, len := .exact 4, object := .field .keySlot 0 1, buf := .atLeast 0, footing := true,
    checks := [.reserved 2 2, .range 0 1 0 63, .range 1 1 0 63] },
  { opcode := 0x0514, len := .exact 4, object := .field .keySlot 0 1, checks := [.reserved 1 3, .range 0 1 0 63], footing := true },
  { opcode := 0x0515, len := .exact 4, object := .field .keySlot 0 1, buf := .atLeast 32, checks := [.reserved 1 3, .range 0 1 0 63],
    footing := true },
  { opcode := 0x0516, len := .exact 4, object := .whole .keyPolicy, checks := [.mask 0 1 3, .reserved 1 3], footing := true },
  { opcode := 0x0520, len := .exact 32, object := .field .keySlot 0 1, buf := .atLeast 0, footing := true,
    checks := [.reserved 12 4, .reserved 28 4, .code 1 1 0 1, .code 2 1 0 1, .range 0 1 0 63, .range 3 1 5 7,
      .range 4 4 0 65536] }]

/-- The packets of class 0x0A (R389). -/
def packets0A : List PacketRow := [
  { opcode := 0x0A00, len := .exact 16, object := .whole .memory, footing := true,
    checks := [.reserved 2 2, .range 0 2 0 168, .range 4 4 1 1000000, .range 8 8 15625 (2 ^ 40)] },
  { opcode := 0x0A01, len := .exact 4, object := .field .dramChannel 0 1, buf := .atLeast 64, footing := true,
    checks := [.reserved 2 2, .code 1 1 0 1, .range 0 1 0 11] },
  { opcode := 0x0A02, len := .exact 4, object := .field .dramChannel 0 1, buf := .atLeast 512, footing := true,
    checks := [.reserved 2 2, .code 1 1 0 1, .range 0 1 0 11] },
  { opcode := 0x0A03, len := .exact 4, object := .whole .latency, footing := true,
    checks := [.reserved 1 3, .code 0 1 0 1] },
  { opcode := 0x0A04, len := .exact 4, object := .whole .latency, buf := .atLeast 128, footing := true,
    checks := [.reserved 1 3, .code 0 1 0 1] },
  { opcode := 0x0A05, len := .exact 4, object := .field .arbiter 0 1, buf := .atLeast 96, footing := true,
    checks := [.reserved 2 2, .code 1 1 0 1] },
  { opcode := 0x0A06, len := .exact 4, object := .whole .memory, buf := .atLeast 64, footing := true,
    checks := [.reserved 1 3, .code 0 1 0 1] }]

/-- The packets of class 0x08 (R325). -/
def packets08 : List PacketRow := [
  { opcode := 0x0800, len := .exact 16, object := .whole .flash,
    checks := [.reserved 0xE 2, .range 0 2 1 200, .range 2 2 0 365, .range 4 4 10000 10000000, .range 8 1 0 7,
      .range 9 1 0 16, .range 0xA 2 100 5000, .range 0xC 2 50 10000] },
  { opcode := 0x0801, len := .exact 4, object := .field .link 0 1, footing := true,
    checks := [.mask 3 1 3, .code 1 1 0 1, .code 2 1 0 1, .range 0 1 0 95] },
  { opcode := 0x0802, len := .exact 4, object := .field .link 0 1, buf := .atLeast 64, footing := true,
    checks := [.reserved 2 2, .code 1 1 0 1, .range 0 1 0 95] },
  { opcode := 0x0803, len := .exact 4, object := .field .module 0 2, buf := .atLeast 168, footing := true,
    checks := [.reserved 2 2] },
  { opcode := 0x0804, len := .exact 8, object := .field .module 0 2, buf := .scaled 0 16 6 2, footing := true,
    checks := [.reserved 3 1, .range 6 2 1 256] },
  { opcode := 0x0805, len := .exact 4, object := .field .module 0 2, buf := .atLeast 288, footing := true,
    checks := [.reserved 3 1] },
  { opcode := 0x0806, len := .exact 4, object := .field .module 0 2, buf := .atLeast 32, footing := true,
    checks := [.reserved 2 2] },
  { opcode := 0x0807, len := .exact 4, object := .whole .flash, buf := .atLeast 192, footing := true,
    checks := [.reserved 1 3, .code 0 1 0 1] }]

/-- The packets of class 0x07 (R287). -/
def packets07 : List PacketRow := [
  { opcode := 0x0700, len := .exact 16, object := .field .domain 0 1,
    checks := [.range 1 1 0 15, .range 2 2 1 1000, .range 4 2 1 4096, .range 0xA 2 16 1024] },
  { opcode := 0x0701, len := .exact 8, object := .whole .rebuild,
    checks := [.reserved 6 2, .range 0 4 0 50000, .range 4 2 0 50] },
  { opcode := 0x0702, len := .exact 8, object := .field .stripe 0 8, buf := .atLeast 32, footing := true,
    checks := [.reserved 1 3] },
  { opcode := 0x0703, len := .exact 4, object := .field .segment 0 4, buf := .atLeast 256, footing := true },
  { opcode := 0x0704, len := .exact 0, object := .whole .rebuild, buf := .atLeast 64, footing := true },
  { opcode := 0x0705, len := .exact 8, object := .field .domain 0 1, buf := .atLeast 16, footing := true,
    checks := [.reserved 1 3] },
  { opcode := 0x0706, len := .exact 8, object := .field .domain 0 1, checks := [.reserved 1 3] },
  { opcode := 0x0707, len := .exact 8, object := .field .domain 0 1, checks := [.reserved 2 2, .code 1 1 0 2] },
  { opcode := 0x0708, len := .exact 4, object := .field .module 0 2, checks := [.reserved 3 1, .code 2 1 0 1] },
  { opcode := 0x0709, len := .exact 4, object := .field .domain 0 1, buf := .atLeast 48, footing := true,
    checks := [.reserved 1 3] },
  { opcode := 0x070A, len := .exact 4, object := .whole .rebuild, buf := .atLeast 96, footing := true,
    checks := [.reserved 1 3, .code 0 1 0 1] }]

/-- The packets of class 0x06 (R248). -/
def packets06 : List PacketRow := [
  { opcode := 0x0600, len := .exact 8, object := .whole .mapConfig, checks := [.reserved 6 2, .rangeOr 0 4 0 60 86400, .range 4 2 1 600] },
  { opcode := 0x0601, len := .exact 24, object := .field .namespace_ 0 4, checks := [.reserved 4 4] },
  { opcode := 0x0602, len := .exact 8, object := .field .layer 0 8, checks := [.reserved 1 3] },
  { opcode := 0x0603, len := .exact 8, object := .field .namespace_ 0 4 },
  { opcode := 0x0604, len := .exact 8, object := .field .namespace_ 0 4 },
  { opcode := 0x0605, len := .exact 8, object := .field .layer 0 8, buf := .atLeast 80, footing := true,
    checks := [.reserved 1 3] },
  { opcode := 0x0606, len := .exact 8, object := .field .layer 0 8, buf := .atLeast 64, footing := true,
    checks := [.reserved 1 3] },
  { opcode := 0x0607, len := .exact 16, object := .field .layer 0 8, buf := .atLeast 312, footing := true,
    checks := [.reserved 1 3] },
  { opcode := 0x0608, len := .exact 4, object := .field .domain 0 1, checks := [.mask 1 1 1, .reserved 2 2] },
  { opcode := 0x0609, len := .exact 0, object := .whole .mapConfig, buf := .atLeast 96, footing := true },
  { opcode := 0x060A, len := .exact 4, object := .whole .mapConfig, buf := .atLeast 96, footing := true,
    checks := [.reserved 1 3, .code 0 1 0 1] },
  { opcode := 0x060B, len := .exact 16, object := .field .namespace_ 0 4, checks := [.reserved 4 4] }]

/-- The packets of class 0x04 (R184). -/
def packets04 : List PacketRow := [
  { opcode := 0x0400, len := .exact 8, object := .field .domain 0 1,
    checks := [.mask 4 1 7, .reserved 5 3, .code 2 1 0 2, .range 1 1 1 9, .range 3 1 0 15] },
  { opcode := 0x0401, len := .exact 4, object := .field .domainIndex 0 1, checks := [.reserved 2 2, .rangeOr 1 1 0 16 36] },
  { opcode := 0x0402, len := .exact 16, buf := .scaled 0 1 0 4, footing := true,
    checks := [.mask 0xB 1 1, .reserved 0xD 3, .code 9 1 0 2, .range 8 1 1 9, .range 0xA 1 0 15, .range 0xC 1 5 7] },
  { opcode := 0x0403, len := .exact 16, buf := .scaled 0 1 0 4, footing := true,
    checks := [.reserved 9 7, .range 8 1 5 7] },
  { opcode := 0x0404, len := .exact 0, object := .whole .reduction, buf := .atLeast 64, footing := true },
  { opcode := 0x0405, len := .exact 4, object := .whole .reduction, buf := .atLeast 128, footing := true,
    checks := [.reserved 1 3, .code 0 1 0 1] },
  { opcode := 0x0406, len := .exact 36, object := .field .domainIndex 0 1, buf := .atLeast 40, footing := true,
    checks := [.reserved 1 3] },
  { opcode := 0x0407, len := .exact 8, object := .whole .reduction, checks := [.reserved 2 2, .range 0 2 0 4096, .rangeOr 4 4 0 64 262144] }]

/-- The packets of class 0x02 (R126); `portChecks` adds the checks of PORT_CONFIG's records. -/
def packets02 : List PacketRow := [
  { opcode := 0x0200, len := .exact 200, object := .field .port 0 1, footing := true,
    checks := [.reserved 5 3, .mask 3 1 0xF, .mask 4 1 0xF, .code 1 1 0 3, .range 0 1 0 9] },
  { opcode := 0x0201, len := .exact 32, object := .whole .transport, footing := true,
    checks := [.mask 0x1C 1 3, .reserved 0x1D 3, .range 0 1 8 18, .range 1 1 0 7, .range 2 1 0 7, .range 3 1 0 31, .range 4 2 1 1000,
      .range 6 2 1 65535, .range 8 2 10 10000, .range 0xA 2 10 10000, .range 0xC 4 64 1048576, .range 0x10 4 1 10000,
      .range 0x14 4 1 100000, .range 0x18 4 10 10000] },
  { opcode := 0x0202, len := .exact 4, object := .field .connection 0 4, buf := .atLeast 64, footing := true },
  { opcode := 0x0203, len := .exact 8, object := .field .connection 0 4, footing := true, checks := [.reserved 5 3, .code 4 1 0 1] },
  { opcode := 0x0204, len := .exact 4, object := .field .port 0 1, buf := .atLeast 32, footing := true,
    checks := [.reserved 1 3, .range 0 1 0 9] },
  { opcode := 0x0205, len := .exact 4, object := .lport 0, buf := .atLeast 256, footing := true,
    checks := [.reserved 2 2, .code 1 1 0 1, .range 0 1 0 33] },
  { opcode := 0x0206, len := .exact 4, object := .lport 0, buf := .span 60 1518, footing := true,
    checks := [.reserved 2 2, .range 0 1 0 33, .range 1 1 0 7] },
  { opcode := 0x0207, len := .exact 4, object := .lport 0, buf := .atLeast 1518, footing := true,
    checks := [.reserved 1 3, .range 0 1 0 33] },
  { opcode := 0x0208, len := .exact 4, object := .whole .transport, buf := .atLeast 128, footing := true,
    checks := [.reserved 1 3, .code 0 1 0 1] },
  { opcode := 0x0209, len := .exact 4, object := .field .connection 0 4, footing := true }]

/-- The packets of class 0x03 (R157). -/
def packets03 : List PacketRow := [
  { opcode := 0x0300, len := .exact 332, object := .field .subsystem 0 2,
    checks := [.mask 2 2 3, .reserved 328 4, .range 0 2 0 1023] },
  { opcode := 0x0301, len := .exact 4, object := .field .subsystem 0 2, checks := [.reserved 2 2, .range 0 2 0 1023] },
  { opcode := 0x0302, len := .exact 4, object := .field .subsystem 0 2, buf := .scaled 0 256 2 2, footing := true,
    checks := [.range 0 2 0 1023, .range 2 2 0 4096] },
  { opcode := 0x0303, len := .exact 48, object := .field .namespace_ 0 4,
    checks := [.reserved 0x15 3, .code 7 1 0 3, .enum 0x11 1 [0, 1, 3], .code 0x10 1 0 3, .enum 0x14 1 (0xFF :: List.range 64),
      .range 0 4 1 65536, .range 4 2 0 1023] },
  { opcode := 0x0304, len := .exact 4, object := .field .namespace_ 0 4, checks := [.range 0 4 1 65536] },
  { opcode := 0x0305, len := .exact 16, object := .field .namespace_ 0 4, checks := [.reserved 4 4, .range 0 4 1 65536] },
  { opcode := 0x0306, len := .exact 8, object := .field .namespace_ 0 4, checks := [.reserved 5 3, .code 4 1 0 3, .range 0 4 1 65536] },
  { opcode := 0x0307, len := .exact 4, object := .field .namespace_ 0 4, buf := .atLeast 64, footing := true, checks := [.range 0 4 1 65536] },
  { opcode := 0x0308, len := .exact 4, object := .field .controller 0 2, buf := .atLeast 512, footing := true,
    checks := [.reserved 2 2, .range 0 2 1 4096] },
  { opcode := 0x0309, len := .exact 4, object := .field .controller 0 2, footing := true, checks := [.reserved 2 2, .range 0 2 1 4096] },
  { opcode := 0x030A, len := .exact 8, object := .field .subsystem 0 2, footing := true,
    checks := [.reserved 7 1, .bitset 2 1 0x15, .bitset 3 1 0x15, .rangeOr 0 2 0xFFFF 0 1023] },
  { opcode := 0x030B, len := .exact 8, object := .erase, checks := [.reserved 2 2, .code 0 1 1 2] },
  { opcode := 0x030C, len := .exact 4, object := .field .eraseSlot 0 1, buf := .atLeast 64, footing := true, checks := [.reserved 1 3, .range 0 1 0 15] },
  { opcode := 0x030D, len := .exact 4, object := .lport 0, buf := .scaled 0 1024 2 2, footing := true,
    checks := [.reserved 1 1, .range 0 1 0 31, .range 2 2 0 256] }]

/-- The packets of class 0x09 (R364). -/
def packets09 : List PacketRow := [
  { opcode := 0x0900, len := .exact 16, object := .whole .headConfig, startup := true, footing := true,
    checks := [.reserved 1 1, .code 0 1 1 2, .range 2 2 1 16, .rangeOr 4 2 0 256 65535, .rangeOr 6 1 0 3 64, .rangeOr 7 1 0 1 7,
      .rangeOr 8 4 0 1563 1562500, .rangeOr 12 4 0xFFFFFFFF 0 1000] },
  { opcode := 0x0901, len := .exact 4, object := .whole .headConfig, buf := .scaled 0 48 0 1, startup := true, footing := true,
    checks := [.reserved 1 3, .range 0 1 1 15] },
  { opcode := 0x0902, len := .exact 0, object := .whole .headConfig, startup := true },
  { opcode := 0x0903, len := .exact 0, object := .whole .headConfig },
  { opcode := 0x0904, len := .exact 4, object := .field .domain 0 1, checks := [.reserved 2 2, .code 1 1 1 2] },
  { opcode := 0x0905, len := .exact 4, object := .field .domain 0 1, buf := .atLeast 32, footing := true, checks := [.reserved 1 3] },
  { opcode := 0x0906, len := .exact 0, object := .whole .headConfig, buf := .atLeast 288, startup := true, footing := true },
  { opcode := 0x0907, len := .exact 4, object := .whole .headConfig, checks := [.reserved 2 2] },
  { opcode := 0x0910, len := .exact 56, object := .field .session 0 1,
    checks := [.mask 3 1 1, .reserved 18 2, .code 1 1 1 4, .code 2 1 0 1, .range 0 1 0 63, .range 20 4 1 1000] },
  { opcode := 0x0911, len := .exact 4, object := .field .session 0 1, checks := [.reserved 1 3, .range 0 1 0 63] },
  { opcode := 0x0912, len := .exact 12, object := .field .session 0 1, checks := [.reserved 1 3, .range 0 1 0 63] },
  { opcode := 0x0913, len := .exact 4, object := .field .session 0 1, buf := .atLeast 64, checks := [.reserved 1 3, .range 0 1 0 63] },
  { opcode := 0x0914, len := .exact 12, object := .field .session 0 1, buf := .scaled 0 1 4 4,
    checks := [.reserved 1 3, .range 0 1 0 63] }]

/-- The packets of class 0x01 (R421). -/
def packets01 : List PacketRow := [
  { opcode := 0x0100, len := .exact 40, object := .numbered .bank 1, buf := .scaled 0 1 4 4, checks := [.reserved 1 3, .code 0 1 1 5] },
  { opcode := 0x0101, len := .exact 40, object := .numbered .bank 1, checks := [.reserved 4 4] },
  { opcode := 0x0102, len := .exact 0, object := .numbered .bank 1 },
  { opcode := 0x0103, len := .exact 4, object := .numbered .bank 1, buf := .atLeast 32, checks := [.mask 0 1 0x1F, .reserved 1 3] },
  { opcode := 0x0104, len := .exact 4, object := .field .bank 0 1, buf := .atLeast 216, footing := true,
    checks := [.reserved 1 3, .code 0 1 0 1] },
  { opcode := 0x0105, len := .exact 0, object := .whole .hods, buf := .atLeast 2048, footing := true },
  { opcode := 0x0106, len := .exact 0, object := .whole .hods, buf := .atLeast 64, footing := true }]

/-- The packets of class 0x0B (R422). -/
def packets0B : List PacketRow := [
  { opcode := 0x0B00, len := .exact 0, object := .whole .vault, buf := .atLeast 64, footing := true },
  { opcode := 0x0B01, len := .exact 12, object := .whole .vault, buf := .span 4096 16777216, footing := true,
    checks := [.reserved 1 3, .code 0 1 0 5, .multiple 4 8 4096] },
  { opcode := 0x0B02, len := .exact 4, object := .whole .vault, footing := true, checks := [.reserved 2 2, .code 0 1 0 2] },
  { opcode := 0x0B03, len := .exact 8, object := .whole .update, buf := .scaled 0 1 4 4, footing := true,
    checks := [.reserved 1 3, .enum 0 1 [0, 1, 0xFF]] },
  { opcode := 0x0B04, len := .exact 8, object := .whole .update, buf := .atLeast 0, footing := true, checks := [.reserved 6 2] },
  { opcode := 0x0B05, len := .exact 0, object := .whole .update, buf := .atLeast 80, footing := true },
  { opcode := 0x0B06, len := .exact 4, object := .whole .update, footing := true },
  { opcode := 0x0B07, len := .exact 4, object := .whole .update, footing := true },
  { opcode := 0x0B08, len := .exact 0, object := .whole .vault },
  { opcode := 0x0B09, len := .exact 4, object := .whole .vault, footing := true, checks := [.reserved 1 3, .code 0 1 0 1] },
  { opcode := 0x0B0A, len := .exact 0, object := .whole .vault, footing := true }]

/-- The packets of class 0x0C (R453). -/
def packets0C : List PacketRow := [
  { opcode := 0x0C00, len := .exact 0, object := .whole .errorLog, buf := .atLeast 64, footing := true },
  { opcode := 0x0C01, len := .exact 4, object := .whole .errorLog, buf := .scaled 0 64 2 2, footing := true,
    checks := [.range 2 2 1 4096] },
  { opcode := 0x0C02, len := .exact 8, object := .whole .errorLog, footing := true },
  { opcode := 0x0C03, len := .exact 8, object := .whole .dump, footing := true },
  { opcode := 0x0C04, len := .exact 0, object := .whole .dump, buf := .atLeast 2048, footing := true },
  { opcode := 0x0C05, len := .exact 4, object := .whole .footing, footing := true, checks := [.reserved 1 3, .enum 0 1 [0xA5]] },
  { opcode := 0x0C06, len := .exact 0, object := .whole .footing, footing := true },
  { opcode := 0x0C07, len := .exact 4, object := .whole .errorLog, footing := true, checks := [.reserved 2 2, .injectRegion] }]

--PACKETS

/-- Every opcode the chip defines. -/
def packetTable : List PacketRow :=
  packets00 ++ packets02 ++ packets03 ++ packets04 ++ packets05 ++ packets06 ++ packets07 ++ packets08 ++ packets09 ++ packets0A ++
  packets01 ++ packets0B ++ packets0C

def packetRow? (opcode : Nat) : Option PacketRow := packetTable.find? fun r => r.opcode == opcode

/-- The object of a packet (R85): equal values name the same object. -/
def objectOf (opcode : Nat) (params : List Byte) : Option Obj :=
  match packetRow? opcode with
  | none => none
  | some r =>
    match r.object with
    | .none => none
    | .whole k => some (k, 0)
    | .numbered k n => some (k, n)
    | .field k off size => some (k, fieldAt params off size)
    | .lport off => some (.port, physOf (fieldAt params off 1))
    | .chanSel off => if fieldAt params off 1 < 35 then some (.channel, fieldAt params off 1) else none
    | .abandon => some (.channel, if bit (fieldAt params 4 1) 0 then fieldAt params 5 1 else fieldAt params 0 1)
    | .erase => some (if fieldAt params 0 1 = 1 then .namespace_ else .subsystem, fieldAt params 4 4)

/-- Classes and opcodes accepted before epoch 1 (R81). -/
def startupAccepted (r : PacketRow) : Bool :=
  let c := r.opcode / 256
  c == 0x00 || c == 0x01 || c == 0x0B || c == 0x0C || r.startup

/-- The refusals of R81, R82 and, in recovery boot, R405. -/
def stateRefusal (epoch : Nat) (footing draining recovery : Bool) (r : PacketRow) (params : List Byte) : Option Nat :=
  let rom := decide (r.opcode < 0x20) || r.opcode == 0x0021 || r.opcode == 0x0024 || r.opcode / 256 == 0x0B
  let four := r.opcode == 0x0000 || r.opcode == 0x0001 || r.opcode == 0x0002 || r.opcode == 0x0021
  let footed := r.footing || (r.opcode == 0x0904 && fieldAt params 1 1 == 1)
  if recovery && !rom then some St.notReady
  else if epoch = 0 && !startupAccepted r then some St.notReady
  else if footing && !footed then some St.footing
  else if draining && !four then some St.busy
  else none

/-- The checks of R78 over the bytes of a slot, in its order. `none`: the packet passes to its class. Where several fields offend
against one line of R78, the result names the one that stands first in the row's list of checks (log entry 126). -/
def checkSlot (slot : List Byte) (epoch : Nat) (footing draining recovery : Bool) : Verdict :=
  let h off size := fieldAt slot off size
  let opcode := h 0 2
  let flags := h 3 1
  let plen := h 8 2
  let dlen := h 0xC 4
  let daddr := h 0x10 8
  let params := slice slot 0x20 (min plen 4064)
  if h 2 1 ≠ 1 then some (St.invalidVersion, 0)
  else match packetRow? opcode with
  | none => some (St.invalidOpcode, 0)
  | some r =>
    if decide (4064 < plen) || !r.len.ok params plen then some (St.paramLength, 0)
    else if 4 ≤ flags then some (St.reservedNonzero, 3 + (lowBit 8 (flags / 4) + 2) * 2 ^ 16)
    else if h 0xA 2 ≠ 0 then
      let b := lowBit 16 (h 0xA 2)
      some (St.reservedNonzero, 0xA + b / 8 + b % 8 * 2 ^ 16)
    else if h 0x18 8 ≠ 0 then
      let b := lowBit 64 (h 0x18 8)
      some (St.reservedNonzero, 0x18 + b / 8 + b % 8 * 2 ^ 16)
    else if decide (16777216 < dlen) || daddr % 8 ≠ 0 || !r.buf.ok params dlen then some (St.dataLength, 0)
    else match (r.checks ++ extraChecks opcode params dlen).findSome? (Check.reservedSite params) with
    | some x => some (St.reservedNonzero, x)
    | none =>
      match (r.checks ++ extraChecks opcode params dlen).findSome? (Check.codeSite params) with
      | some x => some (St.invalidField, x)
      | none =>
        match (r.checks ++ extraChecks opcode params dlen).findSome? (Check.rangeSite params) with
        | some x => some (St.outOfRange, x)
        | none =>
          match stateRefusal epoch footing draining recovery r params with
          | some st => some (st, 0)
          | none => none

end Sys2Proof.Machine
end

