-- ==== Sys2Proof/Machine/PacketRun.lean ====
section
/-! DEFINITION. When a fetched packet starts and takes effect (R84, R85), and the frame every packet command shares. -/

namespace Sys2Proof.Machine

/-- The packets of `l` that have started by R84: an ordered packet once it is the oldest of its ring, another once no
older ordered packet of its ring is left. -/
def startedIn : List Packet → List Packet
  | [] => []
  | p :: ps => if p.ordered then [p] else p :: (ps.takeWhile fun q => !q.ordered)

/-- The packets of a ring that have started: one held on chip has not replied, so an ordered packet waits for it, and a packet
behind an ordered one waits for that one (R67, R84). -/
def Ring.started (r : Ring) : List Packet :=
  (startedIn r.inProgress).filter fun p => r.held.all fun h => decide (p.acc < h.acc) || (!p.ordered && !h.ordered)

/-- Every packet that has started. -/
def State.started (s : State) : List Packet := s.pcie.rings.flatMap Ring.started ++ s.pcie.orphans

def Packet.object (p : Packet) : Option Obj := objectOf p.opcode p.params

/-- No other started packet stands before the packet on its object: none of lower accept stamp, and none whose effect has begun and
not ended. A packet queued for a resource holds none back (R85). -/
def State.firstOnObject (s : State) (p : Packet) : Bool :=
  match p.object with
  | none => true
  | some o =>
    !(s.started.any fun q => (decide (q.acc < p.acc) || (q.waiting && q.acc != p.acc)) && !q.queued && q.object == some o)

/-- The packet a command runs: fetched under the accept stamp named, of the command's opcode, started, not waiting, and
first on its object; a dump leaves the four packets of R82 alone. -/
def State.ready (s : State) (op : PktOp) (opcode : Nat) : Option Packet :=
  match s.started.find? fun q => q.acc == op.acc with
  | none => none
  | some p =>
    let asked := s.dump.stage == .none || [0, 1, 2, 0x21].contains opcode
    if p.opcode == opcode && !p.waiting && asked && s.firstOnObject p then some p else none

/-- ST_INTERNAL: an error record and EV_INTERNAL_FAULT at the failing unit (R92, R455). -/
def State.internalFault (p : Packet) (loc : BitVec 64) (s : State) : State :=
  (s.raiseAt loc.toNat Ev.internalFault (le 2 p.opcode ++ le 4 p.tag ++ le 1 p.ring)).fail p St.internal

/-- Run a packet: nothing when it is not in progress or may not take effect yet; ST_INTERNAL on an internal fault;
ST_DATA_FAULT when it has a data buffer and the DMA fails or is not possible (R67, R92); else its own effect. -/
def packetRun (opcode : Nat) (op : PktOp) (s : State) (effect : Packet → State → State) : Result :=
  match s.ready op opcode with
  | none => .next s
  | some p =>
    match op.internal with
    | some loc => .next (s.internalFault p loc)
    | none =>
      if decide (0 < p.dataLen) && !(op.dma && s.dma) then .next (s.fail p St.dataFault)
      else .next (effect p s)

end Sys2Proof.Machine
end

