-- ==== Sys2Proof/Machine/VaultOps.lean ====
section
/-! DEFINITION. The operations of the Vault: blocks, LOG records, the boot control record, stamp checkpoints, images and
their checks (R394 to R407, R445). -/

namespace Sys2Proof.Machine

def State.vault (s : State) : Vault := s.mason.vault

def State.updVault (f : Vault → Vault) (s : State) : State := { s with mason.vault := f s.mason.vault }

/-! ### Blocks (R395, R396, R399) -/

/-- The Vault starts a program only at 7.5 V or above (R399). -/
def State.canProgram (s : State) : Bool := decide (7500 ≤ s.power.vbus)

/-- The Vault starts no erase below 8.0 V (R399). -/
def State.canErase (s : State) : Bool := decide (8000 ≤ s.power.vbus)

/-- Partition of a logical block (R395). -/
def partitionOf (l : Nat) : Nat :=
  if l < 16 then 0 else if l < 48 then 1 else if l < 560 then 2 else if l < 1072 then 3 else if l < 5168 then 4
  else if l < 6192 then 5 else 6

/-- First logical block and number of blocks of a partition (R395). -/
def partitionSpan (n : Nat) : Nat × Nat :=
  [(0, 16), (16, 32), (48, 512), (560, 512), (1072, 4096), (5168, 1024), (6192, 2000)].getD n (8192, 0)

/-- The physical block that stands for a logical block, as far as service has replaced it (R395). -/
def Vault.phys (v : Vault) (l : Nat) : Nat := v.grown.getD l l

/-- Location code of the Vault partition of a logical block (R428). -/
def vaultSite (l : Nat) : Nat := location 1 0 (partitionOf l) 0 0 0 3

/-- A sector of the Vault by number: four to a page, 64 pages to a logical block. -/
def sectorOf (l page sector : Nat) : Nat := 256 * l + 4 * page + sector

/-- Location code of a sector: partition, sector within the page, and physical block and page (R428). -/
def Vault.sectorSite (v : Vault) (k : Nat) : Nat :=
  location 1 0 (partitionOf (k / 256)) (k % 4) (64 * v.phys (k / 256) + k / 4 % 64) 0 2

/-- Raise EV_VAULT_EARLY_WARNING, once per block between erases (R396). -/
def State.vaultWarn (l site cause value : Nat) (s : State) : State :=
  let b := s.vault.phys l
  if s.vault.warned.contains b then s
  else
    (s.updVault fun v => { v with warned := b :: v.warned, warnings := v.warnings + 1 }).raiseAt site
      Ev.vaultEarlyWarning (le 2 b ++ le 1 cause ++ le 4 value)

/-- Erase a block: its count rises, and a count of 50,000 warns (R396). -/
def State.vaultErase (l : Nat) (s : State) : State :=
  let b := s.vault.phys l
  let n := s.vault.erases.getD b 0 + 1
  let s := s.updVault fun v => { v with erases := v.erases.set b n, warned := v.warned.filter (· != b) }
  if n = 50000 then s.vaultWarn l (vaultSite l) 2 n else s

/-- A read that corrects 8 or more bits in a sector makes its block weak (R396). -/
def State.vaultWeak (sector bits_ : Nat) (s : State) : State :=
  let l := sector / 256
  if bits_ < 8 then s
  else (s.updVault fun v => { v with weak := if v.weak.contains l then v.weak else v.weak ++ [l] }).vaultWarn l
    (s.vault.sectorSite sector) 1 bits_

/-- Spare blocks left (R395, R396). -/
def Vault.spares (v : Vault) : Nat := 2000 - Config.factoryBadBlocks - v.spareUsed + v.returned.length

/-- Take a spare block: the next unused one, then those that weak blocks gave back. -/
def Vault.takeSpare (v : Vault) : Option (Nat × Vault) :=
  let n := 6192 + Config.factoryBadBlocks + v.spareUsed
  if n < 8192 then some (n, { v with spareUsed := v.spareUsed + 1 })
  else match v.returned with
    | [] => none
    | b :: bs => some (b, { v with returned := bs })

/-- Retire a failed block and replace it from SPARE; false when no spare is left (R396). -/
def State.vaultRetire (l cause : Nat) (s : State) : Bool × State :=
  match s.vault.takeSpare with
  | none => (false, s)
  | some (n, v) =>
    let b := v.phys l
    let v := { v with grown := v.grown.set l n, grownBad := v.grownBad + 1 }
    let s := ({ s with mason.vault := v }).raiseAt (vaultSite l) Ev.vaultBlockRetired (le 2 b ++ le 2 n ++ le 1 cause)
    (true, if v.spares < 64 then s.raiseAt (vaultSite l) Ev.vaultSpareLow (le 2 v.spares) else s)

/-! ### LOG records (R397) -/

def logFirst : Nat := 1072
def logSize : Nat := 4096

/-- LOG blocks that are erased. -/
def Vault.logErased (v : Vault) : Nat := logSize - v.log.length - v.logGone.length

/-- The LOG block written next: the first erased one after the block last opened. -/
def Vault.nextLog (v : Vault) : Option Nat :=
  let last := (v.log.getLast?.map LogBlock.block).getD (logSize - 1)
  let used (i : Nat) : Bool := v.logGone.contains (i % logSize) || v.log.any fun b => b.block == i % logSize
  (freeFrom used logSize (last + 1)).map (· % logSize)

/-- Append records to the open LOG block. -/
def Vault.appendLog (v : Vault) (rs : List LogRecord) : Vault :=
  match v.log.reverse with
  | [] => v
  | b :: bs => { v with log := (({ b with records := b.records ++ rs } : LogBlock) :: bs).reverse }

/-- A LOG block with room for `n` more records is open. -/
def Vault.logRoom (v : Vault) (n : Nat) : Bool :=
  match v.log.getLast? with
  | some b => decide (b.records.length + n ≤ 64)
  | none => false

/-- Open the next LOG block, which is erased first; nothing when there is none or the supply is too low. -/
def State.openLog (s : State) : State :=
  match s.vault.nextLog with
  | none => s
  | some b =>
    if s.canErase then (s.vaultErase (logFirst + b)).updVault fun v => { v with log := v.log ++ [{ block := b }] } else s

/-- Write one LOG record; nothing is written while the supply is too low or no page is left (R397, R399). -/
def State.logWrite (typ key : Nat) (body : List Byte) (health : Tab (List Nat)) (s : State) : State :=
  let s := if s.vault.logRoom 1 then s else s.openLog
  if s.canProgram && s.vault.logRoom 1 then
    let r : LogRecord := { typ := typ, key := key, seq := s.vault.logSeq + 1, stamp := s.now, body := body, health := health }
    (s.updVault fun v => { v.appendLog [r] with logSeq := v.logSeq + 1 }).granted
  else s

def State.logRecord (typ key : Nat) (body : List Byte) (s : State) : State := s.logWrite typ key body []

def Vault.records (v : Vault) : List LogRecord := v.log.flatMap LogBlock.records

/-- Of two records the one of higher seq. -/
def newerRecord (a b : Option LogRecord) : Option LogRecord :=
  match a, b with
  | some x, some y => if x.seq < y.seq then some y else some x
  | some x, none => some x
  | none, y => y

/-- The current record of a type and key among those that can be read (R396, R397). -/
def Vault.current? (v : Vault) (bad : List Nat) (typ key : Nat) : Option LogRecord :=
  (v.records.filter fun r => r.typ == typ && r.key == key && !bad.contains r.seq).foldl (fun m r => newerRecord m (some r)) none

/-- The current record of a calibration type: void under a newer settings format (R398). -/
def Vault.calibration? (v : Vault) (bad : List Nat) (typ key : Nat) : Option LogRecord :=
  match v.current? bad typ key, v.current? bad 19 0 with
  | some r, some f => if r.seq < f.seq then none else some r
  | r, none => r
  | none, _ => none

/-- The current records of the oldest LOG block (R397). -/
def Vault.kept (v : Vault) (b : LogBlock) : List LogRecord :=
  b.records.filter fun r => (v.current? [] r.typ r.key).map LogRecord.seq == some r.seq

/-! ### Boot control record (R402) -/

def State.bootRec (s : State) : BootRecord := s.mason.vault.boot

def BootRecord.slot (b : BootRecord) (n : Nat) : Nat := b.slots.getD n 0

def BootRecord.setSlot (b : BootRecord) (n st : Nat) : BootRecord :=
  { b with slots := b.slots.set n st, versions := if st = 0 then b.versions.set n 0 else b.versions }

/-- Write the boot control record; the previous one stays current while the supply is too low (R399, R402). -/
def State.writeBoot (f : BootRecord → BootRecord) (s : State) : State :=
  if s.canProgram then s.updVault fun v => { v with boot := { f v.boot with seq := v.boot.seq + 1 } } else s

/-! ### Stamp checkpoint (R28, R30, R44, R155, R445) -/

def State.planRecord (b : Nat) (s : State) : State :=
  match s.power.plans.get? b with
  | some p =>
    if p.fresh && decide (p.vaulted = 0 ∨ p.vaulted + 86400000000000 ≤ s.now) then
      ({ s with power.plans := s.power.plans.set b { p with fresh := false, vaulted := s.now } }).logRecord 17 b
        (le 1 p.vbusBand ++ le 1 p.tjBand)
    else s
  | none => s

/-- Key of the head-wide values in the saved health counters. -/
def headHealth : Nat := 65536

/-- The health counters a type-4 record saves (R155), and whether a staging limit was set (R442). -/
def State.healthOf (s : State) : Tab (List Nat) :=
  (s.nvme.subsystems.foldl (fun t e => t.set e.1 (e.2.busyTo s.now).stats) s.nvme.saved).set headHealth
    [s.nvme.powerCycles, s.nvme.powerOnHours, s.nvme.unsafeShutdowns, boolNat (0 < s.power.stagingLimit)]

/-- The body of a stamp checkpoint (R445). -/
def checkpointBody (stamp start wsn : Nat) (down : Bool) : List Byte :=
  le 8 stamp ++ le 8 start ++ le 1 (boolNat down) ++ zeros 7 ++ le 8 (wsn + 2 ^ 32)

/-- Count the power-on hours that have passed. -/
def State.countHours (s : State) : State :=
  let hours := (s.now - s.run.hoursFrom) / 3600000000000
  { s with
    nvme.powerOnHours := s.nvme.powerOnHours + hours
    run.hoursFrom := s.run.hoursFrom + hours * 3600000000000 }

/-- The newest checkpoint of this run (R28, R30). -/
def State.checkpointAt (stamp : Nat) (s : State) : State :=
  { s with run := { s.run with lastCheckpoint := stamp, wsnCeiling := s.wp.wsn + 2 ^ 32 } }

/-- Write a stamp checkpoint, with the health counters and the phase plans that are due (R30, R44, R397). -/
def State.stampCheckpoint (down : Bool) (s : State) : State :=
  let s := (List.range 6).foldl (fun s b => s.planRecord b) s.countHours
  let s := s.logWrite 4 0 [] s.healthOf
  let t := s.logRecord 1 0 (checkpointBody s.now s.run.start s.wp.wsn down)
  if t.vault.logSeq = s.vault.logSeq then t else t.checkpointAt s.now

/-- A new stamp checkpoint at once when the WSNs come within 2^31 of the ceiling (R28). -/
def State.ceilingCheck (s : State) : State :=
  if s.run.wsnCeiling ≤ s.wp.wsn + 2 ^ 31 then s.stampCheckpoint false else s

/-! ### Images (R404, R406, R407) -/

/-- The Vault MAC key (R407). -/
def macKey : List Byte := kdf Config.rootKey (ascii "GLIREN-VAULT-MAC") Config.serial 32

/-- The seal of a chunk (R407). -/
def sealOf (manifest : List Byte) (i : Nat) (data : List Byte) : List Byte :=
  hmac 1 macKey (sha 1 manifest ++ le 4 i ++ data)

def maxManifest : Nat := 16736
def chunkCount (m : List Byte) : Nat := fieldAt m 0x16 2
def manifestVersion (m : List Byte) : Nat := fieldAt m 8 4
def manifestEncrypted (m : List Byte) : Bool := bit (fieldAt m 6 1) 0

/-- Length of chunk `i` (R407). -/
def chunkLen (m : List Byte) (i : Nat) : Nat := if i + 1 = chunkCount m then fieldAt m 0x18 4 else 262144

/-- Total length of the first `n` sections for the Mason core's SRAM. -/
def sramBytes (m : List Byte) (n : Nat) : Nat :=
  ((List.range n).map fun i => if fieldAt m (0x80 + 16 * i) 1 = 1 then fieldAt m (0x88 + 16 * i) 4 else 0).sum

/-- The first faulty field of section entry `i`, by its offset: an entry in use lies within the image and its target's limit, the
total of the Mason core's sections among them (R406). A section past the end is faulty in its length, unless it begins past the end (log
entry 166). -/
def sectionFault (m : List Byte) (i : Nat) : Option Nat :=
  let o := 0x80 + 16 * i
  let target := fieldAt m o 1
  let off := fieldAt m (o + 4) 4
  let len := fieldAt m (o + 8) 4
  let size := fieldAt m 0x1C 4
  if 4 < target then some o
  else if fieldAt m (o + 1) 3 ≠ 0 then some (o + 1)
  else if target = 0 then none
  else if size < off then some (o + 4)
  else if size < off + len || (target = 2 && 65536 < len) || (target = 1 && 3145728 < sramBytes m (i + 1)) then some (o + 8)
  else none

/-- The first faulty field of a manifest of `len` bytes, by its offset; none when it is well formed (R406). -/
def manifestFault (m : List Byte) (len : Nat) : Option Nat :=
  let n := chunkCount m
  if fieldAt m 0 4 ≠ 0x4D494C47 then some 0
  else if fieldAt m 4 1 ≠ 1 then some 4
  else if 3 < fieldAt m 5 1 then some 5
  else if 1 < fieldAt m 6 1 then some 6
  else if 15 < fieldAt m 7 1 then some 7
  else if manifestVersion m < fieldAt m 0xC 4 then some 0xC
  else if n = 0 || decide (511 < n) || len ≠ 384 + 32 * n then some 0x16
  else if fieldAt m 0x18 4 = 0 || decide (262144 < fieldAt m 0x18 4) then some 0x18
  else if fieldAt m 0x1C 4 ≠ (n - 1) * 262144 + fieldAt m 0x18 4 then some 0x1C
  else if !((slice m 0x28 24).all fun b => b == 0) then some 0x28
  else (List.range 16).findSome? (sectionFault m)

/-- The manifest with its signature field zero (R404). -/
def unsignedManifest (m : List Byte) : List Byte := m.take 0x40 ++ zeros 64 ++ m.drop 0x80

def State.image (s : State) (slot : Nat) : ImageSlot := s.mason.vault.images.getD slot {}

def State.updImage (slot : Nat) (f : ImageSlot → ImageSlot) (s : State) : State :=
  s.updVault fun v => { v with images := v.images.modify slot f }

/-- A chunk is held when its seal verifies under the slot's manifest (R410). -/
def ImageSlot.holds (x : ImageSlot) (i : Nat) : Bool :=
  match x.chunks.get? i with
  | some c => c.mac == sealOf x.manifest i c.data
  | none => false

/-- The chunks held, by index. -/
def ImageSlot.held (x : ImageSlot) : List Nat := (List.range (chunkCount x.manifest)).filter x.holds

/-- The checks of R404 in order: the number of the first that fails and the chunk it concerns. `bad` lists the chunks
whose block could not be read. -/
def State.imageFault (slot : Nat) (bad : List (Nat × Nat)) (s : State) : Option (Nat × Nat) :=
  let x := s.image slot
  let m := x.manifest
  if (manifestFault m m.length).isSome then some (1, 0)
  else if bit s.bootRec.revoked (fieldAt m 5 1) then some (2, 0)
  else if !Config.signatureGood (fieldAt m 5 1) (unsignedManifest m) then some (3, 0)
  else if manifestVersion m < s.bootRec.floor then some (4, 0)
  else if Config.romVersion < fieldAt m 0x10 4 then some (5, 0)
  else match (List.range (chunkCount m)).find? fun i => bad.contains (slot, i) || !x.holds i with
    | some i => some (6, i)
    | none => none

end Sys2Proof.Machine
end

