-- ==== Sys2Proof/Machine/FatalOps.lean ====
section
/-! DEFINITION. Raising a class-4 fault, which the rubble dump follows (R427, R434, R435). -/

namespace Sys2Proof.Machine

/-- Commit a fatal event of class 4. The first one waits for its dump (RUBBLE_DUMP); one that meets a dump already due
or running is recorded and flagged (R435). -/
def State.fatal (loc code region : Nat) (params : List Byte) (s : State) : State :=
  let stamp := s.now
  let s := s.raiseAt loc code params
  if s.dump.fault.isSome || s.dump.stage != .none then { s with dump.second := true }
  else { s with dump.fault := some { event := code, region := region, location := loc, stamp := stamp, params := params } }

end Sys2Proof.Machine
end

