-- ==== Sys2Proof/Machine/Arbiters.lean ====
section
/-! DEFINITION. The commands of the keystone arbiters and the mortar fabric, and the packets of class 0x0A (R378 to R389). -/

namespace Sys2Proof.Machine

/-- Arbiter numbers in use (R379). -/
def arbiterCount : Nat := 130

/-- The value a write of KS_PRIO stores: ranks 0 and 1 always enabled, reserved bits zero, PROMOTE_TO at least 2 (R90). -/
def ksPrioStored (v : Nat) : Nat :=
  3 + bits v 7 2 * 4 + bits v 10 8 * 256 + max 2 (bits v 14 12) * 4096 + bits v 15 15 * 32768

/-- KS_PRIO[a] as it reads: zero for an arbiter number not in use (R90). -/
def State.ksPrio (s : State) (a : Nat) : Nat := if a < arbiterCount then (s.direct.ksPrio.getD a 0).toNat else 0

def State.writeKsPrio (a v : Nat) (s : State) : State :=
  if a < arbiterCount then
    { s with direct.ksPrio := s.direct.ksPrio.set a (BitVec.ofNat 32 (ksPrioStored v)) }
  else s

/-- KS_PRIO_WRITE (R381). -/
def execKsPrioWrite (a : Nat) (v : W32) (s : State) : Result := onlyIf (a < arbiterCount) s (s.writeKsPrio a v.toNat)

/-- The effective rank of a request under a priority register, when it competes (R381). -/
def effectiveRank (prio rank : Nat) : Option Nat :=
  let from_ := bits prio 10 8
  let r := if bit prio 15 && decide (2 ≤ from_) && rank == from_ then bits prio 14 12 else rank
  if decide (r < 2) || bit prio r then some r else none

/-- Islands that a rubble dump does not freeze (R434). -/
def dumpIslands : List Nat := [0, 28, 29, 30, 33, 34, 36]

/-- A requester is masked while its island is not awake or is frozen; island 63 is the fabric itself (R382, R434). -/
def State.masked (s : State) (island : Nat) : Bool :=
  decide (island < 37) && (s.power.islands.getD island .awake != .awake || s.dump.stage != .none && !dumpIslands.contains island)

/-- `q` wins over `r`: lower effective rank, then earlier tick, then lower requester index (R380). -/
def beats (q r : Nat × KsRequest) : Bool :=
  decide (q.1 < r.1) || q.1 == r.1 && (decide (q.2.tick < r.2.tick) ||
    q.2.tick == r.2.tick && decide (q.2.requester ≤ r.2.requester))

/-- The best of a list of competing requests with their effective ranks. -/
def bestOf : List (Nat × KsRequest) → Option (Nat × KsRequest)
  | [] => none
  | q :: qs => match bestOf qs with
    | none => some q
    | some r => if beats q r then some q else some r

/-- The requests that compete in a contest, with their effective ranks (R380 to R382). -/
def State.competing (s : State) (a : Nat) (reqs : List KsRequest) : List (Nat × KsRequest) :=
  reqs.filterMap fun r =>
    if s.masked r.island then none else (effectiveRank (s.ksPrio a) r.rank).map fun e => (e, r)

/-- Count the wait of a granted request of rank 2 to 7 (R383). -/
def Watch.granted (w : Watch) (waited limit : Nat) : Watch :=
  { longest := max w.longest waited, overs := if limit < waited then w.overs + 1 else w.overs, raised := false }

/-- ARBITER_CONTEST (R380): the arrivals present at the start of the deciding beat join the waiting requests, and the
winner is granted. A request without a competitor's enable keeps its tick and waits. -/
def execArbiterContest (a : Nat) (arrivals : List KsRequest) (s : State) : Result :=
  let ar := s.arbiters.getD a {}
  let reqs := ar.waiting ++ arrivals
  match bestOf (s.competing a reqs) with
  | none => onlyIf (a < arbiterCount) s { s with arbiters := s.arbiters.set a { ar with waiting := reqs } }
  | some (e, r) =>
    let w := (ar.watch.getD r.rank {}).granted (s.tick - r.tick) s.dram.watchTicks
    let watch := if 2 ≤ r.rank then ar.watch.set r.rank w else ar.watch
    onlyIf (a < arbiterCount) s
      ({ s with arbiters := s.arbiters.set a { waiting := reqs.erase r, watch := watch } }.emit (.grant a r.requester e))

/-- The oldest waiting request of a rank. -/
def oldestTick : List KsRequest → Option Nat
  | [] => none
  | r :: rs => match oldestTick rs with
    | none => some r.tick
    | some t => some (min r.tick t)

/-- KS_STARVATION_EXPIRY (R383): a request of the rank has waited watch_ticks. -/
def execKsStarvationExpiry (a rank : Nat) (s : State) : Result :=
  let ar := s.arbiters.getD a {}
  let w := ar.watch.getD rank {}
  match oldestTick (ar.waiting.filter fun r => r.rank == rank) with
  | none => .next s
  | some t =>
    onlyIf (decide (a < arbiterCount) && decide (2 ≤ rank) && decide (rank < 8) && !w.raised &&
        decide (s.dram.watchTicks ≤ s.tick - t)) s
      (({ s with arbiters := s.arbiters.set a { ar with watch := ar.watch.set rank { w with raised := true } } }).raise
        Ev.ksStarvation (le 1 a ++ le 1 rank ++ le 8 (s.tick - t)))

/-- One hour and one day in stamp counts. -/
def hourNs : Nat := 3600000000000
def dayNs : Nat := 86400000000000

/-- The stamps of a list that lie within `span` below `now`, with `now` itself. -/
def recent (now span : Nat) (l : List Nat) : List Nat := now :: l.filter fun t => decide (now - t < span)

/-- A joint replay puts every class-A read under way outside condition 11 of R385: the spec does not say which joints a read crosses (log
entry 140). -/
def State.replayMarks (s : State) : State :=
  { s with nvme.cmds := s.nvme.cmds.mapVals fun c => if c.kind = .read && c.cls = 1 then { c with outside := c.outside ||| 2 ^ 10 } else c }

/-- JOINT_FLIT_REFUSED (R378): a flit with one symbol in error is corrected and counted; one with an uncorrectable
codeword is refused and replayed, at most twice, and the failure of its third copy is fatal. `first` says that the flit
is a new one and not a replay. -/
def execJointFlitRefused (joint symbols : Nat) (first : Bool) (s : State) : Result :=
  let loc := location 0 63 joint 0 0 0 3
  if 147 < joint || symbols = 0 then .next s
  else if symbols = 1 then
    let hits := recent s.now hourNs (s.dram.jointHits.getD joint [])
    let s' := { s with dram.flitsCorrected := s.dram.flitsCorrected + 1,
                       dram.jointHits := s.dram.jointHits.set joint (if hits.length < 1000 then hits else []) }
    .next (if hits.length < 1000 then s'
      else s'.raiseWith Ev.fabricEarlyWarning 1 63 loc (le 1 joint ++ le 4 hits.length))
  else
    let n := if first then 1 else s.dram.jointCopies.getD joint 0 + 1
    if n ≤ 2 then
      .next ({ s.replayMarks with dram.replays := s.dram.replays + 1, dram.jointCopies := s.dram.jointCopies.set joint n }.raiseWith
        Ev.jointReplay 1 63 loc (le 1 joint ++ le 1 n))
    else
      .next ({ s with dram.fatalReplays := s.dram.fatalReplays + 1, dram.jointCopies := s.dram.jointCopies.del joint }.fatal
        loc Ev.jointFatal 0 (le 1 joint ++ le 1 2))

def State.dramChannel (s : State) (c : Nat) : DramChannel := s.dram.channels.getD c {}

def State.setDramChannel (c : Nat) (v : DramChannel) (s : State) : State :=
  { s with dram.channels := s.dram.channels.set c v }

/-- DQS_OSCILLATOR_CHECK (R371): write DQ is re-centred when the drift, in 1/256 UI, exceeds 1/16 UI. -/
def execDqsOscillatorCheck (channel oscillator drift : Nat) (s : State) : Result :=
  let c := s.dramChannel channel
  onlyIf (decide (channel < 12) && c.dimm == .trained && decide (16 < drift)) s
    (s.setDramChannel channel { c with dqsBaseline := oscillator })

/-- DRAM_CONFIG (R375, R376, R383). -/
def execDramConfig (op : PktOp) (s : State) : Result := packetRun 0x0A00 op s fun p s =>
  ({ s with dram.scrubHours := p.f 0 2, dram.dramEw := p.f 4 4, dram.watchTicks := p.f 8 8 }).replyOk p

/-- State and exclusion reason as DRAM_STATUS reports them. -/
def DimmState.code : DimmState → Nat × Nat
  | .empty => (0, 0)
  | .excluded r => (1, r)
  | .trained => (2, 0)

/-- DRAM_STATUS (R389); clear zeroes the counters it has reported. -/
def execDramStatus (op : PktOp) (s : State) : Result := packetRun 0x0A01 op s fun p s =>
  let i := p.f 0 1
  let c := s.dramChannel i
  let listed := c.repairs.length
  let repaired := (c.repairs.filter fun r => r.state == 2).length
  let data := le 1 c.dimm.code.1 ++ le 1 c.dimm.code.2 ++ le 2 c.speed ++ le 1 c.ranks ++ le 1 c.density ++ zeros 2 ++
    le 8 c.capacity ++ le 8 c.corrected ++ le 8 c.uncorrectable ++ le 8 c.scrubbed ++ le 2 listed ++ le 2 repaired ++
    zeros 4 ++ le 8 c.trainStamp ++ zeros 8
  if c.dimm = .empty then s.fail p St.channelAbsent
  else
    (if p.f 1 1 = 1 then s.setDramChannel i { c with corrected := 0, uncorrectable := 0, scrubbed := 0 } else s).reply p
      St.ok 0 data

def RepairRow.bytes (r : RepairRow) : List Byte :=
  le 1 r.rank ++ le 1 r.bankGroup ++ le 1 r.bank ++ le 1 r.state ++ le 4 r.row

/-- DRAM_REPAIR_LIST (R389): action 1 removes the pending rows; the list is written as it then stands. -/
def execDramRepairList (op : PktOp) (s : State) : Result := packetRun 0x0A02 op s fun p s =>
  let i := p.f 0 1
  let c := s.dramChannel i
  let rows := if p.f 1 1 = 1 then c.repairs.filter fun r => r.state != 1 else c.repairs
  if c.dimm = .empty then s.fail p St.channelAbsent
  else
    let t := s.setDramChannel i { c with repairs := rows }
    (if p.f 1 1 = 1 then t.logRecord 7 i (rows.flatMap RepairRow.bytes) else t).reply p St.ok 0
      (fit 512 (rows.flatMap RepairRow.bytes))

/-- LATENCY_CONFIG (R384): the guard holds for the frames and READs sent from then on. Which engine runs a job, and when a job may
start on codewords that still arrive, changes no result and is timing. -/
def execLatencyConfig (op : PktOp) (s : State) : Result := packetRun 0x0A03 op s fun p s =>
  ({ s with latency.guard := p.f 0 1 == 1 }).replyOk p

/-- LATENCY_STATUS (R388). -/
def execLatencyStatus (op : PktOp) (s : State) : Result := packetRun 0x0A04 op s fun p s =>
  let l := s.latency
  let data := le 8 l.reads ++ le 8 l.outside ++ l.conditions.flatMap (le 8) ++ le 8 l.longest ++ zeros 8
  (if p.f 0 1 = 1 then { s with latency := { guard := l.guard } } else s).reply p St.ok 0 data

/-- KS_WATCH_READ (R383). -/
def execKsWatchRead (op : PktOp) (s : State) : Result := packetRun 0x0A05 op s fun p s =>
  let a := p.f 0 1
  let ar := s.arbiters.getD a {}
  let data := (ar.watch.drop 2).flatMap fun w => le 8 w.longest ++ le 8 w.overs
  let cleared := ar.watch.map fun w => { w with longest := 0, overs := 0 }
  if arbiterCount ≤ a then s.fail p St.arbiterUnknown
  else
    (if p.f 1 1 = 1 then { s with arbiters := s.arbiters.set a { ar with watch := cleared } } else s).reply p St.ok 0 data

/-- FABRIC_COUNTERS (R389). -/
def execFabricCounters (op : PktOp) (s : State) : Result := packetRun 0x0A06 op s fun p s =>
  let d := s.dram
  let data := le 8 d.flitsCorrected ++ le 8 d.replays ++ le 8 d.fatalReplays ++ le 8 d.sramCorrected ++
    le 8 d.sramSweeps ++ le 8 d.mcacheSweeps ++ zeros 16
  (if p.f 0 1 = 1 then
    { s with dram.flitsCorrected := 0, dram.replays := 0, dram.fatalReplays := 0, dram.sramCorrected := 0,
             dram.sramSweeps := 0, dram.mcacheSweeps := 0 }
   else s).reply p St.ok 0 data

end Sys2Proof.Machine
end

