-- ==== Sys2Proof/Machine/DigestOps.lean ====
section
/-! DEFINITION. The operations of the digest channels and key slots (R188 to R207). -/

namespace Sys2Proof.Machine

def State.chan (s : State) (c : Nat) : Channel := s.digest.channels.getD c {}

def State.setChan (c : Nat) (ch : Channel) (s : State) : State :=
  { s with digest.channels := s.digest.channels.set c ch }

def State.keySlot (s : State) (k : Nat) : KeySlot := s.keys.slots.getD k {}

def State.setKeySlot (k : Nat) (v : KeySlot) (s : State) : State := { s with keys.slots := s.keys.slots.set k v }

/-- Digest length in bytes of an algorithm: 1 SHA-256, 2 SHA-384, 3 SHA-512 (R194). -/
def digestLen (alg : Nat) : Nat := if alg = 1 then 32 else if alg = 2 then 48 else 64

/-- The digest or keyed digest of a message (R194, R197). -/
def Message.digest (m : Message) : List Byte :=
  fit (digestLen m.algorithm)
    (if m.mode < 2 then sha m.algorithm m.bytes else hmac m.algorithm m.key m.bytes)

/-- The handle of a channel's message (R190). -/
def handleOf (c gen : Nat) : Nat := c + gen % 2 ^ 24 * 256

/-- The channel a handle names, when the handle is not stale (R190). -/
def State.live (s : State) (handle : Nat) : Option Nat :=
  let c := handle % 256
  if decide (c < 35) && (s.chan c).state != .free && (s.chan c).gen == handle / 256 then some c else none

/-- A general channel, fed in 8-byte words and ended by a last word (R192, R193). -/
def general (c : Nat) : Bool := decide (c < 32)

/-- The key kind an HMAC algorithm needs (R213). -/
def hmacKind (alg : Nat) : Nat := if alg = 1 then 4 else 5

/-- A fresh message as DG_START opens it (R189, R197). -/
def State.freshMessage (s : State) (p : Packet) : Message :=
  let k := p.f 3 1
  { algorithm := p.f 1 1, mode := p.f 2 1, keySlot := k,
    key := if p.f 2 1 < 2 then [] else (s.keySlot k).key, keyGen := if p.f 2 1 < 2 then 0 else (s.keySlot k).gen,
    declared := p.f 8 8, bytes := [], owner := p.acc }

/-- The key check of R197: modes 2 and 3 need a slot of the algorithm's kind. -/
def State.hmacKeyOk (s : State) (p : Packet) : Bool :=
  decide (p.f 2 1 < 2) || (s.keySlot (p.f 3 1)).kind == hmacKind (p.f 1 1)

/-- Open a message on a channel: the generation moves on, ERROR is cleared by a START (R190, R193). -/
def State.openMessage (c : Nat) (m : Message) (start : Bool) (s : State) : State :=
  let ch := s.chan c
  s.setChan c { ch with state := .owned, gen := (ch.gen + 1) % 2 ^ 24, msg := m, finish := none,
                        lwError := if start then false else ch.lwError }

/-- The save slot a token names (R195). -/
def State.saveSlot (s : State) (token : Nat) : SaveSlot :=
  if bit token 11 then s.digest.shadows.getD (bits token 10 0) {} else s.digest.records.getD (bits token 10 0) {}

def State.setSaveSlot (shadow : Bool) (n : Nat) (v : SaveSlot) (s : State) : State :=
  if shadow then { s with digest.shadows := s.digest.shadows.set n v }
  else { s with digest.records := s.digest.records.set n v }

/-- The saved message a token names, when it is live (R195). -/
def State.saved (s : State) (token : Nat) : Option Message :=
  let v := s.saveSlot token
  if v.gen == bits token 31 12 then v.saved else none

/-- A DG_RESUME whose token is not live: ST_INTERNAL when its record was lost (R374). -/
def State.noSaved (p : Packet) (s : State) : State :=
  let v := s.saveSlot (p.f 0 4)
  if v.lost && v.gen == bits (p.f 0 4) 31 12 then s.internalFault p (BitVec.ofNat 64 (location 0 17 0 0 0 0 4)) else s.fail p St.handleStale

/-- Free the record or shadow of a token (R195). -/
def State.freeSave (token : Nat) (s : State) : State :=
  s.setSaveSlot (bit token 11) (bits token 10 0) { s.saveSlot token with saved := none }

/-- Give a FREE channel to a DG_START or DG_RESUME and reply. The flag says whether the channel was taken; when it was
not, the packet has replied with the status of its failure (R190, R191, R195, R197). -/
def State.takeChannel (c : Nat) (p : Packet) (s : State) : State × Bool :=
  if p.opcode = 0x0500 then
    if s.hmacKeyOk p then
      let s := s.openMessage c (s.freshMessage p) true
      (s.reply p St.ok (handleOf c (s.chan c).gen) [], true)
    else (s.fail p St.keyUsage, false)
  else if p.opcode = 0x0B03 then
    (({ s with digest.taken34 := true, digest.grant34 := some p.acc }).unwait p, true)
  else
    let token := p.f 0 4
    match s.saved token with
    | none => (s.noSaved p, false)
    | some m =>
      let s := s.freeSave token
      if decide (2 ≤ m.mode) && (s.keySlot m.keySlot).gen != m.keyGen then (s.fail p St.keyGeneration, false)
      else
        let s := s.openMessage c { m with owner := p.acc } false
        (s.reply p St.ok (handleOf c (s.chan c).gen) [], true)

/-- Pool of a channel: 0 for channels 0 to 31, 1 for 32 to 34 (R191). -/
def poolOf (c : Nat) : Nat := if c < 32 then 0 else 1

/-- The oldest waiter for channel `c`, its own queue first, then its pool's (R191). -/
def State.nextWaiter (s : State) (c : Nat) : Option (Waiter × State) :=
  match (s.chan c).waiters with
  | w :: ws => some (w, s.setChan c { s.chan c with waiters := ws })
  | [] =>
    match s.digest.poolWaiters.getD (poolOf c) [] with
    | w :: ws => some (w, { s with digest.poolWaiters := s.digest.poolWaiters.set (poolOf c) ws })
    | [] => none

/-- Serve the waiters of a FREE channel until one takes it (R191); one whose deadline tick has passed is answered first (R31). -/
def State.serveWaiters (c : Nat) : Nat → State → State
  | 0, s => s
  | fuel + 1, s =>
    match s.nextWaiter c with
    | none => s
    | some (w, s) =>
      match s.packet? w.acc with
      | none => s.serveWaiters c fuel
      | some p =>
        let (s, took) := if s.expired w.deadline then (s.replyTo w.acc St.busyOwned 0 [], false) else s.takeChannel c p
        if took then s else s.serveWaiters c fuel

/-- Free a channel: its message is discarded, a DG_FINISH that waits for its last word finds its handle stale, and the
oldest waiter takes it in the same tick (R189, R191, R196). -/
def State.freeChannel (c : Nat) (s : State) : State :=
  let f := (s.chan c).finish
  let s := s.setChan c { s.chan c with state := .free, msg := {}, finish := none }
  let s := match f with
    | some (acc, _) => s.replyTo acc St.handleStale 0 []
    | none => s
  if decide (c = 34) && s.digest.taken34 then s else s.serveWaiters c 32

/-- The lowest-numbered FREE channel of a pool; channel 34 is out of its pool while an update holds it (R188, R191). -/
def State.freeInPool (s : State) (general : Bool) : Option Nat :=
  (if general then List.range 32 else if s.digest.taken34 then [32, 33] else [32, 33, 34]).find? fun c =>
    (s.chan c).state == .free

/-- Ticks of the queue deadline of R191. -/
def digestDeadline : Nat := 15625000

/-- Queue a request in increasing accept stamp, or refuse it when its FIFO is full (R191). -/
def State.queueOn (sel : Nat) (p : Packet) (s : State) : State :=
  let w : Waiter := { acc := p.acc, deadline := p.acc / 64 + digestDeadline }
  let place (l : List Waiter) : List Waiter := l.filter (fun x => decide (x.acc < w.acc)) ++ w :: l.filter (fun x => decide (w.acc ≤ x.acc))
  if sel < 35 then
    let ch := s.chan sel
    if ch.waiters.length < 16 then (s.setChan sel { ch with waiters := place ch.waiters }).queueUp p
    else s.fail p St.busyOwned
  else
    let i := if sel = 0xFE then 0 else 1
    let q := s.digest.poolWaiters.getD i []
    if q.length < 16 then
      ({ s with digest.poolWaiters := s.digest.poolWaiters.set i (place q) }).queueUp p
    else s.fail p St.busyOwned

/-- Find a channel for a DG_START or DG_RESUME by its selector: a channel number, 0xFE or 0xFF (R191). -/
def State.requestChannel (sel : Nat) (p : Packet) (s : State) : State :=
  if sel = 34 && s.digest.taken34 then s.fail p St.busyOwned
  else if sel < 35 then
    if (s.chan sel).state = .free then (s.takeChannel sel p).1
    else if p.queue then s.queueOn sel p
    else s.fail p St.busyOwned
  else
    match s.freeInPool (sel == 0xFE) with
    | some c => (s.takeChannel c p).1
    | none => if p.queue then s.queueOn sel p else s.fail p St.noChannel

/-- The end of DG_FINISH once the message is complete (R194, R197, R198). -/
def State.finishMessage (c : Nat) (p : Packet) (s : State) : State :=
  let m := (s.chan c).msg
  let s := s.setChan c { s.chan c with finish := none }
  let s :=
    if general c && m.bytes.length != m.declared then s.reply p St.lengthMismatch m.bytes.length []
    else if m.mode % 2 = 0 then s.reply p St.ok (digestLen m.algorithm) m.digest
    else s.fail p (if m.digest.take (p.f 4 1) = p.bytes 8 (p.f 4 1) then St.ok else St.verifyFail)
  s.freeChannel c

/-- DG_LW_CTRL (R193): end the message with `n` bytes of the stored word, or set ERROR; a DG_UPDATE, DG_SUSPEND or DG_RESUME of the
channel is in progress from its fetch to its reply. -/
def State.lastWord (c n : Nat) (s : State) : State :=
  let ch := s.chan c
  let busy := s.inFlight.any fun q =>
    (q.opcode == 0x0501 || q.opcode == 0x0503) && q.f 0 1 == c || q.opcode == 0x0504 && q.f 4 1 == c
  if decide (8 < n) || ch.state != .owned || busy then s.setChan c { ch with lwError := true }
  else
    let s := s.setChan c { ch with state := .lastWord, msg := { ch.msg with bytes := ch.msg.bytes ++ slice ch.lwData 0 n } }
    match ch.finish with
    | none => s
    | some (acc, _) =>
      match s.packet? acc with
      | none => s
      | some p => s.finishMessage c p

/-! ### Key slots (R199 to R207) -/

/-- The check value of a key (R206). -/
def checkValue (key : List Byte) : List Byte :=
  if key.isEmpty then zeros 8 else fit 8 (hmac 1 key (ascii "GLIREN-KCV"))

/-- Fill a slot: generation, load count, invocation counter and change stamp move as R199 and R211 say; the event names
the operation. -/
def State.placeKey (k kind attributes origin opc : Nat) (key : List Byte) (s : State) : State :=
  let v := s.keySlot k
  let v := { v with kind := kind, attributes := attributes, origin := origin, key := key, gen := (v.gen + 1) % 2 ^ 32,
                    loadCount := satAdd 16 v.loadCount 1, changed := s.now, invocation := 0, missing := false }
  ((s.setKeySlot k v).logRecord 2 k (le 2 v.loadCount)).raise Ev.keySlotChanged (le 1 k ++ le 1 opc ++ le 1 kind ++ le 4 v.gen ++ checkValue key)

/-- Empty a slot (R199, R206). -/
def State.emptyKey (k : Nat) (s : State) : State :=
  let v := s.keySlot k
  let v := { v with kind := 0, attributes := 0, origin := 0, key := [], gen := (v.gen + 1) % 2 ^ 32, changed := s.now,
                    invocation := 0, missing := false }
  (s.setKeySlot k v).raise Ev.keySlotChanged (le 1 k ++ le 1 4 ++ le 1 0 ++ le 4 v.gen ++ zeros 8)

/-- Random bytes from the generator: a free value (R204). -/
def State.random (s : State) (len : Nat) : List Byte := fit len (Config.randomBits s.free len)

/-- Cryptographic erase of a slot: destroyed and given a new XTS key in one step (R200). -/
def State.eraseKey (k : Nat) (s : State) : State := (s.placeKey k 1 (s.keySlot k).attributes 3 5 (s.random 80)).freed

/-- The request needs the cipher engine and the part has none (R2, R212). -/
def State.noCipher (s : State) : Bool := s.orderCode == .a0n

/-- The IV the chip forms, when it can form a unique one (R211). -/
def State.formIv (s : State) (k : Nat) : Option (List Byte) :=
  let v := s.keySlot k
  if s.head.headId = 0xFFFF || v.loadCount = 0xFFFF then none
  else some (le 2 s.head.headId ++ le 2 v.loadCount ++ le 8 v.invocation)

/-- Count one encryption under a slot's placement (R211). -/
def State.countIv (k : Nat) (s : State) : State :=
  s.setKeySlot k { s.keySlot k with invocation := (s.keySlot k).invocation + 1 }

/-- EV_KEY_MISSING, once per slot until it is filled (R207). -/
def State.keyMissing (k nsid : Nat) (s : State) : State :=
  if (s.keySlot k).missing then s
  else (s.setKeySlot k { s.keySlot k with missing := true }).raise Ev.keyMissing (le 1 k ++ le 4 nsid)

/-- Add to or take from the references of a slot; 0xFF names none (R200). -/
def State.refKey (k : Nat) (up : Bool) (s : State) : State :=
  if k < 64 then
    let v := s.keySlot k
    s.setKeySlot k { v with nsRefs := if up then v.nsRefs + 1 else v.nsRefs - 1 }
  else s

end Sys2Proof.Machine
end

