-- ==== Sys2Proof/Machine/Parity.lean ====
section
/-! DEFINITION. The parity arithmetic of stripes (R252): GF(2^8) with polynomial 0x11D, parity strips and the recovery
of missing strips. -/

namespace Sys2Proof.Machine

/-- Multiplication by alpha = 0x02. -/
def gfDouble (a : Byte) : Byte := if a.getLsbD 7 then (a <<< 1) ^^^ 0x1D#8 else a <<< 1

/-- Product in GF(2^8): `n` counts the bits of `b` from bit 0. -/
def gfMulFrom : Nat → Byte → Byte → Nat → Byte
  | 0, _, _, _ => 0
  | n + 1, a, b, i => (if b.getLsbD i then a else 0) ^^^ gfMulFrom n (gfDouble a) b (i + 1)

def gfMul (a b : Byte) : Byte := gfMulFrom 8 a b 0

def gfPow (a : Byte) : Nat → Byte
  | 0 => 1
  | n + 1 => gfMul a (gfPow a n)

def gfInv (a : Byte) : Byte := gfPow a 254

/-- Coefficient of data strip `i` in parity strip `k`: alpha^(k i) (R252). -/
def coefficient (k i : Nat) : Byte := gfPow 2 (k * i)

def scaleBytes (c : Byte) (a : List Byte) : List Byte := if c = 1 then a else a.map (gfMul c)

/-- Parity `k` of the data strips (R252), each of `n` bytes. -/
def parityOf (n k : Nat) (strips : List (List Byte)) : List Byte :=
  (strips.zipIdx.map fun x => scaleBytes (coefficient k x.2) x.1).foldl xorBytes (zeros n)

/-- A row of a linear system: its coefficients and its right side. -/
abbrev GfRow := List Byte × List Byte

def GfRow.minus (r p : GfRow) (c : Byte) : GfRow :=
  (xorBytes r.1 (scaleBytes c p.1), xorBytes r.2 (scaleBytes c p.2))

/-- Gauss elimination by columns: `done` rows are reduced, `rest` are not. -/
def gfSolve : Nat → Nat → List GfRow → List GfRow → List GfRow
  | 0, _, done, _ => done
  | n + 1, j, done, rest =>
    match rest.find? fun r => r.1.getD j 0 != 0 with
    | none => done
    | some p =>
      let c := gfInv (p.1.getD j 0)
      let q : GfRow := (scaleBytes c p.1, scaleBytes c p.2)
      let clear (r : GfRow) : GfRow := r.minus q (r.1.getD j 0)
      gfSolve n (j + 1) (done.map clear ++ [q]) ((rest.erase p).map clear)

/-- The data words of `d` cells from the words known by cell, data cells 0 to d - 1 and parity cells from d: none when
fewer than d words are known (R252, R286). -/
def recoverData (d n : Nat) (known : List (Nat × List Byte)) : Option (List (List Byte)) :=
  let word (c : Nat) : Option (List Byte) := (known.find? fun x => x.1 == c).map Prod.snd
  let lost := (List.range d).filter fun c => (word c).isNone
  let par := (known.filter fun x => decide (d ≤ x.1)).take lost.length
  if par.length < lost.length then none
  else
    let rows : List GfRow := par.map fun x =>
      let k := x.1 - d
      let rhs := (List.range d).foldl (fun acc c => match word c with
        | none => acc
        | some w => xorBytes acc (scaleBytes (coefficient k c) w)) (fit n x.2)
      (lost.map fun c => coefficient k c, rhs)
    let sol := gfSolve lost.length 0 [] rows
    some ((List.range d).map fun c => match word c with
      | some w => w
      | none => match sol[lost.findIdx (· == c)]? with
        | some r => r.2
        | none => zeros n)

end Sys2Proof.Machine
end

