-- ==== Sys2Proof/Machine/TemplateOps.lean ====
section
/-! DEFINITION. Reading the templates of a bank (R22, R257, R308, R309, R462). -/

namespace Sys2Proof.Machine

/-- The template kinds of R22, as R419 numbers them. -/
def kindLayout : Nat := 1
def kindSchedule : Nat := 2
def kindTokens : Nat := 3
def kindHuffman : Nat := 4
def kindRanks : Nat := 5

def bodyOf (bank : Tab Template) (kind : Nat) : List Byte :=
  match bank.get? kind with
  | some t => t.body
  | none => []

/-! ### Layout templates (R257) -/

/-- A layout of a layout template: `cells` are its cell bytes, 4 per cell, row by row. -/
structure Layout where
  id : Nat
  data : Nat
  parity : Nat
  rows : Nat
  modules : List Nat
  cells : List Byte
deriving DecidableEq, Repr

def Layout.width (y : Layout) : Nat := y.data + y.parity

/-- Cell `c` of row `r`: the module index and the die (0xFF: any). -/
def Layout.cell (y : Layout) (r c : Nat) : Nat × Nat :=
  let o := 4 * (r * y.width + c)
  (fieldAt y.cells o 2, fieldAt y.cells (o + 2) 1)

/-- The module number a cell names. -/
def Layout.module (y : Layout) (r c : Nat) : Nat := y.modules.getD (y.cell r c).1 0xFFFF

/-- Bytes of a layout after its 16-byte header (R257). -/
def layoutBytes (d p m r : Nat) : Nat := 8 * ((m + 3) / 4) + 4 * r * (d + p)

/-- The layouts of a body from byte `off`, `n` of them. -/
def parseLayouts (body : List Byte) : Nat → Nat → List Layout
  | 0, _ => []
  | n + 1, off =>
    let d := fieldAt body (off + 1) 1
    let p := fieldAt body (off + 2) 1
    let m := fieldAt body (off + 4) 2
    let r := fieldAt body (off + 6) 2
    let len := fieldAt body (off + 8) 4
    let y : Layout := { id := fieldAt body off 1, data := d, parity := p, rows := r,
                        modules := (List.range m).map fun i => fieldAt body (off + 16 + 2 * i) 2,
                        cells := slice body (off + 16 + 8 * ((m + 3) / 4)) (4 * r * (d + p)) }
    y :: parseLayouts body n (off + 16 + len)

def layoutsOf (body : List Byte) : List Layout := parseLayouts body (fieldAt body 0 2) 0x30

/-- The journal set of a layout template (R257). -/
def journalSetOf (body : List Byte) : List Nat :=
  (List.range (fieldAt body 2 2)).map fun i => fieldAt body (8 + 2 * i) 2

def State.layouts (s : State) : List Layout := layoutsOf (bodyOf s.templates.active kindLayout)

def State.layout? (s : State) (id : Nat) : Option Layout := s.layouts.find? fun y => y.id == id

def State.journalSet (s : State) : List Nat := journalSetOf (bodyOf s.templates.active kindLayout)

/-! ### Die-slot schedules (R308) and power-token plans (R309) -/

def frameSlots (body : List Byte) : Nat := fieldAt body 0 2
def slotTicks (body : List Byte) : Nat := fieldAt body 2 2

/-- Starts a frame allows die `d` of module `m` (R308: the period divides the frame and the first slot lies below it). -/
def startsOf (body : List Byte) (m d : Nat) : Nat :=
  let pat := fieldAt body (0x10 + 1024 * fieldAt body 4 1 + m) 1
  if pat = 0xFF then 0 else frameSlots body / fieldAt body (0x10 + 1024 * pat + 4 * d + 2) 2

/-- Die `d` of module `m` may start in slot `k` (R308). -/
def mayStart (body : List Byte) (m d k : Nat) : Bool :=
  let n := fieldAt body 4 1
  let pat := fieldAt body (0x10 + 1024 * n + m) 1
  let first := fieldAt body (0x10 + 1024 * pat + 4 * d) 2
  let period := fieldAt body (0x10 + 1024 * pat + 4 * d + 2) 2
  pat != 0xFF && decide (first ≤ k) && (k - first) % period == 0

/-- Token cost of a start: opcode 3 PROGRAM, 4 ERASE, 6 RESUME (of an erase or not), 12 JOURNAL_APPEND (R309, R310). -/
def tokenCost (body : List Byte) (opcode : Nat) (erase : Bool) : Nat :=
  if opcode = 3 then fieldAt body 0 1
  else if opcode = 4 then fieldAt body 1 1
  else if opcode = 6 then fieldAt body (if erase then 3 else 2) 1
  else fieldAt body 4 1

def budgetOf (body : List Byte) (m : Nat) : Nat := fieldAt body (0x10 + m) 1

/-! ### Huffman tables and rank maps -/

/-- The bank that holds the templates of an epoch: the active bank, or the one that drains (R22, R25). -/
def State.bankAt (s : State) (epoch : Nat) : Tab Template :=
  if epoch = s.templates.epoch then s.templates.active else s.templates.draining.getD []

/-- A table of the static Huffman template of a bank (R180). -/
def huffIn (bank : Tab Template) (id : Nat) : Option (List Byte) :=
  let body := bodyOf bank kindHuffman
  ((List.range (fieldAt body 0 2)).map fun i => slice body (8 + 328 * i) 328).find? fun t => fieldAt t 0 1 == id

/-- A table of the active static Huffman template. -/
def State.huffTable? (s : State) (id : Nat) : Option (List Byte) := huffIn s.templates.active id

/-- The standard rank map of R462. -/
def standardRanks : List Nat := [0, 1, 1, 2, 3, 3, 6, 6, 6, 4, 4, 5, 5, 5, 6, 6, 7, 7, 7]

/-- Rank of a kind of work under the active rank map; the standard rank before epoch 1 (R20, R462). -/
def State.rankOf (s : State) (kind : Nat) : Nat :=
  match s.templates.active.get? kindRanks with
  | some t => fieldAt t.body kind 1
  | none => standardRanks.getD kind 7

end Sys2Proof.Machine
end

