-- ==== Sys2Proof/Machine/FlashOps.lean ====
section
/-! DEFINITION. The operations of Plinth links, commands, starts and reads (R254, R292 to R297, R300, R304, R309 to R314,
R317 to R324, R384). -/

namespace Sys2Proof.Machine

/-! ### Block-group addresses (R270) -/

/-- Module in [9:0], die in [17:10], block group in [33:18]. -/
def bgAddr (module die bg : Nat) : Nat := module + die * 2 ^ 10 + bg * 2 ^ 18
def bgModule (a : Nat) : Nat := a % 2 ^ 10
def bgDie (a : Nat) : Nat := a / 2 ^ 10 % 2 ^ 8
def bgGroup (a : Nat) : Nat := a / 2 ^ 18 % 2 ^ 16

def State.block (s : State) (a : Nat) : BgRecord := s.flash.blocks.getD a {}
def State.updBlock (a : Nat) (f : BgRecord → BgRecord) (s : State) : State :=
  { s with flash.blocks := s.flash.blocks.set a (f (s.block a)) }

def State.module (s : State) (m : Nat) : FModule := s.flash.modules.getD m {}
def State.updModule (m : Nat) (f : FModule → FModule) (s : State) : State :=
  { s with flash.modules := s.flash.modules.set m (f (s.module m)) }

def FModule.die (x : FModule) (d : Nat) : Die := x.dies.getD d {}
def State.die (s : State) (m d : Nat) : Die := (s.module m).die d
def State.updDie (m d : Nat) (f : Die → Die) (s : State) : State :=
  s.updModule m fun x => { x with dies := x.dies.set d (f (x.die d)) }

/-- This chip holds an erase of the block group, running or suspended (R314). -/
def State.eraseRuns (s : State) (a : Nat) : Bool := match (s.die (bgModule a) (bgDie a)).op with
  | some o => o.erase && o.addr == a
  | none => false

def State.flashCount (i : Nat) (s : State) : State :=
  { s with flash.counters := s.flash.counters.set i (satAdd 64 (s.flash.counters.getD i 0) 1) }

/-- A module new segments and reads may use: attached or retiring, not detached (R324). -/
def State.reachable (s : State) (m : Nat) : Bool := (s.module m).state != .detached

/-- Fields of the module record (R298). -/
def FModule.levelCount (x : FModule) : Nat := fieldAt x.record 0x17 1
def FModule.diePresent (x : FModule) (d : Nat) : Bool := bit (fieldAt x.record (0x18 + d / 8) 1) (d % 8)
def FModule.blockGroups (x : FModule) : Nat := fieldAt x.record 0x38 2
def FModule.rowsTotal (x : FModule) : Nat := fieldAt x.record 0x3A 2

/-- The flash sequencer of a module's link: islands 22 to 27 serve 16 links each (R11). -/
def flashIsland (m : Nat) : Nat := linkIsland m

/-! ### Links (R292 to R294, R323) -/

def State.link (s : State) (l : Nat) : Link := s.flash.links.getD l {}
def State.updLink (l : Nat) (f : Link → Link) (s : State) : State :=
  { s with flash.links := s.flash.links.set l (f (s.link l)) }

def Link.count (k : Link) (i d : Nat) : Link := { k with counters := k.counters.set i (satAdd 64 (k.counters.getD i 0) d) }

/-- The configuration is Mesh (R328). -/
def State.mesh (s : State) : Bool := s.head.configuration == 2

/-- Links over which a module is reached, the primary first (R323). -/
def State.linksOf (s : State) (m : Nat) : List Nat := if s.mesh then [m % 96, (m % 96) ^^^ 1] else [m % 96]

/-- The link a command goes over: the first that is UP, else the primary, where it waits (R304, R324). -/
def State.pathOf (s : State) (m : Nat) : Nat :=
  ((s.linksOf m).find? fun l => (s.link l).state == .up).getD (m % 96)

def State.anyLinkUp (s : State) (m : Nat) : Bool := (s.linksOf m).any fun l => (s.link l).state == .up

/-- A COMMAND frame. -/
def Out.isCommand : Out → Bool
  | .plinthCommand .. => true
  | _ => false

/-- The frames of a queue that the credit limit lets out (R294): `s` lies before `limit` modulo 2^16. Those of the commands in `held` stay
where they are. Of the credits the last `kept` serve only COMMAND frames of the commands in `urgent` (R384). -/
def takeFrames (limit kept : Nat) (held urgent : List Nat) : Nat → List (Nat × Out) → List (Nat × Out) × List (Nat × Out)
  | _, [] => ([], [])
  | seq, f :: fs =>
    let room := (limit + 65536 - seq) % 65536
    let least := if urgent.contains f.1 && f.2.isCommand then 0 else kept
    if !held.contains f.1 && decide (least < room) && decide (room < 32768) then
      let r := takeFrames limit kept held urgent ((seq + 1) % 65536) fs
      ((f.1, f.2.numbered seq) :: r.1, r.2)
    else
      let r := takeFrames limit kept held urgent seq fs
      (r.1, f :: r.2)

/-- Insert a frame before the first of a higher rank. -/
def insertFrame (rank : Nat → Nat) (f : Nat × Out) : List (Nat × Out) → List (Nat × Out)
  | [] => [f]
  | g :: gs => if rank f.1 < rank g.1 then f :: g :: gs else g :: insertFrame rank f gs

/-- The frames of a queue in rank order, those of one rank as they came (R384). -/
def byRank (rank : Nat → Nat) (fs : List (Nat × Out)) : List (Nat × Out) := fs.foldl (fun l f => insertFrame rank f l) []

/-- Response time of an opcode in ticks (R304). -/
def plTime (opcode : Nat) : Nat :=
  if opcode = 3 then ticksOf 4000000
  else if opcode = 4 then ticksOf 25000000
  else if opcode = 5 || opcode = 6 then ticksOf 200000
  else if opcode = 7 || opcode = 8 || opcode = 9 || opcode = 10 || opcode = 14 then ticksOf 10000000
  else ticksOf 2000000

/-- Key of an outstanding command: its module and cmd_id. -/
def PlCmd.key (c : PlCmd) : Nat := c.module * 2 ^ 32 + c.id

/-- Arm the deadlines of commands whose last frame has been sent (R304): suspended operations wait without one. -/
def armDeadlines (tick : Nat) (sent rest : List (Nat × Out)) (cs : List PlCmd) : List PlCmd :=
  cs.map fun c =>
    if (sent.any fun f => f.1 == c.key) && !(rest.any fun f => f.1 == c.key) then
      { c with deadline := some (tick + plTime c.opcode) }
    else c

/-- An opcode that R311 starts: PROGRAM, ERASE, RESUME, JOURNAL_APPEND. -/
def isStart (opcode : Nat) : Bool := opcode == 3 || opcode == 4 || opcode == 6 || opcode == 12

/-- Commands that no link may start now: programs, erases, resumes and journal appends while brown-out blocking or a thermal trip holds
(R39, R311, R316). -/
def State.heldStarts (s : State) : List Nat :=
  if s.power.brownout || s.power.tripped then (s.flash.cmds.filter fun c => isStart c.opcode).map PlCmd.key else []

/-- The operation of a command whose last frame has been sent in its first attempt has started (R311, R313). -/
def State.stampOps (tick : Nat) (sent rest : List (Nat × Out)) (s : State) : State :=
  let now (c : PlCmd) : Bool := c.attempt == 0 && (c.opcode == 3 || c.opcode == 4) && (sent.any fun f => f.1 == c.key) &&
    !(rest.any fun f => f.1 == c.key)
  (s.flash.cmds.filter now).foldl (fun s c =>
    s.updDie c.module c.die fun x => { x with op := x.op.map fun o => if o.cmd = c.id then { o with since := tick } else o }) s

/-- The rank of the outstanding command with a key. -/
def State.frameRank (s : State) (key : Nat) : Nat := ((s.flash.cmds.find? fun c => c.key == key).map PlCmd.rank).getD 7

/-- What the waiting frames of a link send now, and what still waits: under the class-A guard they go in rank order, and 4 credits
are kept for COMMAND frames of ranks 0 and 1 (R294, R384). -/
def State.framesDue (s : State) (k : Link) : List (Nat × Out) × List (Nat × Out) :=
  if s.latency.guard then
    let urgent := (s.flash.cmds.filter fun c => decide (c.rank < 2)).map PlCmd.key
    takeFrames k.limit 4 s.heldStarts urgent k.seq (byRank s.frameRank k.txq)
  else takeFrames k.limit 0 s.heldStarts [] k.seq k.txq

/-- Send the waiting frames of a link that is UP, as far as its credits go (R39, R294). -/
def State.flushLink (l : Nat) (s : State) : State :=
  let k := s.link l
  if k.state ≠ .up then s
  else
    let r := s.framesDue k
    let t := s.stampOps s.tick r.1 r.2
    { (t.updLink l fun k => ({ k with txq := r.2, seq := (k.seq + r.1.length) % 65536 }).count 0 r.1.length) with
      flash.cmds := armDeadlines s.tick r.1 r.2 s.flash.cmds,
      out := (r.1.map Prod.snd).reverse ++ s.out }

/-- Queue frames on a link and send what may go. -/
def State.sendFrames (l : Nat) (fs : List (Nat × Out)) (s : State) : State :=
  (s.updLink l fun k => { k with txq := k.txq ++ fs }).flushLink l

/-- The frames of one attempt of a command: its COMMAND frame and its DATA frames (R293, R296). -/
def State.framesOf (s : State) (c : PlCmd) (l : Nat) : List (Nat × Out) :=
  (c.key, Out.plinthCommand l c.module s.head.headId c.id c.attempt c.opcode c.domain c.die c.addr c.page c.claim c.reads
    c.mode c.offsets (if c.opcode = 11 then c.count else c.param) c.cost 0) ::
  (if c.opcode = 3 then
    (List.range 16).map fun i => (c.key, Out.plinthData l c.module c.id i (slice c.frame (4608 * i) 4608) s.head.headId c.attempt 0)
  else if c.opcode = 12 then [(c.key, Out.plinthData l c.module c.id 0 c.frame s.head.headId c.attempt 0)]
  else [])

/-- The opcodes whose commands name a die (R296, R297). -/
def namesDie (op : Nat) : Bool := [2, 3, 4, 5, 6, 8, 9, 10, 11, 15].contains op

/-- At most 8 commands are outstanding per die and 1,024 per module (R300): there is room for another of an opcode. -/
def State.hasRoom (s : State) (m d opcode : Nat) : Bool :=
  let cs := s.flash.cmds.filter fun c => c.module == m
  decide (cs.length < 1024) && (!namesDie opcode || decide ((cs.filter fun c => namesDie c.opcode && c.die == d).length < 8))

/-- Send a new command to a module: it takes the next cmd_id of the module (R295) and the FLASH_CONFIG in force (R325). -/
def State.sendCmd (c : PlCmd) (s : State) : State :=
  let c := { c with id := (s.module c.module).nextCmd, config := s.flash.config }
  let s := s.updModule c.module fun x => { x with nextCmd := x.nextCmd + 1 }
  let s := { s with flash.cmds := s.flash.cmds ++ [c] }
  let l := s.pathOf c.module
  s.sendFrames l (s.framesOf c l)

/-- Issue a new command: it goes at once, or waits for room (R300). -/
def State.issue (c : PlCmd) (s : State) : State :=
  if s.hasRoom c.module c.die c.opcode then s.sendCmd c else { s with flash.held := s.flash.held ++ [c] }

/-- Commands of a module have ended: those that wait for room go as far as there is room, in their order (R300). -/
def State.sendHeld (m : Nat) (s : State) : State :=
  let waiting := s.flash.held.filter fun c => c.module == m
  let s := { s with flash.held := s.flash.held.filter fun c => c.module != m }
  waiting.foldl (fun s c => s.issue c) s

/-- The claim this head holds for a domain (R338). -/
def State.claimOf (s : State) (d : Nat) : Nat := (s.domains.getD d {}).claim

def State.owns (s : State) (d : Nat) : Bool :=
  let x := (s.domains.getD d {}).state
  x == .owned || x == .releasing

/-- Segments and stripes of a domain may be written: this head owns it, or it is taking it over and its journal replay has
ended, so that replayed records are written into stripes before the domain is owned (R339, R352). -/
def State.writesFor (s : State) (d : Nat) : Bool :=
  let x := s.domains.getD d {}
  s.owns d || (x.state == .acquiring && x.journalDone)

/-- Gated commands of a domain may be issued: this head acquires or holds it (R303, R339). -/
def State.holdsClaim (s : State) (d : Nat) : Bool := (s.domains.getD d {}).state != .none

def State.cmd? (s : State) (m id : Nat) : Option PlCmd := s.flash.cmds.find? fun c => c.module == m && c.id == id

def State.dropCmd (m id : Nat) (s : State) : State :=
  { s with flash.cmds := s.flash.cmds.filter fun c => !(c.module == m && c.id == id) }

def State.updCmd (m id : Nat) (f : PlCmd → PlCmd) (s : State) : State :=
  { s with flash.cmds := s.flash.cmds.map fun c => if c.module == m && c.id == id then f c else c }

/-- Present the claim of a domain to a module (R301, R323). -/
def State.presentClaim (m d claim : Nat) (use : PlUse) (s : State) : State :=
  s.issue { id := 0, module := m, opcode := 7, domain := d, claim := claim, use := use }

/-! ### Starts (R310, R311) -/

/-- The templates the flash sequencers run under: the epoch their running schedule frame took (R307). -/
def State.flashBank (s : State) : Tab Template :=
  if s.flash.frameEpoch = s.templates.epoch then s.templates.active else s.templates.draining.getD s.templates.active

/-- Queue a PROGRAM, ERASE, RESUME or JOURNAL_APPEND for its slot. Its ready stamp is now; a PROGRAM or ERASE whose die is busy takes it
when the die becomes idle (R311). -/
def State.queueStart (x : Start) (s : State) : State :=
  let busy := (x.opcode == 3 || x.opcode == 4) && (s.die x.module x.die).op.isSome
  { s with now := s.now + 1, flash.starts := s.flash.starts ++ [{ x with ready := s.now, waits := busy }] }

/-- A die has become idle: the starts that waited for it take their ready stamp now (R311). -/
def State.freeDie (m d : Nat) (s : State) : State :=
  let s := s.updDie m d fun x => { x with op := none }
  let mine (x : Start) : Bool := x.waits && x.module == m && x.die == d
  if s.flash.starts.any mine then
    { s with now := s.now + 1,
             flash.starts := s.flash.starts.map fun x => if mine x then { x with ready := s.now, waits := false } else x }
  else s

/-- Queue the erase of a block group, once (R315). -/
def State.queueErase (a domain rank : Nat) (s : State) : State :=
  if (s.block a).erasing then s
  else
    (s.updBlock a fun b => { b with erasing := true }).queueStart
      { module := bgModule a, opcode := 4, domain := domain, die := bgDie a, addr := a, rank := rank, ready := 0,
        use := .erase a }

/-- The die of a start is free to take it: a program or erase needs an idle die (R300, R311). -/
def State.startable (s : State) (x : Start) : Bool :=
  if x.opcode = 3 || x.opcode = 4 then (s.die x.module x.die).op.isNone else true

def Start.before (a b : Start) : Bool := decide (a.rank < b.rank) || (a.rank == b.rank && decide (a.ready ≤ b.ready))

/-- Insertion of a start by rank, then ready stamp (R311). -/
def insertStart (x : Start) : List Start → List Start
  | [] => [x]
  | y :: ys => if x.before y then x :: y :: ys else y :: insertStart x ys

def sortStarts (l : List Start) : List Start := l.foldr insertStart []

/-- Send a start that its slot admits. -/
def State.sendStart (x : Start) (s : State) : State :=
  let erase := match (s.die x.module x.die).op with
    | some o => o.erase
    | none => x.opcode == 4
  let c : PlCmd :=
    { id := 0, module := x.module, opcode := x.opcode, domain := x.domain, die := x.die, addr := x.addr, page := x.page,
      claim := s.claimOf x.domain, rank := x.rank, use := x.use, frame := x.data,
      param := x.param, cost := tokenCost (bodyOf s.flashBank kindTokens) x.opcode erase,
      ready := x.ready, slots := x.slots }
  let id := (s.module x.module).nextCmd
  let s := s.issue c
  let s := s.updModule x.module fun m => { m with admitted := m.admitted + 1, longest := max m.longest x.slots }
  if x.opcode = 3 || x.opcode = 4 then
    s.updDie x.module x.die fun d => { d with op := some { cmd := id, erase := x.opcode == 4, domain := x.domain,
                                                             addr := x.addr, since := s.tick } }
  else s

/-! ### Reads (R253, R254, R286, R312, R317) -/

/-- Key of a codeword of a stripe: its cell and its index in the strip. -/
def wordKey (cell i : Nat) : Nat := cell * 16 + i

/-- The codewords that cover units `off` to `off + units - 1` of a stripe's data area (R253, R286). -/
def wordsOf (off units : Nat) : List Nat :=
  ((List.range units).map fun k => wordKey ((off + k) / 256) ((off + k) % 256 / 16)).eraseDups

def State.segmentOf (s : State) (stripe : Nat) : Option (Nat × Segment × Stripe) :=
  match s.stripe.stripes.get? stripe with
  | none => none
  | some t =>
    match s.stripe.segments.get? t.segment with
    | none => none
    | some g => some (t.segment, g, t)

/-- Address of a cell for a row: the replacement for rows already rebuilt, their programs done (R279). -/
def Segment.cellAddr (g : Segment) (cell row : Nat) : Nat :=
  match g.replacement.get? cell with
  | some a => if row < g.rebuildRow && !g.rebuilding.contains (cell, row) then a else g.cells.getD cell 0
  | none => g.cells.getD cell 0

/-- A cell is missing: its module detached, its die or block group failed (R279); a retiring cell stays readable
(R285). -/
def State.addrMissing (s : State) (a : Nat) : Bool :=
  !s.reachable (bgModule a) || (s.block a).failed || (s.die (bgModule a) (bgDie a)).failed

def State.job? (s : State) (j : Nat) : Option ReadJob := s.flash.jobs.get? j
def State.setJob (j : Nat) (x : ReadJob) (s : State) : State := { s with flash.jobs := s.flash.jobs.set j x }

/-- Queue the READ of codewords of one cell in one mode (0 hard; 2k - 1 and 2k the two reads of soft step k). -/
def State.queueRead (j cell : Nat) (words : List Nat) (mode : Nat) (s : State) : State :=
  match s.job? j with
  | none => s
  | some x =>
    match s.segmentOf x.stripe with
    | none => s
    | some (_, g, t) =>
      let a := g.cellAddr cell t.row
      { s with now := s.now + 1, flash.reads := s.flash.reads ++ [
          { job := j, cell := cell, module := bgModule a, die := bgDie a, addr := a, page := t.row, words := words,
            mode := mode, rank := x.rank, arrival := s.now }] }

/-- Ask for codewords that the job does not hold yet: those on missing cells are bad at once; those of a block group
that this chip erases are answered ST_FLASH_ERASE_PENDING and are bad (R286, R314). -/
def State.wantWords (j : Nat) (keys : List Nat) (s : State) : State :=
  match s.job? j with
  | none => s
  | some x =>
    match s.segmentOf x.stripe with
    | none => s.setJob j { x with need := x.need ++ keys, bad := x.bad ++ keys }
    | some (_, g, t) =>
      let blocked (k : Nat) : Bool :=
        let a := g.cellAddr (k / 16) t.row
        s.addrMissing a || s.eraseRuns a
      let bad := keys.filter blocked
      let good := keys.filter fun k => !blocked k
      let pending := (keys.filter fun k => s.eraseRuns (g.cellAddr (k / 16) t.row)).length
      let s := s.setJob j { x with need := x.need ++ keys, bad := x.bad ++ bad, pending := x.pending || decide (0 < pending) }
      let s := if 0 < pending then s.flashCount 7 else s
      ((good.map (· / 16)).eraseDups).foldl
        (fun s cell => s.queueRead j cell ((good.filter fun k => k / 16 == cell).map (· % 16)) 0) s

/-- Start the read of a unit range of a stripe for a user (read-path step 3). -/
def State.startRead (use : ReadUse) (rank stripe off units : Nat) (s : State) : State :=
  let j := s.flash.nextJob
  let w := wordsOf off units
  let s := { s with flash.nextJob := j + 1 }
  (s.setJob j { use := use, rank := rank, stripe := stripe, off := off, units := units, need := [], want := w }).wantWords
    j w

/-- Start the read of given codewords of a stripe (scrub and rebuild). -/
def State.startWords (use : ReadUse) (rank stripe : Nat) (keys : List Nat) (s : State) : State :=
  let j := s.flash.nextJob
  let s := { s with flash.nextJob := j + 1 }
  (s.setJob j { use := use, rank := rank, stripe := stripe, off := 0, units := 0, need := [], want := keys }).wantWords
    j keys

/-- Codewords with index `i` of the job that are known. -/
def ReadJob.known (x : ReadJob) (i : Nat) : List (Nat × List Byte) :=
  (x.got.filter fun e => e.1 % 16 == i).map fun e => (e.1 / 16, e.2)

/-- The job waits for a codeword. -/
def ReadJob.outstanding (x : ReadJob) : Bool := x.need.any fun k => !x.got.has k && !x.bad.contains k

/-- The next codewords to ask for so that each wanted word that is bad can be solved (R286): for its index the lowest
cells not asked for yet, until D are known or outstanding. -/
def ReadJob.more (x : ReadJob) (d w : Nat) : List Nat :=
  let lost := (x.want.filter fun k => x.bad.contains k).map (· % 16)
  lost.eraseDups.flatMap fun i =>
    let have_ := (x.need.filter fun k => k % 16 == i && !x.bad.contains k).length
    (((List.range w).map fun c => wordKey c i).filter fun k => !x.need.contains k).take (d - have_)

/-- The wanted codewords, the bad ones solved by R252; none when fewer than D of an index are known. -/
def ReadJob.solved (x : ReadJob) (d : Nat) : Option (Tab (List Byte)) :=
  x.want.foldl (fun acc k =>
    match acc with
    | none => none
    | some t =>
      match x.got.get? k with
      | some b => some (t.set k b)
      | none =>
        match recoverData d 4096 (x.known (k % 16)) with
        | none => none
        | some ws =>
          if k / 16 < d then some (t.set k (ws.getD (k / 16) []))
          else some (t.set k (parityOf 4096 (k / 16 - d) ws))) (some [])

/-- The bytes of the job's unit range from its codewords. -/
def ReadJob.range (x : ReadJob) (t : Tab (List Byte)) : List Byte :=
  (List.range x.units).flatMap fun k =>
    let o := x.off + k
    slice (t.getD (wordKey (o / 256) (o % 256 / 16)) []) (256 * (o % 16)) 256

/-! ### Read levels (R319) -/

def peBand (erases : Nat) : Nat := if erases < 1000 then 0 else if erases < 3000 then 1 else if erases < 6000 then 2 else 3

/-- Retention class by the time since the stripe's close. -/
def retention (ns : Nat) : Nat :=
  let h := 3600 * 10 ^ 9
  if ns < h then 0 else if ns < 24 * h then 1 else if ns < 720 * h then 2 else 3

def tempBandOf (t : Int) : Nat := if t < 30 then 0 else if t < 50 then 1 else if t < 70 then 2 else 3

/-- A READ's read-level entry: P/E band x 4 + retention class. -/
def State.levelEntry (s : State) (r : ReadReq) : Nat :=
  let age := match s.job? r.job with
    | none => 0
    | some x => s.now - ((s.stripe.stripes.getD x.stripe {}).closeStamp)
  peBand (s.block r.addr).eraseCount * 4 + retention age

/-- Offsets of a READ and whether it is a probe: the entry's offsets, one level shifted while the entry is mismatched;
soft reads shift every level by -k or +k. -/
def State.offsetsFor (s : State) (r : ReadReq) : List Int × Option Nat :=
  let d := s.die r.module r.die
  let e := d.levels.getD (s.levelEntry r) {}
  let n := (s.module r.module).levelCount
  let base : List Int := if e.valid then fit0 n e.offsets else List.replicate n 0
  if 0 < r.mode then
    let k : Int := ((r.mode + 1) / 2 : Nat)
    (base.map fun v => if r.mode % 2 = 1 then v - k else v + k, none)
  else if e.valid && e.band == d.tempBand then (base, none)
  else
    let j := e.sent
    if n = 0 || 16 ≤ j then (base, none)
    else (base.modify (j % n) (fun v => if j % 2 = 0 then v + 1 else v - 1), some j)
where
  fit0 (n : Nat) (l : List Int) : List Int := (l ++ List.replicate n 0).take n

/-- Corrected bits recorded for level `l`: of the probes that shifted it, and the fewest of those that did not (R319). -/
def probeChoice (n : Nat) (probes : Tab Nat) (l : Nat) : Int :=
  let mine := probes.filter fun p => p.1 % n == l
  let base := (probes.filter fun p => p.1 % n != l).map Prod.snd
  let start : Nat × Int := (base.foldl min (2 ^ 32), 0)
  (mine.foldl (fun b p => if p.2 < b.1 then (p.2, if p.1 % 2 = 0 then 1 else -1) else b) start).2

/-- A probe READ of an entry has been issued (R319). -/
def State.countProbe (m d entry : Nat) (s : State) : State :=
  s.updDie m d fun x => { x with levels := x.levels.modify entry fun e => { e with sent := e.sent + 1 } }

/-- Record the probe of number `j`; after the 16th set the levels, store the entry with its envelope and raise the event (R319). -/
def State.recordProbe (m d entry j bits_ : Nat) (s : State) : State :=
  let x := s.die m d
  let e := x.levels.getD entry {}
  let probes := e.probes.set j bits_
  if probes.length < 16 then
    s.updDie m d fun x => { x with levels := x.levels.set entry { e with probes := probes } }
  else
    let n := (s.module m).levelCount
    let base : List Int := (e.offsets ++ List.replicate n 0).take n
    let offs := base.zipIdx.map fun v => v.1 + probeChoice n probes v.2
    (s.updDie m d fun x => { x with levels := x.levels.set entry { valid := true, band := x.tempBand, offsets := offs } }).raiseFrom
      (flashIsland m) Ev.flashReadLevelEnvelope (le 2 m ++ le 1 d ++ le 1 entry ++ le 1 e.band ++ le 1 x.tempBand)

/-! ### Drain bandwidth (R266) -/

/-- Program starts a schedule frame of the active templates allows over the attached modules. -/
def State.startsPerFrame (s : State) : Nat :=
  let body := bodyOf s.templates.active kindSchedule
  ((s.flash.modules.filter fun x => x.2.state == .attached).map fun x =>
    ((List.range 256).map fun d => if x.2.diePresent d then startsOf body x.1 d else 0).sum).sum

/-- Recompute B_drain; a change is reported with EV_DRAIN_RATE (R50, R266). -/
def State.recomputeDrain (s : State) : State :=
  match s.layouts with
  | [] => s
  | y :: _ =>
    let b := Config.drainRate s.startsPerFrame y.data y.parity
    if b = s.power.bDrain then s
    else
      let old := s.power.bDrain
      ({ s with power.bDrain := b }).raise Ev.drainRate (le 4 b ++ le 4 old)

end Sys2Proof.Machine
end

