-- ==== Sys2Proof/Machine/HodOps.lean ====
section
/-! DEFINITION. Jobs and tasks of the hods (R413 to R416). -/

namespace Sys2Proof.Machine

/-- Grain of a task kind, in units of its range (R416). -/
def grainOf (kind : Nat) : Nat :=
  match kind with
  | 0x10 => 256
  | 0x12 => 16
  | 0x14 => 64
  | 0x16 => 256
  | 0x20 => 16
  | 0x21 => 16
  | _ => 1

def dequeSize : Nat := 512

def State.hod (s : State) (h : Nat) : Hod := s.mason.hods.getD h {}

def State.updHod (h : Nat) (f : Hod → Hod) (s : State) : State := { s with mason.hods := s.mason.hods.modify h f }

/-- The deque of a rank has room (R413). -/
def Hod.room (h : Hod) (rank : Nat) : Bool := decide ((if rank ≤ 4 then h.urgent else h.background).length < dequeSize)

/-- Push a task at the bottom of the deque of its rank (R413, R414). -/
def Hod.push (h : Hod) (t : Task) : Hod :=
  if t.rank ≤ 4 then { h with urgent := h.urgent ++ [t] } else { h with background := h.background ++ [t] }

/-- The hods in service. -/
def State.hodsInService (s : State) : List Nat := (List.range 64).filter fun h => !(s.hod h).disabled

/-- The next hod in service of the round robin whose deque of a rank has room (R414). -/
def State.nextHod (s : State) (rank : Nat) : Option Nat :=
  ((List.range 64).map fun i => (s.mason.turn + i) % 64).find? fun h => !(s.hod h).disabled && (s.hod h).room rank

/-- A job number is free: at most 256 jobs are open at once (R414). -/
def State.freeJob (s : State) : Option Nat := freeFrom (fun j => s.mason.jobs.has j) 256 0

/-- Push the root task of a job to the next hod of the round robin (R414); none while no job number or no deque is free. -/
def State.pushRoot (kind rank count : Nat) (s : State) : Option State :=
  match s.freeJob, s.nextHod rank with
  | some j, some h =>
    let t : Task := { kind := kind, rank := rank, range := decide (1 < count), job := j, first := 0, count := count }
    some { s.updHod h (fun x => x.push t) with mason.jobs := s.mason.jobs.set j 1, mason.turn := (h + 1) % 64 }
  | _, _ => none

/-- Start a job of some units: no task is dropped, so a root task that finds no job number and no room waits (R414). -/
def State.startJob (kind rank count : Nat) (s : State) : State :=
  if count = 0 then s
  else
    let wait : State := { s with mason.roots := s.mason.roots ++ [(kind, rank, count)] }
    if s.mason.roots.isEmpty then (s.pushRoot kind rank count).getD wait else wait

/-- Push the oldest root task that waits, if it can be. -/
def State.startWaiting (s : State) : State :=
  match s.mason.roots with
  | [] => s
  | r :: rs => match s.pushRoot r.1 r.2.1 r.2.2 with
    | some t => { t with mason.roots := rs }
    | none => s

/-- A task of a job has ended: the count falls, and the job ends at 0 (R414). -/
def State.endTask (j : Nat) (s : State) : State :=
  match s.mason.jobs.get? j with
  | none => s
  | some n => { s with mason.jobs := if n ≤ 1 then s.mason.jobs.del j else s.mason.jobs.set j (n - 1) }

/-- A child task is pushed: the job's count rises before it (R414). -/
def State.pushChild (h : Nat) (t : Task) (s : State) : State :=
  { s.updHod h (fun x => x.push t) with mason.jobs := s.mason.jobs.set t.job (s.mason.jobs.getD t.job 0 + 1) }

/-- The own end of a range once its upper halves have gone: the halves that a full deque could not take are run at once by
the hod itself, and count as tasks run (R414). -/
def State.splitRange (h : Nat) : Nat → Task → State → State
  | 0, _, s => s
  | fuel + 1, t, s =>
    if t.range && decide (grainOf t.kind < t.count) then
      let up := t.count / 2
      let child : Task := { t with first := t.first + (t.count - up), count := up }
      let rest : Task := { t with count := t.count - up }
      if (s.hod h).room t.rank then (s.pushChild h child).splitRange h fuel rest
      else (s.updHod h fun x => { x with tasks := x.tasks + 1 }).splitRange h fuel rest
    else s

/-- Run a task to its end (R413 to R416). -/
def State.runTask (h : Nat) (t : Task) (s : State) : State :=
  let s := s.splitRange h 64 t
  (s.updHod h fun x => { x with tasks := x.tasks + 1 }).endTask t.job

/-- The order in which hod `h` asks its victims: its own island from h + 1, wrapping, then the other island from the same
index (R415). -/
def victims (h : Nat) : List Nat :=
  let i := h / 32
  let k := h % 32
  ((List.range 31).map fun n => i * 32 + (k + 1 + n) % 32) ++ (List.range 32).map fun n => (1 - i) * 32 + (k + n) % 32

/-- The deque a hod looks at. -/
def Hod.deque (x : Hod) (urgent : Bool) : List Task := if urgent then x.urgent else x.background

def Hod.setDeque (x : Hod) (urgent : Bool) (l : List Task) : Hod :=
  if urgent then { x with urgent := l } else { x with background := l }

/-- Take the bottom task of the own deque, else steal the top task of the first victim that has one (R415). -/
def State.takeTask (h : Nat) (urgent : Bool) (s : State) : Option (Task × State) :=
  match ((s.hod h).deque urgent).reverse with
  | t :: rest => some (t, s.updHod h fun x => x.setDeque urgent rest.reverse)
  | [] =>
    match (victims h).find? fun v => !((s.hod v).deque urgent).isEmpty with
    | none => none
    | some v =>
      match (s.hod v).deque urgent with
      | [] => none
      | t :: rest =>
        let s := s.updHod v fun x => { x.setDeque urgent rest with stolen := x.stolen + 1 }
        some (t, s.updHod h fun x => { x with steals := x.steals + 1 })

end Sys2Proof.Machine
end

