-- ==== Sys2Proof/Machine/StripeOps.lean ====
section
/-! DEFINITION. The operations of segments, stripes, extents and the journal (R251 to R274, R279, R283). -/

namespace Sys2Proof.Machine

/-! ### Tables -/

def State.sdom (s : State) (d : Nat) : StripeDomain := s.stripe.domains.getD d {}
def State.updSdom (d : Nat) (f : StripeDomain → StripeDomain) (s : State) : State :=
  { s with stripe.domains := s.stripe.domains.set d (f (s.sdom d)) }

def State.journal (s : State) (d : Nat) : Journal := s.stripe.journals.getD d {}
def State.updJournal (d : Nat) (f : Journal → Journal) (s : State) : State :=
  { s with stripe.journals := s.stripe.journals.set d (f (s.journal d)) }

def State.stripeOf (s : State) (n : Nat) : Stripe := s.stripe.stripes.getD n {}
def State.updStripe (n : Nat) (f : Stripe → Stripe) (s : State) : State :=
  { s with stripe.stripes := s.stripe.stripes.upd n f }

def State.segment (s : State) (g : Nat) : Segment := s.stripe.segments.getD g {}
def State.updSegment (g : Nat) (f : Segment → Segment) (s : State) : State :=
  { s with stripe.segments := s.stripe.segments.upd g f }

def State.stripeCount (i d : Nat) (s : State) : State :=
  { s with stripe.counters := s.stripe.counters.set i (satAdd 64 (s.stripe.counters.getD i 0) d) }

/-- Stripe number and offset of a PXA (R253). -/
def pxaStripe (p : Nat) : Nat := p / 2 ^ 24
def pxaOffset (p : Nat) : Nat := p % 2 ^ 24
def pxaOf (stripe off : Nat) : Nat := stripe * 2 ^ 24 + off
def stripeDomainOf (n : Nat) : Nat := n / 2 ^ 32

/-! ### Journal records (R270) -/

def JBody.type : JBody → Nat
  | .stripeOpen .. => 1
  | .stripeClose .. => 2
  | .stripeAbandon .. => 3
  | .extentMove .. => 4
  | .segmentOpen .. => 5
  | .segmentMember .. => 6
  | .segmentState .. => 7
  | .memberReplace .. => 8
  | .stripeLost .. => 9
  | .checkpoint .. => 10
  | .lostClear .. => 11
  | .domainSettings .. => 12

/-- A type that some step waits on (R272). -/
def JBody.awaited (b : JBody) : Bool := !(b.type == 3 || b.type == 5 || b.type == 6)

/-- The body bytes from 0x18 (R270). -/
def JBody.bytes : JBody → List Byte
  | .stripeOpen st stream row seg ep => le 5 st ++ le 1 stream ++ le 2 row ++ le 4 seg ++ le 4 ep
  | .stripeClose st recs low crc used sum => le 5 st ++ le 1 0 ++ le 2 recs ++ le 8 low ++ le 4 crc ++ le 2 used ++ le 2 sum
  | .stripeAbandon st cause cell => le 5 st ++ le 1 cause ++ le 1 cell
  | .extentMove old new units kind => le 8 old ++ le 8 new ++ le 1 (units - 1) ++ le 1 kind
  | .segmentOpen seg d p stream lid row rows ep =>
    le 4 seg ++ le 1 d ++ le 1 p ++ le 1 stream ++ le 1 lid ++ le 2 row ++ le 2 rows ++ le 4 ep
  | .segmentMember seg first cells => le 4 seg ++ le 1 first ++ le 1 cells.length ++ cells.flatMap (le 5)
  | .segmentState seg st => le 4 seg ++ le 1 st
  | .memberReplace seg cell old new => le 4 seg ++ le 1 cell ++ le 1 0 ++ le 5 old ++ le 5 new
  | .stripeLost st cause missing => le 5 st ++ le 1 cause ++ le 8 missing
  | .checkpoint anchor low seq => le 8 anchor ++ le 8 low ++ le 8 seq
  | .lostClear st => le 5 st
  | .domainSettings level mode table flags b => le 1 level ++ le 1 mode ++ le 1 table ++ le 1 flags ++ le 1 b

/-- The 64 bytes of a record (R270). -/
def JRecord.bytes (d : Nat) (r : JRecord) : List Byte :=
  fit 64 (le 1 r.body.type ++ le 1 d ++ le 1 1 ++ zeros 5 ++ le 8 r.wsn ++ le 8 r.stamp ++ r.body.bytes)

/-- The record in 64 bytes, none for an unknown type or version. -/
def parseRecord (b : List Byte) : Option JRecord :=
  let f off n := fieldAt b (0x18 + off) n
  let body : Option JBody :=
    match fieldAt b 0 1 with
    | 1 => some (.stripeOpen (f 0 5) (f 5 1) (f 6 2) (f 8 4) (f 12 4))
    | 2 => some (.stripeClose (f 0 5) (f 6 2) (f 8 8) (f 16 4) (f 20 2) (f 22 2))
    | 3 => some (.stripeAbandon (f 0 5) (f 5 1) (f 6 1))
    | 4 => some (.extentMove (f 0 8) (f 8 8) (f 16 1 + 1) (f 17 1))
    | 5 => some (.segmentOpen (f 0 4) (f 4 1) (f 5 1) (f 6 1) (f 7 1) (f 8 2) (f 10 2) (f 12 4))
    | 6 => some (.segmentMember (f 0 4) (f 4 1) ((List.range (min 6 (f 5 1))).map fun i => f (6 + 5 * i) 5))
    | 7 => some (.segmentState (f 0 4) (f 4 1))
    | 8 => some (.memberReplace (f 0 4) (f 4 1) (f 6 5) (f 11 5))
    | 9 => some (.stripeLost (f 0 5) (f 5 1) (f 6 8))
    | 10 => some (.checkpoint (f 0 8) (f 8 8) (f 16 8))
    | 11 => some (.lostClear (f 0 5))
    | 12 => some (.domainSettings (f 0 1) (f 1 1) (f 2 1) (f 3 1) (f 4 1))
    | _ => none
  if fieldAt b 2 1 ≠ 1 then none
  else body.map fun x => { wsn := fieldAt b 8 8, stamp := fieldAt b 16 8, body := x }

/-- The 4,096 bytes of a frame (R272). -/
def frameBytes (d copy stamp : Nat) (f : JFrame) : List Byte :=
  let head (crc : Nat) := le 8 f.seq ++ le 8 f.claim ++ le 1 d ++ le 1 1 ++ le 1 f.records.length ++ le 1 copy ++ le 4 crc ++
    le 8 ((f.records.head?.map JRecord.wsn).getD 0) ++ le 8 stamp ++ zeros 24
  let recs := f.records.flatMap (JRecord.bytes d)
  fit 4096 (head (crc32c (fit 4096 (head 0 ++ recs))).toNat ++ recs)

/-- The frame in 4,096 bytes, none when its check fails (R275). -/
def parseFrame (d : Nat) (b : List Byte) : Option JFrame :=
  let n := fieldAt b 0x12 1
  if b.length = 4096 && fieldAt b 0x14 4 == (crc32c (slice b 0 0x14 ++ zeros 4 ++ b.drop 0x18)).toNat &&
      fieldAt b 0x10 1 == d && fieldAt b 0x11 1 == 1 && decide (1 ≤ n) && decide (n ≤ 63) then
    some { seq := fieldAt b 0 8, claim := fieldAt b 8 8,
           records := (List.range n).filterMap fun i => parseRecord (slice b (64 + 64 * i) 64) }
  else none

/-- The WSN that would be assigned next lies below the ceiling (R28). -/
def State.wsnFree (s : State) : Bool := decide (s.wp.wsn + 1 < s.run.wsnCeiling)

/-- A record of a type that takes a WSN of its own (R270). -/
def JBody.ownWsn (b : JBody) : Bool := b.type == 4 || b.type == 8

/-- Write a record to a domain's journal: it joins the open frame (R272). EXTENT_MOVE and MEMBER_REPLACE take a WSN of
their own, and wait while none is free (R28); STRIPE_CLOSE carries the WSN given; others the highest assigned (R270). -/
def State.journalWrite (d rank : Nat) (body : JBody) (high : Nat) (s : State) : State :=
  let own := body.ownWsn
  if own && !s.wsnFree then { s with wp.waitingMoves := s.wp.waitingMoves ++ [(d, rank, body)] } else
  let w := if own then s.wp.wsn + 1 else if body.type = 2 then high else s.wp.wsn
  let s := { s with now := s.now + 1, wp.wsn := if own then w else s.wp.wsn }
  s.updJournal d fun j =>
    { j with open_ := j.open_ ++ [{ wsn := w, stamp := s.now - 1, body := body }],
             rank := if body.awaited then min j.rank rank else j.rank }

/-- Usable entries of the journal set for a trio: attached, up and not retiring (R273). -/
def State.usableJournal (s : State) (m : Nat) : Bool := (s.module m).state == .attached && s.anyLinkUp m

/-- The first three usable entries from position (domain mod J), wrapping (R273). -/
def State.trioFor (s : State) (d : Nat) : List Nat :=
  let js := s.journalSet
  let n := js.length
  if n = 0 then []
  else (((List.range n).map fun i => js.getD ((d + i) % n) 0).filter s.usableJournal).take 3

/-- Bytes of the journal window (R274). -/
def Journal.window (j : Journal) : Nat := 4096 * (j.seq + 1 - j.checkpointSeq)

/-! ### Extents and forwarding (R268, R269) -/

/-- The PXA an extent is at now (R269). -/
def State.resolvePxa (s : State) (p : Nat) : Nat := (s.stripe.forward.get? p).getD p

def State.extent? (s : State) (p : Nat) : Option Extent := s.stripe.extents.get? (s.resolvePxa p)

/-- A forwarded stripe with no forwarding source left in it is free, unless it is in the lost-stripe table (R254). -/
def State.freeForwarded (s : State) : State :=
  let stays (n : Nat) (t : Stripe) : Bool :=
    t.state != .forwarded || s.stripe.lost.has n || s.stripe.forward.any fun f => pxaStripe f.1 == n
  { s with stripe.stripes := s.stripe.stripes.keep stays }

/-- Drop a dead extent: its units leave live_units and its forwarding entries go (R268). -/
def State.dropExtent (p : Nat) (s : State) : State :=
  match s.stripe.extents.get? p with
  | none => s
  | some e =>
    ({ s.updStripe (pxaStripe p) (fun t => { t with live := t.live - e.units }) with
      stripe.extents := s.stripe.extents.del p,
      stripe.forward := s.stripe.forward.keep fun k v => v != p && k != p } : State).freeForwarded

/-- An extent is reached through a PXA: a forwarding look-up where the stripe holds forwarding sources (R269). -/
def State.countLook (p : Nat) (s : State) : State :=
  if s.stripe.forward.any fun f => pxaStripe f.1 == pxaStripe p then s.stripeCount 9 1 else s

/-! Index pages, as far as holds name extents in them (R169, R170). -/

def indexKey (d page : Nat) : Nat := d * 2 ^ 40 + page
def State.indexPage (s : State) (d page : Nat) : IndexPage := s.wp.index.getD (indexKey d page) {}
def State.updIndexPage (d page : Nat) (f : IndexPage → IndexPage) (s : State) : State :=
  { s with wp.index := s.wp.index.set (indexKey d page) (f (s.indexPage d page)) }

/-- The 32-byte entry in a slot of a bucket of a page's body. -/
def entryOf (body : List Byte) (bucket slot : Nat) : List Byte := slice body (512 * (bucket % 8) + 32 * slot) 32

def ixPxa (e : List Byte) : Nat := fieldAt e 16 8

/-- A hold names an extent (R170, R277). -/
def State.heldExtent (s : State) (p : Nat) : Bool :=
  s.wp.holds.any fun h =>
    let bucket := h.1 / 16 % 2 ^ 36
    match (s.indexPage (h.1 / 16 / 2 ^ 36) (bucket / 8)).body with
    | none => false
    | some b => s.resolvePxa (ixPxa (entryOf b bucket (h.1 % 16))) == p

/-- Change an extent's counts; an extent of kind 1 or 2 with both at 0 is dead once no hold keeps it (R170, R268). -/
def State.updExtent (p : Nat) (f : Extent → Extent) (s : State) : State :=
  let q := s.resolvePxa p
  let s := s.countLook p
  match s.stripe.extents.get? q with
  | none => s
  | some e =>
    let e' := f e
    let s := { s with stripe.extents := s.stripe.extents.set q e' }
    if (e'.kind == 1 || e'.kind == 2) && e'.mapCount == 0 && e'.pending == 0 && !s.heldExtent q then s.dropExtent q else s

def State.mapCountAdd (p n : Nat) (s : State) : State := s.updExtent p fun e => { e with mapCount := e.mapCount + n }
def State.mapCountSub (p n : Nat) (s : State) : State := s.updExtent p fun e => { e with mapCount := e.mapCount - n }

/-- Trained DRAM bytes (R86). -/
def State.dramBytes (s : State) : Nat :=
  if s.dram.trained then ((s.dram.channels.filter fun c => c.dimm == .trained).map DramChannel.capacity).sum else 0

/-- Entries of the forward area (R269). -/
def forwardCapacity (dramBytes : Nat) : Nat := dramBytes / 1024

/-! ### Block groups, pools and segments (R254, R255, R259, R265, R266) -/

/-- Block groups of a domain's free pool, by address. -/
def State.freePool (s : State) (d : Nat) : List Nat :=
  (s.flash.blocks.filter fun b => b.2.place == .free d).map Prod.fst

/-- The free block group of a module for a domain on a die (0xFF: the die with the most, lowest number) with the lowest
erase count, of equal counts the lowest number (R255). -/
def State.pickFree (s : State) (d m die : Nat) (used : List Nat) : Option Nat :=
  let all := (s.freePool d).filter fun a => bgModule a == m && !used.contains a && !(s.die m (bgDie a)).failed
  let dies := (all.map bgDie).eraseDups
  let count (x : Nat) : Nat := (all.filter fun a => bgDie a == x).length
  let best := dies.foldl (fun (b : Option Nat) x => match b with
    | none => some x
    | some y => if count y < count x || (count x == count y && decide (x < y)) then some x else some y) none
  let die := if die = 0xFF || !(s.module m).diePresent die then best.getD 0xFF else die
  (all.filter fun a => bgDie a == die).foldl (fun (b : Option Nat) a => match b with
    | none => some a
    | some y =>
      let ea := (s.block a).eraseCount
      let ey := (s.block y).eraseCount
      if ea < ey || (ea == ey && decide (bgGroup a < bgGroup y)) then some a else some y) none

/-- A stripe index is free: the number is not in the stripe table (R254). -/
def State.newStripe (s : State) (d : Nat) : Nat :=
  (freeFrom (fun n => s.stripe.stripes.has (d * 2 ^ 32 + n)) (s.stripe.stripes.length + 1) 0).getD 0 + d * 2 ^ 32

/-- The lowest free segment index; one is free when its segment has gone and no stripe of it remains (R254). -/
def State.newSegment (s : State) (d : Nat) : Nat :=
  let used (n : Nat) : Bool :=
    s.stripe.segments.has (d * 2 ^ 24 + n) || s.stripe.stripes.any fun t => t.2.segment == d * 2 ^ 24 + n
  (freeFrom used (s.stripe.segments.length + s.stripe.stripes.length + 1) 0).getD 0 + d * 2 ^ 24

def segmentDomain (g : Nat) : Nat := g / 2 ^ 24

/-- The open segment of a stream. -/
def State.openSegment (s : State) (d t : Nat) : Option Nat :=
  (s.stripe.segments.find? fun g => segmentDomain g.1 == d && g.2.stream == t && g.2.state == .open).map Prod.fst

/-- The open stripe of a stream (R256). -/
def State.openStripe (s : State) (d t : Nat) : Option Nat :=
  (s.stripe.stripes.find? fun x => stripeDomainOf x.1 == d && x.2.stream == t && x.2.state == .open).map Prod.fst

/-- Seal a segment (R266). -/
def State.sealSegment (g : Nat) (s : State) : State :=
  if (s.segment g).state ≠ .open then s
  else (s.updSegment g fun x => { x with state := .sealed }).journalWrite (segmentDomain g) (s.rankOf 14)
    (.segmentState g SegState.sealed.code) 0

/-! ### Filling a stripe (R261 to R264) -/

def unitsFor (records : Nat) : Nat := (64 + 32 * records + 255) / 256

/-- Summary record of an extent of kinds 1 to 6, with the continuation records of its tags (R262). -/
def extentRecords (off : Nat) (e : Extent) : List (List Byte) :=
  let rec0 := le 2 off ++ le 1 (e.units - 1) ++ le 1 (e.kind + 8 * boolNat e.raw + 16 * boolNat e.tagged) ++ le 4 e.nsid ++
    le 5 e.bucket ++ le 1 e.keySlot ++ le 1 0 ++ le 1 0 ++ le 16 e.tag
  rec0 :: e.conts.map fun c =>
    le 2 off ++ le 1 (e.units - 1) ++ le 1 (8 * boolNat e.raw + 16) ++ le 4 e.nsid ++ le 5 c.bucket ++ le 1 e.keySlot ++
      le 1 c.sett ++ le 1 0 ++ le 16 c.tag

/-- The staging record an item belongs to, and its extent index. -/
def Item.wsn : Item → Option (Nat × Option Nat)
  | { source := .metaExtent w, .. } => some (w, none)
  | { source := .extent w i, .. } => some (w, some i)
  | _ => none

/-- The kind-7 record that precedes a staging record's extents in a stripe (R262). -/
def metaRecord (items : List Item) (w : Nat) (meta_ : Option Item) : List Byte :=
  let ix := items.filterMap fun i => match i.wsn with
    | some (v, some k) => if v = w then some k else none
    | _ => none
  let head := match meta_ with
    | some m => le 2 m.off ++ le 1 (m.ext.units - 1) ++ le 1 7
    | none => le 2 0 ++ le 1 0 ++ le 1 15
  head ++ le 8 w ++ le 2 (ix.head?.getD 0) ++ le 2 ix.length ++ zeros 16

/-- The summary records of a stripe's items, in offset order (R262). -/
def summaryRecords (items : List Item) : List (List Byte) :=
  (items.foldl (fun (acc : List Nat × List (List Byte)) i =>
    match i.wsn with
    | some (w, none) => (w :: acc.1, acc.2 ++ [metaRecord items w (some i)])
    | some (w, some _) =>
      let pre := if acc.1.contains w then [] else [metaRecord items w none]
      (w :: acc.1, acc.2 ++ pre ++ extentRecords i.off i.ext)
    | none => (acc.1, acc.2 ++ extentRecords i.off i.ext)) ([], [])).2

/-- An item fits in a stripe of D data strips: its units, the summary with it, and the record limit (R261). -/
def Stripe.fits (t : Stripe) (data : Nat) (i : Item) : Bool :=
  let n := (summaryRecords (t.items ++ [{ i with off := t.fill }])).length
  decide (n ≤ 2048) && decide (t.fill + i.ext.units + unitsFor n ≤ 256 * data)

/-- The data area of a stripe so far: its items, zero padding and, once complete, its summary at the end. -/
def Stripe.area (t : Stripe) (data : Nat) (summary : List Byte) : List Byte :=
  let body := t.items.flatMap fun i => fit (256 * i.ext.units) i.bytes
  let room := 65536 * data - summary.length
  fit room body ++ summary

/-- The summary of a stripe that closes (R262). -/
def Stripe.summary (t : Stripe) (n d data parity claim stamp : Nat) (g : Segment) : List Byte :=
  let recs := summaryRecords t.items
  let body := recs.flatten
  let units := unitsFor recs.length
  fit (256 * units) (le 1 1 ++ le 1 d ++ le 1 data ++ le 1 parity ++ le 2 recs.length ++ le 2 units ++ le 8 n ++
    le 8 claim ++ le 8 t.lowWsn ++ le 8 t.highWsn ++ le 8 stamp ++ le 4 g.epoch ++ le 2 g.layoutRow ++ le 1 g.layoutId ++
    le 1 t.stream ++ le 4 (crc32c body).toNat ++ zeros 4 ++ body)

/-- The 16 codewords of a strip: 4,096 data bytes and 512 parity bytes each (R298, R317). -/
def stripFrame (strip : List Byte) : List Byte :=
  (List.range 16).flatMap fun i =>
    let w := slice strip (4096 * i) 4096
    w ++ fit 512 (Config.ldpcParity w)

/-- Hand one strip to the flash sequencer of its module (R263 steps 2 and 3). -/
def State.program (n cell rank : Nat) (strip : List Byte) (s : State) : State :=
  let t := s.stripeOf n
  let a := (s.segment t.segment).cells.getD cell 0
  (s.updStripe n fun t => { t with programs := t.programs ++ [cell], handed := t.handed + 1 }).queueStart
    { module := bgModule a, opcode := 3, domain := stripeDomainOf n, die := bgDie a, addr := a, page := t.row, rank := rank,
      ready := 0, use := .program n cell, data := stripFrame strip }

/-- Hand over every strip that is full, and once the stripe is complete every strip and the parity (R263). -/
def State.handOver (n : Nat) (s : State) : State :=
  let t := s.stripeOf n
  let g := s.segment t.segment
  if !t.opened || t.state ≠ .open then s
  else
    let d := stripeDomainOf n
    let area := t.area g.data (if t.complete then t.summary n d g.data g.parity
      (match (s.wp.log.find? fun r => r.wsn == t.highWsn) with
        | some r => r.claim
        | none => s.claimOf d) t.stamp g else [])
    let strips := (List.range g.data).map fun k => slice area (65536 * k) 65536
    let full := if t.complete then g.data else t.fill / 256
    let cells := (List.range full).drop t.handed
    let s := cells.foldl (fun s c => s.program n c t.rank (strips.getD c [])) s
    if t.complete then
      ((List.range g.parity).filter fun k => decide (t.handed ≤ g.data + k)).foldl
        (fun s k => s.program n (g.data + k) t.rank (parityOf 65536 k strips)) s
    else s

/-- Complete a stripe: the rest is padded and the summary placed (R261, R263). A stripe with no content is not opened
(R264). -/
def State.completeStripe (n rank : Nat) (atOnce : Bool) (s : State) : State :=
  let t := s.stripeOf n
  if t.state ≠ .open || t.items.isEmpty then s
  else if t.complete then s.updStripe n fun t => { t with rank := min t.rank rank }
  else
    let k := (summaryRecords t.items).length
    let g := s.segment t.segment
    let s := { s with now := s.now + 1 }
    let s := s.updStripe n fun t => { t with complete := true, records := k, summaryUnits := unitsFor k,
                                              stamp := s.now - 1, rank := min t.rank rank }
    let s := s.stripeCount 2 (256 * g.data - t.fill - unitsFor k)
    (if atOnce then s.stripeCount 1 1 else s).handOver n

/-- Record where an item of a staging record was placed (R181, R261). -/
def State.notePlaced (i : Item) (n off : Nat) (s : State) : State :=
  match i.wsn with
  | none => s
  | some (w, k) =>
    { s with wp.log := s.wp.log.map fun r =>
        if r.wsn = w then
          let r := { r with stripes := if r.stripes.contains n then r.stripes else r.stripes ++ [n] }
          match k with
          | none => { r with meta_ := true }
          | some k => { r with pxas := r.pxas.set k (pxaOf n off), placed := r.placed + 1 }
        else r }

/-- Open a stripe in the next row of the stream's open segment; its STRIPE_OPEN is journaled first (R254, R263). -/
def State.beginStripe (d t g rank : Nat) (s : State) : Nat × State :=
  let n := s.newStripe d
  let x := s.segment g
  let new : Stripe := { stream := t, segment := g, row := x.rowsWritten, rank := 7 }
  let s := { s with stripe.stripes := s.stripe.stripes.set n new }
  let s := s.updSegment g fun x => { x with rowsWritten := x.rowsWritten + 1 }
  (n, s.journalWrite d rank (.stripeOpen n t x.rowsWritten g x.epoch) 0)

/-- Place an item in an open stripe that it fits. -/
def State.placeIn (n : Nat) (i : Item) (s : State) : State :=
  let t := s.stripeOf n
  let w := match i.wsn with
    | some (w, _) => w
    | none => 0
  let s := s.updStripe n fun t =>
    { t with items := t.items ++ [{ i with off := t.fill }], fill := t.fill + i.ext.units,
             since := match t.since with
               | some x => some x
               | none => some s.tick,
             lowWsn := if w = 0 then t.lowWsn else if t.lowWsn = 0 then w else min t.lowWsn w,
             highWsn := max t.highWsn w, rank := min t.rank i.rank }
  (s.notePlaced i n t.fill).handOver n

/-- Place waiting items of a stream, oldest first: into the open stripe while they fit, completing it when one does not,
into a new stripe when the stream has a row to open (R256, R261). `fuel` bounds the items placed. -/
def State.fillStream (d t : Nat) : Nat → State → State
  | 0, s => s
  | fuel + 1, s =>
    match (s.sdom d).queues.getD t [] with
    | [] =>
      match (s.sdom d).urgent.getD t none, s.openStripe d t with
      | some r, some n =>
        (s.updSdom d fun x => { x with urgent := x.urgent.set t none }).completeStripe n r true
      | _, _ => s
    | i :: rest =>
      let pop (s : State) : State := s.updSdom d fun x => { x with queues := x.queues.set t rest }
      match s.openStripe d t with
      | some n =>
        let x := s.stripeOf n
        if x.complete then s
        else if x.fits (s.segment x.segment).data i then ((pop s).placeIn n i).fillStream d t fuel
        else s.completeStripe n x.rank false
      | none =>
        match s.openSegment d t with
        | none => s
        | some g =>
          let x := s.segment g
          if x.rowsTotal ≤ x.rowsWritten then s
          else
            let r := s.beginStripe d t g i.rank
            ((pop r.2).placeIn r.1 i).fillStream d t fuel

def State.fill (d t : Nat) (s : State) : State := s.fillStream d t (((s.sdom d).queues.getD t []).length + 1)

/-- Give items to a stream (R261). -/
def State.place (d t : Nat) (is : List Item) (s : State) : State :=
  (s.updSdom d fun x => { x with queues := x.queues.set t (x.queues.getD t [] ++ is) }).fill d t

/-- Close a stream at once: its open stripe now, and while items wait every stripe they fill (R264). -/
def State.closeStream (d t rank : Nat) (s : State) : State :=
  let waiting := !((s.sdom d).queues.getD t []).isEmpty
  let s := if waiting then s.updSdom d fun x => { x with urgent := x.urgent.set t (some rank) } else s
  match s.openStripe d t with
  | some n => s.completeStripe n rank true
  | none => s

def State.closeDomain (d rank : Nat) (s : State) : State :=
  [0, 1, 2].foldl (fun s t => s.closeStream d t rank) s

/-! ### The end of a stripe (R263, R265 to R267) -/

/-- The live extents of a closed stripe enter the ledger (R262, R268). -/
def State.enterExtents (n : Nat) (t : Stripe) (s : State) : State :=
  t.items.foldl (fun s i =>
    let e : Extent := { i.ext with wsn := (i.wsn.map Prod.fst).getD 0 }
    { s with stripe.extents := s.stripe.extents.set (pxaOf n i.off) e }) s

/-- STRIPE_CLOSE is durable: the stripe is closed; a segment whose last row has closed is sealed (R263, R266). -/
def State.closedStripe (n stamp : Nat) (s : State) : State :=
  let t := s.stripeOf n
  let live := (t.items.map fun i => i.ext.units).sum
  let s := (s.enterExtents n t).updStripe n fun t => { t with state := .closed, live := live, closeStamp := stamp,
                                                              since := none, items := [] }
  let g := s.segment t.segment
  let s := s.stripeCount 0 1
  if g.rowsTotal ≤ g.rowsWritten then s.sealSegment t.segment else s

/-- Retire a block group with BLOCK_RETIRE (R322). -/
def State.retireBlock (a cause : Nat) (s : State) : State :=
  let d := (s.block a).domain
  ((s.updBlock a fun b => { b with failed := true, place := if b.place == .free d then .out else b.place }).issue
    { id := 0, module := bgModule a, opcode := 10, domain := d, die := bgDie a, addr := a, claim := s.claimOf d,
      use := .blockRetire a, param := cause }).raiseFrom (flashIsland (bgModule a)) Ev.blockRetired (le 5 a ++ le 1 cause)
    |>.flashCount 11

/-- Abandon an open stripe: journaled, its segment sealed, its content written again from its sources, the failed block
group retired after a program failure (R265). -/
def State.abandonStripe (n cause cell : Nat) (s : State) : State :=
  let t := s.stripeOf n
  if t.state ≠ .open then s
  else
    let d := stripeDomainOf n
    let a := (s.segment t.segment).cells.getD cell 0
    let s := s.journalWrite d t.rank (.stripeAbandon n cause cell) 0
    let s := s.sealSegment t.segment
    let ws := t.items.filterMap fun i => i.wsn.map Prod.fst
    let back (r : Staged) : Staged :=
      if ws.contains r.wsn then
        let k := (t.items.filter fun i => match i.wsn with
          | some (w, some _) => w == r.wsn
          | _ => false).length
        { r with stripes := r.stripes.filter (· != n), placed := r.placed - k }
      else r
    let s := { s with
      wp.log := s.wp.log.map back,
      flash.starts := s.flash.starts.filter fun x => match x.use with
        | .program m _ => m != n
        | _ => true }
    let s := s.updStripe n fun t => { t with state := .abandoned, items := [], programs := [], since := none }
    let s := s.updSdom d fun x => { x with queues := x.queues.set t.stream (t.items ++ x.queues.getD t.stream []),
                                            urgent := if t.complete then x.urgent.set t.stream (some t.rank) else x.urgent }
    let s := (s.stripeCount 3 1).raise Ev.stripeAbandoned (le 5 n ++ le 1 cause ++ le 1 cell)
    let s := if cause = 1 then s.retireBlock a 1 else s
    s.fill d t.stream

/-- Open stripes with a cell on a module (R265). -/
def State.openOn (s : State) (m : Nat) : List (Nat × Nat) :=
  s.stripe.stripes.filterMap fun x =>
    if x.2.state = .open then
      match (s.segment x.2.segment).cells.findIdx? fun a => bgModule a == m with
      | some c => some (x.1, c)
      | none => none
    else none

/-! ### Lost stripes (R283) -/

def lostTableSize : Nat := 1048576

/-- Steps 1 to 5 of R283 for a stripe; the map engine's sweep is queued (R235). The table must have room. -/
def State.loseStripe (n cause missing : Nat) (s : State) : State :=
  let t := s.stripeOf n
  if t.state = .lost then s
  else
    let d := stripeDomainOf n
    let s := s.journalWrite d (s.rankOf 9) (.stripeLost n cause missing) 0
    let s := s.updStripe n fun t => { t with state := .lost }
    let cells := ((List.range 64).filter fun i => bit missing i).length
    let gone (x : Page) : Page :=
      if x.body.isNone && x.pxa != 0 && pxaStripe (s.resolvePxa x.pxa) == n then { x with lost := true } else x
    let s := { s with
      map.pages := s.map.pages.mapVals gone,
      stripe.lost := s.stripe.lost.set n { cause := cause, missing := cells, swept := false, stamp := s.now },
      stripe.rebuild := { s.stripe.rebuild with lost := s.stripe.rebuild.lost + (if cause = 1 then 1 else 0) },
      map.sweeps := s.map.sweeps ++ [(n, 0)] }
    let entries := (s.map.pages.filter fun p => p.1 / 2 ^ 32 == d && (p.2.kind == 1 || p.2.kind == 2)).length
    (s.raise Ev.stripeLost (le 1 d ++ le 1 1 ++ le 5 n ++ zeros 15 ++ le 4 s.stripe.rebuild.lost)).startJob 0x25 (s.rankOf 9) entries

/-- Queue a segment as a garbage-collection victim, once (R277, R282, R320). -/
def State.queueVictim (g rank : Nat) (s : State) : State :=
  s.updSdom (segmentDomain g) fun x =>
    if x.victims.any fun v => v.1 == g then x else { x with victims := x.victims ++ [(g, rank)] }

/-- A stripe is weak: its evacuation is queued at the rank of rebuild within its floor (R282, R286). -/
def State.weaken (n : Nat) (s : State) : State :=
  let t := s.stripeOf n
  if t.weak then s else (s.updStripe n fun t => { t with weak := true }).queueVictim t.segment (s.rankOf 9)

end Sys2Proof.Machine
end

