-- ==== Sys2Proof/Machine/MapOps.lean ====
section
/-! DEFINITION. The operations of the de-duplication index and the hybrid map: buckets, holds, pages, layers, the metadata
cache, resolving, splitting, merging and releasing (R169 to R173, R216 to R245). -/

namespace Sys2Proof.Machine

/-! ### The de-duplication index (R169 to R173) -/

def State.reduceOf (s : State) (d : Nat) : ReduceDomain := s.wp.reduce.getD d {}
def State.wpCount (i d : Nat) (s : State) : State :=
  { s with wp.counters := s.wp.counters.set i (satAdd 64 (s.wp.counters.getD i 0) d) }

/-- The bucket of a fingerprint (R169). -/
def bucketOf (b : Nat) (fp : List Byte) : Nat := fieldAt fp 0 8 % 2 ^ b
def tagOf (fp : List Byte) : List Byte := slice fp 8 16

/-- Fields of an index entry (R169). -/
def ixTag (e : List Byte) : List Byte := slice e 0 16
def ixRefs (e : List Byte) : Nat := fieldAt e 24 4
def ixUnits (e : List Byte) : Nat := fieldAt e 28 2
def ixForm (e : List Byte) : Nat := fieldAt e 30 1 % 4
def ixRaw (e : List Byte) : Bool := bit (fieldAt e 30 1) 2
def ixSett (e : List Byte) : Nat := fieldAt e 30 1 / 16
def ixKey (e : List Byte) : Nat := fieldAt e 31 1
def ixEntry (tag : List Byte) (pxa refs units form sett key : Nat) (raw : Bool) : List Byte :=
  fit 16 tag ++ le 8 pxa ++ le 4 refs ++ le 2 units ++ le 1 (form + 4 * boolNat raw + 16 * sett) ++ le 1 key

def holdKey (d bucket slot : Nat) : Nat := (d * 2 ^ 36 + bucket) * 16 + slot

/-- Take or release a hold (R170). An entry whose refs fell to 0 under a hold is emptied when the hold ends, and an extent that it
alone kept is dead then. -/
def State.takeHold (d bucket slot : Nat) (s : State) : State :=
  { s with wp.holds := s.wp.holds.set (holdKey d bucket slot) (s.wp.holds.getD (holdKey d bucket slot) 0 + 1) }

def State.setIndexEntry (d bucket slot : Nat) (e : List Byte) (s : State) : State :=
  s.updIndexPage d (bucket / 8) fun p =>
    { p with dirty := true, body := p.body.map fun b => patch b (512 * (bucket % 8) + 32 * slot) e }

def State.dropHold (d bucket slot : Nat) (s : State) : State :=
  let k := holdKey d bucket slot
  let n := s.wp.holds.getD k 0
  let s := { s with wp.holds := if n ≤ 1 then s.wp.holds.del k else s.wp.holds.set k (n - 1) }
  match (s.indexPage d (bucket / 8)).body with
  | none => s
  | some b =>
    let e := entryOf b bucket slot
    let s := if n ≤ 1 && ixForm e != 0 && ixRefs e == 0 then s.setIndexEntry d bucket slot (zeros 32) else s
    if n ≤ 1 then s.updExtent (ixPxa e) fun x => x else s

/-- The slot of a bucket that satisfies a test. -/
def findSlot (body : List Byte) (bucket : Nat) (p : List Byte → Bool) : Option Nat :=
  (List.range 16).find? fun i => p (entryOf body bucket i)

/-- Add references to an entry; a value of 0xFFFF_FFFF is never incremented (R172, R173). -/
def State.indexAdd (d bucket : Nat) (p : List Byte → Bool) (s : State) : State :=
  match (s.indexPage d (bucket / 8)).body with
  | none => s
  | some b =>
    match findSlot b bucket p with
    | none => s
    | some i =>
      let e := entryOf b bucket i
      if ixRefs e = 0xFFFFFFFF then s else s.setIndexEntry d bucket i (patch e 24 (le 4 (ixRefs e + 1)))

/-- Insert an entry into the lowest empty slot; dropped when the bucket is full or holds its tag, form and key slot
(R173). The answer says whether it was made. -/
def State.indexInsert (d bucket : Nat) (e : List Byte) (s : State) : Bool × State :=
  match (s.indexPage d (bucket / 8)).body with
  | none => (false, s.wpCount 7 1)
  | some b =>
    let same (x : List Byte) : Bool := ixForm x == ixForm e && ixTag x == ixTag e && ixKey x == ixKey e
    match findSlot b bucket same, findSlot b bucket fun x => ixForm x == 0 with
    | none, some i => (true, (s.setIndexEntry d bucket i e).wpCount 6 1)
    | _, _ => (false, s.wpCount 7 1)

/-- An entry with the form, sett index, PXA and tag given (R171). -/
def ixIs (tag : List Byte) (form sett pxa : Nat) (e : List Byte) : Bool :=
  ixForm e == form && ixSett e == sett && ixPxa e == pxa && ixTag e == tag

/-- What waits for an index page that is not in DRAM, done to its body (R171, R174). -/
def IndexOp.run (b : List Byte) : IndexOp → List Byte
  | .sub bucket tag form sett pxa =>
    match findSlot b bucket (ixIs tag form sett pxa) with
    | none => b
    | some i =>
      let e := entryOf b bucket i
      patch b (512 * (bucket % 8) + 32 * i) (if ixRefs e ≤ 1 then zeros 32 else patch e 24 (le 4 (ixRefs e - 1)))
  | .move bucket old new =>
    (List.range 16).foldl (fun b i =>
      let e := entryOf b bucket i
      if ixForm e ≠ 0 && ixPxa e == old then patch b (512 * (bucket % 8) + 32 * i) (patch e 16 (le 8 new)) else b) b
  | .purge n => (List.range 128).flatMap fun i =>
      let e := slice b (32 * i) 32
      if ixForm e ≠ 0 && pxaStripe (ixPxa e) == n then zeros 32 else e

/-- A change to a page that is not in DRAM waits for it. -/
def State.queueIndexOp (d page : Nat) (o : IndexOp) (s : State) : State :=
  s.updIndexPage d page fun p => { p with queued := p.queued ++ [o] }

/-- An index page read from flash: what waits for it is done. -/
def State.indexArrives (d page : Nat) (b : List Byte) (s : State) : State :=
  s.updIndexPage d page fun p =>
    { p with body := some (p.queued.foldl IndexOp.run b), dirty := p.dirty || !p.queued.isEmpty, queued := [] }

/-- Decrement the entry of a bucket with the form, sett index and PXA given; at zero it is emptied (R171). -/
def State.indexSub (d bucket : Nat) (tag : List Byte) (form sett pxa : Nat) (s : State) : State :=
  let pg := s.indexPage d (bucket / 8)
  match pg.body with
  | none => s.queueIndexOp d (bucket / 8) (.sub bucket tag form sett pxa)
  | some b =>
    match findSlot b bucket (ixIs tag form sett pxa) with
    | none => s
    | some i =>
      let e := entryOf b bucket i
      if ixRefs e ≤ 1 then
        if s.wp.holds.has (holdKey d bucket i) then s.setIndexEntry d bucket i (patch e 24 (le 4 0))
        else s.setIndexEntry d bucket i (zeros 32)
      else s.setIndexEntry d bucket i (patch e 24 (le 4 (ixRefs e - 1)))

/-- Change every index entry of an extent, found through its summary's tags (R171): form 1 or 2 under its own tag, form 3
under each continuation. -/
def State.eachIndexEntry (p : Nat) (f : Nat → List Byte → Nat → Nat → State → State) (s : State) : State :=
  match s.extent? p with
  | none => s
  | some e =>
    let s := if e.tagged then f e.bucket (le 16 e.tag) (if e.kind = 2 then 2 else 1) 0 s else s
    e.conts.foldl (fun s c => f c.bucket (le 16 c.tag) 3 c.sett s) s

/-- Rewrite the pxa of every index entry that names an extent that moved (R271). -/
def State.indexMove (d old new : Nat) (s : State) : State :=
  s.eachIndexEntry old fun bucket _ _ _ s =>
    match (s.indexPage d (bucket / 8)).body with
    | none => s.queueIndexOp d (bucket / 8) (.move bucket old new)
    | some b =>
      s.updIndexPage d (bucket / 8) fun p =>
        let c := IndexOp.run b (.move bucket old new)
        { p with body := some c, dirty := p.dirty || c != b }

/-- Empty every index entry of a domain that names a stripe (R171, R235). -/
def State.indexPurge (n : Nat) (s : State) : State :=
  let purge (k : Nat) (p : IndexPage) : IndexPage :=
    if k / 2 ^ 40 ≠ stripeDomainOf n then p
    else match p.body with
      | none => if p.queued.contains (.purge n) then p else { p with queued := p.queued ++ [.purge n] }
      | some b =>
        let c := IndexOp.run b (.purge n)
        { p with body := some c, dirty := p.dirty || c != b }
  { s with wp.index := s.wp.index.map fun x => (x.1, purge x.1 x.2) }

/-! ### Layers and pages (R216 to R222, R229) -/

def layerKey (d id : Nat) : Nat := d * 2 ^ 32 + id
def mpnDomain (p : Nat) : Nat := p / 2 ^ 32

def State.mdom (s : State) (d : Nat) : MapDomain := s.map.domains.getD d {}
def State.updMdom (d : Nat) (f : MapDomain → MapDomain) (s : State) : State :=
  { s with map.domains := s.map.domains.set d (f (s.mdom d)) }
def State.mapCount_ (i d : Nat) (s : State) : State :=
  { s with map.counters := s.map.counters.set i (satAdd 64 (s.map.counters.getD i 0) d) }

def State.layer? (s : State) (d id : Nat) : Option Layer := s.map.layers.get? (layerKey d id)
def State.updLayer (d id : Nat) (f : Layer → Layer) (s : State) : State :=
  { s with map.layers := s.map.layers.upd (layerKey d id) f }

def State.page? (s : State) (p : Nat) : Option Page := s.map.pages.get? p
def State.updPage (p : Nat) (f : Page → Page) (s : State) : State := { s with map.pages := s.map.pages.upd p f }

def State.pageBody (s : State) (p : Nat) : Option (List Byte) := (s.page? p).bind Page.body

/-- Ashlars of a namespace (R217). -/
def ashlarCount (nsze lbaf : Nat) : Nat := (nsze + lbasPerAshlar lbaf - 1) / lbasPerAshlar lbaf

/-- L: the smallest from 1 to 5 with 256^L at least the ashlar count (R217). -/
def levelsFor (ashlars : Nat) : Nat := ((List.range 5).find? fun l => decide (ashlars ≤ 256 ^ (l + 1))).getD 4 + 1

/-- The 64-byte layer record (R229). -/
def Layer.record (id : Nat) (l : Layer) : List Byte :=
  le 4 id ++ le 1 l.kind ++ le 1 l.levels ++ le 1 l.flags ++ zeros 1 ++ le 4 l.nsid ++ le 4 l.parent ++ le 5 l.root ++ zeros 3 ++
    le 8 l.freezeWsn ++ le 8 l.createStamp ++ le 8 l.nsze ++ fit 16 l.label

/-- A layer counts toward R216's limit: a snapshot, or the head layer of a clone, until its release ends (R234). A deleting
layer that was a snapshot keeps its freeze WSN. -/
def Layer.counted (l : Layer) : Bool := l.kind == 2 || bit l.flags 0 || (l.kind == 3 && l.freezeWsn != 0)

def State.layerLoad (s : State) : Nat := (s.map.layers.filter fun l => l.2.counted).length

/-- Records placed in staging, in WSN order, and those of the map engine that wait for a place (R28, R50). -/
def State.staged (s : State) : List Staged := s.wp.log ++ s.wp.waiting

/-- Snapshot and clone layers of R216's limit, those whose record waits to be applied among them. -/
def State.layersToCome (s : State) : Nat :=
  s.layerLoad + (s.staged.filter fun r => !r.applied && !r.dropped && r.deltas.any fun d => d.op == 9 || d.op == 10).length

def layerLimit : Nat := 1048576

/-- A new layer of a domain, with the next ID (R216). -/
def State.addLayer (d : Nat) (l : Layer) (s : State) : Nat × State :=
  let id := (s.mdom d).nextLayer
  (id, { s.updMdom d (fun m => { m with nextLayer := m.nextLayer + 1 }) with
    map.layers := s.map.layers.set (layerKey d id) l })

/-- Page table capacity: map_area / 256 entries (R218). -/
def State.pageCapacity (s : State) : Nat := s.map.area / 256

/-- Raise EV_MAP_PAGES_LOW and EV_MAP_AREA_HIGH when their levels are reached (R238). -/
def State.mapLevels (s : State) : State :=
  let used := s.map.pages.length
  let low := decide (0 < s.pageCapacity) && decide (9 * s.pageCapacity ≤ 10 * used)
  let s := if low && !s.map.pagesLow then
      ({ s with map.pagesLow := true }).raise Ev.mapPagesLow (le 8 used ++ le 8 s.pageCapacity)
    else if !low then { s with map.pagesLow := false } else s
  let fixed := 4096 * (s.map.pages.filter fun p => decide (3 ≤ p.2.kind) || decide (0 < p.2.pins)).length
  let high := decide (0 < s.map.area) && decide (7 * s.map.area ≤ 10 * fixed)
  if high && !s.map.areaHigh then
    ({ s with map.areaHigh := true }).raise Ev.mapAreaHigh (le 8 fixed ++ le 8 s.map.area)
  else if !high then { s with map.areaHigh := false } else s

/-- Allocate a page: the lowest free index from 1 (R218). -/
def State.addPage (d kind first : Nat) (body : List Byte) (s : State) : Nat × State :=
  let i := (freeFrom (fun n => s.map.pages.has (d * 2 ^ 32 + n)) (s.map.pages.length + 1) 1).getD 1
  let p := d * 2 ^ 32 + i
  let pg : Page := { kind := kind, first := first, body := some body, dirty := some s.tick }
  (p, ({ s with map.pages := s.map.pages.set p pg }).mapLevels)

/-- An ashlar or sett entry (R220). -/
structure MapEntry where
  pxa : Nat := 0
  units : Nat := 0
  typ : Nat := 0
  raw : Bool := false
  indexed : Bool := false
  whole : Bool := false
  src : Nat := 0
  layer : Nat := 0
deriving DecidableEq, Repr

def parseEntry (b : List Byte) : MapEntry :=
  let f := fieldAt b 9 1
  { pxa := fieldAt b 0 8, units := fieldAt b 8 1, typ := f % 8, raw := bit f 3, indexed := bit f 4, whole := bit f 5,
    src := fieldAt b 10 1 % 16, layer := fieldAt b 12 4 }

def MapEntry.bytes (e : MapEntry) : List Byte :=
  le 8 e.pxa ++ le 1 e.units ++ le 1 (e.typ + 8 * boolNat e.raw + 16 * boolNat e.indexed + 32 * boolNat e.whole) ++
    le 1 e.src ++ le 1 0 ++ le 4 e.layer

/-- A split entry (R221): its sett page, table and last_write. -/
def splitBytes (p slot last : Nat) : List Byte := le 5 p ++ le 1 slot ++ zeros 3 ++ le 1 3 ++ zeros 2 ++ le 4 last
def splitPage (b : List Byte) : Nat := fieldAt b 0 5
def splitSlot (b : List Byte) : Nat := fieldAt b 5 1 % 16

def rawEntry (body : List Byte) (i : Nat) : List Byte := slice body (16 * i) 16
def childOf (body : List Byte) (i : Nat) : Nat := fieldAt body (16 * i) 5
def usedOf (body : List Byte) (i : Nat) : Nat := fieldAt body (16 * i + 8) 8

/-! ### The metadata cache (R240 to R243) -/

def cacheSet (p : Nat) : Nat := (p ^^^ (p / 2 ^ 11) ^^^ (p / 2 ^ 22)) % 1536

def State.cacheWays (s : State) (k : Nat) : List CacheWay := s.map.sets.getD k (List.replicate 16 {})

/-- The victim way of a set (R242): its index, and the set with nru and a_bit cleared where the rule clears them. -/
def victimWay (ws : List CacheWay) : Option Nat :=
  let ok (w : CacheWay) : Bool := !w.disabled && !w.fill
  match ws.findIdx? fun w => ok w && w.valid == 0 with
  | some i => some i
  | none => match ws.findIdx? fun w => ok w && !w.nru && !w.aBit with
    | some i => some i
    | none => ws.findIdx? fun w => ok w && !w.nru

/-- Move the dirty sectors of a way to the spoil buffer (R242, R243). -/
def State.spill (w : CacheWay) (s : State) : State :=
  (List.range 16).foldl (fun s i =>
    if bit w.dirty i then
      let e : Spoil := { mpn := w.mpn, sector := i, seq := s.map.spoilSeq }
      { s with map.spoil := s.map.spoil ++ [e], map.spoilSeq := s.map.spoilSeq + 1 }
    else s) s

def bitsSet (n : Nat) : Nat := ((List.range 16).filter fun i => bit n i).length

/-- Access a sector of a page through the cache (R240, R242, R243). A victim whose dirty sectors the spoil buffer has no
room for is not taken, and the access goes past the cache. -/
def State.cacheAccess (p sector rank : Nat) (write : Bool) (s : State) : State :=
  let k := cacheSet p
  let ws := s.cacheWays k
  let touch (w : CacheWay) : CacheWay :=
    { w with mpn := p, valid := w.valid ||| 2 ^ sector, dirty := if write then w.dirty ||| 2 ^ sector else w.dirty,
             nru := true, aBit := w.aBit || decide (rank ≤ 1) }
  let snoop := s.map.spoil.any fun e => e.mpn == p && e.sector == sector
  let s := s.updPage p fun x => { x with used := true }
  match ws.findIdx? fun w => w.valid != 0 && w.mpn == p && !w.disabled with
  | some i =>
    let w := ws.getD i {}
    let s := if bit w.valid sector then s.mapCount_ 0 1 else (s.mapCount_ 1 1).mapCount_ 2 (boolNat snoop)
    { s with map.sets := s.map.sets.set k (ws.set i (touch w)) }
  | none =>
    let s := (s.mapCount_ 1 1).mapCount_ 2 (boolNat snoop)
    let ws' := if (victimWay ws).isNone then ws.map fun w => { w with nru := false, aBit := false } else ws
    match victimWay ws' with
    | none => s
    | some i =>
      let old := ws'.getD i {}
      if s.map.spoil.length + bitsSet old.dirty ≤ 256 then
        let s := if old.valid = 0 then s else s.spill old
        { s with map.sets := s.map.sets.set k (ws'.set i (touch { old with valid := 0, dirty := 0, nru := false, aBit := false })) }
      else s

/-- Leave the cache without a page: its line is invalidated, its dirty sectors go to the spoil buffer (R240). -/
def State.cacheDrop (p : Nat) (s : State) : State :=
  let k := cacheSet p
  let ws := s.cacheWays k
  match ws.findIdx? fun w => w.valid != 0 && w.mpn == p with
  | none => s
  | some i =>
    let w := ws.getD i {}
    let s := s.spill w
    { s with map.sets := s.map.sets.set k (ws.set i { w with valid := 0, dirty := 0, nru := false, aBit := false }) }

/-- The cache and the spoil buffer hold nothing of a page that is newer than DRAM (R237, R243). -/
def State.cleanPage (p : Nat) (s : State) : State :=
  let k := cacheSet p
  let clean (w : CacheWay) : CacheWay := if w.mpn = p then { w with dirty := 0 } else w
  { s with map.sets := s.map.sets.upd k fun ws => ws.map clean, map.spoil := s.map.spoil.filter fun e => e.mpn != p }

/-- Write bytes into a page: the sectors in the cache and the page become dirty (R237, R240). -/
def State.writePage (p off : Nat) (bs : List Byte) (s : State) : State :=
  let s := (List.range ((off + bs.length + 255) / 256 - off / 256)).foldl (fun s i => s.cacheAccess p (off / 256 + i) 7 true) s
  s.updPage p fun x => { x with body := x.body.map fun b => patch b off bs,
                                dirty := match x.dirty with
                                  | some t => some t
                                  | none => some s.tick,
                                again := x.writing || x.again }

/-- The pair (claim, applied WSN) of a page rises to that of a record (R219, R224). -/
def State.stampPage (p claim wsn : Nat) (s : State) : State :=
  s.updPage p fun x =>
    if claim < x.claim then x else { x with claim := claim, applied := if claim = x.claim then max x.applied wsn else wsn }

/-! ### Resolving (R223) -/

/-- The page at level `t` reached for an ashlar in a layer's tree from page `p` at level `t + n` (0: unmapped). -/
def State.walk (s : State) (a t : Nat) : Nat → Nat → Nat
  | 0, p => p
  | n + 1, p =>
    if p = 0 then 0
    else match s.pageBody p with
      | none => 0
      | some b => s.walk a t n (childOf b (a / 256 ^ (t + n + 1) % 256))

/-- The leaf of an ashlar in a layer; 0 when unmapped (R217, R223). -/
def State.leafOf (s : State) (l : Layer) (a : Nat) : Nat := if 256 ^ l.levels ≤ a then 0 else s.walk a 0 (l.levels - 1) l.root

/-- Read accesses of a resolve along the path of an ashlar (R223, R240), from page `p` at level `k`. -/
def State.touchWalk (a x rank : Nat) : Nat → Nat → State → State
  | 0, p, s =>
    if p = 0 then s
    else
      let s := s.cacheAccess p (a % 256 / 16) rank false
      match s.pageBody p with
      | none => s
      | some b =>
        let r := rawEntry b (a % 256)
        if fieldAt r 9 1 % 8 = 3 then s.cacheAccess (splitPage r) ((16 * splitSlot r + x) / 16) rank false else s
  | k + 1, p, s =>
    if p = 0 then s
    else
      let i := a / 256 ^ (k + 1) % 256
      let s := s.cacheAccess p (i / 16) rank false
      s.touchWalk a x rank k (childOf ((s.pageBody p).getD []) i)

/-- The accesses of resolving sett `x` of ashlar `a` in a layer at a rank. -/
def State.touchPath (d id a x rank : Nat) (s : State) : State :=
  match s.layer? d id with
  | none => s
  | some l => if 256 ^ l.levels ≤ a then s else s.touchWalk a x rank (l.levels - 1) l.root

/-- What a sett resolves to in the map (R223). -/
inductive Found where
  | entry (page ix : Nat) (e : MapEntry)
  | missing (page : Nat)
deriving DecidableEq, Repr

def State.resolveMap (s : State) (l : Layer) (a x : Nat) : Found :=
  let p := s.leafOf l a
  if p = 0 then .entry 0 0 {}
  else match s.pageBody p with
    | none => .missing p
    | some b =>
      let r := rawEntry b (a % 256)
      let e := parseEntry r
      if e.typ = 3 then
        let q := splitPage r
        match s.pageBody q with
        | none => .missing q
        | some c => .entry q (16 * splitSlot r + x) (parseEntry (rawEntry c (16 * splitSlot r + x)))
      else .entry p (a % 256) { e with src := if e.typ = 1 then x else e.src }

/-- The entry of an ashlar is coarse, or unmapped (R176, R220). -/
def State.coarse (s : State) (l : Layer) (a : Nat) : Bool :=
  match s.pageBody (s.leafOf l a) with
  | none => true
  | some b => fieldAt b (16 * (a % 256) + 9) 1 % 8 != 3

/-- The map engine's answer on the form of an ashlar (R176); none while its leaf is not resident. -/
def State.coarse? (s : State) (l : Layer) (a : Nat) : Option Bool :=
  let p := s.leafOf l a
  if p ≠ 0 && (s.pageBody p).isNone then none else some (s.coarse l a)

/-- The sett page and slot of a split ashlar of a leaf (R221). -/
def State.tableAt (s : State) (leaf a : Nat) : Option (Nat × Nat) :=
  match s.pageBody leaf with
  | none => none
  | some b =>
    let r := rawEntry b (a % 256)
    if fieldAt r 9 1 % 8 = 3 then some (splitPage r, splitSlot r) else none

def tableOf (body : List Byte) (slot : Nat) : List MapEntry :=
  (List.range 16).map fun x => parseEntry (rawEntry body (16 * slot + x))

/-- Setts of type 1 below a page at a level. -/
def State.usedBelow (s : State) : Nat → Nat → Nat
  | 0, p =>
    match s.pageBody p with
    | none => 0
    | some b => ((List.range 256).map fun i =>
        let r := rawEntry b i
        let t := fieldAt r 9 1 % 8
        if t = 1 then 16
        else if t = 3 then ((tableOf ((s.pageBody (splitPage r)).getD []) (splitSlot r)).filter fun e => e.typ == 1).length
        else 0).sum
  | k + 1, p =>
    match s.pageBody p with
    | none => 0
    | some b => ((List.range 256).map fun i => if childOf b i = 0 then 0 else s.usedBelow k (childOf b i)).sum

/-- Setts of type 1 of an ashlar. -/
def State.usedSetts (s : State) (l : Layer) (a : Nat) : Nat :=
  ((List.range 16).filter fun x => match s.resolveMap l a x with
    | .entry _ _ e => e.typ == 1
    | .missing _ => false).length

/-- used_setts of a layer's root (R222). -/
def State.layerUsed (s : State) (l : Layer) : Nat :=
  match s.pageBody l.root with
  | none => 0
  | some b =>
    if l.levels = 1 then s.usedBelow 0 l.root else ((List.range 256).map (usedOf b)).sum

/-! ### Releasing and copying (R225, R233, R234) -/

/-- Release an entry of a leaf: its extent's map count falls; an indexed one gives up one reference on every index entry
of the extent (R171, R225). -/
def State.releaseEntry (d : Nat) (e : MapEntry) (s : State) : State :=
  if e.typ ≠ 1 then s
  else
    let p := s.resolvePxa e.pxa
    let s := if !e.indexed then s
      else s.eachIndexEntry p fun bucket tag form sett s => s.indexSub d bucket tag form sett p
    s.mapCountSub e.pxa 1

/-- Release a sett entry, whose indexed flag names one index entry: form 3 with its sett for whole, else form 1
(R171). -/
def State.releaseSett (d : Nat) (e : MapEntry) (s : State) : State :=
  if e.typ ≠ 1 then s
  else
    let p := s.resolvePxa e.pxa
    let s := if !e.indexed then s
      else s.eachIndexEntry p fun bucket tag form sett s =>
        if e.whole && form = 3 && sett = e.src then s.indexSub d bucket tag 3 sett p
        else if !e.whole && form = 1 then s.indexSub d bucket tag 1 0 p
        else s
    s.mapCountSub e.pxa 1

/-- Distinct sett pages a leaf's split entries name. -/
def settPagesOf (body : List Byte) : List Nat :=
  ((List.range 256).filterMap fun i =>
    let r := rawEntry body i
    if fieldAt r 9 1 % 8 = 3 then some (splitPage r) else none).eraseDups

/-- Type-1 entries of a leaf or sett page. -/
def extentsIn (body : List Byte) : List MapEntry :=
  (((List.range 256).map fun i => parseEntry (rawEntry body i)).filter fun e => e.typ == 1)

/-- The body with the indexed flag of every type-1 entry cleared (R233). -/
def clearIndexed (body : List Byte) : List Byte :=
  (List.range 256).flatMap fun i =>
    let e := parseEntry (rawEntry body i)
    if e.typ = 1 then { e with indexed := false }.bytes else rawEntry body i

/-- Copy a shared page for a head layer that counts `pins` times (0 or 1) in its pins (R218, R233): the answer is the private
copy. -/
def State.copyPage (p pins : Nat) (s : State) : Nat × State :=
  match s.page? p with
  | none => (p, s)
  | some x =>
    let b := x.body.getD (zeros 4096)
    let dir := decide (3 ≤ x.kind) && decide (x.kind ≤ 6)
    let r := s.addPage (mpnDomain p) x.kind x.first (if dir then b else clearIndexed b)
    let q := r.1
    let s := r.2.mapCount_ 5 1
    let s := s.updPage p fun y => { y with refs := y.refs - 1, pins := y.pins - pins }
    let s := s.updPage q fun y => { y with pins := pins, claim := x.claim, applied := x.applied }
    let s := if dir then
        ((List.range 256).map (childOf b)).foldl (fun s c =>
          if c = 0 then s else s.updPage c fun y => { y with refs := y.refs + 1 }) s
      else (extentsIn b).foldl (fun s e => s.mapCountAdd e.pxa 1) s
    let s := if x.kind = 1 then
        (settPagesOf b).foldl (fun s c => s.updPage c fun y => { y with refs := y.refs + 1 }) s
      else s
    (q, s)

/-- Release a page and, at zero references, what it names (R234). `fuel` bounds the depth. -/
def State.releasePage : Nat → Nat → State → State
  | 0, _, s => s
  | fuel + 1, p, s =>
    match s.page? p with
    | none => s
    | some x =>
      let s := s.updPage p fun y => { y with refs := y.refs - 1 }
      if 1 < x.refs then s
      else
        let b := x.body.getD (zeros 4096)
        let d := mpnDomain p
        let s := if 3 ≤ x.kind && x.kind ≤ 6 then
            ((List.range 256).map (childOf b)).foldl (fun s c => if c = 0 then s else s.releasePage fuel c) s
          else if x.kind = 1 then
            let s := ((List.range 256).map fun i => parseEntry (rawEntry b i)).foldl (fun s e => s.releaseEntry d e) s
            (settPagesOf b).foldl (fun s c => s.releasePage fuel c) s
          else (extentsIn b).foldl (fun s e => s.releaseSett d e) s
        let s := if x.pxa = 0 then s else s.dropExtent x.pxa
        let s := (s.cacheDrop p).cleanPage p
        { s with map.pages := s.map.pages.del p }

/-- Every leaf and sett page below a page that is not resident. `fuel` bounds the depth. -/
def State.absentPages (s : State) : Nat → Nat → List Nat
  | 0, _ => []
  | fuel + 1, p =>
    match s.page? p with
    | none => []
    | some x =>
      match x.body with
      | none => [p]
      | some b =>
        if 3 ≤ x.kind && x.kind ≤ 6 then
          ((List.range 256).map (childOf b)).flatMap fun c => if c = 0 then [] else s.absentPages fuel c
        else if x.kind = 1 then (settPagesOf b).flatMap fun c => s.absentPages fuel c
        else []

/-- Pages reachable from a page, each once. -/
def State.reachablePages (s : State) : Nat → Nat → List Nat
  | 0, _ => []
  | fuel + 1, p =>
    match s.page? p with
    | none => []
    | some x =>
      match x.body with
      | none => [p]
      | some b =>
        if 3 ≤ x.kind && x.kind ≤ 6 then
          (p :: ((List.range 256).map (childOf b)).flatMap fun c => if c = 0 then [] else s.reachablePages fuel c).eraseDups
        else if x.kind = 1 then (p :: (settPagesOf b).flatMap fun c => s.reachablePages fuel c).eraseDups
        else [p]

/-- Pages reachable from a layer's root. -/
def State.layerPages (s : State) (l : Layer) : List Nat := if l.root = 0 then [] else s.reachablePages 7 l.root

/-- A head layer's part in the pins of its pages: 1 for a class-A namespace's (R218, R239). -/
def State.layerPins (s : State) (d id : Nat) : Nat :=
  boolNat (s.nvme.namespaces.any fun n => decide (n.1 < 2 ^ 32) && n.2.domain == d && n.2.layer == id && n.2.cls == 1)

/-- Count the pins of a domain's pages: the class-A head layers from whose root each is reachable (R218). -/
def State.countPins (d : Nat) (s : State) : State :=
  let heads := s.map.layers.filter fun l => l.1 / 2 ^ 32 == d && s.layerPins d (l.1 % 2 ^ 32) == 1
  let reached := heads.flatMap fun l => s.layerPages l.2
  let count (k : Nat) (p : Page) : Page := if mpnDomain k = d then { p with pins := (reached.filter (· == k)).length } else p
  { s with map.pages := s.map.pages.map fun x => (x.1, count x.1 x.2) }

/-- Begin pinning the pages of a namespace that this head serves, when it is of class A (R239). -/
def State.startPinning (nsid : Nat) (s : State) : State :=
  match s.nvme.namespaces.get? nsid with
  | none => s
  | some n =>
    if !s.owns n.domain then s
    else
      let s := s.countPins n.domain
      if n.cls = 1 && !s.map.pinning.contains nsid then
        { s with map.pinning := s.map.pinning ++ [nsid], map.pinned := s.map.pinned.filter (· != nsid) }
      else s

/-! ### Making a path private (R233) and changing entries (R225, R227, R228) -/

/-- The page reached for writing from parent entry value `p`: a new empty page for 0, a private copy of a shared one. -/
def State.privatePage (d kind first pins p : Nat) (s : State) : Nat × State :=
  if p = 0 then
    let r := s.addPage d kind first (zeros 4096)
    (r.1, r.2.updPage r.1 fun y => { y with pins := pins })
  else match s.page? p with
    | none => (p, s)
    | some x => if 1 < x.refs then s.copyPage p pins else (p, s)

/-- Make the pages below a private directory `p` at level `t + n` private down to the page at level `t` on the path to `a`; the
answer is that page. -/
def State.privateBelow (d a pins t : Nat) : Nat → Nat → State → Nat × State
  | 0, p, s => (p, s)
  | n + 1, p, s =>
    let k := t + n
    let i := a / 256 ^ (k + 1) % 256
    let b := (s.pageBody p).getD (zeros 4096)
    let c := childOf b i
    let kind := if k = 0 then 1 else k + 2
    let r := s.privatePage d kind (a / 256 ^ (k + 1) * 256 ^ (k + 1)) pins c
    let s := if r.1 = c then r.2 else r.2.writePage p (16 * i) (le 5 r.1)
    s.privateBelow d a pins t n r.1

/-- Make the path to an ashlar private in a head layer down to level `t`; the answer is the page there, at `t = 0` the leaf. -/
def State.privatePath (d id a t : Nat) (s : State) : Nat × State :=
  match s.layer? d id with
  | none => (0, s)
  | some l =>
    let kind := if l.levels = 1 then 1 else l.levels + 1
    let pins := s.layerPins d id
    let r := s.privatePage d kind 0 pins l.root
    let s := r.2.updLayer d id fun l => { l with root := r.1 }
    s.privateBelow d a pins t (l.levels - 1 - t) r.1

/-- Add to used_setts on the path to an ashlar from a page at level `t + n` down to level `t`, and stamp its pages; those that hold
the change already (`skip`) stay (R224, R225). -/
def State.settlePath (a claim wsn : Nat) (delta : Int) (skip : Nat → Bool) (t : Nat) : Nat → Nat → State → State
  | 0, p, s => if skip p then s else s.stampPage p claim wsn
  | n + 1, p, s =>
    let i := a / 256 ^ (t + n + 1) % 256
    let b := (s.pageBody p).getD (zeros 4096)
    let used := ((usedOf b i : Int) + delta).toNat
    let s := if skip p then s else (s.writePage p (16 * i + 8) (le 8 used)).stampPage p claim wsn
    s.settlePath a claim wsn delta skip t n (childOf b i)

/-- used_setts on the path to an ashlar counted anew from its leaf upward, for a replayed record: a leaf may hold a change that a
directory above it does not (R224). The answer is the count below the page. -/
def State.recountPath (a claim wsn : Nat) (skip : Nat → Bool) : Nat → Nat → State → Nat × State
  | 0, p, s => (s.usedBelow 0 p, if skip p then s else s.stampPage p claim wsn)
  | n + 1, p, s =>
    let i := a / 256 ^ (n + 1) % 256
    let c := childOf ((s.pageBody p).getD (zeros 4096)) i
    let x := if c = 0 then (0, s) else s.recountPath a claim wsn skip n c
    let s := if skip p then x.2 else (x.2.writePage p (16 * i + 8) (le 8 x.1)).stampPage p claim wsn
    (((List.range 256).map (usedOf ((s.pageBody p).getD (zeros 4096)))).sum, s)

/-- used_setts falls by `n` in every directory entry above a page, whichever layers reach it (R222, R235). A sett page is named by
leaves. `fuel` bounds the depth. -/
def State.lowerUsed : Nat → Nat → Nat → State → State
  | 0, _, _, s => s
  | fuel + 1, p, n, s =>
    (s.map.pages.filter fun q => mpnDomain q.1 == mpnDomain p).foldl (fun s q => match q.2.body with
      | none => s
      | some b =>
        if 3 ≤ q.2.kind && q.2.kind ≤ 6 then
          match (List.range 256).find? fun i => childOf b i == p with
          | none => s
          | some i => (s.writePage q.1 (16 * i + 8) (le 8 (usedOf b i - n))).lowerUsed fuel q.1 n
        else if q.2.kind = 1 && (settPagesOf b).contains p then s.lowerUsed fuel q.1 n
        else s) s

/-- Make the sett page of a split entry of a private leaf private: every split entry of the leaf that names it then
names the copy (R233). -/
def State.privateSettPage (leaf q pins : Nat) (s : State) : Nat × State :=
  match s.page? q with
  | none => (q, s)
  | some x =>
    if x.refs ≤ 1 then (q, s)
    else
      let r := s.copyPage q pins
      let b := (r.2.pageBody leaf).getD (zeros 4096)
      let s := (List.range 256).foldl (fun s i =>
        let e := rawEntry b i
        if fieldAt e 9 1 % 8 = 3 && splitPage e == q then s.writePage leaf (16 * i) (le 5 r.1) else s) r.2
      (r.1, s)

/-- The lowest free table of the leaf's sett pages: page and slot (R227). -/
def State.freeTable (s : State) (leaf : Nat) : Option (Nat × Nat) :=
  match s.pageBody leaf with
  | none => none
  | some b =>
    let used (q t : Nat) : Bool := (List.range 256).any fun i =>
      fieldAt (rawEntry b i) 9 1 % 8 == 3 && splitPage (rawEntry b i) == q && splitSlot (rawEntry b i) == t
    let free (q : Nat) : Option (Nat × Nat) := match s.pageBody q with
      | none => none
      | some c => ((List.range 16).find? fun t => !used q t && (slice c (256 * t) 256).all (· == 0)).map fun t => (q, t)
    ((settPagesOf b).filterMap free).foldl (fun (best : Option (Nat × Nat)) x => match best with
      | none => some x
      | some y => if x.1 < y.1 then some x else some y) none

/-- last_write: stamp bits [61:30] (R221). -/
def lastWrite (stamp : Nat) : Nat := stamp / 2 ^ 30 % 2 ^ 32

/-- Split a coarse ashlar of a private leaf of head layer `id` (R227); the answer is the page and slot of its table. -/
def State.splitAshlar (d id leaf a : Nat) (s : State) : (Nat × Nat) × State :=
  let pins := s.layerPins d id
  let b := (s.pageBody leaf).getD (zeros 4096)
  let r := rawEntry b (a % 256)
  let e := parseEntry r
  if e.typ = 3 then
    let x := s.privateSettPage leaf (splitPage r) pins
    ((x.1, splitSlot r), x.2)
  else
    let t := match s.freeTable leaf with
      | some t =>
        let x := s.privateSettPage leaf t.1 pins
        ((x.1, t.2), x.2)
      | none =>
        let n := s.addPage d 2 (a / 256 * 256) (zeros 4096)
        ((n.1, 0), n.2.updPage n.1 fun y => { y with pins := pins })
    let q := t.1.1
    let slot := t.1.2
    let fill (x : Nat) : List Byte :=
      if e.typ = 1 then { e with indexed := false, whole := true, src := x, layer := id }.bytes
      else { e with whole := false, indexed := false, src := 0, layer := id }.bytes
    let s := t.2.writePage q (256 * slot) ((List.range 16).flatMap fill)
    let s := if e.typ = 1 then (s.mapCountAdd e.pxa 16).releaseEntry d e else s
    let s := s.writePage leaf (16 * (a % 256)) (splitBytes q slot (lastWrite s.now))
    ((q, slot), s.mapCount_ 6 1)

/-- Release what an ashlar of a private leaf names: a coarse entry, or every entry of its table, which is zeroed and
whose page goes when no table of it is left in use (R225). -/
def State.clearAshlar (d id leaf a : Nat) (s : State) : State :=
  let b := (s.pageBody leaf).getD (zeros 4096)
  let r := rawEntry b (a % 256)
  let e := parseEntry r
  if e.typ = 3 then
    let x := s.privateSettPage leaf (splitPage r) (s.layerPins d id)
    let q := x.1
    let c := (x.2.pageBody q).getD (zeros 4096)
    let s := (tableOf c (splitSlot r)).foldl (fun s e => s.releaseSett d e) x.2
    let s := s.writePage q (256 * splitSlot r) (zeros 256)
    let s := s.writePage leaf (16 * (a % 256)) (zeros 16)
    if (settPagesOf ((s.pageBody leaf).getD (zeros 4096))).contains q then s else s.releasePage 2 q
  else (s.releaseEntry d e).writePage leaf (16 * (a % 256)) (zeros 16)

/-- Replace an ashlar of head layer `id` by a coarse entry, which takes the layer's ID (R225). -/
def State.setCoarse (d id leaf a : Nat) (e : MapEntry) (s : State) : State :=
  (s.clearAshlar d id leaf a).writePage leaf (16 * (a % 256)) { e with layer := id }.bytes

/-- Replace one entry of a sett table, releasing the old one (R225). -/
def State.setSett (d q slot x : Nat) (e : MapEntry) (s : State) : State :=
  let c := (s.pageBody q).getD (zeros 4096)
  let old := parseEntry (rawEntry c (16 * slot + x))
  (s.writePage q (16 * (16 * slot + x)) e.bytes).releaseSett d old

/-- A delta touches a split ashlar of a leaf: last_write is set (R225). -/
def State.touchSplit (leaf a : Nat) (s : State) : State :=
  if (s.tableAt leaf a).isSome then s.writePage leaf (16 * (a % 256) + 12) (le 4 (lastWrite s.now)) else s

/-- Merge a split ashlar at once where R228 says so. -/
def State.mergeAtOnce (d id leaf a : Nat) (s : State) : State :=
  let b := (s.pageBody leaf).getD (zeros 4096)
  let r := rawEntry b (a % 256)
  if fieldAt r 9 1 % 8 ≠ 3 then s
  else
    let c := (s.pageBody (splitPage r)).getD (zeros 4096)
    let t := tableOf c (splitSlot r)
    let e0 := t.headD {}
    let all0 := t.all fun e => e.typ == 0
    let all2 := t.all fun e => e.typ == 2
    let same := t.zipIdx.all fun e => e.1.typ == 1 && e.1.whole && e.1.pxa == e0.pxa && e.1.src == e.2
    if all0 || all2 || same then
      let s := if same then s.mapCountAdd e0.pxa 1 else s
      let e : MapEntry := if same then { e0 with indexed := false, src := 0 } else { typ := if all2 then 2 else 0 }
      (s.setCoarse d id leaf a e).mapCount_ 7 1
    else s

end Sys2Proof.Machine
end

