-- ==== Sys2Proof/Machine/TransportOps.lean ====
section
/-! DEFINITION. The low operations of ports and connections: counters, paths, transmission and its scheduling, the context cache, sending
requests, acknowledgement and read-response bookkeeping (R96, R99 to R101, R106, R107, R111 to R116, R120, R122 to R124). -/

namespace Sys2Proof.Machine

def State.lport (s : State) (p : Nat) : LogPort := s.net.lports.getD p {}
def State.updLport (p : Nat) (f : LogPort → LogPort) (s : State) : State :=
  { s with net.lports := s.net.lports.set p (f (s.lport p)) }

/-- Port and transport counters (R127). -/
def State.portCount (p i d : Nat) (s : State) : State :=
  s.updLport p fun x => { x with counters := x.counters.set i (satAdd 64 (x.counters.getD i 0) d) }
def State.netCount (i d : Nat) (s : State) : State :=
  { s with net.counters := s.net.counters.set i (satAdd 64 (s.net.counters.getD i 0) d) }

def State.conn (s : State) (c : Nat) : Conn := s.net.conns.getD c {}
def State.updConn (c : Nat) (f : Conn → Conn) (s : State) : State :=
  { s with net.conns := s.net.conns.set c (f (s.conn c)) }

/-- Chip QPN of a context (R102). -/
def qpnOf (gen index : Nat) : Nat := gen * 2 ^ 21 + index
def qpnIndex (q : Nat) : Nat := q % 2 ^ 21
def qpnGen (q : Nat) : Nat := q / 2 ^ 21 % 8

def State.eth (s : State) (p : Nat) : EthPort := s.net.ports.getD p {}

def State.subRecord (s : State) (lp : Nat) : List Byte := (s.eth (physOf lp)).sub.getD (subOf lp) []
def State.lportEnabled (s : State) (lp : Nat) : Bool :=
  let e := s.eth (physOf lp)
  decide (subOf lp < modeSubs e.mode) && bit e.enableMask (subOf lp)

/-- Line rate of a logical port in Mbit/s (R93). -/
def State.lineRate (s : State) (lp : Nat) : Nat := match (s.eth (physOf lp)).mode with
  | 1 => 400000
  | 2 => 200000
  | 3 => 100000
  | _ => 0

/-- Bytes of a path MTU code of PORT_CONFIG: 3, 4 or 5 (R126). -/
def mtuBytes (code : Nat) : Nat := 2 ^ (code + 7)

/-- The logical port a connection sends on now (R116). -/
def Conn.lport (c : Conn) : Nat := if c.onAlt then c.alt.getD c.port else c.port

/-- PSN arithmetic modulo 2^24 (R9, R111). -/
def psnAdd (p n : Nat) : Nat := (p + n) % 2 ^ 24
def psnSub (a b : Nat) : Nat := (a + 2 ^ 24 - b) % 2 ^ 24
/-- `a` lies ahead of `b`: 1 to 2^23 - 1 beyond it. -/
def psnAhead (a b : Nat) : Bool := decide (0 < psnSub a b) && decide (psnSub a b < 2 ^ 23)

/-- Packets of a payload under a path MTU; an empty payload takes one (R120). -/
def packetCount (len mtu : Nat) : Nat := if mtu = 0 then 1 else max 1 ((len + mtu - 1) / mtu)

def RcOp.packets (o : RcOp) (mtu : Nat) : Nat := match o with
  | .send b _ => packetCount b.length mtu
  | .write _ _ b => packetCount b.length mtu
  | .read _ _ len => packetCount len mtu

/-- BTH opcode of packet `i` of `n` of an operation: SEND 0 to 4, 22, 23 with Invalidate, WRITE 6 to 10, READ 12
(R100; InfiniBand's numbers, log entry 20). -/
def RcOp.code (o : RcOp) (i n : Nat) : Nat :=
  let last := i + 1 = n
  match o with
  | .send _ inv =>
    if last && i = 0 then (if inv.isSome then 23 else 4) else if last then (if inv.isSome then 22 else 2)
    else if i = 0 then 0 else 1
  | .write _ _ _ => if last && i = 0 then 10 else if last then 8 else if i = 0 then 6 else 7
  | .read _ _ _ => 12

/-- The packets of a request from its `skip`-th on, AckReq on the last and on every 16th (R112). R112 does not say whether the 16 are
counted within a message or over the connection: the model counts within each message (DESIGN CHOICE, log entry 132). -/
def Conn.packetsOf (c : Conn) (index : Nat) (r : RcReq) (skip : Nat) : List Out :=
  match r.op with
  | .read va key len => [.packet c.lport c.pcp index 12 r.psn true va key len []]
  | .send b inv =>
    ((List.range r.count).drop skip).map fun i =>
      .packet c.lport c.pcp index (r.op.code i r.count) (psnAdd r.psn i) (i + 1 == r.count || i % 16 == 15) 0
        (inv.getD 0) 0 (slice b (c.pmtu * i) (min c.pmtu (b.length - c.pmtu * i)))
  | .write va key b =>
    ((List.range r.count).drop skip).map fun i =>
      .packet c.lport c.pcp index (r.op.code i r.count) (psnAdd r.psn i) (i + 1 == r.count || i % 16 == 15)
        va key b.length (slice b (c.pmtu * i) (min c.pmtu (b.length - c.pmtu * i)))

/-- A priority with flow control: those of pfc_enable, and on a partner port also 5, 3 and 1 (R106, R125). -/
def State.pfcEnabled (s : State) (lport prio : Nat) : Bool :=
  bit (fieldAt (s.subRecord lport) 0x20 1) prio || (decide (32 ≤ lport) && [1, 3, 5].contains prio)

/-- Transmission of a priority of a logical port is possible: the port is up and not paused (R96, R106). -/
def State.canSend (s : State) (c : Conn) : Bool :=
  let p := s.lport c.lport
  p.up && (p.pause.getD c.pcp none).isNone

/-- Ticks of a connection's retransmit period: 4.096 us x 2^k is 2^(k+6) ticks (R113). -/
def Conn.period (c : Conn) : Nat := 2 ^ (c.timeoutK + 6)

def Conn.readsOut (c : Conn) : Nat := (c.sent.filter fun r => match r.op with
  | .read .. => true
  | _ => false).length

/-- Payload bytes of a packet. -/
def Out.bytes : Out → Nat
  | .packet _ _ _ _ _ _ _ _ _ b => b.length
  | .readResponse _ _ _ b => b.length
  | _ => 0

/-! ### Transmission (R96, R106, R107, R127) -/

/-- Bytes of the extension headers of a packet: RETH of a WRITE's first packet and of a READ, the invalidated key of a SEND, AETH, the
reserved field of a CNP, and the DETH and message of the CM. -/
def Out.extension : Out → Nat
  | .packet _ _ _ op _ _ _ _ _ _ => if op = 6 || op = 10 || op = 12 then 16 else if op = 22 || op = 23 then 4 else 0
  | .readResponse _ op _ _ => if op = 14 then 0 else 4
  | .ack .. => 4
  | .nak .. => 4
  | .cnp .. => 16
  | .cm .. => 264
  | _ => 0

/-- Bytes of a RoCEv2 frame without its FCS: Ethernet with the port's VLAN tag, IP, UDP, BTH, the extension, the payload padded to 4
bytes, ICRC (R99). -/
def State.frameBytes (s : State) (lp : Nat) (ip : List Byte) (extension payload : Nat) : Nat :=
  14 + (if fieldAt (s.subRecord lp) 6 2 % 4096 = 0 then 0 else 4) + (if ip.length = 16 then 40 else 20) + 24 + extension +
    (payload + 3) / 4 * 4

/-- The traffic class of a priority, and the ETS byte of a class: a percentage, or 0xFF for a strict one (R107). -/
def State.trafficClass (s : State) (lp pcp : Nat) : Nat := fieldAt (s.subRecord lp) 0x24 4 / 16 ^ pcp % 8
def State.etsShare (s : State) (lp tc : Nat) : Nat := fieldAt (s.subRecord lp) (0x28 + tc) 1

/-- Traffic class `a` is served before `b` (R107): strict ones first, in decreasing number; of the others the one that has had less of
its percentage. -/
def State.classBefore (s : State) (lp a b : Nat) : Bool :=
  let p := s.etsShare lp a
  let q := s.etsShare lp b
  if p = 0xFF then decide (q ≠ 0xFF ∨ b < a)
  else if q = 0xFF then false
  else
    let sent := (s.lport lp).etsSent
    let x := sent.getD a 0 * q
    let y := sent.getD b 0 * p
    decide (x < y) || (decide (x = y) && decide (a < b))

/-- Entry `a` goes out before `b`: by traffic class, and within one class by rank (R20, R107). -/
def State.sentBefore (s : State) (lp : Nat) (a b : TxEntry) : Bool :=
  let x := s.trafficClass lp a.pcp
  let y := s.trafficClass lp b.pcp
  if x = y then decide (a.rank < b.rank) else s.classBefore lp x y

def LogPort.paused (x : LogPort) (pcp : Nat) : Bool := (x.pause.getD pcp none).isSome

/-- The entries that may go out now, with their places: none of a paused priority, and each connection's in order. -/
def LogPort.ready (x : LogPort) : List (Nat × TxEntry) :=
  (List.range x.txq.length).filterMap fun k => match x.txq[k]? with
    | none => none
    | some e =>
      let behind := e.conn.isSome && (x.txq.take k).any fun f => f.conn == e.conn
      if x.paused e.pcp || behind then none else some (k, e)

def State.nextOut (s : State) (lp : Nat) : Option (Nat × TxEntry) :=
  (s.lport lp).ready.foldl (fun best e => match best with
    | none => some e
    | some b => if s.sentBefore lp e.2 b.2 then some e else some b) none

/-- Send what a port may send, in the order of R107; a port that is link down sends nothing (R96). -/
def State.drainPort (lp : Nat) : Nat → State → State
  | 0, s => s
  | n + 1, s =>
    if !(s.lport lp).up then s
    else match s.nextOut lp with
    | none => s
    | some (k, e) =>
      let tc := s.trafficClass lp e.pcp
      let s := s.updLport lp fun x => { x with txq := x.txq.eraseIdx k, etsSent := x.etsSent.modify tc fun v => v + e.bytes }
      ((((s.portCount lp 6 1).portCount lp 7 e.bytes).emit e.out)).drainPort lp n

def State.flushPort (lp : Nat) (s : State) : State := s.drainPort lp (s.lport lp).txq.length

/-- Put outputs on the way out of a port. -/
def State.queueOut (lp : Nat) (es : List TxEntry) (s : State) : State :=
  s.updLport lp fun x => { x with txq := x.txq ++ es }

/-- The rank a connection's packets travel at when their work names none: the first of its mirror lane's ranks, 7 for replication,
2 otherwise (R20, R329, R356; log entry 131). -/
def Conn.rank (c : Conn) : Nat := match c.use with
  | .peer _ lane => if lane = 1 then 0 else if lane = 3 then 6 else 2
  | .repl _ => 7
  | .nvme .. => 2

def RcUse.rank (u : RcUse) (c : Conn) : Nat := match u with
  | .ranked r => r
  | .classA r _ _ _ => r
  | _ => c.rank

/-- Put a connection's packets on the way out of its port. -/
def State.queuePackets (i rank : Nat) (os : List Out) (s : State) : State :=
  let c := s.conn i
  s.queueOut c.lport (os.map fun o =>
    { pcp := c.pcp, rank := rank, conn := some i, out := o, bytes := s.frameBytes c.lport c.ip o.extension o.bytes })

/-- Send a connection's packets as soon as its port can (R96, R106). -/
def State.sendPackets (i : Nat) (os : List Out) (s : State) : State :=
  let c := s.conn i
  (s.queuePackets i c.rank os).flushPort c.lport

/-- Send a packet of no connection's order: a CM message or a CNP. -/
def State.sendLoose (lp pcp : Nat) (ip : List Byte) (o : Out) (s : State) : State :=
  (s.queueOut lp [{ pcp := pcp, rank := 2, conn := none, out := o, bytes := s.frameBytes lp ip o.extension 0 }]).flushPort lp

/-! ### The context cache (R122 to R124) -/

/-- Set of the context cache (R122: the hash is a free value), and the island whose half holds it (R11). -/
def contextSet (i : Nat) : Nat := Config.contextSetHash i % 4096
def contextIsland (i : Nat) : Nat := 8 + contextSet i / 2048

/-- Make a context resident: the least recently used unpinned way of a full set goes, written back when it is dirty. -/
def State.makeResident (i : Nat) (s : State) : State :=
  if (s.conn i).resident then s
  else
    let cached := s.net.conns.filter fun x => x.2.resident
    let s :=
      if cached.length < 16 then s
      else
        let inSet := cached.filter fun x => contextSet x.1 == contextSet i
        if inSet.length < 16 then s
        else
          let loose := inSet.filter fun x => !x.2.pinned
          let oldest := loose.foldl (fun (best : Option (Nat × Conn)) x => match best with
            | none => some x
            | some y => if x.2.lastUse < y.2.lastUse then some x else some y) none
          match oldest with
          | none => s
          | some (j, c) =>
            (s.updConn j fun c => { c with resident := false, dirty := false }).netCount 14 (boolNat c.dirty)
    s.updConn i fun c => { c with resident := true, lastUse := s.now }

/-! ### Requests (R96, R99, R111 to R115) -/

/-- A measured class-A read's last data packet leaves (R388). `outside` is the set of conditions it failed, by bit; a read served by
reconstruction is counted under R387. -/
def State.readMeasured (start outside : Nat) (recon : Bool) (s : State) : State :=
  let l := s.latency
  let held := (List.range 12).filter fun k => bit outside k
  let counts := held.foldl (fun (cs : List Nat) k => cs.modify k fun v => satAdd 64 v 1) l.conditions
  let counts := if recon then counts.modify 11 fun v => satAdd 64 v 1 else counts
  let time := 64 * (s.tick - start)
  { s with latency := { l with reads := satAdd 64 l.reads 1, outside := satAdd 64 l.outside (boolNat (!held.isEmpty)),
                               conditions := counts, longest := if held.isEmpty then max l.longest time else l.longest } }

/-- Send one request: it takes its PSNs, and the first after an idle period is progress (R113). -/
def State.sendRequest (i : Nat) (op : RcOp) (use : RcUse) (s : State) : State :=
  let s := s.makeResident i
  let c := s.conn i
  let n := op.packets c.pmtu
  let r : RcReq := { psn := c.nextPsn, count := n, op := op, use := use }
  let os := c.packetsOf i r 0
  let idle := c.sent.isEmpty
  let due := if idle then some (s.tick + c.period) else c.deadline
  let left := if idle then c.retryCnt else c.retries
  let size := (os.map Out.bytes).sum
  let s := s.updConn i fun c =>
    { c with nextPsn := psnAdd c.nextPsn n, sent := c.sent ++ [r], packetsTx := c.packetsTx + os.length, dirty := true,
             deadline := due, retries := left, sentBytes := c.sentBytes + size, lastUse := s.now }
  let s := s.queuePackets i (use.rank c) os
  match use with
  | .classA _ start outside recon => s.readMeasured start outside recon
  | _ => s

/-- Send again every unacknowledged request packet from a PSN on, go-back-N, on the current path (R113, R114). -/
def State.resendNow (i psn : Nat) (s : State) : State :=
  let s := s.makeResident i
  let c := s.conn i
  let os := c.sent.flatMap fun r =>
    if psnAhead psn r.psn then
      let k := psnSub psn r.psn
      if r.count ≤ k then []
      else match r.op with
        | .read va key len =>
          [Out.packet c.lport c.pcp i 12 (psnAdd r.psn k) true (va + k * c.pmtu) key (len - k * c.pmtu) []]
        | _ => c.packetsOf i r k
    else c.packetsOf i r 0
  let size := (os.map Out.bytes).sum
  let n := os.length
  let put (c : Conn) : Conn :=
    { c with retransmitted := c.retransmitted + n, packetsTx := c.packetsTx + n, sentBytes := c.sentBytes + size, lastUse := s.now,
             resend := none, resendTimed := false }
  (s.updConn i put).queuePackets i c.rank os

/-- The oldest unacknowledged PSN, or next_psn (R126). A READ is acknowledged as far as its responses were placed. -/
def Conn.oldest (c : Conn) : Nat := match c.sent with
  | [] => c.nextPsn
  | r :: _ => psnAdd r.psn r.gotPkts

/-- Send again from a PSN, or keep it until the port can send (R96, R113, R114). -/
def State.resendFrom (i psn : Nat) (s : State) : State :=
  let c := s.conn i
  if s.canSend c then (s.resendNow i psn).flushPort c.lport
  else s.updConn i fun c => { c with resend := some (match c.resend with
    | none => psn
    | some q => if psnAhead q psn then psn else q) }

/-- Send again what was kept while the port could not send. After an expiry the timer runs from the tick in which the first packet is
sent (R113). -/
def State.resendKept (i : Nat) (s : State) : State :=
  let c := s.conn i
  match c.resend with
  | none => s
  | some psn =>
    if c.state ≠ .ready || !s.canSend c || c.rnrUntil.isSome then s
    else
      let from_ := if psnAhead c.oldest psn then c.oldest else psn
      let s := if c.resendTimed then s.updConn i fun c => { c with deadline := some (s.tick + c.period) } else s
      s.resendNow i from_

/-- Send waiting requests in order: while the connection is READY, its port can send, no RNR wait runs, fewer READs than its depth are
outstanding, and no READ is started in a drain (R46, R96, R99, R103, R115). -/
def State.pumpConn (i : Nat) : Nat → State → State
  | 0, s => s
  | fuel + 1, s =>
    let c := s.conn i
    match c.waiting with
    | [] => s
    | (op, use) :: rest =>
      let isRead := match op with
        | .read .. => true
        | _ => false
      let held := isRead && (decide (c.depth ≤ c.readsOut) || s.power.drain != .none)
      if c.state ≠ .ready || !s.canSend c || c.rnrUntil.isSome || held then s
      else ((s.updConn i fun c => { c with waiting := rest }).sendRequest i op use).pumpConn i fuel

/-- Put all that a connection may send on the way out of its port. -/
def State.pumpOut (i : Nat) (s : State) : State := (s.resendKept i).pumpConn i (s.conn i).waiting.length

def State.pump (i : Nat) (s : State) : State := (s.pumpOut i).flushPort (s.conn i).lport

/-- Give a request to a connection. -/
def State.post (i : Nat) (op : RcOp) (use : RcUse) (s : State) : State :=
  (s.updConn i fun c => { c with waiting := c.waiting ++ [(op, use)] }).pump i

/-- A logical port sends again: what its connections have is put on its way, and goes out in the order of R107 (R96, R106). -/
def State.pumpPort (lp : Nat) (s : State) : State :=
  (((s.net.conns.filter fun x => x.2.lport == lp).map Prod.fst).foldl (fun s i => s.pumpOut i) s).flushPort lp

/-- A request all of whose PSNs lie at or before `psn`. -/
def RcReq.coveredBy (r : RcReq) (psn : Nat) : Bool := !psnAhead (psnAdd r.psn (r.count - 1)) psn

/-- Requests an acknowledgement of `psn` ends: those before the first READ that still awaits responses (R114). R114 does not say what
an ACK beyond such a READ does: the model acknowledges nothing past the READ (DESIGN CHOICE, log entry 133). -/
def ackSplit (psn : Nat) : List RcReq → List RcReq × List RcReq
  | [] => ([], [])
  | r :: rs =>
    let read := match r.op with
      | .read .. => decide (r.gotPkts < r.count)
      | _ => false
    if r.coveredBy psn && !read then
      let x := ackSplit psn rs
      (r :: x.1, x.2)
    else ([], r :: rs)

/-- Progress: the timer restarts and the retry count is reloaded, or the timer stops with nothing unacknowledged
(R113). -/
def Conn.progress (c : Conn) (tick : Nat) : Conn :=
  { c with retries := c.retryCnt, rnrLeft := c.rnrRetry, nakSeen := [],
           deadline := if c.sent.isEmpty then none else some (tick + c.period) }

/-- An acknowledgement inside a request of several packets. -/
def RcReq.ackInside (r : RcReq) (psn : Nat) : RcReq := match r.op with
  | .read .. => r
  | _ => if psnAhead r.psn psn then r else { r with gotPkts := max r.gotPkts (psnSub psn r.psn + 1) }

/-- Acknowledge every PSN up to `psn`, of those sent; it is progress when the oldest unacknowledged PSN advances (R113,
R114). -/
def State.acked (i psn : Nat) (s : State) : State :=
  let c := s.conn i
  if c.sent.isEmpty || psnAhead psn (psnAdd c.nextPsn (2 ^ 24 - 1)) then s
  else
    let left := match (ackSplit psn c.sent).2 with
      | [] => []
      | r :: rs => r.ackInside psn :: rs
    let c' : Conn := { c with sent := left, dirty := true }
    if c'.oldest = c.oldest then s else s.updConn i fun _ => c'.progress s.tick

/-- A SEND of a 32-byte header and body to another head or session (R330). -/
def messageBytes (kind flags from_ dest seq wsn : Nat) (body : List Byte) : List Byte :=
  le 2 kind ++ le 1 1 ++ le 1 flags ++ le 2 from_ ++ le 2 dest ++ le 8 seq ++ le 8 wsn ++ le 4 body.length ++
    le 4 (crc32c body).toNat ++ body

/-- The peer connection of a lane: 0 control, 1 mirror A, 2 mirror B, 3 mirror C (R329). -/
def State.peerConn (s : State) (head lane : Nat) : Option Nat :=
  (s.net.conns.find? fun x => x.2.use == .peer head lane && x.2.state == .ready).map Prod.fst

/-- Send a message to a head on a lane; the answer is its msg_seq, none when the connection is not READY (R330). -/
def State.sendMessage (head lane kind wsn : Nat) (body : List Byte) (s : State) : Option Nat × State :=
  match s.peerConn head lane with
  | none => (none, s)
  | some i =>
    let q := (s.conn i).txSeq
    let s := s.updConn i fun c => { c with txSeq := c.txSeq + 1 }
    (some q, s.post i (.send (messageBytes kind 0 s.head.headId head q wsn body) none) (.message q))

/-- Mirror lane of a rank: A for 0 and 1, B for 2 to 5, C for 6 and 7 (R329). -/
def laneOf (rank : Nat) : Nat := if rank < 2 then 1 else if rank < 6 then 2 else 3

end Sys2Proof.Machine
end

