-- ==== Sys2Proof/Machine/StageOps.lean ====
section
/-! DEFINITION. The operations of the staging log and of mirroring: record bytes, placement, release, mirror messages
(R163, R164, R181, R182, R331 to R335), and the application of deltas (R224 to R228). -/

namespace Sys2Proof.Machine

/-! ### Record bytes (R181) -/

def Delta.bytes (d : Delta) : List Byte :=
  le 8 d.ashlar ++ le 1 d.op ++ le 1 d.sett ++ le 2 d.mask ++ le 1 d.action ++ le 1 (boolNat d.raw) ++ le 2 d.units ++
    le 8 d.target ++ le 4 d.clen ++ le 1 d.src ++ zeros 3

def parseDelta (b : List Byte) : Delta :=
  { ashlar := fieldAt b 0 8, op := fieldAt b 8 1, sett := fieldAt b 9 1, mask := fieldAt b 10 2, action := fieldAt b 12 1,
    raw := bit (fieldAt b 13 1) 0, units := fieldAt b 14 2, target := fieldAt b 16 8, clen := fieldAt b 24 4,
    src := fieldAt b 28 1 }

/-- The header, deltas and fingerprints, padded to the meta units: the meta extent (R181, R261). -/
def Staged.metaBytes (r : Staged) : List Byte :=
  fit (256 * r.metaUnits) (le 1 r.kind ++ le 1 r.flags ++ le 2 r.deltas.length ++ le 4 r.units ++ le 8 r.wsn ++ le 8 r.fetch ++
    le 8 r.stage ++ le 4 r.nsid ++ le 1 r.domain ++ le 1 (if r.kind = 3 then 0xFF else r.keySlot) ++ le 2 r.fps.length ++ le 2 r.extents.length ++
    le 2 r.metaUnits ++ zeros 4 ++ le 8 r.slba ++ le 4 r.nlb ++ zeros 4 ++ r.deltas.flatMap Delta.bytes ++ r.fps.flatMap (fit 32))

def Staged.bytes (r : Staged) : List Byte := r.metaBytes ++ r.extents.flatten

/-- The record in a byte string (R181), of the units its deltas give each extent. -/
def parseStaged (b : List Byte) (claim : Nat) : Staged :=
  let nd := fieldAt b 2 2
  let nf := fieldAt b 0x26 2
  let ds := (List.range nd).map fun i => parseDelta (slice b (64 + 32 * i) 32)
  let sizes := (List.range (fieldAt b 0x28 2)).map fun k =>
    ((ds.find? fun d => (d.op == 1 || d.op == 2 || d.op == 12) && d.target == k).map Delta.units).getD 0
  let offs := sizes.foldl (fun (acc : List Nat × Nat) n => (acc.1 ++ [acc.2], acc.2 + n)) ([], fieldAt b 0x2A 2)
  { wsn := fieldAt b 8 8, kind := fieldAt b 0 1, flags := fieldAt b 1 1, units := fieldAt b 4 4, unit := 0,
    fetch := fieldAt b 16 8, stage := fieldAt b 24 8, nsid := fieldAt b 0x20 4, domain := fieldAt b 0x24 1,
    keySlot := fieldAt b 0x25 1, deltas := ds, fps := (List.range nf).map fun i => slice b (64 + 32 * nd + 32 * i) 32,
    extents := (List.range sizes.length).map fun k => slice b (256 * offs.1.getD k 0) (256 * sizes.getD k 0),
    slba := fieldAt b 0x30 8, nlb := fieldAt b 0x38 4, claim := claim, rank := 7 }

/-! ### Mirroring (R331 to R335) -/

/-- The oldest unreleased record's WSN, or the next the sequencer assigns (R333). -/
def State.tailWsn (s : State) : Nat := match s.wp.log.find? fun r => !r.released with
  | some r => r.wsn
  | none => s.wp.wsn + 1

def State.tailUnit (s : State) : Nat := match s.wp.log.find? fun r => !r.released with
  | some _ => s.wp.tail
  | none => s.wp.head

/-- The mirror peer is lost: EV_MIRROR_LOST, and every write that has not posted its completion waits for step 12 (R16,
R334). Nothing waits for its acknowledgements any more. -/
def State.loseMirror (cause : Nat) (s : State) : State :=
  if s.mirror.state = .none && !s.mirror.bound then s
  else
    let peer := s.mirror.peer
    let m : Mirror :=
      { s.mirror with state := .none, bound := false, peer := 0, candidate := none, waits := [], resilver := [], resilverJournal := [],
                      refused := [], lostRaised := false, retryAt := s.tick + ticksOf 1000000000 }
    let free (j : Journal) : Journal := { j with flight := j.flight.map fun f => { f with unmirrored := [] } }
    let log := s.wp.log.map fun (r : Staged) => { r with unmirrored := false, ackDeadline := none }
    ({ s with
      mirror := m,
      wp.log := log,
      stripe.journals := s.stripe.journals.mapVals free,
      nvme.cmds := s.nvme.cmds.mapVals fun c => { c with late := true } }).raise Ev.mirrorLost (le 2 peer ++ le 1 cause)

/-- Remember a message that awaits its MIRROR_ACK (R334). -/
def State.awaitMirror (what : MirrorWait) (lane : Nat) (seq : Nat) (s : State) : State :=
  let w : MirrorMsg := { seq := seq, lane := lane, what := what, deadline := s.tick + s.head.ackTicks }
  { s with mirror.waits := s.mirror.waits ++ [w] }

/-- Send a staging record: the RDMA WRITE into the bound area, then MIRROR_NOTE (R333). -/
def State.mirrorRecord (r : Staged) (s : State) : State :=
  if s.mirror.state = .none then s
  else
    let lane := laneOf r.rank
    match s.peerConn s.mirror.peer lane with
    | none => s.loseMirror 2
    | some i =>
      let b := r.bytes
      let s := s.post i (.write (s.mirror.va + 256 * r.unit) s.mirror.key b) (.mirrorRecord r.wsn)
      let body := le 4 r.unit ++ le 4 r.units ++ le 4 (crc32c b).toNat ++ le 1 r.domain ++ zeros 3 ++ le 4 s.tailUnit ++
        zeros 4 ++ le 8 s.tailWsn
      let x := s.sendMessage s.mirror.peer lane 1 r.wsn body
      let s := { x.2 with mirror.tailSent := s.tailUnit, mirror.tailTick := s.tick }
      match x.1 with
      | none => s.loseMirror 2
      | some q => s.awaitMirror (.record r.wsn) lane q

/-- Send the records of a journal frame (R333). -/
def State.mirrorJournal (d rank : Nat) (f : JFrame) (s : State) : State :=
  if s.mirror.state = .none then s
  else
    let body := le 1 d ++ le 1 f.records.length ++ zeros 6 ++ le 8 f.seq ++ f.records.flatMap (JRecord.bytes d)
    let x := s.sendMessage s.mirror.peer (laneOf rank) 3 ((f.records.head?.map JRecord.wsn).getD 0) body
    match x.1 with
    | none => x.2.loseMirror 2
    | some q => x.2.awaitMirror (.journal d f.seq) (laneOf rank) q

/-- The 64-byte progress record of R154. -/
def EraseOp.bytes (e : EraseOp) : List Byte :=
  le 1 e.kind ++ le 1 e.action ++ le 1 e.state ++ le 1 e.phase ++ le 4 e.target ++ le 8 e.total ++ le 8 e.checkpointDone ++
    le 8 e.startStamp ++ le 8 e.checkpoint ++ le 4 e.restarts ++ le 1 e.newLbaf ++ le 2 e.tag ++ le 1 0 ++ le 4 e.cdw10 ++ zeros 12

/-- Send a progress record (R154, R333). -/
def State.mirrorProgress (k : Nat) (e : EraseOp) (s : State) : State :=
  if s.mirror.state = .none then s
  else
    let x := s.sendMessage s.mirror.peer 3 4 0 e.bytes
    match x.1 with
    | none => x.2
    | some q => x.2.awaitMirror (.progress k) 3 q

/-! ### Placement (R163, R164, R181, R182) -/

/-- The live extent of an extent of a record (R262): its kind, tags from the delta and its fingerprints. -/
def State.extentOf (s : State) (r : Staged) (k : Nat) : Extent :=
  let b := (s.reduceOf r.domain).bucketLog2
  let slots (d : Delta) : Nat := if d.action = 1 || d.action = 2 then (if d.op = 1 && d.action = 1 then 17 else 1) else 0
  let find := r.deltas.foldl (fun (acc : Option (Delta × Nat) × Nat) d =>
    match acc.1 with
    | some x => (some x, acc.2)
    | none => if (d.op == 1 || d.op == 2 || d.op == 12) && d.target == k then (some (d, acc.2), acc.2)
      else (none, acc.2 + slots d)) (none, 0)
  match find.1 with
  | none => { units := (r.extents.getD k []).length / 256, kind := 1 }
  | some (d, at_) =>
    let fp := r.fps.getD at_ []
    let whole := d.op == 1 || d.op == 12
    let tagged := d.action == 1
    let conts := if whole && tagged then (List.range 16).filterMap fun x =>
        let f := r.fps.getD (at_ + 1 + x) []
        if f.all (· == 0) then none else some { sett := x, bucket := bucketOf b f, tag := ofLe (tagOf f) } else []
    { units := d.units, kind := if whole then 2 else 1, raw := d.raw, nsid := r.nsid, tagged := tagged,
      bucket := if tagged then bucketOf b fp else 0, tag := if tagged then ofLe (tagOf fp) else 0, keySlot := r.keySlot,
      conts := conts, mapCount := 0 }

/-- The items of a record for its stripe: the meta extent, then its extents in index order (R261). -/
def State.itemsOf (s : State) (r : Staged) : List Item :=
  { off := 0, ext := { units := r.metaUnits, kind := 7 }, source := .metaExtent r.wsn, bytes := r.metaBytes, rank := r.rank } ::
  (List.range r.extents.length).map fun k =>
    { off := 0, ext := s.extentOf r k, source := .extent r.wsn k, bytes := r.extents.getD k [], rank := r.rank }

/-- Every stripe that holds a part of the record is closed: step 12 (R18, R263). -/
def State.recordClosed (s : State) (r : Staged) : Bool :=
  r.meta_ && r.placed == r.extents.length && r.stripes.all fun n => (s.stripeOf n).state != .open

/-- EV_STAGING_HIGH at 90 % and EV_STAGING_NORMAL below 75 % of the unit limit (R164). -/
def State.stagingLevel (s : State) : State :=
  let o := s.wp.occupancy
  let l := s.wp.limit
  if !s.wp.high && decide (0 < l) && decide (9 * l ≤ 10 * o) then
    ({ s with wp.high := true }).raise Ev.stagingHigh (le 8 o ++ le 8 l)
  else if s.wp.high && decide (4 * o < 3 * l) then
    ({ s with wp.high := false }).raise Ev.stagingNormal (le 8 o)
  else s

/-- Close at once every stripe that holds a part of a record, and those its waiting parts come to (R18, R164). -/
def State.closeRecord (r : Staged) (s : State) : State :=
  let s := r.stripes.foldl (fun s n => s.completeStripe n r.rank true) s
  if r.meta_ && r.placed == r.extents.length then s else s.closeStream r.domain 0 r.rank

/-- Above seven eighths of the limit with an unreleased tail record, its stripe is closed at once (R164). -/
def State.stagingClose (s : State) : State :=
  if 7 * s.wp.limit < 8 * (s.wp.occupancy + s.wp.reserved + 4181) then
    match s.wp.log.head? with
    | some r => if r.released || s.recordClosed r then s else s.closeRecord r
    | none => s
  else s

/-- Place a record: the next WSN is assigned and the record allocated at the log head in one step, past a skip record
where it would cross the log's end; it is mirrored and goes to stream 0 (R163, R182). A record kept from another head keeps
its WSN (R352). -/
def State.stageRecord (r : Staged) (keepWsn : Bool) (s : State) : Nat × State :=
  let w := if keepWsn then r.wsn else s.wp.wsn + 1
  let wraps := decide (s.wp.logUnits < s.wp.head + r.units)
  let skip := if wraps then s.wp.logUnits - s.wp.head else 0
  let unit := if wraps then 0 else s.wp.head
  let live := s.mirror.state != .none
  let r := { r with wsn := w, unit := unit, stage := s.now, unmirrored := live, pxas := List.replicate r.extents.length 0,
                    ackDeadline := none }
  let s := { s with
    now := s.now + 1,
    wp.wsn := if keepWsn then s.wp.wsn else w,
    wp.skips := if 0 < skip then s.wp.skips ++ [(s.wp.head, skip, w)] else s.wp.skips,
    wp.head := unit + r.units,
    wp.occupancy := s.wp.occupancy + skip + r.units,
    wp.log := s.wp.log ++ [r] }
  let s := s.mirrorRecord r
  let s := s.place r.domain 0 (s.itemsOf r)
  let s := if bit r.flags 0 then s.closeStream r.domain 0 r.rank else s
  (w, s.stagingLevel.stagingClose)

/-- A record to place with nothing but deltas. -/
def bareRecord (kind d claim rank nsid fetch : Nat) (ds : List Delta) : Staged :=
  let r : Staged := { wsn := 0, kind := kind, flags := 0, units := 0, unit := 0, fetch := fetch, stage := 0, nsid := nsid,
                      domain := d, keySlot := 0xFF, deltas := ds, claim := claim, rank := rank }
  { r with units := r.metaUnits }

/-- A record may be placed now: a WSN is free, and the sum of R161 with its units stays at or below the unit limit (log entry 142; R28,
R50). -/
def State.roomFor (s : State) (r : Staged) : Bool :=
  s.wsnFree && decide (s.wp.occupancy + s.wp.reserved + 4181 + r.units ≤ s.wp.limit)

/-- Place a record of the map engine, which waits in turn while there is no room for it (R28, R50, R226). -/
def State.stageLater (r : Staged) (s : State) : State :=
  if s.wp.waiting.isEmpty && s.roomFor r then (s.stageRecord r false).2.ceilingCheck
  else { s with wp.waiting := s.wp.waiting ++ [r] }

/-- Place what waited, in order, while there is room: map-engine records, then journal records that need a WSN (R28, R50). -/
def State.placeWaiting : Nat → State → State
  | 0, s => s
  | fuel + 1, s =>
    match s.wp.waiting, s.wp.waitingMoves with
    | r :: rs, _ =>
      if s.roomFor r then
        ((({ s with wp.waiting := rs }).stageRecord { r with claim := s.claimOf r.domain } false).2.ceilingCheck).placeWaiting fuel
      else s
    | [], m :: ms =>
      if s.wsnFree then ((({ s with wp.waitingMoves := ms }).journalWrite m.1 m.2.1 m.2.2 0).ceilingCheck).placeWaiting fuel else s
    | [], [] => s

def State.placeHeld (s : State) : State := s.placeWaiting (s.wp.waiting.length + s.wp.waitingMoves.length)

/-- What waits for a domain that the head no longer holds goes (R340). -/
def State.dropWaiting (d : Nat) (s : State) : State :=
  { s with wp.waiting := s.wp.waiting.filter fun r => r.domain != d, wp.waitingMoves := s.wp.waitingMoves.filter fun m => m.1 != d }

/-- Place a map-engine record (R226). -/
def State.stageMap (d nsid rank : Nat) (ds : List Delta) (acc : Option Nat) (s : State) : State :=
  s.stageLater { bareRecord 3 d (s.claimOf d) rank nsid 0 ds with acc := acc }

def State.record? (s : State) (w : Nat) : Option Staged := s.wp.log.find? fun r => r.wsn == w

def State.updRecord (w : Nat) (f : Staged → Staged) (s : State) : State :=
  { s with wp.log := s.wp.log.map fun r => if r.wsn = w then f r else r }

/-- Reclaim space at the tail: it advances past released records and skip records (R163). -/
def reclaim : List Staged → List (Nat × Nat × Nat) → Nat → Nat → Nat → List Staged × List (Nat × Nat × Nat) × Nat × Nat
  | [], skips, tail, occ, _ => ([], skips, tail, occ)
  | r :: rs, skips, _, occ, size =>
    let sk := skips.find? fun x => x.2.2 == r.wsn
    let n := (sk.map fun x => x.2.1).getD 0
    let left := skips.filter fun x => x.2.2 != r.wsn
    if r.released then reclaim rs left (r.unit + r.units) (occ - n - r.units) size
    else (r :: rs, left, r.unit, occ - n)

/-- Release records that are applied, closed and acknowledged by the peer, and reclaim the tail (R163, R335). -/
def State.releaseStaging (s : State) : State :=
  let done (r : Staged) : Bool := r.released || ((r.applied || r.dropped) && (r.dropped || s.recordClosed r) && !r.unmirrored)
  let log := s.wp.log.map fun r => { r with released := done r }
  let x := reclaim log s.wp.skips s.wp.tail s.wp.occupancy s.wp.logUnits
  ({ s with wp.log := x.1, wp.skips := x.2.1, wp.tail := x.2.2.1, wp.occupancy := x.2.2.2 }).stagingLevel.stagingClose.placeHeld

/-! ### Applying deltas (R224 to R228) -/

/-- Fingerprint slots of a delta (R181). -/
def Delta.fpSlots (d : Delta) : Nat := if d.action = 1 then (if d.op = 1 then 17 else 1) else if d.action = 2 then 1 else 0

/-- Insert the index entries of a new extent (R173, R181): the answer says whether at least one was made. -/
def State.insertDelta (r : Staged) (d : Delta) (fps : List (List Byte)) (pxa : Nat) (s : State) : Bool × State :=
  let b := (s.reduceOf r.domain).bucketLog2
  if d.action ≠ 1 || b = 0 then (false, s)
  else
    let fp := fps.headD []
    let x := s.indexInsert r.domain (bucketOf b fp) (ixEntry (tagOf fp) pxa 1 d.units (if d.op = 1 then 2 else 1) 0 r.keySlot d.raw)
    if d.op ≠ 1 then x
    else
      ((fps.drop 1).zipIdx).foldl (fun (acc : Bool × State) f =>
        if f.1.all (· == 0) then acc
        else
          let y := acc.2.indexInsert r.domain (bucketOf b f.1) (ixEntry (tagOf f.1) pxa 1 d.units 3 f.2 r.keySlot d.raw)
          (acc.1 || y.1, y.2)) x

/-- Add the references of an increment (R171, R173): for a whole-ashlar hit to every index entry of the extent. -/
def State.incrementDelta (r : Staged) (d : Delta) (fps : List (List Byte)) (s : State) : State :=
  let p := s.resolvePxa d.target
  if d.op = 3 then
    s.eachIndexEntry p fun bucket tag form sett s =>
      s.indexAdd r.domain bucket fun e => ixForm e == form && ixSett e == sett && ixPxa e == p && ixTag e == tag
  else
    let b := (s.reduceOf r.domain).bucketLog2
    let fp := fps.headD []
    s.indexAdd r.domain (bucketOf b fp) fun e => ixTag e == tagOf fp && ixPxa e == p && ixKey e == r.keySlot && ixForm e != 2

/-- A delta of a layer that has been released (R234): its extent gains no map count, its pending increment ends. -/
def State.discardDelta (r : Staged) (d : Delta) (s : State) : State :=
  if d.op ≤ 2 then s.mapCountSub (r.pxas.getD d.target 0) 0
  else if d.op ≤ 4 then s.updExtent d.target fun e => { e with pending := e.pending - 1 }
  else s

/-- A page holds a record's changes: the pair (claim, WSN) is not above the page's (R224). -/
def State.holdsRecord (s : State) (r : Staged) (p : Nat) : Bool :=
  match s.page? p with
  | none => false
  | some x => decide (r.claim < x.claim) || (r.claim == x.claim && decide (r.wsn ≤ x.applied))

/-- Setts that a delta of ops 2, 4, 5, 6 or 16 changes. -/
def Delta.setts (d : Delta) : List Nat := if d.op = 2 || d.op = 4 then [d.sett] else (List.range 16).filter fun x => bit d.mask x

/-- A delta makes its ashlar coarse. -/
def Delta.coarse (d : Delta) : Bool := d.op == 1 || d.op == 3 || d.op == 7 || d.op == 8

/-- The entry that a delta writes, once its index entries, its map count and its pending count have changed (R171, R173, R225). -/
def State.newEntry (r : Staged) (id : Nat) (d : Delta) (fps : List (List Byte)) (s : State) : MapEntry × State :=
  if d.op ≤ 2 then
    let pxa := r.pxas.getD d.target 0
    let i := s.insertDelta r d fps pxa
    ({ pxa := pxa, units := d.units - 1, typ := 1, raw := d.raw, indexed := i.1, whole := d.op == 1, layer := id },
      i.2.mapCountAdd pxa 1)
  else if d.op ≤ 4 then
    let whole := d.op == 3 || d.src != 0xFF
    ({ pxa := d.target, units := d.units - 1, typ := 1, raw := d.raw, indexed := true, whole := whole,
       src := if d.op = 4 && whole then d.src else 0, layer := id },
      (s.incrementDelta r d fps).updExtent d.target fun e => { e with mapCount := e.mapCount + 1, pending := e.pending - 1 })
  else ({ typ := if d.op = 5 || d.op = 7 then 2 else if d.op = 16 then 4 else 0, layer := id }, s)

/-- Change a table's entries by a delta and stamp its sett page (R219, R225). -/
def State.setSetts (r : Staged) (d : Delta) (q slot : Nat) (e : MapEntry) (s : State) : State :=
  (d.setts.foldl (fun s x => s.setSett r.domain q slot x e) s).stampPage q r.claim r.wsn

/-- Change an ashlar of a leaf, made private, by a delta (R225, R227, R228); a sett page that holds the change already keeps its
entries (R224). -/
def State.changeLeaf (r : Staged) (id : Nat) (d : Delta) (fps : List (List Byte)) (skip : Nat → Bool) (coarse : Bool) (leaf : Nat)
    (s : State) : State :=
  let dom := r.domain
  let a := d.ashlar
  if ((s.tableAt leaf a).map fun t => skip t.1).getD false && !d.coarse then s.touchSplit leaf a
  else
    let e := s.newEntry r id d fps
    if d.coarse || (coarse && d.mask == 0xFFFF && decide (5 ≤ d.op)) then e.2.setCoarse dom id leaf a e.1
    else
      let t := e.2.splitAshlar dom id leaf a
      ((t.2.setSetts r d t.1.1 t.1.2 e.1).touchSplit leaf a).mergeAtOnce dom id leaf a

/-- A leaf that holds a record's change already: a sett page of it that does not takes its own (R224). -/
def State.changeTable (r : Staged) (id : Nat) (d : Delta) (fps : List (List Byte)) (skip : Nat → Bool) (leaf : Nat) (s : State) : State :=
  match s.tableAt leaf d.ashlar with
  | none => s
  | some t =>
    if d.coarse || skip t.1 then s
    else
      let e := s.newEntry r id d fps
      e.2.setSetts r d t.1 t.2 e.1

/-- Apply one delta of ops 1 to 8 to its ashlar in a head layer (R225), or op 16, the model's own, which maps the setts of its mask
lost (R358). The pages that hold the record's change already (`skip`) stay as they are (R224). -/
def State.applyAshlar (r : Staged) (id : Nat) (d : Delta) (fps : List (List Byte)) (skip : Nat → Bool) (s : State) : State :=
  match s.layer? r.domain id with
  | none => s.discardDelta r d
  | some l =>
    let dom := r.domain
    let old := s.leafOf l d.ashlar
    let before := s.usedSetts l d.ashlar
    let coarse := s.coarse l d.ashlar
    let s :=
      if skip old then s.changeTable r id d fps skip old
      else
        let x := s.privatePath dom id d.ashlar 0
        x.2.changeLeaf r id d fps skip coarse x.1
    match s.layer? dom id with
    | none => s
    | some l' =>
      if r.replayed then (s.recountPath d.ashlar r.claim r.wsn skip (l'.levels - 1) l'.root).2
      else s.settlePath d.ashlar r.claim r.wsn ((s.usedSetts l' d.ashlar : Int) - before) skip 0 (l'.levels - 1) l'.root

/-- A whole subtree that lies in the range of a deallocation: the directory entry at level `k` is set to child 0 and the subtree
released (R225). -/
def State.dropSubtree (r : Staged) (id k a : Nat) (skip : Nat → Bool) (s : State) : State :=
  match s.layer? r.domain id with
  | none => s
  | some l =>
    let i := a / 256 ^ k % 256
    let at_ := s.walk a k (l.levels - 1 - k) l.root
    if at_ = 0 || skip at_ || childOf ((s.pageBody at_).getD []) i = 0 then s
    else
      let x := s.privatePath r.domain id a k
      let b := (x.2.pageBody x.1).getD (zeros 4096)
      let s := (x.2.writePage x.1 (16 * i) (zeros 16)).releasePage 7 (childOf b i)
      match s.layer? r.domain id with
      | none => s
      | some l' => s.settlePath a r.claim r.wsn (-(usedOf b i : Int)) skip k (l'.levels - 1 - k) l'.root

/-- The level of the largest subtree of a tree of `levels` levels that begins at an ashlar and lies in a run of `n`; 0 when only
the ashlar does. -/
def subtreeAt (levels a n : Nat) : Nat :=
  (((List.range (levels - 1)).reverse.find? fun k => a % 256 ^ (k + 1) == 0 && decide (256 ^ (k + 1) ≤ n)).map (· + 1)).getD 0

/-- Clear the `left` ashlars from `a` (ops 7 and 8): each becomes coarse type 2 or 0; a directory entry whose whole subtree lies in
the range of a deallocation is set to child 0 and released (R225). `fuel` is at least the number left. -/
def State.applyRange (r : Staged) (id op : Nat) (skip : Nat → Bool) : Nat → Nat → Nat → State → State
  | 0, _, _, s => s
  | fuel + 1, left, a, s =>
    if left = 0 then s
    else
      match s.layer? r.domain id with
      | none => s
      | some l =>
        let k := if op = 8 then subtreeAt l.levels a left else 0
        if 0 < k then (s.dropSubtree r id k a skip).applyRange r id op skip fuel (left - 256 ^ k) (a + 256 ^ k)
        else
          let s := if op = 8 && s.leafOf l a = 0 then s else s.applyAshlar r id { ashlar := a, op := op } [] skip
          s.applyRange r id op skip fuel (left - 1) (a + 1)

/-- Apply the LOST op to a page entry in place (R222, R226, R235): the entry becomes type 4 and used_setts above it falls. The
answer says whether an entry changed. -/
def State.applyLost (r : Staged) (page ix pxa : Nat) (skip : Nat → Bool) (s : State) : Bool × State :=
  match s.page? page, s.pageBody page with
  | some x, some b =>
    let e := parseEntry (rawEntry b ix)
    if e.typ = 1 && !skip page && (e.pxa == pxa || s.resolvePxa e.pxa == pxa) then
      let s := if x.kind = 2 then s.releaseSett r.domain e else s.releaseEntry r.domain e
      let s := (s.writePage page (16 * ix) { e with typ := 4, indexed := false }.bytes).stampPage page r.claim r.wsn
      (true, (s.lowerUsed 7 page (if x.kind = 2 then 1 else 16)).mapCount_ 10 1)
    else (false, s)
  | _, _ => (false, s)

/-- The head layer of a namespace. -/
def State.headLayer (s : State) (nsid : Nat) : Nat := ((s.nvme.namespaces.get? nsid).map Namespace.layer).getD 0

/-- Start the background release of a layer's tree: it becomes deleting (R234). -/
def State.deleteLayer (d id : Nat) (s : State) : State :=
  (s.updLayer d id fun l => { l with kind := 3 }).startJob 0x28 (s.rankOf 14) 1

/-- Raise a namespace's head layer tree to `levels` by new roots whose entry 0 names the old root (R217). -/
def State.growLayer (d id : Nat) : Nat → State → State
  | 0, s => s
  | n + 1, s =>
    match s.layer? d id with
    | none => s
    | some l =>
      let used := s.layerUsed l
      let x := s.addPage d (l.levels + 2) 0 (fit 4096 (le 5 l.root ++ zeros 3 ++ le 8 used))
      let y := if l.root = 0 then (0, s) else x
      (y.2.updLayer d id fun l => { l with levels := l.levels + 1, root := y.1 }).growLayer d id n

/-- A layer ID that a record gives is taken: the counter stays above it (R216). -/
def State.takeLayer (d id : Nat) (l : Layer) (s : State) : State :=
  { s.updMdom d (fun m => { m with nextLayer := max m.nextLayer (id + 1) }) with
    map.layers := s.map.layers.set (layerKey d id) l }

/-- Apply a map-engine op of kinds 9 to 15 (R226). A layer op whose new layer is there already, or whose layer has changed kind, has
been applied before (R224). -/
def State.applyMapOp (r : Staged) (d : Delta) (skip : Nat → Bool) (s : State) : State :=
  let dom := r.domain
  if d.op = 9 then
    match s.layer? dom d.target with
    | none => s
    | some l =>
      if l.kind ≠ 1 || (s.layer? dom d.ashlar).isSome then s
      else
      let s := s.updLayer dom d.target fun l => { l with kind := 2, freezeWsn := r.wsn, flags := 0 }
      let new : Layer := { l with kind := 1, parent := d.target, label := zeros 16, createStamp := r.stage, freezeWsn := 0 }
      let s := s.takeLayer dom d.ashlar new
      let s := s.updPage l.root fun p => { p with refs := p.refs + 1 }
      let s := { s with nvme.namespaces := s.nvme.namespaces.upd r.nsid fun n => { n with layer := d.ashlar } }
      s.raise Ev.layerFrozen (le 1 dom ++ le 4 r.nsid ++ le 4 d.target ++ le 8 r.wsn)
  else if d.op = 10 || d.op = 15 then
    match s.layer? dom d.target, s.nvme.namespaces.get? r.nsid with
    | some snap, some n =>
      if (s.layer? dom d.ashlar).isSome then s
      else
      let s := s.deleteLayer dom n.layer
      let new : Layer := { kind := 1, levels := snap.levels, flags := boolNat (d.op == 10), nsid := r.nsid, parent := d.target,
                           root := snap.root, createStamp := r.stage, nsze := n.nsze, lbaf := n.lbaf, keySlot := n.keySlot }
      let s := s.takeLayer dom d.ashlar new
      let s := s.updPage snap.root fun p => { p with refs := p.refs + 1 }
      let s := { s with nvme.namespaces := s.nvme.namespaces.upd r.nsid fun n => { n with layer := d.ashlar } }
      (s.growLayer dom d.ashlar (levelsFor (ashlarCount n.nsze n.lbaf) - snap.levels)).startPinning r.nsid
    | _, _ => s
  else if d.op = 11 then
    let ends := decide (2 ^ 32 ≤ r.nsid)
    let slot := ((s.nvme.namespaces.get? r.nsid).map Namespace.keySlot).getD 0xFF
    let s := if ends && (s.layer? dom d.target).isNone then s.refKey slot false else s
    let s := (s.deleteLayer dom d.target).updLayer dom d.target fun l => { l with dropKey := l.dropKey || ends }
    let gone (l : Layer) : Layer := if l.nsid = r.nsid && r.nsid ≠ 0 then { l with nsid := 0 } else l
    let s := s.countPins dom
    if r.nsid = 0 then s
    else { s with map.layers := s.map.layers.map fun x => if x.1 / 2 ^ 32 = dom && x.2.kind = 2 then (x.1, gone x.2) else x }
  else if d.op = 12 then
    let id := s.headLayer r.nsid
    let touched := r.marks.isSome
    match s.layer? dom id with
    | none => s
    | some l =>
      let last := match s.pageBody (s.leafOf l d.ashlar) with
        | some b => rawEntry b (d.ashlar % 256)
        | none => zeros 16
      if skip (s.leafOf l d.ashlar) then s
      else if touched || fieldAt last 9 1 % 8 ≠ 3 then (s.dropExtent (r.pxas.getD 0 0)).mapCount_ 9 1
      else
        let pxa := r.pxas.getD 0 0
        let before := s.usedSetts l d.ashlar
        let x := s.privatePath dom id d.ashlar 0
        let s := (x.2.mapCountAdd pxa 1).setCoarse dom id x.1 d.ashlar
          { pxa := pxa, units := d.units - 1, typ := 1, raw := d.raw, whole := true }
        (s.settlePath d.ashlar r.claim r.wsn (16 - (before : Int)) skip 0 (l.levels - 1) ((s.layer? dom id).getD l).root).mapCount_ 8 1
  else if d.op = 13 then (s.applyLost r d.ashlar d.sett d.target skip).2
  else if d.op = 14 then
    let old := ((s.page? d.ashlar).map Page.pxa).getD 0
    let s := if old = 0 || old = d.target then s else s.dropExtent old
    s.updPage d.ashlar fun p => { p with pxa := d.target }
  else s

/-- A MERGE record whose ashlar a record has touched between its basis WSN and its own is marked, and with it the cold merges under
way: at its application it will be dropped (R228). -/
def State.markMerges (r : Staged) (s : State) : State :=
  let hit (m : Staged) : Bool := decide (m.fetch < r.wsn) && m.deltas.any fun d => d.op == 12 && r.touches m.nsid d.ashlar
  let mark (placed : Bool) (m : Staged) : Staged := if hit m && (!placed || decide (r.wsn < m.wsn)) then { m with marks := some 1 } else m
  let cold (m : ColdMerge) : ColdMerge := if m.basis < r.wsn && r.touches m.nsid m.ashlar then { m with touched := true } else m
  { s with wp.log := s.wp.log.map (mark true), wp.waiting := s.wp.waiting.map (mark false), map.merges := s.map.merges.mapVals cold }

/-- Apply deltas in order, each with its fingerprints. -/
def State.applyEach (r : Staged) (skip : Nat → Bool) : List Delta → List (List Byte) → State → State
  | [], _, s => s
  | d :: ds, fps, s =>
    let id := s.headLayer r.nsid
    let s :=
      if d.op ≤ 6 || d.op = 16 then s.applyAshlar r id d (fps.take d.fpSlots) skip
      else if d.op ≤ 8 then s.applyRange r id d.op skip d.target d.target d.ashlar
      else s.applyMapOp r d skip
    s.applyEach r skip ds (fps.drop d.fpSlots)

/-- Apply the deltas of a record together; the pages that held it before the first of them stay as they are (R224). -/
def State.applyDeltas (r : Staged) (ds : List Delta) (fps : List (List Byte)) (s : State) : State :=
  s.applyEach r (s.holdsRecord r) ds fps

end Sys2Proof.Machine
end

