-- ==== Sys2Proof/Machine/NvmeOps.lean ====
section
/-! DEFINITION. The operations of the NVMe target: capsules, completions, asynchronous events, ANA states, command checks,
the stages of writes, and the end of queues and controllers (R16, R18, R133 to R150, R161 to R168, R176, R183). A status is
its type x 256 plus its code. Field places of NVMe structures are the NVMe standard's (log entry 21). -/

namespace Sys2Proof.Machine

namespace Nv

def invalidOpcode : Nat := 0x01
def invalidField : Nat := 0x02
def cidConflict : Nat := 0x03
def internal : Nat := 0x06
def invalidNamespace : Nat := 0x0B
def sequence : Nat := 0x0C
def sglLength : Nat := 0x0F
def sglType : Nat := 0x11
def denied : Nat := 0x15
def sanitizeFailed : Nat := 0x1C
def sanitizing : Nat := 0x1D
def protectedNs : Nat := 0x20
def transient : Nat := 0x22
def lbaRange : Nat := 0x80
def capacity : Nat := 0x81
def formatting : Nat := 0x84
def unrecovered : Nat := 0x281
def guard : Nat := 0x282
def appTag : Nat := 0x283
def refTag : Nat := 0x284
def inaccessible : Nat := 0x302
def transition : Nat := 0x303
def aerLimit : Nat := 0x105
def invalidLog : Nat := 0x109
def invalidFormat : Nat := 0x10A
def notSaveable : Nat := 0x10D
def abortLimit : Nat := 0x103

end Nv

/-! ### Capsules (R137, R144) -/

def sqOpcode (c : List Byte) : Nat := fieldAt c 0 1
def sqCid (c : List Byte) : Nat := fieldAt c 2 2
def sqNsid (c : List Byte) : Nat := fieldAt c 4 4
def cdw (c : List Byte) (n : Nat) : Nat := fieldAt c (4 * n) 4
def sqSlba (c : List Byte) : Nat := fieldAt c 40 8
def sqNlb (c : List Byte) : Nat := fieldAt c 48 2
def sglAddr (c : List Byte) : Nat := fieldAt c 24 8
/-- The descriptor's type and subtype byte. -/
def sglId (c : List Byte) : Nat := fieldAt c 39 1
def sglLen (c : List Byte) : Nat := if sglId c / 16 = 4 then fieldAt c 32 3 else fieldAt c 32 4
def sglKey (c : List Byte) : Nat := fieldAt c 35 4
/-- Subtype Fh of a keyed descriptor: the response is a SEND with Invalidate (R137). -/
def sglInv (c : List Byte) : Option Nat := if sglId c = 0x4F then some (sglKey c) else none

def State.ns? (s : State) (n : Nat) : Option Namespace := s.nvme.namespaces.get? n
def State.ctrl? (s : State) (c : Nat) : Option Controller := s.nvme.controllers.get? c
def State.updCtrl (c : Nat) (f : Controller → Controller) (s : State) : State :=
  { s with nvme.controllers := s.nvme.controllers.upd c f }
def State.subsys (s : State) (n : Nat) : Subsystem := s.nvme.subsystems.getD n {}
def State.updSubsys (n : Nat) (f : Subsystem → Subsystem) (s : State) : State :=
  { s with nvme.subsystems := s.nvme.subsystems.upd n f }

/-- The controller whose admin or I/O queue a connection is. -/
def State.ctrlOf (s : State) (conn : Nat) : Option Nat :=
  (s.nvme.controllers.find? fun x => x.2.admin == conn || x.2.queues.any fun q => q.2 == conn).map Prod.fst

def State.qidOf (s : State) (conn : Nat) : Nat := match (s.conn conn).use with
  | .nvme q _ => q
  | _ => 0

/-- Log an error completion of a controller, path-related statuses (type 3h) excepted; the newest 256 are kept (R140). -/
def State.logError (conn cid status lba nsid : Nat) (s : State) : State :=
  if status = 0 || status / 256 = 3 then s
  else match s.ctrlOf conn with
    | none => s
    | some c => s.updCtrl c fun x =>
        { x with errorCount := x.errorCount + 1,
                 errors := ({ count := x.errorCount + 1, sqid := s.qidOf conn, cid := cid, status := status, lba := lba,
                              nsid := nsid : ErrorEntry } :: x.errors).take 256 }

/-- A command is outstanding on a subsystem: a capsule waits on a queue of one of its controllers, or a fetched command has no
completion yet; Asynchronous Event Requests are not counted (log entry 146). `but` is the command being completed. -/
def State.outstanding (s : State) (n : Nat) (but : Option (Nat × Nat)) : Bool :=
  s.nvme.controllers.any fun x => x.2.subsys == some n &&
    (!(s.conn x.2.admin).inbox.isEmpty || (x.2.queues.any fun q => !(s.conn q.2).inbox.isEmpty) ||
      s.nvme.cmds.any fun c => c.2.cntlid == x.1 && decide (c.2.stage < 9) && !c.2.torn && some (c.2.conn, c.2.cid) != but)

/-- A command becomes outstanding on a subsystem. -/
def State.startBusy (n : Nat) (s : State) : State :=
  s.updSubsys n fun u => { u with busyFrom := some (u.busyFrom.getD s.now) }

/-- A command of a subsystem ends: its busy time is counted, and stops when nothing is outstanding any more. -/
def State.countBusy (n : Nat) (but : Option (Nat × Nat)) (s : State) : State :=
  let more := s.outstanding n but
  s.updSubsys n fun u => { u.busyTo s.now with busyFrom := if more then some s.now else none }

/-- A command of a queue ends. -/
def State.countBusyOf (conn cid : Nat) (s : State) : State :=
  match (s.ctrlOf conn).bind s.ctrl? with
  | none => s
  | some x => match x.subsys with
    | none => s
    | some n => s.countBusy n (some (conn, cid))

/-- Post a completion (R133, R137): the 16-byte response capsule with the current SQ head. -/
def State.postCompletion (conn cid status : Nat) (dw : Nat) (inv : Option Nat) (s : State) : State :=
  let c := s.conn conn
  let b := le 8 dw ++ le 2 c.sqHead ++ le 2 (s.qidOf conn) ++ le 2 cid ++ le 2 (2 * (status % 256 + status / 256 * 256))
  (s.countBusyOf conn cid).post conn (.send b inv) .response

/-- Complete a command: an error is logged with no LBA. -/
def State.complete (conn cid status : Nat) (dw : Nat) (inv : Option Nat) (s : State) : State :=
  (s.logError conn cid status 0 0).postCompletion conn cid status dw inv

/-- Send data to a command's SGL, then its completion (read-path step 6); `use` says the rank of the data. -/
def State.completeData (conn : Nat) (cap data : List Byte) (use : RcUse) (s : State) : State :=
  (s.post conn (.write (sglAddr cap) (sglKey cap) data) use).complete conn (sqCid cap) 0 0 (sglInv cap)

/-- Take the oldest capsule of a connection off its receive slots: the SQ head moves (R115, R133). -/
def State.popCapsule (conn : Nat) (s : State) : State :=
  s.updConn conn fun c =>
    { c with inbox := c.inbox.drop 1, inboxAt := c.inboxAt.drop 1, takenAt := c.inboxAt.headD s.tick, sqHead := match c.use with
        | .nvme _ n => if n = 0 then 0 else (c.sqHead + 1) % n
        | _ => 0 }

/-- Reject a capsule with a status. -/
def State.refuseCapsule (conn : Nat) (cap : List Byte) (status : Nat) (s : State) : State :=
  s.complete conn (sqCid cap) status 0 (sglInv cap)

/-! ### Asynchronous events and ANA (R145, R156) -/

/-- Send an asynchronous event to a controller that holds an outstanding request and has not left one of the same kind
unread: type, information and log page (R145, R156). -/
def State.sendAen (c typ info log : Nat) (s : State) : State :=
  match s.ctrl? c with
  | none => s
  | some x =>
    match x.aers with
    | [] => s
    | (cid, inv) :: rest =>
      if x.masked.contains log && log ≠ 0x81 then s
      else
        (s.updCtrl c fun x => { x with aers := rest, masked := if log = 0x81 then x.masked else log :: x.masked }).complete
          x.admin cid 0 (typ + info * 256 + log * 65536) inv

/-- Namespace Attribute Changed to a subsystem's controllers; log 0x04 lists the namespace (R140, R156). -/
def State.nsChanged (nsid subsys : Nat) (s : State) : State :=
  (s.nvme.controllers.filter fun x => x.2.subsys == some subsys).foldl (fun s x =>
    let s := s.updCtrl x.1 fun c => { c with changed := if c.changed.contains nsid then c.changed else c.changed ++ [nsid] }
    if bit x.2.aerConfig 8 then s.sendAen x.1 2 0 4 else s) s

/-- Report a group's state: EV_ANA_STATE, the change count and the ANA Change notice (R145). -/
def State.setAna (d st : Nat) (s : State) : State :=
  if s.nvme.ana.getD d 3 = st then s
  else
    let n := s.nvme.anaCount + 1
    let s := { s with nvme.ana := s.nvme.ana.set d st, nvme.anaSince := s.nvme.anaSince.set d s.tick }
    let s := { s with nvme.anaChg := s.nvme.anaChg.set d n, nvme.anaCount := n }
    let s := s.raise Ev.anaState (le 2 (d + 1) ++ le 1 st ++ le 8 n)
    s.nvme.controllers.foldl (fun s x => if bit x.2.aerConfig 11 then s.sendAen x.1 2 3 0x0C else s) s

/-- Critical warning bits of a subsystem (R155). -/
def State.warningBits (s : State) (n : Nat) (temp : Nat) (threshold : Nat) : Nat :=
  let x := s.subsys n
  let doms := ((s.nvme.namespaces.filter fun m => m.2.subsys == n).map fun m => m.2.domain).eraseDups
  let lost := s.stripe.lost.any fun t => doms.contains (stripeDomainOf t.1)
  x.warnings ||| (if threshold ≤ temp then 2 else 0) ||| (if lost then 4 else 0) |||
    (if s.footing.active then 8 else 0) ||| (if s.power.stagingLimit = 0 || (s.nvme.backupFailed && !x.backupCleared) then 16 else 0)

/-! ### Ranks and checks (R20, R144) -/

def classOf (c : Nat) : Nat := if c = 0 then 2 else c

/-- Rank of a class's reads (k 0), writes (1) or Flush closing (2) (R20, R462). -/
def State.classRank (s : State) (cls k : Nat) : Nat := s.rankOf (3 * (classOf cls - 1) + k)

def metaSize (n : Namespace) (pract : Bool) : Nat := if n.lbaf < 2 || pract then 0 else 8

def State.sanitizeRunning (s : State) (subsys : Nat) : Bool :=
  s.nvme.erases.any fun e => e.2.kind == 2 && e.2.target == subsys && e.2.state == 1

def State.sanitizeBroken (s : State) (subsys : Nat) : Bool :=
  (s.subsys subsys).sstat == 3

/-- The checks of R144 before the transfer's, for a command that names one namespace: none when they pass. -/
def State.accessCheck (sub nsid : Nat) (n : Namespace) (writes : Bool) (s : State) : Option Nat :=
  let ana := s.nvme.ana.getD n.domain 3
  if ana = 3 then some Nv.inaccessible
  else if ana = 15 then some Nv.transition
  else if s.sanitizeRunning sub then some Nv.sanitizing
  else if s.sanitizeBroken sub then some Nv.sanitizeFailed
  else if n.formatting then some Nv.formatting
  else if writes && (s.footing.active || s.heads.sessions.any fun x => 3 ≤ x.2.role && x.2.nsid == nsid) then some Nv.protectedNs
  else none

/-- Opcodes of the NVM command set the chip executes (R138). -/
def ioOpcodes : List Nat := [0x00, 0x01, 0x02, 0x08, 0x09]

/-- A CID of a command still outstanding on the queue: it has no completion yet (R144). -/
def State.cidBusy (s : State) (conn cid : Nat) : Bool :=
  s.nvme.cmds.any fun c => c.2.conn == conn && c.2.cid == cid && !c.2.torn && decide (c.2.stage < 9)

/-- A keyed descriptor of the two subtypes of R137. -/
def keyedSgl (cap : List Byte) : Bool := sglId cap == 0x40 || sglId cap == 0x4F

/-- The checks of R144 on an I/O capsule: the status of the first that fails. The ranges of Dataset Management lie in the host's
memory and are checked once they have been fetched, so after the descriptor they are fetched with (DEDUCED, log entry 148). -/
def State.ioCheck (conn sub : Nat) (cap : List Byte) (s : State) : Option Nat :=
  let op := sqOpcode cap
  let nsid := sqNsid cap
  if s.cidBusy conn (sqCid cap) then some Nv.cidConflict
  else if !ioOpcodes.contains op then some Nv.invalidOpcode
  else if nsid = 0xFFFFFFFF && op = 0 then
    if s.sanitizeRunning sub then some Nv.sanitizing
    else if s.sanitizeBroken sub then some Nv.sanitizeFailed
    else if !keyedSgl cap then some Nv.sglType
    else if sglLen cap ≠ 0 then some Nv.sglLength
    else none
  else match s.ns? nsid with
    | none => some Nv.invalidNamespace
    | some n =>
      if n.subsys ≠ sub then some Nv.invalidNamespace
      else match s.accessCheck sub nsid n (op == 1 || op == 8 || op == 9) with
      | some st => some st
      | none =>
        let pract := bit (cdw cap 12) 29
        let prchk := cdw cap 12 / 2 ^ 26 % 8
        let unit := dataSize n.lbaf + metaSize n pract
        let count := sqNlb cap + 1
        let move := op = 1 || op = 2
        let need := if move then count * unit else if op = 9 then (cdw cap 10 % 256 + 1) * 16 else 0
        if (move || op = 8) && decide (n.nsze < sqSlba cap + count) then some Nv.lbaRange
        else if move && decide (1048576 < count * unit) then some Nv.invalidField
        else if !keyedSgl cap then some Nv.sglType
        else if sglLen cap ≠ need then some Nv.sglLength
        else if (move || op = 8) && n.lbaf < 2 && (pract || prchk ≠ 0) then some Nv.invalidField
        else none

/-! ### The stages of a write (R161 to R168) -/

def State.cmdOf? (s : State) (k : Nat) : Option Cmd := s.nvme.cmds.get? k
def State.updNCmd (k : Nat) (f : Cmd → Cmd) (s : State) : State := { s with nvme.cmds := s.nvme.cmds.upd k f }

/-- A command that places a staging record. -/
def Cmd.writes (c : Cmd) : Bool := c.kind != .read && c.kind != .flush

/-- First and last sett of an LBA run, by sett number (R143). -/
def settRun (lbaf slba count : Nat) : Nat × Nat :=
  let k := lbasPerSett lbaf
  (slba / k, (slba + count - 1) / k)

def needUnits (setts ashlars : Nat) : Nat := (64 + 64 * (setts + ashlars) + 255) / 256 + 16 * setts

/-- Setts of a run that it covers only in part (R165). -/
def partialSetts (lbaf slba count : Nat) : List Nat :=
  let k := lbasPerSett lbaf
  let r := settRun lbaf slba count
  if count = 0 then []
  else ([r.1, r.2].eraseDups).filter fun x => decide (x * k < slba) || decide (slba + count < (x + 1) * k)

/-- Map pages a write reserves: 6 entries for each ashlar (R238). -/
def State.pagesFree (s : State) : Nat := s.pageCapacity - s.map.pages.length - s.map.reservedEntries

/-- Release what a write holds before step 7: holds, ingest slots, reservations (R164, R183, R238). -/
def State.releaseWrite (c : Cmd) (s : State) : State :=
  let drop (l : Look) (s : State) : State := match l with
    | .hit b i _ => s.dropHold c.domain b i
    | .verify b i _ => s.dropHold c.domain b i
    | _ => s
  let s := c.setts.foldl (fun s x => drop x.2.look s) s
  let s := c.ashlars.foldl (fun s x => drop x.2.look s) s
  { s with wp.reserved := s.wp.reserved - (if c.admitted then c.need else 0),
           wp.slotsUsed := s.wp.slotsUsed - (if c.admitted then c.slots else 0),
           map.reservedEntries := s.map.reservedEntries - c.pages }

/-- End a command before step 7 with a status, or without a completion when its queue has gone; the error entry carries an
LBA (R150, R156, R183). -/
def State.failCmdAt (k status lba : Nat) (s : State) : State :=
  match s.cmdOf? k with
  | none => s
  | some c =>
    let s := if c.wsn = 0 && c.writes then s.releaseWrite c else s
    let s := { s with nvme.cmds := s.nvme.cmds.del k }
    if c.torn then s
    else
      let s := if status = Nv.unrecovered then
          match s.ns? c.nsid with
          | some n => s.updSubsys n.subsys fun x => { x with stats := x.stats.modify 5 (· + 1) }
          | none => s
        else s
      (s.logError c.conn c.cid status lba (c.nsid % 2 ^ 32)).postCompletion c.conn c.cid status 0 (sglInv c.capsule)

def State.failCmd (k status : Nat) (s : State) : State :=
  s.failCmdAt k status (((s.cmdOf? k).map Cmd.slba).getD 0)

/-- Unrecovered Read Error at sett `x` of a command: the entry names the first LBA of the sett that the command covers
(R156). -/
def State.failSett (k x : Nat) (s : State) : State :=
  match s.cmdOf? k with
  | none => s
  | some c => s.failCmdAt k Nv.unrecovered (max c.slba (x * lbasPerSett (((s.ns? c.nsid).map Namespace.lbaf).getD 0)))

/-- Ingest work of a write's data (R165, R168): one sett each, and one entry per ashlar. -/
def settsOf (lbaf slba : Nat) (data : List Byte) : Tab SettWork :=
  let u := dataSize lbaf
  let k := lbasPerSett lbaf
  let n := data.length / u
  let r := settRun lbaf slba n
  (List.range (r.2 + 1 - r.1)).map fun i =>
    let x := r.1 + i
    let lo := max slba (x * k)
    let hi := min (slba + n) ((x + 1) * k)
    (x, { data := slice data ((lo - slba) * u) ((hi - lo) * u), partial_ := hi - lo != k, off := (lo - x * k) * u,
          merged := hi - lo == k })

def ashlarsOf (setts : Tab SettWork) : Tab AshlarWork :=
  ((setts.map fun x => x.1 / 16).eraseDups).map fun a =>
    (a, { whole := (setts.filter fun x => x.1 / 16 == a && !x.2.partial_).length == 16 })

/-- Protection information of a written block fails (R143): the status. The spec gives no reference tag that a Type 3 block is
checked against: the model takes the 0xFFFF_FFFF that the chip generates for it (DESIGN CHOICE, log entry 149). -/
def piCheck (n : Namespace) (cap : List Byte) (i : Nat) (block : List Byte) : Option Nat :=
  let u := dataSize n.lbaf
  let chk := cdw cap 12 / 2 ^ 26 % 8
  let g := fieldAt block u 2
  let tag := fieldAt block (u + 2) 2
  let ref := fieldAt block (u + 4) 4
  let be16 (v : Nat) : Nat := v % 256 * 256 + v / 256
  let be32 (v : Nat) : Nat := be16 (v % 65536) * 65536 + be16 (v / 65536)
  let mask := cdw cap 15 / 65536
  if bit chk 2 && be16 g != guard16 (block.take u) then some Nv.guard
  else if bit chk 1 && (be16 tag &&& mask) != (cdw cap 15 % 65536 &&& mask) then some Nv.appTag
  else if bit chk 0 && be32 ref != (if n.pi = 3 then 0xFFFFFFFF else (cdw cap 14 + i) % 2 ^ 32) then some Nv.refTag
  else none

/-- A block with protection information generated afresh (R143). -/
def piBlock (n : Namespace) (lba : Nat) (data : List Byte) : List Byte :=
  data ++ be 2 (guard16 data) ++ be 2 n.tag ++ be 4 (if n.pi = 3 then 0xFFFFFFFF else lba % 2 ^ 32)

def allZero (b : List Byte) : Bool := b.all (· == 0)

/-- Count host data of a subsystem: units of 1,000 x 512 bytes are kept as 512-byte counts (R155). -/
def State.hostStat (subsys units cmds k : Nat) (s : State) : State :=
  s.updSubsys subsys fun x => { x with stats := (x.stats.modify k (· + units)).modify (k + 2) (· + cmds) }

/-- Ashlars a command touches. -/
def Cmd.ashlarSpan (c : Cmd) (lbaf : Nat) : Nat :=
  let span (lo n : Nat) : Nat := if n = 0 then 0 else (settRun lbaf lo n).2 / 16 + 1 - (settRun lbaf lo n).1 / 16
  if c.kind = .dealloc then (c.ranges.map fun r => span r.1 r.2).sum else span c.slba c.nlb

/-- Step 4 of the map engine: 6 page table entries reserved for each ashlar, or Capacity Exceeded (R238). -/
def State.reserveMap (k : Nat) (s : State) : State :=
  match s.cmdOf? k with
  | none => s
  | some c =>
    let lbaf := ((s.ns? c.nsid).map Namespace.lbaf).getD 0
    let n := 6 * c.ashlarSpan lbaf
    let fixed := 4096 * (s.map.pages.filter fun p => decide (3 ≤ p.2.kind) || decide (0 < p.2.pins)).length
    if s.pagesFree < n || 3 * s.map.area < 4 * fixed then s.failCmd k Nv.capacity
    else { s.updNCmd k (fun c => { c with pages := n }) with map.reservedEntries := s.map.reservedEntries + n }

def Look.isHit : Look → Bool
  | .hit .. => true
  | _ => false

/-- The outcome of an ashlar is decided and its jobs are known (R176): marks the jobs it needs. -/
def State.decide_ (k : Nat) (s : State) : State :=
  s.updNCmd k fun c =>
    let settled (l : Look) : Bool := match l with
      | .wanted => false
      | .verify .. => false
      | _ => true
    let one (c : Cmd) (a : Nat) (w : AshlarWork) : Cmd :=
      let mine := c.setts.filter fun x => x.1 / 16 == a
      if !settled w.look || w.look.isHit || w.job != .none then c
      else if w.whole && (mine.all fun x => allZero x.2.data) then c
      else
        let wantSetts := w.whole && (w.look == .miss || w.look == .unindexed) && mine.any fun x => x.2.look == .none && !allZero x.2.data
        if wantSetts then
          let f (x : Nat) (y : SettWork) : SettWork :=
            if x / 16 = a && y.look == .none && !allZero y.data then { y with look := .wanted } else y
          { c with setts := c.setts.map fun x => (x.1, f x.1 x.2) }
        else if !(mine.all fun x => settled x.2.look) then c
        else if w.whole && !w.known then c
        else if w.whole && w.coarse && !(mine.any fun x => x.2.look.isHit) then
          { c with ashlars := c.ashlars.set a { w with job := .wanted s.templates.epoch } }
        else
          let f (x : Nat) (y : SettWork) : SettWork :=
            if x / 16 = a && !allZero y.data && !y.look.isHit && y.job == .none then { y with job := .wanted s.templates.epoch } else y
          { c with setts := c.setts.map fun x => (x.1, f x.1 x.2) }
    c.ashlars.foldl (fun c x => one c x.1 x.2) c

/-- Fingerprint a write whose setts are all merged: sett fingerprints, and the ashlar fingerprint of a whole ashlar; the
look-ups they need are marked (R167, R168, R176). The map engine's answer on an ashlar's form waits for a leaf that is not
resident. -/
def State.fingerprint (k : Nat) (s : State) : State :=
  match s.cmdOf? k with
  | none => s
  | some c =>
    let s := if c.kind = .write then s.wpCount 2 (c.setts.filter fun x => allZero x.2.data).length else s
    let on := bit c.reduce.flags 0
    let fp (x : SettWork) : SettWork := if on then { x with fp := sha 1 x.data } else x
    let setts := c.setts.mapVals fp
    let layer := s.layer? c.domain (s.headLayer c.nsid)
    let ash (a : Nat) (w : AshlarWork) : AshlarWork :=
      let mine := setts.filter fun x => x.1 / 16 == a
      let f := if on && w.whole then sha 1 (mine.flatMap fun x => x.2.fp) else []
      let zero := mine.all fun x => allZero x.2.data
      let form := match layer with
        | some l => s.coarse? l a
        | none => some true
      { w with fp := f, coarse := form.getD true, known := form.isSome, look := if w.whole && !zero then (if on then .wanted else .unindexed) else .none }
    let ashlars : Tab AshlarWork := c.ashlars.map fun x => (x.1, ash x.1 x.2)
    let want (x : Nat) (w : SettWork) : SettWork :=
      let whole := ((ashlars.get? (x / 16)).map AshlarWork.whole).getD false
      if allZero w.data then w
      else if !on then { w with look := .unindexed }
      else if whole then w else { w with look := .wanted }
    let setts := setts.map fun x => (x.1, want x.1 x.2)
    let s := if on then s else s.wpCount 8 setts.length
    ((s.updNCmd k fun c => { c with setts := setts, ashlars := ashlars, stage := 4 }).reserveMap k).decide_ k

/-- The data of a write has arrived and its protection information passed: step 3 once no sett waits for a merge read
(R165, R168). -/
def State.ingest (k : Nat) (data : List Byte) (s : State) : State :=
  match s.cmdOf? k with
  | none => s
  | some c =>
    match s.ns? c.nsid with
    | none => s.failCmd k Nv.invalidNamespace
    | some n =>
      let pi := c.kind = .write && decide (0 < metaSize n (bit (cdw c.capsule 12) 29))
      let u := dataSize n.lbaf
      let blocks := (List.range c.nlb).map fun i => slice data (i * (u + 8)) (u + 8)
      match if pi then blocks.zipIdx.findSome? fun b => piCheck n c.capsule b.2 b.1 else none with
      | some st => s.failCmd k st
      | none =>
        let plain := if pi then blocks.flatMap fun b => b.take u else data
        let setts := settsOf n.lbaf c.slba plain
        let s := (s.wpCount 0 plain.length).wpCount 1 setts.length
        let s := s.updNCmd k fun c => { c with fetched := true, setts := setts, ashlars := ashlarsOf setts, stage := 3 }
        if setts.all fun x => x.2.merged then s.fingerprint k else s

/-- A compression job has begun and has not ended. -/
def Job.waits : Job → Bool
  | .wanted _ => true
  | _ => false

/-- Every stage before 7 has ended for a write. -/
def Cmd.reduced (c : Cmd) : Bool :=
  c.stage == 6 ||
  (c.stage == 4 && c.fetched &&
    (c.setts.all fun x => x.2.merged && x.2.look != .wanted && (match x.2.look with
      | .verify .. => false
      | _ => true) && !x.2.job.waits) &&
    (c.ashlars.all fun x => x.2.known && x.2.look != .wanted && (match x.2.look with
      | .verify .. => false
      | _ => true) && !x.2.job.waits))

/-- Deltas, fingerprints and extents of a record as they are built, in order. -/
structure Build where
  deltas : List Delta := []
  fps : List (List Byte) := []
  extents : List (List Byte) := []
deriving DecidableEq, Repr

def Build.store (b : Build) (d : Delta) (clen : Nat) (stored : List Byte) (fps : List (List Byte)) : Build :=
  let n := (stored.length + 255) / 256
  { deltas := b.deltas ++ [{ d with target := b.extents.length, units := n, clen := clen }], fps := b.fps ++ fps,
    extents := b.extents ++ [fit (256 * n) stored] }

def actionOf (l : Look) : Nat := if l == .miss then 1 else 3

/-- The deltas of one ashlar of a write (R176, R181). -/
def Build.ashlar (c : Cmd) (b : Build) (a : Nat) (w : AshlarWork) : Build :=
  let mine := c.setts.filter fun x => x.1 / 16 == a
  let zeros_ := mine.filter fun x => allZero x.2.data
  if w.whole && zeros_.length == 16 then { b with deltas := b.deltas ++ [{ ashlar := a, op := 5, mask := 0xFFFF }] }
  else match w.look with
  | .hit _ _ e =>
    { b with deltas := b.deltas ++ [{ ashlar := a, op := 3, action := 2, raw := ixRaw e, units := ixUnits e, target := ixPxa e }],
             fps := b.fps ++ [w.fp] }
  | _ =>
    match w.job with
    | .done raw clen stored =>
      let act := actionOf w.look
      let fps := if act = 1 then w.fp :: mine.map fun x => if allZero x.2.data then zeros 32 else x.2.fp else []
      b.store { ashlar := a, op := 1, action := act, raw := raw } clen stored fps
    | _ =>
      let mask := (zeros_.map fun x => 2 ^ (x.1 % 16)).sum
      let b := if mask = 0 then b else { b with deltas := b.deltas ++ [{ ashlar := a, op := 5, mask := mask }] }
      (mine.filter fun x => !allZero x.2.data).foldl (fun b x =>
        match x.2.look, x.2.job with
        | .hit _ _ e, _ =>
          { b with deltas := b.deltas ++ [{ ashlar := a, op := 4, sett := x.1 % 16, action := 2, raw := ixRaw e, units := ixUnits e,
                                            target := ixPxa e, src := if ixForm e = 3 then ixSett e else 0xFF }],
                   fps := b.fps ++ [x.2.fp] }
        | l, .done raw clen stored =>
          b.store { ashlar := a, op := 2, sett := x.1 % 16, action := actionOf l, raw := raw } clen stored
            (if actionOf l = 1 then [x.2.fp] else [])
        | _, _ => b) b

/-- Deltas for a run of whole setts to be zeroed (op 5 and 7) or deallocated (6 and 8): whole ashlars as a range
(R167, R181). -/
def runDeltas (op lo hi : Nat) : List Delta :=
  if hi ≤ lo then []
  else
    let mask (a x y : Nat) : Nat := ((List.range 16).filter fun i => decide (x ≤ 16 * a + i) && decide (16 * a + i < y)).foldl
      (fun m i => m + 2 ^ i) 0
    let a0 := lo / 16
    let a1 := (hi - 1) / 16
    let first := (lo + 15) / 16
    let last := hi / 16
    let head := if lo % 16 ≠ 0 then [{ ashlar := a0, op := op, mask := mask a0 lo hi : Delta }] else []
    let mid := if first < last then [{ ashlar := first, op := op + 2, target := last - first : Delta }] else []
    let tail := if hi % 16 ≠ 0 && (a1 ≠ a0 || lo % 16 = 0) then [{ ashlar := a1, op := op, mask := mask a1 lo hi : Delta }] else []
    head ++ mid ++ tail

/-- Whole setts of an LBA run: first and one past the last. -/
def wholeSetts (lbaf slba count : Nat) : Nat × Nat :=
  let k := lbasPerSett lbaf
  ((slba + k - 1) / k, (slba + count) / k)

/-- The staging record of a command that is ready for step 7 (R176, R181). -/
def State.buildRecord (k : Nat) (c : Cmd) (n : Namespace) (s : State) : Staged :=
  let b := c.ashlars.foldl (fun b x => b.ashlar c x.1 x.2) ({} : Build)
  let runs := match c.kind with
    | .zeroes =>
      let w := wholeSetts n.lbaf c.slba c.nlb
      runDeltas 5 w.1 w.2
    | .dealloc => c.ranges.flatMap fun r =>
        let w := wholeSetts n.lbaf r.1 r.2
        runDeltas 6 w.1 w.2
    | _ => []
  let kind := if c.kind = .write then 1 else 2
  let flags := boolNat c.flushPoint + 2 * boolNat (classOf c.cls == 1)
  let r : Staged :=
    { wsn := 0, kind := kind, flags := flags, units := 0, unit := 0, fetch := k, stage := 0, nsid := c.nsid, domain := c.domain,
      keySlot := n.keySlot, deltas := runs ++ b.deltas, fps := b.fps, extents := b.extents, slba := c.slba, nlb := c.nlb,
      claim := s.claimOf c.domain, rank := c.rank }
  { r with units := r.metaUnits + (r.extents.map List.length).sum / 256, pages := c.pages }

/-- Step 7 of a write: holds become pending increments, the reservation and slots are freed, the record is placed (R164,
R166, R170, R182, R268). -/
def State.placeWrite (k : Nat) (s : State) : State :=
  match s.cmdOf? k with
  | none => s
  | some c =>
    match s.ns? c.nsid with
    | none => s.failCmd k Nv.invalidNamespace
    | some n =>
      let r := s.buildRecord k c n
      let refs := (r.deltas.filter fun d => d.op == 3 || d.op == 4).map Delta.target
      let s := refs.foldl (fun s p => s.updExtent p fun e => { e with pending := e.pending + 1 }) s
      let s := (s.releaseWrite c).wpCount 16 0
      let s := { s with map.reservedEntries := s.map.reservedEntries + c.pages }
      let x := s.stageRecord r false
      let flushes := x.2.nvme.cmds.filter fun y => y.2.kind == .flush && y.2.await.contains k
      let s := flushes.foldl (fun s y => s.closeStream c.domain 0 y.2.rank) x.2
      s.updNCmd k fun c => { c with wsn := x.1, stage := 8, setts := [], ashlars := [], data := [],
                                    late := c.late || s.mirror.state != .live }

/-! ### Step 9 and step 12 (R15, R16, R18, R147, R148) -/

/-- Post the completion of a write that may have it now, and forget a write that has reached step 12. -/
def State.settleWrite (k : Nat) (c : Cmd) (s : State) : State :=
  if c.wsn = 0 || !c.writes then s
  else
    let r := s.record? c.wsn
    let closed := match r with
      | none => true
      | some r => s.recordClosed r
    let acked := match r with
      | none => true
      | some r => !r.unmirrored && s.mirror.state == .live
    let mirrored := match r with
      | none => true
      | some r => !r.unmirrored
    let post := c.stage < 9 && !c.syncWait && ((closed && (c.late || mirrored)) || (acked && !c.late && !c.flushPoint))
    let s := if post then s.updNCmd k fun c => { c with stage := 9 } else s
    let s := if post && !c.torn then s.complete c.conn c.cid 0 0 (sglInv c.capsule) else s
    let s := match s.ns? c.nsid with
      | some n =>
        if post then
          (s.hostStat n.subsys (if c.kind = .write then c.nlb * dataSize n.lbaf / 512 else 0) 1 1).updSubsys n.subsys
            fun x => { x with erased := false }
        else s
      | none => s
    if closed && (post || 9 ≤ c.stage || c.torn) then { s with nvme.cmds := s.nvme.cmds.del k } else s

def State.settleWrites (s : State) : State := s.nvme.cmds.foldl (fun s x => s.settleWrite x.1 x.2) s

/-- The writes a Flush still awaits (R147). -/
def State.stillAwaited (s : State) (c : Cmd) : List Nat := c.await.filter fun w => match s.cmdOf? w with
  | some x => x.writes
  | none => false

/-- Flushes whose awaited writes have all reached step 12 or failed complete (R18, R147). -/
def State.completeFlush (k : Nat) (s : State) : State :=
  match s.cmdOf? k with
  | none => s
  | some c =>
    if c.kind = .flush && (s.stillAwaited c).isEmpty then
      let s := { s with nvme.cmds := s.nvme.cmds.del k }
      if c.torn then s else s.complete c.conn c.cid 0 0 (sglInv c.capsule)
    else s

/-- Flushes of a group that leaves Optimized end with Asymmetric Access Transition (R147). -/
def State.endFlushes (d : Nat) (s : State) : State :=
  s.nvme.cmds.foldl (fun s x =>
    if x.2.kind ≠ .flush then s
    else
      let hit := if x.2.nsid = 0xFFFFFFFF then
          (s.stillAwaited x.2).any fun w => ((s.cmdOf? w).map Cmd.domain) == some d
        else x.2.domain == d
      if hit then s.failCmd x.1 Nv.transition else s) s

/-! ### The end of queues and controllers (R134, R135, R150) -/

/-- Deal with the fetched commands of a queue that has gone (R150). -/
def State.tearQueue (conn : Nat) (s : State) : State :=
  s.nvme.cmds.foldl (fun s x =>
    if x.2.conn ≠ conn || x.2.torn then s
    else
      let s := s.updNCmd x.1 fun c => { c with torn := true }
      if x.2.wsn ≠ 0 then s else s.failCmd x.1 0) s

/-- Send DREQ and move a connection to DISCONNECTING (R103). -/
def State.disconnect (conn : Nat) (s : State) : State :=
  let c := s.conn conn
  if c.state = .ready || c.state = .error then
    (s.updConn conn fun c => { c with state := .disconnecting, cmRetries := 3, cmDeadline := some (s.tick + ticksOf 1000000),
                                      waiting := [], sent := [], deadline := none, rnrUntil := none, ackDue := none,
                                      inbox := [], inboxAt := [], rx := none, resend := none, resendTimed := false }).sendLoose c.lport c.pcp c.ip
      (.cm c.lport "DREQ" conn c.remoteQpn 0 [])
  else s

/-- Tear down the I/O queues of a controller (R134, R135). -/
def State.tearIoQueues (c : Nat) (s : State) : State :=
  match s.ctrl? c with
  | none => s
  | some x =>
    let s := x.queues.foldl (fun s q => (s.tearQueue q.2).disconnect q.2) s
    s.updCtrl c fun x => { x with queues := [] }

/-- The controller ends: its queues go, its ID is freed, EV_CTRL_DESTROYED (R135). -/
def State.endController (c cause : Nat) (s : State) : State :=
  match s.ctrl? c with
  | none => s
  | some x =>
    let s := s.tearIoQueues c
    let s := (s.tearQueue x.admin).disconnect x.admin
    let forget (e : EraseOp) : EraseOp := if (e.cmd.map Prod.fst) = some x.admin then { e with cmd := none } else e
    let s := { s with nvme.controllers := s.nvme.controllers.del c, nvme.erases := s.nvme.erases.mapVals forget }
    let s := match x.subsys with
      | some n => s.countBusy n none
      | none => s
    s.raise Ev.ctrlDestroyed (le 2 c ++ le 1 (if cause = 1 && x.shst = 2 then 5 else cause))

/-- Writes, Write Zeroes and Deallocates of the namespaces that a Flush covers, fetched before it (R147). -/
def State.flushAwaits (s : State) (nsids : List Nat) (stamp : Nat) : List Nat :=
  (s.nvme.cmds.filter fun x => decide (x.1 < stamp) && x.2.writes && nsids.contains x.2.nsid).map Prod.fst

/-- Close at once every stripe that holds an awaited write (R18, R147, R264). -/
def State.closeAwaited (ws : List Nat) (rank : Nat) (s : State) : State :=
  let doms := (ws.filterMap fun w => match s.cmdOf? w with
    | some c => if c.wsn = 0 then none else some c.domain
    | none => none).eraseDups
  doms.foldl (fun s d => s.closeStream d 0 rank) s

/-- The lowest-numbered closing rank among the classes of awaited writes (R20). -/
def State.flushRank (s : State) (ws : List Nat) : Nat :=
  ws.foldl (fun m w => match s.cmdOf? w with
    | some c => min m (s.classRank c.cls 2)
    | none => m) (s.classRank 3 2)

/-- The namespaces attached to a subsystem. -/
def State.nsOf (s : State) (subsys : Nat) : List Nat := (s.nvme.namespaces.filter fun n => n.2.subsys == subsys).map Prod.fst

end Sys2Proof.Machine
end

