-- ==== Sys2Proof/Machine/HookOps.lean ====
section
/-! DEFINITION. What several units do to the whole head: ring frames, losing a domain, ending connections and
replication sessions, entering footing mode (R103, R104, R283, R341, R343, R361 to R363, R448). -/

namespace Sys2Proof.Machine

/-! ### Ring frames and heads (R343, R346) -/

/-- Send a ring frame in both directions under one sequence number (R343). -/
def State.ringSend (typ : Nat) (body : List Byte) (s : State) : State :=
  if !s.head.joined then s
  else
    let q := s.head.ringSeq + 1
    let b := fit 48 body
    ({ s with head.ringSeq := q }).emitAll [.ring 0 typ s.head.headId 16 q b, .ring 1 typ s.head.headId 16 q b]

def State.peer (s : State) (h : Nat) : Peer := s.head.peers.getD h {}
def State.updPeer (h : Nat) (f : Peer → Peer) (s : State) : State := { s with head.peers := s.head.peers.upd h f }

/-- Active heads: joined and not declared failed (R336, R364). -/
def State.activeHeads (s : State) : List Nat := (s.head.peers.filter fun p => p.2.state == 1).map Prod.fst

def State.domain (s : State) (d : Nat) : Domain := s.domains.getD d {}
def State.updDomain (d : Nat) (f : Domain → Domain) (s : State) : State :=
  { s with domains := s.domains.set d (f (s.domain d)) }

def State.ownedDomains (s : State) : List Nat :=
  (s.domains.filter fun x => x.2.state == .owned || x.2.state == .releasing).map Prod.fst

/-- A bitmap of domains (R343). -/
def domainBits (ds : List Nat) : Nat := ds.foldl (fun m d => m ||| 2 ^ d) 0

/-- Close the coping-ring bypass, or open it (R58, R344). -/
def State.setBypass (closed : Bool) (s : State) : State :=
  if s.power.bypassClosed = closed then s
  else ({ s with power.bypassClosed := closed }).emit (.bypass closed)

/-- Nothing of R58 holds the bypass closed but the ring logic: RESET_L high, no internal reset, not drained, no dump. -/
def State.mayOpenBypass (s : State) : Bool :=
  s.power.resetL && !s.power.internalReset && s.power.drain != .drained && s.dump.stage == .none

/-- LEAVE in both directions, then the bypass closes (R344). -/
def State.leaveRing (s : State) : State :=
  if s.head.joined then
    let s := s.ringSend 3 []
    ({ s with head.joined := false }).setBypass true
  else s

/-- A packet acts on a domain: ST_NOT_OWNER when this head does not own it (R249, R287). -/
def State.ownerOnly (p : Packet) (d : Nat) (f : State → State) (s : State) : State :=
  if s.owns d then f s else s.fail p St.notOwner

/-! ### Replication sessions (R361 to R363) -/

def State.session (s : State) (i : Nat) : Session := s.heads.sessions.getD i {}
def State.updSession (i : Nat) (f : Session → Session) (s : State) : State :=
  { s with heads.sessions := s.heads.sessions.upd i f }

/-- A synchronous session breaks: its waiting writes complete on their mirror acknowledgement alone (R363). -/
def State.breakSync (i : Nat) (s : State) : State :=
  let x := s.session i
  if x.mode ≠ 1 then s
  else
    let ks := x.sync.map fun e => e.2.1
    let waiting := ks.filter fun k => ((s.cmdOf? k).map Cmd.syncWait).getD false
    let s := s.updSession i fun x => { x with mode := 0, sync := [], state := if x.state = 1 then 3 else x.state }
    let s := waiting.foldl (fun s k => s.updNCmd k fun c => { c with syncWait := false }) s
    let s := s.raise Ev.replSyncBroken (le 1 i ++ le 4 waiting.length)
    s.settleWrites

/-- Set or clear the replication flag of a layer (R229, R357). -/
def State.replFlag (d id : Nat) (on : Bool) (s : State) : State :=
  s.updLayer d id fun l => { l with flags := l.flags % 2 + 2 * boolNat on + 4 * (l.flags / 4) }

/-- Clear the replication flags of a session's layers (R357, R361). -/
def State.clearReplFlags (i : Nat) (s : State) : State :=
  let x := s.session i
  let d := ((s.ns? x.nsid).map Namespace.domain).getD 0
  (s.replFlag d x.common false).replFlag d x.sending false

/-- A session fails: EV_REPL_FAILED; it is broken, or closed when its domain moved (R361, R362). -/
def State.failSession (i cause status : Nat) (s : State) : State :=
  let x := s.session i
  if x.role = 0 then s
  else
    let s := s.breakSync i
    let s := s.raise Ev.replFailed (le 1 i ++ le 1 cause ++ le 1 status)
    if cause = 3 then
      let s := s.clearReplFlags i
      let s := match x.conn with
        | some c => s.disconnect c
        | none => s
      { s with heads.sessions := s.heads.sessions.del i }
    else
      let d := ((s.ns? x.nsid).map Namespace.domain).getD 0
      let s := if x.role ≤ 2 && x.sending ≠ x.common then s.replFlag d x.sending false else s
      s.updSession i fun x => { x with state := if cause = 2 then 1 else 3, sending := 0, records := [], offers := [], unanswered := 0 }

/-- Replication sessions of a domain close (R350, R362). -/
def State.closeSessions (d : Nat) (s : State) : State :=
  s.heads.sessions.foldl (fun s x =>
    if ((s.ns? x.2.nsid).map Namespace.domain) == some d then s.failSession x.1 3 0 else s) s

/-! ### Connections leaving READY (R103, R104, R125, R334, R363) -/

/-- What a connection's user does when it leaves READY: an NVMe queue's commands are settled (R150) and a controller ends
with its admin queue (R135); the mirror peer is lost with a mirror connection (R334); a session fails (R363). -/
def State.leftReady (i cause : Nat) (s : State) : State :=
  let c := s.conn i
  match c.use with
  | .nvme .. =>
    let s := s.tearQueue i
    match s.ctrlOf i with
    | none => s
    | some k =>
      if ((s.ctrl? k).map Controller.admin) == some i then s.endController k cause
      else s.updCtrl k fun x => { x with queues := x.queues.keep fun _ v => v != i }
  | .peer h lane =>
    let s := s.updPeer h fun p => { p with retryAt := s.tick }
    if 1 ≤ lane && (s.mirror.state != .none || s.mirror.bound) && s.mirror.peer == h then s.loseMirror 2
    else if lane = 0 && s.mirror.candidate = some h then { s with mirror.candidate := none }
    else s
  | .repl n =>
    let s := s.breakSync n
    if (s.session n).conn = some i then (s.updSession n fun x => { x with conn := none }).failSession n 1 0 else s

/-- A cause of R104: EV_CONN_ERROR; the connection passes through ERROR to DISCONNECTING with its DREQ, and its user is
told. -/
def State.connError (i cause : Nat) (s : State) : State :=
  let c := s.conn i
  if c.state ≠ .ready then s
  else
    let s := (s.updConn i fun c => { c with state := .error, cause := cause }).netCount 6 1
    let s := s.raise Ev.connError (le 4 (qpnOf c.gen i) ++ le 1 cause)
    (s.disconnect i).leftReady i 3

/-- End a READY connection by a DREQ of this chip. -/
def State.endConn (i : Nat) (s : State) : State :=
  if (s.conn i).state = .ready then (s.disconnect i).leftReady i 1 else s.disconnect i

/-! ### Losing a domain (R303, R341) -/

/-- The bridge aborts the suspended operations of a domain that another head has claimed (R306): their commands end unanswered and their
dies are idle. -/
def State.abortSuspended (d : Nat) (s : State) : State :=
  s.flash.modules.foldl (fun s m => m.2.dies.foldl (fun s e => match e.2.op with
    | some o => if o.domain = d && o.suspendedAt.isSome then (s.dropCmd m.1 o.cmd).freeDie m.1 e.1 else s
    | none => s) s) s

/-- Forget everything held about a domain that this head no longer owns; its settings stay. -/
def State.forgetDomain (d : Nat) (s : State) : State :=
  let s := s.abortSuspended d
  let other32 (k : Nat) : Bool := k / 2 ^ 32 != d
  let gone (w : CacheWay) : CacheWay := if w.mpn / 2 ^ 32 = d then { w with valid := 0, dirty := 0 } else w
  let place (b : BgRecord) : BgRecord := if b.domain = d && b.place != .spare then { b with place := .out } else b
  let st : Stripes := { s.stripe with
    stripes := s.stripe.stripes.keep fun k _ => other32 k,
    segments := s.stripe.segments.keep fun k _ => k / 2 ^ 24 != d,
    extents := s.stripe.extents.keep fun k _ => k / 2 ^ 56 != d,
    forward := s.stripe.forward.keep fun k _ => k / 2 ^ 56 != d,
    lost := s.stripe.lost.keep fun k _ => other32 k,
    copies := s.stripe.copies.keep fun k _ => k / 2 ^ 56 != d,
    journals := s.stripe.journals.del d }
  let mp : MapState := { s.map with
    pages := s.map.pages.keep fun k _ => other32 k,
    layers := s.map.layers.keep fun k _ => other32 k,
    domains := s.map.domains.del d,
    sets := s.map.sets.mapVals fun ws => ws.map gone,
    spoil := s.map.spoil.filter fun e => other32 e.mpn,
    sweeps := s.map.sweeps.filter fun e => other32 e.1 }
  let fl : Flash := { s.flash with
    starts := s.flash.starts.filter fun x => x.domain != d,
    held := s.flash.held.filter fun c => !((isStart c.opcode || [8, 9, 10, 14].contains c.opcode) && c.domain == d),
    jobs := s.flash.jobs.keep fun _ x => other32 x.stripe,
    reads := s.flash.reads.filter fun r => ((s.flash.jobs.get? r.job).map fun x => other32 x.stripe).getD true,
    blocks := s.flash.blocks.mapVals place }
  let wp : WritePath := { s.wp with
    index := s.wp.index.keep fun k _ => k / 2 ^ 40 != d,
    holds := s.wp.holds.keep fun k _ => k / 16 / 2 ^ 36 != d,
    applied := s.wp.applied.del d }
  let bare (n : Namespace) : Namespace := if n.domain = d then { n with layer := 0 } else n
  let s := { s with stripe := st, map := mp, flash := fl, wp := wp, nvme.namespaces := s.nvme.namespaces.mapVals bare }
  s.updSdom d fun x =>
    { x with cursor := 0, gcRunning := false, victims := [], stalled := [], reserveRaised := false, queues := [[], [], []],
             urgent := [none, none, none], checkpointWanted := false, anchorPxa := 0, anchor := 0,
             tables := [], fresh := [], tablesOut := false }

/-- The key references that the release of deleted namespaces' layers would have ended go with the domain (R200): an NS_DELETE of
this head counts down its own slot, whichever head releases the layer. -/
def State.dropKeys (d : Nat) (s : State) : State :=
  let layers := (s.map.layers.filter fun l => l.1 / 2 ^ 32 == d && l.2.dropKey).map fun l => l.2.keySlot
  let staged := (s.staged.filter fun r => r.domain == d && decide (2 ^ 32 ≤ r.nsid) && !r.applied && !r.dropped &&
      r.deltas.any fun x => x.op == 11).map fun r => ((s.nvme.namespaces.get? r.nsid).map Namespace.keySlot).getD 0xFF
  (layers ++ staged).foldl (fun s k => s.refKey k false) s

/-- End every fetched command of a domain without completion: those before step 7 at once, later writes silently
(R341). -/
def State.silenceDomain (d : Nat) (s : State) : State :=
  s.nvme.cmds.foldl (fun s x =>
    if x.2.domain ≠ d || x.2.kind = .flush then s
    else
      let s := s.updNCmd x.1 fun c => { c with torn := true }
      if x.2.wsn = 0 then s.failCmd x.1 0 else s) s

/-- A domain is taken from this head (R341). -/
def State.takeDomain (d higher : Nat) (s : State) : State :=
  let x := s.domain d
  if x.state = .none then s
  else
    let own := x.claim
    let s := s.updDomain d fun x => { x with state := .none, claim := 0, epoch := max x.epoch (higher / 65536), answers := [],
                                              scanning := false, replaying := false, takeover := none }
    let s := (s.dropKeys d).setAna d 3
    let s := s.raise Ev.domainTaken (le 1 d ++ le 8 own ++ le 8 higher)
    let s := ((s.endFlushes d).silenceDomain d).closeSessions d
    let drop (r : Staged) : Staged := if r.domain = d && !r.released then { r with dropped := true } else r
    ((({ s with wp.log := s.wp.log.map drop }).dropWaiting d).forgetDomain d).releaseStaging

/-- A bridge answered ST_PL_FENCED or ST_PL_STALE_CLAIM with a detail above the claim held: EV_FENCED, and the domain is
taken (R303). -/
def State.fenced (d m detail : Nat) (s : State) : State :=
  let drop (c : Start) : Bool := c.domain != d
  let s := { s with flash.starts := s.flash.starts.filter drop }
  (s.raiseFrom (flashIsland m) Ev.fenced (le 1 d ++ le 2 m ++ le 8 detail)).takeDomain d detail

/-! ### Health (R155, R156) -/

/-- SMB_TJ_MAX, the highest of the sensors, in sixteenths of a degree Celsius (R61). -/
def State.tjMax (s : State) : Int := s.power.temps.foldl (fun m t => max m t.toInt) (-32768)

/-- The composite temperature in kelvin, rounded down (R155). -/
def State.compositeKelvin (s : State) : Nat := ((s.tjMax * 100 + 27315 * 16) / 1600).toNat

/-- Critical warning bits that have gone from 0 to 1 are told to every controller that has them enabled and holds an
outstanding request (R156). -/
def State.healthCheck (s : State) : State :=
  s.nvme.controllers.foldl (fun s x =>
    match x.2.subsys with
    | none => s
    | some n =>
      let b := s.warningBits n s.compositeKelvin x.2.tempThreshold
      let rise := b &&& (0xFF ^^^ x.2.shown) &&& x.2.aerConfig
      let s := s.updCtrl x.1 fun c => { c with shown := b }
      let s := if rise &&& 2 ≠ 0 then s.sendAen x.1 1 1 2 else s
      if rise &&& 0x1D ≠ 0 then s.sendAen x.1 1 0 2 else s) s

/-! ### Footing mode (R447, R448) -/

/-- Namespace Attribute Changed to every controller of a subsystem with namespaces (R139, R451). -/
def State.allNsChanged (s : State) : State :=
  s.nvme.namespaces.foldl (fun s n => s.nsChanged n.1 n.2.subsys) s

/-- Enter footing mode at once (R448). -/
def State.enterFooting (cause : Nat) (s : State) : State :=
  if s.footing.active then s
  else
    let alone := s.activeHeads.isEmpty
    let owned := s.ownedDomains
    let s := { s with footing := { s.footing with active := true, readService := alone, cause := cause, stopped := true },
                      direct.phase := 6 }
    let s := s.raise Ev.footingEntered (le 1 cause ++ le 2 (if alone then owned.length else 0))
    let early := s.nvme.cmds.filter fun x => x.2.writes && x.2.stage == 2 && !x.2.admitted
    let s := early.foldl (fun s x => s.failCmd x.1 Nv.protectedNs) s
    let s := (s.heads.sessions.map Prod.fst).foldl (fun s i => s.failSession i 3 0) s
    let s := s.allNsChanged.healthCheck
    if alone then
      owned.foldl (fun s d => (s.closeDomain d (s.rankOf 4)).updSdom d fun x => { x with checkpointWanted := true }) s
    else
      let s := ({ s with head.joined := false, footing.left := true }).setBypass true
      let peers := (s.net.conns.filter fun x => match x.2.use with
        | .peer .. => true
        | _ => false).map Prod.fst
      let s := peers.foldl (fun s i => s.endConn i) s
      let mute (c : Cmd) : Cmd := if c.writes && c.stage < 9 then { c with torn := true } else c
      let s := { s with nvme.cmds := s.nvme.cmds.mapVals mute }
      owned.foldl (fun s d => (s.endFlushes d).setAna d 3) s

/-- A loss that finds the lost-stripe table full: EV_LOST_TABLE_FULL and footing mode (R283, R447); else its steps. -/
def State.loseOrFoot (n cause missing : Nat) (s : State) : State :=
  if s.stripe.lost.length < lostTableSize then (s.loseStripe n cause missing).healthCheck
  else if s.footing.active then s
  else (s.raise Ev.lostTableFull (le 1 (stripeDomainOf n) ++ le 5 n)).enterFooting 2

/-- A map-consistency event (R245, R246, R249). -/
def State.mapFault (cause nsid ashlar mpn : Nat) (s : State) : State :=
  s.raise Ev.mapConsistency (le 1 cause ++ le 4 nsid ++ le 8 ashlar ++ le 5 mpn)

/-- Re-create a lost page (R236): a leaf with every entry of type 4; a sett page with every table that a split entry names
filled with type-4 entries. -/
def State.recreatePage (p : Nat) (s : State) : State :=
  match s.page? p with
  | none => s
  | some x =>
    let lostEntry := ({ typ := 4 } : MapEntry).bytes
    let named (t : Nat) : Bool := s.map.pages.any fun q => q.2.kind == 1 && match q.2.body with
      | none => false
      | some b => (List.range 256).any fun i =>
          let r := rawEntry b i
          fieldAt r 9 1 % 8 == 3 && splitPage r == p && splitSlot r == t
    let body := if x.kind = 2 then (List.range 16).flatMap fun t => if named t then (List.replicate 16 lostEntry).flatten else zeros 256
      else (List.replicate 256 lostEntry).flatten
    (s.updPage p fun x => { x with body := some body, lost := false, reading := false, dirty := some s.tick }).raise Ev.mapPageLost
      (le 5 p ++ le 1 x.kind)

/-- A namespace deleted while commands or records name it stands under a number above 2^32 until the last has ended (R157
NS_DELETE, log entry 24). -/
def State.pruneGhosts (s : State) : State :=
  let named (k : Nat) : Bool :=
    (s.nvme.cmds.any fun c => c.2.nsid == k) || s.staged.any fun r => r.nsid == k && !r.applied && !r.dropped
  { s with nvme.namespaces := s.nvme.namespaces.keep fun k _ => decide (k < 2 ^ 32) || named k }

/-- A namespace this head serves gets a head layer when it has none (R157, R229). -/
def State.giveLayer (nsid : Nat) (s : State) : State :=
  match s.ns? nsid with
  | none => s
  | some n =>
    if n.layer ≠ 0 then s
    else
      let l : Layer := { kind := 1, levels := levelsFor (ashlarCount n.nsze n.lbaf), nsid := nsid, createStamp := s.now,
                         nsze := n.nsze, lbaf := n.lbaf, keySlot := n.keySlot }
      let x := s.granted.addLayer n.domain l
      { x.2 with nvme.namespaces := x.2.nvme.namespaces.upd nsid fun n => { n with layer := x.1 } }

/-- Queue an ashlar for re-check (R246). -/
def State.queueRecheck (nsid ashlar : Nat) (s : State) : State :=
  if s.map.rechecks.contains (nsid, ashlar) then s
  else { s with map.rechecks := s.map.rechecks ++ [(nsid, ashlar)] }

end Sys2Proof.Machine
end

