-- ==== Sys2Proof/Machine/DumpOps.lean ====
section
/-! DEFINITION. The rubble dump and the Vault summary as bytes, and what makes and reads them (R428 to R441, R444). -/

namespace Sys2Proof.Machine

/-! ### Layout of records, header and sections (R87, R429, R438, R439) -/

/-- An event packet; its flags and lost_count are those of its posting (R87). -/
def Event.packet (flags lost : Nat) (e : Event) : List Byte :=
  le 2 e.code ++ le 1 1 ++ le 1 e.severity ++ le 1 flags ++ le 1 e.island ++ le 2 lost ++ le 8 e.seq ++ le 8 e.stamp ++
    le 8 e.location ++ fit 32 e.params

/-- An error record (R429). -/
def ErrorRecord.bytes (r : ErrorRecord) : List Byte :=
  le 2 r.code ++ le 1 r.severity ++ le 1 r.cls ++ le 1 r.island ++ zeros 1 ++ le 2 r.count ++ le 8 r.firstStamp ++
    le 8 r.lastStamp ++ le 8 r.location ++ fit 32 r.params

/-- The sections: id, offset in the dump region, length (R439). -/
def dumpSections : List (Nat × Nat × Nat) :=
  [(1, 0x00001000, 0x40000), (2, 0x00041000, 0x10000), (3, 0x00051000, 0x410000), (4, 0x00461000, 0x100000),
   (5, 0x00561000, 0x6000000), (6, 0x06561000, 0x60000), (7, 0x065C1000, 0x11000), (8, 0x065D2000, 0x1800000),
   (9, 0x07DD2000, 0x4000000), (10, 0x0BDD2000, 0x1000000), (11, 0x0CDD2000, 0x1800000), (12, 0x0E5D2000, 0x10000),
   (13, 0x0E5E2000, 0x10000)]

/-- Bytes of a complete dump (R438). -/
def dumpEnd : Nat := 0x0E5F2000

/-- The sections of a Vault summary: id, page in the slot, length (R440). -/
def summarySections : List (Nat × Nat × Nat) :=
  [(1, 1, 0x40000), (2, 65, 0x10000), (3, 81, 0x10000), (4, 97, 0x100000), (12, 353, 0x10000), (13, 369, 0x10000)]

/-- Bytes of a section. The spec gives the others no byte layout (log entry 53). -/
def DumpImage.section_ (m : DumpImage) (id len : Nat) : List Byte :=
  let own := Config.dumpBytes id m.header.seq
  if id = 1 then fit len (m.errors.flatMap ErrorRecord.bytes)
  else if id = 2 then
    fit len ((m.events.zip (List.range 1024)).flatMap fun e => e.1.packet (fieldAt own (4 * e.2) 1) (fieldAt own (4 * e.2 + 1) 2))
  else fit len own

/-- A directory entry (R438). -/
def dirEntry (m : DumpImage) (e : Nat × Nat × Nat) : List Byte :=
  let faults := ((m.faults.filter fun f => f.1 == e.1).map Prod.snd).sum
  le 2 e.1 ++ le 2 ((if m.failed.contains e.1 then 0 else 1) + (if faults = 0 then 0 else 2)) ++ le 4 faults ++ le 8 e.2.1 ++
    le 8 e.2.2 ++ le 4 (crc32c (m.section_ e.1 e.2.2)).toNat ++ zeros 4

/-- The 4,096 bytes of a header over a directory (R438). -/
def DumpHeader.bytes (h : DumpHeader) (dir : List Byte) : List Byte :=
  let b := fit 0xFFC (le 4 0x42555244 ++ le 1 1 ++ le 1 h.state ++ le 1 h.cause ++ le 1 h.fatalClass ++ le 8 h.seq ++
    le 8 h.fatalStamp ++ le 8 h.endStamp ++ le 8 h.location ++ le 2 h.fatalEvent ++ le 1 h.region ++ le 1 h.flags ++
    le 2 h.headId ++ le 1 h.configuration ++ le 1 h.phase ++ le 4 h.imageVersion ++ le 4 h.epoch ++ le 2 h.channels ++
    le 2 13 ++ zeros 4 ++ le 8 h.highestWsn ++ le 8 h.dumpSize ++ le 8 h.runStart ++ zeros 8 ++
    le 32 ((h.owned.map fun d => 2 ^ d).sum) ++ fit 16 Config.serial ++ fit 32 h.fatalParams ++ zeros 80 ++ fit 512 dir)
  b ++ le 4 (crc32c b).toNat

/-- `len` bytes of the dump region from `off`, within one section (R91, R439). -/
def DumpImage.bytesAt (m : DumpImage) (off len : Nat) : List Byte :=
  if off < 4096 then slice (m.header.bytes (dumpSections.flatMap (dirEntry m))) off len
  else match dumpSections.find? fun e => decide (e.2.1 ≤ off) && decide (off < e.2.1 + e.2.2) with
    | some e => slice (m.section_ e.1 e.2.2) (off - e.2.1) len
    | none => zeros len

/-- A page of a summary slot: the header in page 0, then the sections; the other pages are erased (R440). -/
def Summary.page (x : Summary) (k : Nat) : List Byte :=
  let entry (m : DumpImage) (e : Nat × Nat × Nat) : List Byte := dirEntry m (e.1, 4096 * e.2.1, e.2.2)
  match x.image with
  | none => if k = 0 then x.header.bytes [] else List.replicate 4096 0xFF
  | some m =>
    if k = 0 then x.header.bytes (summarySections.flatMap (entry m))
    else match summarySections.find? fun e => decide (e.2.1 ≤ k) && decide (k < e.2.1 + e.2.2 / 4096) with
      | some e => slice (m.section_ e.1 e.2.2) (4096 * (k - e.2.1)) 4096
      | none => List.replicate 4096 0xFF

/-! ### Making a dump -/

/-- The version of the running field image, 0 in recovery boot (R86). -/
def State.imageVersion (s : State) : Nat := if s.mason.slot = 0xFF then 0 else manifestVersion (s.image s.mason.slot).manifest

/-- No HEAD_CONFIG has been accepted, or no other head is active in the ring (R434). -/
def State.alone (s : State) : Bool := s.head.configuration == 0 || s.activeHeads.isEmpty

/-- The channels with a trained DIMM. -/
def State.trainedSet (s : State) : Nat :=
  ((List.range 12).map fun c => if (s.dram.channels.getD c {}).dimm = .trained then 2 ^ c else 0).sum

/-- Valid Vault summaries (R440). -/
def State.validSummaries (s : State) : List Summary := s.vault.summaries.vals.filter Summary.valid

/-- The highest dump_seq of any valid summary, 0 when there is none (R438). -/
def State.lastSeq (s : State) : Nat := (s.validSummaries.map fun x => x.header.seq).foldl max 0

/-- The summary slot written next (R440). -/
def State.summarySlot (s : State) : Nat :=
  match s.vault.summaries.find? fun x => x.2.valid && x.2.header.seq == s.lastSeq with
  | some x => (x.1 + 1) % 64
  | none => 0

/-- The header of a dump or of a header-only summary made now (R438, R441). -/
def State.dumpHeader (state cause cls : Nat) (f : FatalFault) (running : Bool) (s : State) : DumpHeader :=
  { state := state, cause := cause, fatalClass := cls, seq := s.lastSeq + 1, fatalStamp := f.stamp, endStamp := s.now,
    location := f.location, fatalEvent := f.event, region := f.region,
    flags := boolNat s.alone + 2 * boolNat running + 4 * boolNat s.dump.second,
    headId := s.head.headId, configuration := s.head.configuration, phase := s.direct.phase,
    imageVersion := s.imageVersion, epoch := s.templates.epoch, channels := s.trainedSet, highestWsn := s.wp.wsn,
    dumpSize := dumpEnd, runStart := s.run.start, owned := (List.range 256).filter s.owns, fatalParams := f.params }

/-- Put a summary into its slot: its blocks are erased and programmed, page 0 last. Nothing is written while the supply is too
low (R399, R440). -/
def State.writeSummary (x : Summary) (s : State) : State :=
  let n := s.summarySlot
  let blocks := if x.image.isSome then 7 else 1
  if s.canErase && s.canProgram then
    ((List.range blocks).foldl (fun s k => s.vaultErase (5168 + 16 * n + k)) s).updVault fun v =>
      { v with summaries := v.summaries.set n x }
  else s

/-- Recent fatal resets (R444). -/
def State.recentFatal (s : State) : Nat :=
  (s.validSummaries.filter fun x => decide (5 ≤ x.header.cause) && decide (x.header.cause ≤ 8) &&
    decide (s.now < x.header.fatalStamp + 2 ^ 42)).length

/-- The dump held in DRAM (R437). -/
def State.heldDump (s : State) : Option DumpImage := if s.dump.state < 2 then none else s.dump.image

/-- The channel that holds byte `off` of the dump region: the region is the highest 256 MiB of the address space as it was trained,
and keeps its mapping for the rest of the run (R369, R436, R437). -/
def State.regionChannel (s : State) (off : Nat) : Nat :=
  let set := (List.range 12).filter fun c => bit s.dram.mapped c
  let top := (set.map fun c => (s.dram.channels.getD c {}).capacity).sum
  set.getD ((top - 2 ^ 28 + off) / 256 % set.length) 0

/-- The bytes of the dump region as it was written: those of a dump over the same channels, its header zero once cleared. What
nothing has written holds free bytes (log entry 53). -/
def State.regionBytes (s : State) (off len : Nat) : List Byte :=
  match s.dump.image with
  | some m =>
    if m.header.channels ≠ s.dram.mapped || decide (dumpEnd ≤ off) then fit len (Config.dumpBytes 0 off)
    else if s.dump.wiped && decide (off < 4096) then zeros len
    else m.bytesAt off len
  | none => fit len (Config.dumpBytes 0 off)

/-- A read of the dump window: base 0 shows the whole region once training has ended, any other base zeros; the granules on a
channel that self-test excluded read zero (R91, R436, R437). -/
def State.windowRead (off len : Nat) (s : State) : List Byte :=
  if s.dram.trained && s.direct.dumpWindowBase == 0 then
    (s.regionBytes off len).mapIdx fun i b => if (s.dram.channels.getD (s.regionChannel (off + i)) {}).dimm = .trained then b else 0
  else zeros len

end Sys2Proof.Machine
end

