-- ==== Sys2Proof/Machine/ReplOps.lean ====
section
/-! DEFINITION. Replication messages: sending them, the flow of a delta at its source, and the acknowledgements of a
synchronous target (R330, R356 to R363). -/

namespace Sys2Proof.Machine

/-- Decrypt an extent (R209). -/
def State.decrypt (s : State) (slot : Nat) (b : List Byte) : List Byte :=
  if slot = 0xFF then b else xtsDec (s.keySlot slot).key b

/-- The 48 bytes of a delta record (R358). -/
def DeltaRec.bytes (r : DeltaRec) : List Byte :=
  le 8 r.ashlar ++ le 1 r.op ++ le 1 r.sett ++ le 2 r.mask ++ le 2 r.units ++ le 1 r.flags ++ le 1 r.src ++ le 8 r.bucket ++
    fit 16 r.tag ++ le 4 r.clen ++ zeros 4

def parseDeltaRec (b : List Byte) : DeltaRec :=
  { ashlar := fieldAt b 0 8, op := fieldAt b 8 1, sett := fieldAt b 9 1, mask := fieldAt b 10 2, units := fieldAt b 12 2,
    flags := fieldAt b 14 1, src := fieldAt b 15 1, bucket := fieldAt b 16 8, tag := slice b 24 16, clen := fieldAt b 40 4 }

/-- The record is an offer. -/
def DeltaRec.offer (r : DeltaRec) : Bool := r.op == 4 || r.op == 5
/-- The record names an extent. -/
def DeltaRec.stores (r : DeltaRec) : Bool := decide (4 ≤ r.op) && decide (r.op ≤ 7)

/-- Send a message of a session: on its connection, or ready for the pump (R356, R362). -/
def State.replSend (i kind wsn flags : Nat) (body : List Byte) (s : State) : State :=
  let x := s.session i
  let m := messageBytes kind flags (x.tag % 65536) 0 x.txSeq wsn body
  let s := s.updSession i fun x => { x with txSeq := x.txSeq + 1 }
  match x.conn with
  | some c => s.post c (.send m none) (.message x.txSeq)
  | none => if x.role = 2 || x.role = 4 then s.updSession i fun x => { x with txq := x.txq ++ [m] } else s

/-- Count for REPL_STATUS (R364). -/
def replStat (k d : Nat) (x : Session) : Session := { x with counts := x.counts.modify k (· + d) }
def deltaStat (k d : Nat) (x : Session) : Session := { x with delta := x.delta.modify k (· + d) }

/-- The bytes of an extent as EXTENT carries them: the 16 bytes that lead it, the extent, and with session flag 0 its IV and
tag, those 16 bytes being the additional data (R359, R360, log entry 34). The key's invocation moves on. -/
def State.extentBody (s : State) (i seq index : Nat) (plain : List Byte) : Option (List Byte) :=
  let x := s.session i
  let lead := le 8 seq ++ le 1 index ++ zeros 3 ++ le 4 plain.length
  if bit x.flags 0 then
    match s.formIv x.keySlot with
    | none => none
    | some iv =>
      let key := (s.keySlot x.keySlot).key
      let cipher := fit plain.length (gcmEnc key iv plain)
      some (lead ++ cipher ++ iv ++ fit 16 (gcmTag key iv lead cipher))
  else some (lead ++ plain)

/-- Send an extent as EXTENT (R359, R360). -/
def State.replExtent (i seq index : Nat) (plain : List Byte) (s : State) : State :=
  let x := s.session i
  match s.extentBody i seq index plain with
  | none => s.failSession i 2 0
  | some b =>
    let s := s.updSession i fun x => deltaStat 2 plain.length (deltaStat 1 1 (replStat 3 plain.length x))
    let s := if bit x.flags 0 then s.countIv x.keySlot else s
    s.replSend i 0x23 0 (x.flags % 2) b

/-- A read of an extent for a session is under way. -/
def State.replReading (s : State) (i : Nat) : Bool := s.flash.jobs.any fun j => match j.2.use with
  | .repl k _ _ => k == i
  | _ => false

/-- Send OFFERS while fewer than 16 await NEEDS, and DELTA_END once every extent has been sent (R359). `fuel` bounds the
messages sent. -/
def State.pumpOffers (i : Nat) : Nat → State → State
  | 0, s => s
  | fuel + 1, s =>
    let x := s.session i
    if x.state ≠ 2 || x.ended then s
    else match x.records with
    | [] =>
      if x.unanswered = 0 && !s.replReading i then
        (s.updSession i fun x => { x with ended := true }).replSend i 0x24 0 0 (le 8 (x.delta.getD 0 0) ++ le 8 (x.delta.getD 1 0))
      else s
    | _ =>
      if 16 ≤ x.unanswered then s
      else
        let rs := x.records.take 64
        let n := rs.length
        let put (y : Session) : Session :=
          { y with records := y.records.drop 64, offers := y.offers.set y.txSeq rs, unanswered := y.unanswered + 1 }
        let s := s.updSession i fun y => deltaStat 0 n (replStat 1 (rs.filter DeltaRec.offer).length (replStat 0 n (put y)))
        (s.replSend i 0x21 0 0 (le 2 n ++ zeros 6 ++ rs.flatMap DeltaRec.bytes)).pumpOffers i fuel

def State.pumpDelta (i : Nat) (s : State) : State := s.pumpOffers i ((s.session i).records.length + 1)

/-- Forget an OFFERS all of whose needed extents have been sent, and go on. -/
def State.offersDone (i seq : Nat) (s : State) : State :=
  let left := s.flash.jobs.any fun j => match j.2.use with
    | .repl k q _ => k == i && q == seq
    | _ => false
  if left then s else (s.updSession i fun x => { x with offers := x.offers.del seq }).pumpDelta i

/-- The record of a WSN has reached its ack point (R15, R16). -/
def State.ackPoint (s : State) (w : Nat) : Bool := match s.record? w with
  | none => true
  | some r => s.recordClosed r || (!r.unmirrored && s.mirror.state == .live)

/-- A synchronous target acknowledges the writes whose records have reached their ack point (R363). -/
def State.settleSync (s : State) : State :=
  s.heads.sessions.foldl (fun s x =>
    x.2.syncIn.foldl (fun s e =>
      if e.2.2.2 = 0 && e.2.2.1.all s.ackPoint then
        (s.updSession x.1 fun y => { y with syncIn := y.syncIn.del e.1 }).replSend x.1 0x27 e.2.1 0 (zeros 16)
      else s) s) s

/-! ### The freeze at a target (R361) -/

/-- The snapshot of a delta has been frozen: it takes its label and the replication flag, and DELTA_DONE answers (R361). -/
def State.deltaFrozen (nsid layer : Nat) (s : State) : State :=
  match s.heads.sessions.find? fun x => 3 ≤ x.2.role && x.2.nsid == nsid && x.2.ended && x.2.sending == layer && layer != 0 with
  | none => s
  | some (i, x) =>
    let d := ((s.ns? nsid).map Namespace.domain).getD 0
    let s := (s.replFlag d x.common false).replFlag d layer true
    let s := s.updLayer d layer fun l => { l with label := x.newLabel }
    let s := s.updSession i fun x => { x with common := layer, sending := 0, state := 1, dirty := false }
    s.replSend i 0x25 0 0 (le 1 0 ++ zeros 3 ++ le 4 layer)

/-! ### Synchronous sources (R363) -/

/-- What a delta record says of an extent at the source: allocated units, raw flag, tag and bucket of the extent or of a sett
within it, and its stored bytes (R358; the stored bytes of an extent that is not raw are its units, log entry 43). -/
def State.extentRec (s : State) (ashlar sett pxa : Nat) (coarse whole : Bool) (src : Nat) : DeltaRec :=
  let p := s.resolvePxa pxa
  match s.stripe.extents.get? p with
  | none => { ashlar := ashlar, op := if coarse then 6 else 7, sett := sett, pxa := p }
  | some e =>
    let inner := whole && !coarse
    let c := e.conts.find? fun c => c.sett == src
    let tagged := if inner then c.isSome else e.tagged
    { ashlar := ashlar, op := if coarse then (if tagged then 4 else 6) else if tagged then 5 else 7, sett := if coarse then 0 else sett,
      units := e.units, flags := boolNat e.raw + 2 * boolNat inner, src := if inner then src else 0xFF,
      bucket := if inner then (c.map Tagging.bucket).getD 0 else e.bucket,
      tag := le 16 (if inner then (c.map Tagging.tag).getD 0 else e.tag),
      clen := if e.raw then (if whole then 65536 else 4096) else 256 * e.units, pxa := p }

/-- The delta records of one delta of a write, with the plain bytes of a new extent (R363). -/
def State.syncRecs (s : State) (r : Staged) (d : Delta) : List (DeltaRec × Option (List Byte)) :=
  let mask (a op m : Nat) : DeltaRec × Option (List Byte) := ({ ashlar := a, op := op, mask := m }, none)
  let plain : List Byte := (s.decrypt r.keySlot (r.extents.getD d.target [])).take d.clen
  let data (op : Nat) : DeltaRec × Option (List Byte) :=
    ({ ashlar := d.ashlar, op := op, sett := d.sett, units := d.units, flags := boolNat d.raw, clen := d.clen }, some plain)
  if d.op = 1 then [data 6]
  else if d.op = 2 then [data 7]
  else if d.op = 3 then [(s.extentRec d.ashlar 0 d.target true true 0, none)]
  else if d.op = 4 then [(s.extentRec d.ashlar d.sett d.target false (d.src != 0xFF) d.src, none)]
  else if d.op = 5 then [mask d.ashlar 2 d.mask]
  else if d.op = 6 then [mask d.ashlar 1 d.mask]
  else if d.op = 7 || d.op = 8 then (List.range d.target).map fun k => mask (d.ashlar + k) (if d.op = 7 then 2 else 1) 0xFFFF
  else []

/-- Bytes a record adds to a SYNC_WRITE. -/
def syncSize (wire : Bool) (x : DeltaRec × Option (List Byte)) : Nat := match x.2 with
  | none => 48
  | some b => 64 + b.length + (if wire then 28 else 0)

/-- The records of a write cut into messages of at most 64 records and 65,600 bytes (R330, log entry 40). -/
def syncCut (wire : Bool) : List (DeltaRec × Option (List Byte)) → List (DeltaRec × Option (List Byte)) →
    List (List (DeltaRec × Option (List Byte)))
  | [], [] => []
  | [], cur => [cur]
  | x :: xs, cur =>
    if cur.isEmpty || (cur.length < 64 && ((cur ++ [x]).map (syncSize wire)).sum ≤ 65600) then syncCut wire xs (cur ++ [x])
    else cur :: syncCut wire xs [x]

/-- Send one SYNC_WRITE (R363). -/
def State.sendSync (i k w : Nat) (xs : List (DeltaRec × Option (List Byte))) (s : State) : State :=
  let seq := (s.session i).txSeq
  let due := s.tick + ticksOf ((s.session i).timeout * 1000000)
  let recs := xs.map Prod.fst
  let wire := bit (s.session i).flags 0
  let y := xs.zipIdx.foldl (fun (acc : List Byte × State) x => match x.1.2 with
    | none => acc
    | some b => (acc.1 ++ (acc.2.extentBody i seq x.2 b).getD [], if wire then acc.2.countIv (acc.2.session i).keySlot else acc.2)) ([], s)
  let s := y.2.updSession i fun x => { x with sync := x.sync.set seq (k, w, due), offers := x.offers.set seq recs }
  s.replSend i 0x26 w (boolNat wire) (recs.flatMap DeltaRec.bytes ++ y.1)

/-- A write to the namespace of a synchronous session sends its SYNC_WRITEs and waits for their acknowledgement (R363). -/
def State.syncWrite (k : Nat) (s : State) : State :=
  match s.cmdOf? k with
  | none => s
  | some c =>
    match s.heads.sessions.find? fun x => x.2.role == 1 && x.2.mode == 1 && x.2.nsid == c.nsid, s.record? c.wsn with
    | some (i, x), some r =>
      let cuts := syncCut (bit x.flags 0) (r.deltas.flatMap (s.syncRecs r)) []
      if cuts.isEmpty then s
      else cuts.foldl (fun s xs => s.sendSync i k c.wsn xs) (s.updNCmd k fun c => { c with syncWait := true })
    | _, _ => s

end Sys2Proof.Machine
end

