-- ==== Sys2Proof/Machine/ReadOps.lean ====
section
/-! DEFINITION. The read path: what a sett reads as, starting reads, and what the end of a read does for its user (R17, R165,
R174, R179, R209, R223, R246, R253, R277, R282, R286, R321, R360). -/

namespace Sys2Proof.Machine

/-! ### Opening extents (read-path steps 4 and 5) -/

/-- The namespace key of a slot: empty bytes for 0xFF (no encryption); none when the slot holds no key of kind 1 (R207). -/
def State.dataKey (s : State) (slot : Nat) : Option (List Byte) :=
  if slot = 0xFF then some []
  else if (s.keySlot slot).kind = 1 then some (s.keySlot slot).key else none

/-- Encrypt an extent padded to units (R178, R208). -/
def State.encrypt (s : State) (slot : Nat) (b : List Byte) : List Byte :=
  let x := fit (256 * ((b.length + 255) / 256)) b
  if slot = 0xFF then x else xtsEnc (s.keySlot slot).key x

/-- Bytes a compression job of the write path stores (R22, R177, R178, R180), by the settings given and the bank of the epoch in
which it began: raw when the output exceeds its space; mode 0, and counted, when the static table is absent. -/
def State.stored (s : State) (c : ReduceDomain) (bank : Tab Template) (slot : Nat) (input : List Byte) : Bool × Nat × List Byte :=
  let out := match c.mode, huffIn bank c.table with
    | 1, some t => deflate c.level 1 t true input
    | 1, none => deflate c.level 0 [] true input
    | m, _ => deflate c.level m [] true input
  if out.length ≤ input.length - 256 then (false, out.length, s.encrypt slot out) else (true, input.length, s.encrypt slot input)

/-- The job's static table is absent (R180). -/
def ReduceDomain.tableMissing (c : ReduceDomain) (bank : Tab Template) : Bool := c.mode == 1 && (huffIn bank c.table).isNone

/-- Decompress a plain extent to its required size (R179). -/
def expand (raw whole : Bool) (b : List Byte) : Option (List Byte) :=
  let n := if whole then 65536 else 4096
  if raw then (if n ≤ b.length then some (b.take n) else none)
  else match inflate b with
    | .ok x => if x.length = n then some x else none
    | .error _ => none

def State.openExtent (s : State) (slot : Nat) (raw whole : Bool) (b : List Byte) : Option (List Byte) :=
  expand raw whole (s.decrypt slot b)

/-- Sett `x` of an opened extent. -/
def settIn (whole : Bool) (x : Nat) (b : List Byte) : List Byte := if whole then slice b (4096 * x) 4096 else b

/-! ### What a sett reads as (R17, R223) -/

inductive SettSrc where
  | zero
  | lost
  | data (b : List Byte)
  | flash (pxa units : Nat) (raw whole : Bool) (src : Nat)
  | missing (page : Nat)
  | gone (page ix pxa : Nat)
  | invalid (page : Nat)
deriving DecidableEq, Repr

/-- Nothing can be read there: a lost entry, an extent of a lost stripe, an entry of an invalid type (R220, R223). -/
def SettSrc.unread : SettSrc → Bool
  | .lost | .gone .. | .invalid _ => true
  | _ => false

/-- What a staged delta gives a sett, if it covers it. -/
def State.deltaSource (s : State) (r : Staged) (a x : Nat) (d : Delta) : Option SettSrc :=
  let stored (whole : Bool) : SettSrc := match s.openExtent r.keySlot d.raw whole (r.extents.getD d.target []) with
    | some b => .data (settIn whole x b)
    | none => .lost
  if d.op = 1 && d.ashlar = a then some (stored true)
  else if d.op = 2 && d.ashlar = a && d.sett = x then some (stored false)
  else if d.op = 3 && d.ashlar = a then some (.flash d.target d.units d.raw true x)
  else if d.op = 4 && d.ashlar = a && d.sett = x then
    some (.flash d.target d.units d.raw (d.src != 0xFF) (if d.src = 0xFF then 0 else d.src))
  else if (d.op = 5 || d.op = 6) && d.ashlar = a && bit d.mask x then some .zero
  else if d.op = 16 && d.ashlar = a && bit d.mask x then some .lost
  else if (d.op = 7 || d.op = 8) && decide (d.ashlar ≤ a) && decide (a < d.ashlar + d.target) then some .zero
  else none

/-- The newest staged record of a namespace that covers a sett, staging being looked at first (R17). -/
def State.stagedSource (s : State) (nsid a x : Nat) : Option SettSrc :=
  (s.wp.log.reverse.filter fun r => r.nsid == nsid && !r.applied && !r.dropped).findSome? fun r =>
    r.deltas.reverse.findSome? (s.deltaSource r a x)

/-- A PXA that may be served: where it leads, the stripe is closed and the units lie in the data area (R253, R269). -/
def State.pxaServed (s : State) (p units : Nat) : Bool :=
  let q := s.resolvePxa p
  match s.segmentOf (pxaStripe q) with
  | none => false
  | some (_, g, t) => t.state == .closed && decide (pxaOffset q + units ≤ 256 * g.data)

/-- What sett `x` of ashlar `a` of a namespace reads as (read-path step 2). -/
def State.settSource (s : State) (n : Namespace) (nsid a x : Nat) : SettSrc :=
  match s.stagedSource nsid a x with
  | some v => v
  | none =>
    match s.layer? n.domain n.layer with
    | none => .zero
    | some l =>
      match s.resolveMap l a x with
      | .missing p => .missing p
      | .entry p i e =>
        if e.typ = 0 || e.typ = 2 then .zero
        else if e.typ = 1 then
          let q := s.resolvePxa e.pxa
          if s.stripe.lost.has (pxaStripe q) then .gone p i e.pxa else .flash e.pxa (e.units + 1) e.raw e.whole e.src
        else if e.typ = 4 then .lost
        else .invalid p

/-- A LOST op for an entry is staged and not applied yet. -/
def State.lostStaged (s : State) (p ix : Nat) : Bool :=
  s.staged.any fun r => !r.applied && !r.dropped && r.deltas.any fun d => d.op == 13 && d.ashlar == p && d.sett == ix

/-- What a resolve does about an entry that it finds: a type-1 entry of a lost stripe is marked by a LOST op (R223, R235), one of
an invalid type is a map-consistency fault of cause 6 (R220). No map update is made during a drain or in footing mode (R46, R448). -/
def State.noteSource (n : Namespace) (nsid ashlar : Nat) (x : SettSrc) (s : State) : State :=
  match x with
  | .gone p i pxa =>
    if s.lostStaged p i || s.power.drain != .none || s.footing.active || !s.owns n.domain then s
    else s.stageMap n.domain 0 (s.rankOf 9) [{ ashlar := p, op := 13, sett := i, target := pxa }] none
  | .invalid p => s.mapFault 6 nsid ashlar p
  | _ => s

/-! ### Measuring class-A reads (R385, R387, R388) -/

/-- The conditions of R385 that the predicates of a list find broken, as a set by bit. -/
def broken (cs : List (Nat × Bool)) : Nat := cs.foldl (fun m c => if c.2 then m else m ||| 2 ^ (c.1 - 1)) 0

/-- Class-A connections are those pinned (R124; log entry 140). A READY connection of another kind on the same traffic class of a port
breaks condition 4. -/
def State.onlyClassA (s : State) (lp tc : Nat) : Bool :=
  s.net.conns.all fun x => x.2.state != .ready || x.2.lport != lp || s.trafficClass lp x.2.pcp != tc || x.2.pinned

/-- Conditions 1 to 6 of R385 that a read breaks now, as far as they can be tested without its dies. -/
def State.readConditions (s : State) (c : Cmd) (n : Namespace) : Nat :=
  let k := s.conn c.conn
  let lp := k.lport
  let tc := s.trafficClass lp k.pcp
  let x := s.lport lp
  let paused := x.paused k.pcp || match x.pauseSeen.getD k.pcp none with
    | some t => decide (c.accepted ≤ t)
    | none => false
  broken
    [(1, s.direct.phase == 5 && !s.power.clocksLost.getD 4 false && s.power.drain == .none && !s.power.brownout && !s.footing.active &&
        s.dump.stage == .none),
     (2, n.cls == 1 && s.map.pinned.contains c.nsid),
     (3, k.state == .ready && k.pinned && (s.eth (physOf lp)).mode == 1 && x.up),
     (4, s.pfcEnabled lp k.pcp && s.etsShare lp tc == 0xFF && s.onlyClassA lp tc && !paused && k.rate == s.lineRate lp),
     (5, s.latency.guard && c.rank == 0),
     (6, s.flash.config.minRunUs == 100 && s.flash.config.maxSuspends == 16)]

/-- Conditions 6, 7 and 9 at the dies that a read of units goes to (R385). -/
def State.dieConditions (s : State) (pxa units : Nat) : Nat :=
  let p := s.resolvePxa pxa
  match s.segmentOf (pxaStripe p) with
  | none => 0
  | some (_, g, t) =>
    let as := (((wordsOf (pxaOffset p) units).map (· / 16)).eraseDups.map fun c => g.cellAddr c t.row).filter fun a => !s.addrMissing a
    let busy (a : Nat) : Bool :=
      (s.flash.reads.any fun r => decide (r.rank < 2) && r.module == bgModule a && r.die == bgDie a) ||
        s.flash.cmds.any fun r => r.opcode == 2 && decide (r.rank < 2) && r.module == bgModule a && r.die == bgDie a
    broken
      [(6, as.all fun a => match ((s.module (bgModule a)).dies.getD (bgDie a) {}).op with
         | some o => decide (o.suspends < 16)
         | none => true),
       (7, as.all fun a => !busy a),
       (9, as.all fun a => !(s.block a).erasing && s.anyLinkUp (bgModule a) && !t.weak)]

/-- A command breaks conditions of R385. -/
def State.breakConditions (k m : Nat) (s : State) : State :=
  if m = 0 then s else s.updNCmd k fun c => { c with outside := c.outside ||| m }

/-- A read of one sett of a namespace of class A, which the chip measures (R388). -/
def Cmd.isMeasured (c : Cmd) (n : Namespace) : Bool :=
  let r := settRun n.lbaf c.slba c.nlb
  c.kind == .read && classOf c.cls == 1 && r.1 == r.2

/-- What the data of a read travels as: a measured read carries its measurement. Conditions 2 and 5 are of the fetch alone (R385). -/
def State.readUse (s : State) (c : Cmd) (n : Namespace) : RcUse :=
  let later := s.readConditions c n &&& (2 ^ 12 - 1 - 2 ^ 1 - 2 ^ 4)
  if c.isMeasured n then .classA c.rank c.accepted (c.outside ||| later) c.recon else .ranked c.rank

/-- What a finished job says of the read it served: condition 9, or R387 when a missing cell was solved for (R388). -/
def State.noteJob (k : Nat) (x : ReadJob) (s : State) : State :=
  let missing := match s.segmentOf x.stripe with
    | none => false
    | some (_, g, t) => x.bad.any fun w => s.addrMissing (g.cellAddr (w / 16) t.row)
  let clean := x.raw.isEmpty && !x.pending && (!x.recon || missing)
  let s := s.breakConditions k (broken [(9, clean)])
  if x.recon && missing then s.updNCmd k fun c => { c with recon := true } else s

/-! ### Finishing host reads (read-path step 6) -/

/-- Complete a host read once every sett is there: protection information is generated afresh (R143). -/
def State.finishRead (k : Nat) (s : State) : State :=
  match s.cmdOf? k with
  | none => s
  | some c =>
    match s.ns? c.nsid with
    | none => s.failCmd k Nv.invalidNamespace
    | some n =>
      let r := settRun n.lbaf c.slba c.nlb
      if !((List.range (r.2 + 1 - r.1)).all fun i => c.got.has (r.1 + i)) then s
      else
        let u := dataSize n.lbaf
        let per := lbasPerSett n.lbaf
        let block (i : Nat) : List Byte :=
          let lba := c.slba + i
          let b := slice (c.got.getD (lba / per) []) (lba % per * u) u
          if n.lbaf < 2 || bit (cdw c.capsule 12) 29 then b else piBlock n lba b
        let data := (List.range c.nlb).flatMap block
        let s := { s with nvme.cmds := s.nvme.cmds.del k }
        let s := s.hostStat n.subsys (c.nlb * u / 512) 1 0
        if c.torn then s else s.completeData c.conn c.capsule data (s.readUse c n)

/-- Merge a fetched sett into a write (R165). -/
def State.mergeSett (k x : Nat) (content : Option (List Byte)) (s : State) : State :=
  match content with
  | none => s.failSett k x
  | some b =>
    let s := s.updNCmd k fun c => { c with setts := c.setts.upd x fun w =>
      { w with data := fit 4096 (patch b w.off w.data), merged := true } }
    match s.cmdOf? k with
    | none => s
    | some c => if c.fetched && c.stage == 3 && c.setts.all fun w => w.2.merged then s.fingerprint k else s

/-! ### The end of a read (R282, R286, R317, R321) -/

/-- The user and content checks a read's bytes must pass before its user takes them: trailer or decompression (R179,
R245). -/
def State.readContent (s : State) (use : ReadUse) (slot : Nat) (b : List Byte) : Option (List Byte) :=
  match use with
  | .host _ raw whole _ => s.openExtent slot raw whole b
  | .merge _ _ raw whole _ => s.openExtent slot raw whole b
  | .verify _ _ _ raw whole _ => s.openExtent slot raw whole b
  | .cold _ _ _ raw whole _ => s.openExtent slot raw whole b
  | .recheck _ _ _ raw whole => s.openExtent slot raw whole b
  | .indexPage _ _ =>
    let body := b.take 4096
    if fieldAt b (4096 + 0x28) 4 = (crc32c body).toNat && fieldAt b (4096 + 5) 1 = 9 then some body else none
  | _ => some b

/-- The namespace a read's content is opened for. -/
def State.readNs (s : State) (use : ReadUse) : Nat := match use with
  | .host k _ _ _ => ((s.cmdOf? k).map Cmd.nsid).getD 0
  | .merge k _ _ _ _ => ((s.cmdOf? k).map Cmd.nsid).getD 0
  | .verify k _ _ _ _ _ => ((s.cmdOf? k).map Cmd.nsid).getD 0
  | .cold n _ _ _ _ _ => n
  | .recheck n _ _ _ _ => n
  | .repl i _ _ => (s.session i).nsid
  | _ => 0

def State.readSlot (s : State) (use : ReadUse) : Nat := ((s.ns? (s.readNs use)).map Namespace.keySlot).getD 0xFF

/-- The ashlar a read serves, for the re-check of R246. -/
def State.readAshlar (s : State) (use : ReadUse) : Option (Nat × Nat) :=
  let n := s.readNs use
  match use with
  | .host _ _ _ xs => xs.head?.map fun x => (n, x.1 / 16)
  | .merge _ x _ _ _ => some (n, x / 16)
  | .verify _ u a _ _ _ => some (n, if a then u else u / 16)
  | _ => none

/-- Rows with missing strips (R282): the cells of a stripe that failed, and whether it is lost. -/
def badCells (x : ReadJob) : List Nat := (x.bad.map (· / 16)).eraseDups

/-- Decide a row whose strips have all been read (R282): weak, or lost with a cause. -/
def State.decideRow (n cause : Nat) (x : ReadJob) (s : State) : State :=
  match s.segmentOf n with
  | none => s
  | some (_, g, t) =>
    let cells := badCells x
    let surviving := cells.filter fun c => !s.addrMissing (g.cellAddr c t.row)
    if t.state ≠ .closed || cells.isEmpty then s
    else if g.parity < cells.length then s.loseOrFoot n cause (cells.foldl (fun m c => m + 2 ^ c) 0)
    else if surviving.isEmpty then s else s.weaken n

/-- Every codeword of a stripe (R321). -/
def allWords (g : Segment) : List Nat :=
  (List.range (g.data + g.parity)).flatMap fun c => (List.range 16).map (wordKey c)

/-- Give a finished read to its user. Reads whose user has a command of its own stay, marked done, until it takes them. -/
def State.deliver (j : Nat) (x : ReadJob) (content : Option (List Byte)) (s : State) : State :=
  let drop (s : State) : State := { s with flash.jobs := s.flash.jobs.del j }
  match x.use with
  | .host k _ whole xs =>
    let s := (drop s).noteJob k x
    match content with
    | none =>
      let s := match s.readAshlar x.use with
        | some r => s.queueRecheck r.1 r.2
        | none => s
      s.failSett k ((xs.head?.map Prod.fst).getD 0)
    | some b =>
      (s.updNCmd k fun c => { c with got := xs.foldl (fun t y => t.set y.1 (settIn whole y.2 b)) c.got }).finishRead k
  | .merge k y _ whole src => (drop s).mergeSett k y (content.map (settIn whole src))
  | .indexPage d p =>
    let s := drop s
    match content with
    | some b => s.indexArrives d p b
    | none => (s.updIndexPage d p fun q => { q with body := none, rebuilding := true }).raise Ev.indexPageRebuild (le 1 d ++ le 8 p)
        |>.startJob 0x26 (s.rankOf 17) 1
  | .copy pxa =>
    let s := drop s
    match content, s.stripe.extents.get? pxa with
    | some b, some e =>
      let d := stripeDomainOf (pxaStripe pxa)
      let i : Item := { off := 0, ext := e, source := .copy pxa, bytes := b, rank := x.rank }
      ({ s with stripe.copies := s.stripe.copies.set pxa b }).place d 1 [i]
    | _, _ => s
  | .scrub n cause =>
    let s := drop s
    let s := if x.bad.isEmpty then s
      else { s with flash.scrub := (s.flash.scrub.1, s.flash.scrub.2.1, s.flash.scrub.2.2 + 1) }
    s.decideRow n cause x
  | .repl i seq index =>
    let s := drop s
    match content with
    | none => s.failSession i 2 0
    | some b =>
      let rs := (s.session i).offers.getD seq []
      let clen := ((rs[index]?).map DeltaRec.clen).getD b.length
      (s.replExtent i seq index ((s.decrypt (s.readSlot x.use) b).take clen)).offersDone i seq
  | _ => s.setJob j { x with done := true, result := content }

/-- The R282 check of a stripe, at the rank of rebuild within its floor, once at a time (R286). -/
def State.checkStripe (n : Nat) (s : State) : State :=
  let busy := s.flash.jobs.any fun x => match x.2.use with
    | .scrub m _ => m == n
    | _ => false
  match s.segmentOf n with
  | none => s
  | some (_, g, _) => if busy then s else s.startWords (.scrub n 2) (s.rankOf 9) n (allWords g)

/-- Faults a finished read has met: erase pending (R246), strips that failed on surviving cells (R286). -/
def State.noteFaults (x : ReadJob) (s : State) : State :=
  match s.segmentOf x.stripe with
  | none => s
  | some (_, g, t) =>
    let s := if !x.pending then s
      else match s.readAshlar x.use with
        | some r => (s.mapFault 3 r.1 r.2 0).queueRecheck r.1 r.2
        | none => s
    let failed := (badCells x).any fun c =>
      let a := g.cellAddr c t.row
      !s.addrMissing a && !(s.block a).erasing && !x.pending
    if failed then s.weaken x.stripe else s

/-- Settle a read: while words are outstanding it waits; a wanted word that is bad is solved from D others (R252, R286);
with fewer than D the read fails and its stripe is checked; content that fails its check is read by reconstruction once
(R179, R245, R253). -/
def State.settleJob (j : Nat) : Nat → State → State
  | 0, s => s
  | fuel + 1, s =>
    match s.job? j with
    | none => s
    | some x =>
      if x.done || x.outstanding then s
      else match x.use with
      | .scrub .. => s.deliver j x none
      | .row .. => s.setJob j { x with done := true }
      | _ =>
        match s.segmentOf x.stripe with
        | none => s.deliver j x none
        | some (_, g, _) =>
          let more := x.more g.data (g.data + g.parity)
          let degrade (s : State) : State := if x.recon then s else s.stripeCount 7 1
          if !more.isEmpty then (((degrade s).setJob j { x with recon := true }).wantWords j more).settleJob j fuel
          else match x.solved g.data with
            | none => ((s.noteFaults x).deliver j x none).checkStripe x.stripe
            | some t =>
              let s := s.noteFaults x
              let b := x.range t
              match s.readContent x.use (s.readSlot x.use) b with
              | some c => s.deliver j x (some c)
              | none =>
                if x.recon then s.deliver j x none
                else ((degrade s).setJob j { x with recon := true, bad := x.want, got := x.got.keep fun k _ => !x.want.contains k }).settleJob j
                  fuel

def settleFuel : Nat := 70

def State.settle (j : Nat) (s : State) : State := s.settleJob j settleFuel

/-- Start a read of the units that a PXA leads to, and settle what is known of it at once (read-path step 3, R269). -/
def State.readUnits (use : ReadUse) (rank pxa units : Nat) (s : State) : State :=
  let p := s.resolvePxa pxa
  ((s.countLook pxa).startRead use rank (pxaStripe p) (pxaOffset p) units).settle s.flash.nextJob

/-- Ask for a page that is not resident (R237, R245). -/
def State.fetchPage (p : Nat) (rank : Nat) (s : State) : State :=
  match s.page? p with
  | none => s
  | some x =>
    if x.reading || x.body.isSome || x.pxa = 0 then s
    else if x.lost then s.recreatePage p
    else
      let s := s.updPage p fun x => { x with reading := true }
      s.readUnits (.mapPage p) rank x.pxa 17

/-- Ask for an index page that is not in the DRAM cache (R170). -/
def State.fetchIndex (d page rank : Nat) (s : State) : State :=
  if s.flash.jobs.any fun j => j.2.use == .indexPage d page then s
  else s.readUnits (.indexPage d page) rank (s.indexPage d page).pxa 17

/-- Resolve a host read and start the reads it needs (read-path steps 2 and 3). A page that was re-created (R236) is resolved
through at once. -/
def State.advanceReadN (k : Nat) : Nat → State → State
  | 0, s => s
  | fuel + 1, s =>
  match s.cmdOf? k with
  | none => s
  | some c =>
    if c.kind ≠ .read || c.stage ≠ 2 then s
    else match s.ns? c.nsid with
    | none => s.failCmd k Nv.invalidNamespace
    | some n =>
      let r := settRun n.lbaf c.slba c.nlb
      let srcs := (List.range (r.2 + 1 - r.1)).map fun i =>
        (r.1 + i, s.settSource n c.nsid ((r.1 + i) / 16) ((r.1 + i) % 16))
      let pages := srcs.filterMap fun x => match x.2 with
        | .missing p => some p
        | _ => none
      let s := srcs.foldl (fun s x => match x.2 with
        | .data _ => s
        | _ => s.touchPath n.domain n.layer (x.1 / 16) (x.1 % 16) c.rank) s
      if !pages.isEmpty then
        let s := pages.eraseDups.foldl (fun s p => s.fetchPage p c.rank) s
        if pages.any fun p => (s.pageBody p).isSome then s.advanceReadN k fuel else s
      else if srcs.any fun x => x.2.unread then
        (srcs.foldl (fun s x => s.noteSource n c.nsid (x.1 / 16) x.2) s).failSett k
          (((srcs.find? fun x => x.2.unread).map Prod.fst).getD 0)
      else
        let bad := srcs.find? fun x => match x.2 with
          | .flash p u _ _ _ => !s.pxaServed p u
          | _ => false
        match bad with
        | some x => (s.queueRecheck c.nsid (x.1 / 16)).failSett k x.1
        | none =>
          let got : Tab (List Byte) := srcs.foldl (fun (t : Tab (List Byte)) x => match x.2 with
            | .zero => t.set x.1 (zeros 4096)
            | .data b => t.set x.1 b
            | _ => t) c.got
          let runs := (srcs.filterMap fun x => match x.2 with
            | .flash p u raw whole _ => some (p, u, raw, whole)
            | _ => none).eraseDups
          let s := s.updNCmd k fun c => { c with got := got, stage := 3 }
          let s := runs.foldl (fun s y =>
            let xs := srcs.filterMap fun x => match x.2 with
              | .flash p u raw whole src => if (p, u, raw, whole) = y then some (x.1, src) else none
              | _ => none
            (s.breakConditions k (s.dieConditions y.1 y.2.1)).readUnits (.host k y.2.2.1 y.2.2.2 xs) c.rank y.1 y.2.1) s
          s.finishRead k

def State.advanceRead (k : Nat) (s : State) : State := s.advanceReadN k 4

/-- Ask the map engine for the form of the ashlars of a write whose leaf was not resident: pages still absent are read in at the
write's rank (R176, R237). -/
def State.lookForms (k : Nat) (s : State) : State :=
  match s.cmdOf? k with
  | none => s
  | some c =>
    if c.stage ≠ 4 || c.ashlars.all fun x => x.2.known then s
    else match s.layer? c.domain (s.headLayer c.nsid) with
    | none => s
    | some l =>
      let s := c.ashlars.foldl (fun s x => if x.2.known then s else s.fetchPage (s.leafOf l x.1) c.rank) s
      let ask (a : Nat) (w : AshlarWork) : AshlarWork :=
        if w.known then w
        else match s.coarse? l a with
          | some b => { w with coarse := b, known := true }
          | none => w
      (s.updNCmd k fun c => { c with ashlars := c.ashlars.map fun x => (x.1, ask x.1 x.2) }).decide_ k

/-- Work that waits for map pages goes on: host reads are resolved again, and writes ask for the forms of their ashlars. -/
def State.resumeReads (s : State) : State :=
  let s := (s.nvme.cmds.filter fun x => x.2.kind == .read && x.2.stage == 2).foldl (fun s x => s.advanceRead x.1) s
  (s.nvme.cmds.filter fun x => x.2.writes && x.2.stage == 4).foldl (fun s x => s.lookForms x.1) s

/-- Start the merge read of a write's sett: at once from staging or an unmapped entry (R165). -/
def State.startMerge (k x : Nat) (s : State) : State :=
  match s.cmdOf? k with
  | none => s
  | some c =>
    match s.ns? c.nsid with
    | none => s.failCmd k Nv.invalidNamespace
    | some n =>
      let s := s.touchPath n.domain n.layer (x / 16) (x % 16) c.rank
      let src := s.settSource n c.nsid (x / 16) (x % 16)
      match src with
      | .missing p => s.fetchPage p c.rank
      | .lost | .gone .. | .invalid _ => (s.noteSource n c.nsid (x / 16) src).failSett k x
      | .zero => (s.mergeSett k x (some (zeros 4096))).lookForms k
      | .data b => (s.mergeSett k x (some b)).lookForms k
      | .flash p u raw whole src =>
        if !s.pxaServed p u then (s.queueRecheck c.nsid (x / 16)).failSett k x
        else
          let s := s.updNCmd k fun c => { c with setts := c.setts.upd x fun w => { w with issued := true } }
          s.readUnits (.merge k x raw whole src) c.rank p u

end Sys2Proof.Machine
end

