-- ==== Sys2Proof/Machine/PlinthOps.lean ====
section
/-! DEFINITION. What answers of Plinth commands settle: claims and acquisitions, failed commands, refreshes, detaching,
decoding (R295, R300 to R305, R313 to R324, R338, R339, R464). -/

namespace Sys2Proof.Machine

/-! ### Claims and acquisitions (R338, R339, R348) -/

def State.attachedModules (s : State) : List Nat :=
  (s.flash.modules.filter fun x => x.2.state != .detached).map Prod.fst

/-- Read every block-group record of a module, 256 at a time (R315). -/
def State.scanModule (m : Nat) (s : State) : State :=
  let x := s.module m
  let runs := (x.blockGroups + 255) / 256
  ((List.range 256).filter x.diePresent).foldl (fun s d =>
    (List.range runs).foldl (fun s r =>
      s.issue { id := 0, module := m, opcode := 11, die := d, addr := bgAddr m d (256 * r),
                count := min 256 (x.blockGroups - 256 * r), use := .scan }) s) s

/-- The claim is won: CLAIM_DONE, then the restart scan of the domain on every attached module (R339). -/
def State.claimWon (d : Nat) (s : State) : State :=
  let x := s.domain d
  let s := s.updDomain d fun x => { x with claim := x.trying, epoch := x.trying / 65536, owner := s.head.headId,
                                            released := false, scanning := true, answers := [] }
  let s := s.ringSend 5 (le 1 d ++ zeros 7 ++ le 8 x.trying ++ le 2 (x.takeover.getD 0))
  s.attachedModules.foldl (fun s m => s.scanModule m) s

/-- Present the next claim number to every attached module (R338, R339). -/
def State.tryClaim (d : Nat) (s : State) : State :=
  let x := s.domain d
  let c := (x.epoch + 1) * 65536 + s.head.headId
  let ms := s.attachedModules
  let s := s.updDomain d fun x => { x with tries := x.tries + 1, trying := c, answers := ms, stale := false }
  let s := ms.foldl (fun s m => s.presentClaim m d c (.claim d)) s
  if ms.isEmpty then s.claimWon d else s

/-- Start acquiring a domain: Change, CLAIM_INTENT, the first claim (R339). -/
def State.acquire (d : Nat) (takeover : Option Nat) (s : State) : State :=
  let s := s.updDomain d fun x => { x with state := .acquiring, tries := 0, takeover := takeover, journalDone := false, mirrorDone := false,
                                            mirrorLeft := 0, highWsn := 0, scanning := false, replaying := false }
  let s := s.setAna d 15
  let s := s.ringSend 4 (le 1 d ++ zeros 7 ++ le 8 ((s.domain d).epoch + 1))
  s.tryClaim d

/-- The claim failed after its last try (R339). -/
def State.claimFailed (d : Nat) (s : State) : State :=
  let e := (s.domain d).epoch
  let s := s.updDomain d fun x => { x with state := .none, claim := 0 }
  (s.raise Ev.claimFailed (le 1 d ++ le 8 e)).setAna d 3

/-- A module's answer to the claim being presented: `ok`, or the highest claim it named. -/
def State.claimAnswer (d m : Nat) (ok : Bool) (detail : Nat) (s : State) : State :=
  let x := s.domain d
  if x.state ≠ .acquiring || !x.answers.contains m then s
  else
    let s := s.updDomain d fun x => { x with answers := x.answers.filter (· != m), stale := x.stale || !ok,
                                              epoch := if ok then x.epoch else max x.epoch (detail / 65536) }
    let s := if ok then s.updModule m fun y => { y with claimed := y.claimed ++ [d] } else s
    let y := s.domain d
    if !y.answers.isEmpty then s
    else if !y.stale then s.claimWon d
    else if y.tries < 4 then s.tryClaim d
    else s.claimFailed d

/-- The probe of a takeover was answered: once all are, and none was stale, its domains are acquired together (R348). -/
def State.probeAnswer (d : Nat) (stale : Bool) (s : State) : State :=
  let note (t : Takeover) : Takeover :=
    if t.probed && t.probes.contains d then { t with probes := t.probes.filter (· != d), cancelled := t.cancelled || stale } else t
  let s := { s with heads.takeovers := s.heads.takeovers.map note }
  let ready (t : Takeover) : Bool := t.probed && t.probes.isEmpty && !t.cancelled && !t.started
  let go := s.heads.takeovers.filter ready
  let s := { s with heads.takeovers := s.heads.takeovers.map fun t => if ready t then { t with started := true } else t }
  let s := go.foldl (fun s t => t.domains.foldl (fun s d =>
    if (s.domain d).state = .none then s.acquire d (some t.failed) else s) s) s
  { s with heads.takeovers := s.heads.takeovers.filter fun t => !t.cancelled }

/-! ### Blocks, dies, refresh (R255, R266, R320, R322) -/

/-- A failed die: EV_DIE_FAILED once; it takes no new block group (R322). -/
def State.failDie (m d : Nat) (s : State) : State :=
  if (s.die m d).failed then s
  else ((s.freeDie m d).updDie m d fun x => { x with failed := true }).raiseFrom (flashIsland m) Ev.dieFailed (le 2 m ++ le 1 d)

/-- Retire a block group; the fourth of a die within 24 h fails the die (R322). -/
def State.retire (a cause : Nat) (s : State) : State :=
  let m := bgModule a
  let d := bgDie a
  let s := s.retireBlock a cause
  let day := 86400 * 10 ^ 9
  let recent := s.now :: (s.die m d).retired.filter fun t => decide (s.now < t + day)
  let s := s.updDie m d fun x => { x with retired := recent }
  if 4 ≤ recent.length then s.failDie m d else s

/-- The segment a block group is a cell of. -/
def State.segmentWith (s : State) (a : Nat) : Option Nat :=
  (s.stripe.segments.find? fun g => g.2.cells.contains a || g.2.replacement.any fun r => r.2 == a).map Prod.fst

/-- Queue a block group for refresh, once between erases (R320). Its work waits for the end of footing mode (R449). -/
def State.refresh (a cause : Nat) (s : State) : State :=
  let b := s.block a
  if b.refresh then s
  else
    let s := (s.updBlock a fun b => { b with refresh := true }).flashCount 10
    let s := { s with flash.scrub := (s.flash.scrub.1, s.flash.scrub.2.1 + (if cause = 3 then 1 else 0), s.flash.scrub.2.2) }
    let s := s.raiseFrom (flashIsland (bgModule a)) Ev.flashRefresh (le 5 a ++ le 1 cause ++ le 4 b.readCount)
    match s.segmentWith a with
    | some g => (s.updSegment g fun x => { x with refresh := true }).queueVictim g (s.rankOf 18)
    | none => if s.owns b.domain && b.place == .out then s.queueErase a b.domain (s.rankOf 18) else s

/-- EV_FLASH_EARLY_WARNING once between erases, and the refresh (R318). -/
def State.earlyWarning (a errs step cause : Nat) (s : State) : State :=
  let s := if (s.block a).warned then s
    else (s.updBlock a fun b => { b with warned := true }).raiseFrom (flashIsland (bgModule a)) Ev.flashEarlyWarning
      (le 5 a ++ le 2 errs ++ le 1 step)
  s.refresh a cause

/-- The free pool above free_ceiling goes back to the spare pools, the most erased first (R255). -/
def State.trimPool (d : Nat) (s : State) : State :=
  let pool := s.freePool d
  let top := (s.sdom d).freeCeiling
  if top = 0 || pool.length ≤ top || s.footing.active then s
  else
    let worst := pool.foldl (fun (b : Option Nat) a => match b with
      | none => some a
      | some y => if (s.block y).eraseCount < (s.block a).eraseCount then some a else some y) none
    match worst with
    | none => s
    | some a =>
      (s.updBlock a fun b => { b with place := .out }).issue
        { id := 0, module := bgModule a, opcode := 9, domain := d, die := bgDie a, addr := a, claim := s.claimOf d,
          use := .blockReturn a }

/-- EV_MODULE_RETIRED once no segment cell, trio or domain's free pool is left on a retiring module (R285). -/
def State.checkRetired (m : Nat) (s : State) : State :=
  let x := s.module m
  let cell := s.stripe.segments.any fun g => (g.2.cells ++ g.2.replacement.map Prod.snd).any fun a => bgModule a == m
  let trio := s.stripe.journals.any fun j => j.2.trio.contains m
  let pool := s.flash.blocks.any fun b => bgModule b.1 == m && match b.2.place with
    | .free d => s.writesFor d
    | _ => false
  if x.state ≠ .retiring || x.retired || cell || trio || pool then s
  else (s.updModule m fun x => { x with retired := true }).raise Ev.moduleRetired (le 2 m)

def State.checkAllRetired (s : State) : State :=
  ((s.flash.modules.filter fun m => m.2.state == .retiring).map Prod.fst).foldl (fun s m => s.checkRetired m) s

/-- The block groups of a retiring module in the pools of this head's domains go back to the spare pool (R285). -/
def State.emptyPools (m : Nat) (s : State) : State :=
  let as := (s.flash.blocks.filter fun b => bgModule b.1 == m && match b.2.place with
    | .free d => s.writesFor d
    | _ => false).map Prod.fst
  as.foldl (fun s a =>
    let d := (s.block a).domain
    (s.updBlock a fun b => { b with place := .out }).issue
      { id := 0, module := m, opcode := 9, domain := d, die := bgDie a, addr := a, claim := s.claimOf d, use := .blockReturn a }) s

/-- A segment whose block groups have all been erased or retired is gone: SEGMENT_STATE; each stripe becomes forwarded or
free (R254, R277). -/
def State.segmentErased (g : Nat) (s : State) : State :=
  let x := s.segment g
  let d := segmentDomain g
  let left := x.cells.any fun a => (s.block a).erasing || (s.block a).place == .segment g
  if x.state ≠ .erasing || left then s
  else
    let s := (s.journalWrite d (s.rankOf 14) (.segmentState g 0) 0).stripeCount 6 1
    let keepFwd (n : Nat) : Bool := s.stripe.forward.any fun f => pxaStripe f.1 == n
    let stripes := s.stripe.stripes.foldl (fun (t : Tab Stripe) e =>
      if e.2.segment ≠ g then t.set e.1 e.2
      else if e.2.state = .lost && s.stripe.lost.has e.1 then t.set e.1 e.2
      else if keepFwd e.1 then t.set e.1 { e.2 with state := .forwarded, live := 0 }
      else t) []
    { s with stripe.stripes := stripes, stripe.segments := s.stripe.segments.del g }.checkAllRetired

/-- An erase ended well: the block group joins its domain's free pool (R255, R277). -/
def State.erased (a : Nat) (s : State) : State :=
  let b := s.block a
  let g := s.segmentWith a
  let s := s.updBlock a fun b =>
    { b with state := 1, flags := b.flags / 2 * 2, eraseCount := b.eraseCount + 1, lastPage := 0xFFFF, readCount := 0,
             warned := false, refresh := false, soft4 := [], erasing := false, place := .free b.domain }
  let s := if s.owns b.domain || (s.domain b.domain).state == .acquiring then s else s.updBlock a fun b => { b with place := .out }
  let s := match g with
    | some g => s.segmentErased g
    | none => s
  let s := if (s.module (bgModule a)).state = .retiring then s.emptyPools (bgModule a) else s
  (s.trimPool b.domain).checkAllRetired

/-! ### Commands that fail (R304, R464) -/

/-- The words of a READ that cannot be had (R304, R324). -/
def State.wordsBad (j cell : Nat) (words : List Nat) (pending : Bool) (s : State) : State :=
  match s.job? j with
  | none => s
  | some x =>
    let ks := (words.map (wordKey cell)).filter fun k => !x.got.has k && !x.bad.contains k
    (s.setJob j { x with bad := x.bad ++ ks, pending := x.pending || pending }).settle j

/-- A rebuild of a segment starts again with a new replacement: the partly written one is erased and returned (R279). -/
def State.restartCell (g cell : Nat) (s : State) : State :=
  let x := s.segment g
  match x.replacement.get? cell with
  | none => s
  | some a =>
    (s.updSegment g fun x => { x with replacement := x.replacement.del cell, rebuildRow := 0, rebuilding := [] }).queueErase a
      (segmentDomain g) (s.rankOf 9)

/-- The operation of a die has ended. -/
def State.endOp (m d id : Nat) (s : State) : State :=
  match (s.die m d).op with
  | some o => if o.cmd = id then s.freeDie m d else s
  | none => s

/-- The bits a failed probe READ counts as corrected: more than any codeword holds. -/
def probeFailed : Nat := 2 ^ 16

/-- A probe READ has ended without a decoded word (R319). -/
def State.probeLost (c : PlCmd) (s : State) : State :=
  match c.probe with
  | some j => s.recordProbe c.module c.die c.entry j probeFailed
  | none => s

/-- A trio member failed an append: it is no longer usable for the domain (R273). -/
def State.memberFailed (d m : Nat) (s : State) : State :=
  s.updJournal d fun j => if j.bad.contains m then j else { j with bad := j.bad ++ [m] }

/-- The command as it stands before its first attempt. -/
def PlCmd.renewed (c : PlCmd) : PlCmd :=
  { c with attempt := 0, deadline := none, got := 0, bad := false, data := [], decoded := [], errs := 0 }

/-- Send a journal frame that re-silvering has still to send (R337). -/
def State.resilverFrame (d : Nat) (f : JFrame) (s : State) : State :=
  let sent := s.mirror.waits.any fun w => w.what == .journal d f.seq
  if sent || !s.mirror.resilverJournal.contains (d, f.seq) then s
  else
    let s := { s with mirror.resilvered := s.mirror.resilvered + 64 * f.records.length }
    s.mirrorJournal d (s.rankOf 13) f

/-- Read journal frames back for re-silvering, 16 at a time, from a member that holds them; with none the chip's own copies are sent
(R337, log entry 35). -/
def State.readJournal (d first : Nat) (s : State) : State :=
  let j := s.journal d
  match j.trio.find? fun m => s.reachable m && !j.bad.contains m with
  | some m => s.issue { id := 0, module := m, opcode := 13, domain := d, param := first, reads := List.range 16, use := .journalRead d first }
  | none => j.kept.foldl (fun s f => s.resilverFrame d f) s

/-- The frames a JOURNAL_READ brought are sent, and the next are read; of what the member did not hold, and of a read that failed, the
chip's own copies are sent. -/
def State.journalRead (d first : Nat) (fs : List JFrame) (s : State) : State :=
  let s := fs.foldl (fun s f => s.resilverFrame d f) s
  let last := (fs.map JFrame.seq).foldl max 0
  let left := (s.journal d).kept.filter fun f => if fs.isEmpty then decide (first ≤ f.seq) else decide (f.seq < last)
  let s := left.foldl (fun s f => s.resilverFrame d f) s
  let more := !fs.isEmpty && s.mirror.resilverJournal.any fun x => x.1 == d && decide (last < x.2) && (s.journal d).kept.any fun f => f.seq == x.2
  if more then s.readJournal d (last + 1) else s

/-- What a failed command does, by its work (R304). A module that has not been detached is identified and scanned only by answers, so
those commands are issued again (R323). -/
def State.failPl (c : PlCmd) (s : State) : State :=
  let s := s.endOp c.module c.die c.id
  match c.use with
  | .read j cell => (s.probeLost c).wordsBad j cell c.reads false
  | .program n cell => s.abandonStripe n 1 cell
  | .rebuild g cell _ => (s.restartCell g cell)
  | .erase a => s.updBlock a fun b => { b with erasing := false, place := .out }
  | .journal d _ => s.memberFailed d c.module
  | .claim d => s.claimAnswer d c.module false 0
  | .probe d => s.probeAnswer d false
  | .query acc => s.replyTo acc St.moduleUnknown 0 []
  | .resume => s.updDie c.module c.die fun x => { x with op := x.op.map fun o => { o with resumeQueued := false } }
  | .identify => if s.anyLinkUp c.module then s.issue { id := 0, module := c.module, opcode := 1, use := .identify } else s
  | .scan => if (s.module c.module).identified then s.issue c.renewed else s
  | .blockClaim .. => s
  | .blockReturn _ => s
  | .blockRetire _ => s
  | .suspend => s
  | .reclaim _ => s
  | .check op a _ _ => if op = 4 then s.updBlock a fun b => { b with erasing := false, place := .out } else s
  | .journalRead d first => s.journalRead d first []
  | .present _ => s

/-- Send a command again with the next attempt, or fail it when its 3 retries are exhausted (R304). -/
def State.retry (c : PlCmd) (s : State) : State :=
  if c.attempt < 3 then
    let l := s.pathOf c.module
    let c' := { c.renewed with attempt := c.attempt + 1 }
    let s := s.updCmd c.module c.id fun _ => c'
    (s.updLink l fun k => k.count 5 1).sendFrames l (s.framesOf c' l)
  else
    let s := (s.dropCmd c.module c.id).updModule c.module fun x => { x with exhausted := x.exhausted + 1 }
    ((s.raiseFrom (flashIsland c.module) Ev.plinthRetryExhausted (le 2 c.module ++ le 1 c.opcode ++ le 4 c.id)).failPl c).sendHeld c.module

/-- Present every claim held to a module (R301, R323). -/
def State.presentClaims (m : Nat) (s : State) : State :=
  let held := (s.domains.filter fun x => x.2.state != .none && 0 < x.2.claim).map Prod.fst
  held.foldl (fun s d => s.presentClaim m d (s.claimOf d) (.present d)) s

/-- Settle one unanswered command at a new session (R464). -/
def State.settleOne (c : PlCmd) (s : State) : State :=
  let again (s : State) : State := s.issue c.renewed
  let check (a d cause : Nat) (s : State) : State :=
    s.issue { id := 0, module := c.module, opcode := 11, die := c.die, addr := a, count := 1, use := .check c.opcode a d cause }
  match c.use with
  | .program n cell => s.abandonStripe n 2 cell
  | .rebuild g cell _ => s.restartCell g cell
  | .erase a => check a c.domain 0 s
  | .blockClaim a d => check a d 0 s
  | .blockReturn a => check a c.domain 0 s
  | .blockRetire a => check a c.domain c.param s
  | .journal d q =>
    s.queueStart { module := c.module, opcode := 12, domain := d, die := 0, addr := 0, rank := c.rank, ready := 0,
                   use := .journal d q, data := c.frame, param := c.param }
  | .suspend => s
  | .resume => s
  | .present _ => s
  | _ => again s

/-- No die of the module runs an operation of this chip any more. -/
def State.idleDies (m : Nat) (s : State) : State :=
  ((s.module m).dies.filter fun d => d.2.op.isSome).foldl (fun s d => s.freeDie m d.1) s

/-- A new session with a module: its cmd_ids start at 1, every claim is presented again, and every unanswered command is
settled; those that had not been sent follow (R295, R464). -/
def State.newSession (m : Nat) (s : State) : State :=
  let cs := s.flash.cmds.filter fun c => c.module == m
  let mine (f : Nat × Out) : Bool := f.1 / 2 ^ 32 == m
  let links := s.flash.links.map fun k => { k with txq := k.txq.filter fun f => !mine f }
  let held := s.flash.held.filter fun c => c.module == m
  let s := { s with
    flash.cmds := s.flash.cmds.filter fun c => c.module != m,
    flash.held := s.flash.held.filter fun c => c.module != m,
    flash.links := links,
    flash.starts := s.flash.starts.filter fun x => !(x.module == m && x.opcode == 6) }
  let s := (s.idleDies m).updModule m fun x => { x with nextCmd := 1, claimed := [] }
  let s := s.presentClaims m
  held.foldl (fun s c => s.issue c) (cs.foldl (fun s c => s.settleOne c) s)

/-- Detach a module: EV_MODULE_DETACHED; its commands fail, its queued starts and reads go, B_drain is recomputed (R324). What the chip
keeps of its dies stays until the module is next attached (R322). -/
def State.detach (m cause : Nat) (s : State) : State :=
  if (s.module m).state = .detached then s
  else
    let cs := (s.flash.cmds ++ s.flash.held).filter fun c => c.module == m
    let rs := s.flash.reads.filter fun r => r.module == m
    let js := s.flash.starts.filter fun x => x.module == m && x.opcode == 12
    let erases := s.flash.starts.filter fun x => x.module == m && x.opcode == 4
    let s := s.updModule m fun x => { x with state := .detached, identified := false, scanned := false, exhausted := 0, claimed := [] }
    let s := { s with
      flash.cmds := s.flash.cmds.filter fun c => c.module != m,
      flash.held := s.flash.held.filter fun c => c.module != m,
      flash.reads := s.flash.reads.filter fun r => r.module != m,
      flash.starts := s.flash.starts.filter fun x => x.module != m }
    let s := (s.idleDies m).raiseFrom (flashIsland m) Ev.moduleDetached (le 2 m ++ le 1 cause)
    let s := (s.openOn m).foldl (fun s x => s.abandonStripe x.1 2 x.2) s
    let s := js.foldl (fun s x => s.memberFailed x.domain m) s
    let s := erases.foldl (fun s x => s.updBlock x.addr fun b => { b with erasing := false, place := .out }) s
    let s := cs.foldl (fun s c => s.failPl c) s
    let s := rs.foldl (fun s r => s.wordsBad r.job r.cell r.words false) s
    s.recomputeDrain

/-! ### Suspending and resuming (R313) -/

/-- Queue the RESUME of a suspended operation, once. -/
def State.queueResume (m d : Nat) (s : State) : State :=
  match (s.die m d).op with
  | some o =>
    if o.suspendedAt.isSome && !o.resumeQueued then
      let rank := ((s.cmd? m o.cmd).map PlCmd.rank).getD 7
      (s.updDie m d fun x => { x with op := x.op.map fun o => { o with resumeQueued := true } }).queueStart
        { module := m, opcode := 6, domain := o.domain, die := d, addr := o.addr, rank := rank, ready := 0, use := .resume }
    else s
  | none => s

/-- The FLASH_CONFIG of the operation of a die: the one in force when it was issued (R325). -/
def State.opConfig (s : State) (m d : Nat) : FlashConfig :=
  (((s.die m d).op.bind fun o => s.cmd? m o.cmd).map PlCmd.config).getD s.flash.config

/-- A READ of rank at or below suspend_rank waits for the die (R313). -/
def State.urgentRead (s : State) (m d : Nat) : Bool :=
  s.flash.reads.any fun r => r.module == m && r.die == d && decide (r.rank ≤ (s.opConfig m d).suspendRank)

/-- RESUME is queued when no READ of rank at or below suspend_rank waits for the die. -/
def State.maybeResume (m d : Nat) (s : State) : State :=
  let waits := s.urgentRead m d
  if waits then s else s.queueResume m d

/-! ### Decoding (R317, R318, R325) -/

def errorBin (e : Nat) : Nat :=
  if e < 16 then 0 else if e < 32 then 1 else if e < 48 then 2 else if e < 64 then 3 else if e < 80 then 4
  else if e < 100 then 5 else if e < 160 then 6 else 7

/-- Soft step of a READ mode: 0 hard, 2k - 1 and 2k the two reads of step k. -/
def stepOf (mode : Nat) : Nat := (mode + 1) / 2

/-- Decode one codeword that arrived for a command: with every read of it so far. The first read of a soft step only
joins the reads. -/
def State.decodeWord (c : PlCmd) (j cell word : Nat) (bytes : List Byte) (s : State) : State :=
  let step := stepOf c.mode
  let before := ((s.job? j).map fun x => x.raw.getD (wordKey cell word) []).getD []
  let keepRaw (s : State) : State := s.updCmd c.module c.id fun c => { c with data := c.data ++ [(word, bytes)] }
  if c.mode % 2 = 1 then keepRaw s
  else match Config.ldpc step (before ++ [bytes]) with
  | some (errs, data) =>
    let s := (s.flashCount 0).flashCount (1 + step)
    let s := s.flashCount (12 + errorBin errs)
    let s := s.updCmd c.module c.id fun c => { c with decoded := c.decoded.set word (fit 4096 data), errs := c.errs + errs }
    let cause := match (s.job? j).map ReadJob.use with
      | some (.scrub ..) => 3
      | _ => 2
    if c.config.ewThreshold ≤ errs || 0 < step then s.earlyWarning c.addr errs step cause else s
  | none =>
    let s := if step = 4 then (s.flashCount 0).flashCount 6 else s
    keepRaw s

/-- A READ has been answered well: its decoded words join the job; the others go to the next soft step, or are
undecodable after step 4 (R317). Three READs of a block group that needed step 4 within 24 h retire it (R322). -/
def State.commitRead (c : PlCmd) (j cell : Nat) (s : State) : State :=
  match s.job? j with
  | none => s
  | some x =>
    let got : Tab (List Byte) := c.decoded.foldl (fun (t : Tab (List Byte)) e => t.set (wordKey cell e.1) e.2) x.got
    let raw := c.data.foldl (fun (t : Tab (List (List Byte))) e =>
      let k := wordKey cell e.1
      t.set k (t.getD k [] ++ [e.2])) x.raw
    let failed := c.data.map Prod.fst
    let s := s.setJob j { x with got := got, raw := raw }
    let s := if c.mode = 8 then
        let day := 86400 * 10 ^ 9
        let recent := s.now :: (s.block c.addr).soft4.filter fun t => decide (s.now < t + day)
        let s := s.updBlock c.addr fun b => { b with soft4 := recent }
        if 3 ≤ recent.length && !(s.block c.addr).failed then s.retire c.addr 3 else s
      else s
    if failed.isEmpty || c.mode % 2 = 1 then s.settle j
    else if c.mode = 8 then s.wordsBad j cell failed false
    else (s.queueRead j cell failed (c.mode + 1)).queueRead j cell failed (c.mode + 2)

end Sys2Proof.Machine
end

