-- ==== Sys2Proof/Machine/JournalOps.lean ====
section
/-! DEFINITION. Writing metadata pages to flash, the effects of durable journal records, copying extents out of a segment, and
replay (R219, R237, R269 to R277, R352). -/

namespace Sys2Proof.Machine

/-! ### Metadata pages (R219, R237, R256) -/

/-- The 17 units of a page: body and trailer (R219). -/
def pageExtent (body : List Byte) (mpn kind first claim applied stamp : Nat) : List Byte :=
  fit 4352 (fit 4096 body ++ le 5 mpn ++ le 1 kind ++ le 1 (mpnDomain mpn) ++ le 1 1 ++ le 8 first ++ le 8 claim ++ le 8 applied ++
    le 8 stamp ++ le 4 (crc32c (fit 4096 body)).toNat)

/-- Write a dirty page back through stream 2 (R237). -/
def State.writeBack (p : Nat) (s : State) : State :=
  match s.page? p with
  | none => s
  | some x =>
    match x.body with
    | none => s
    | some b =>
      if x.writing || x.dirty.isNone then s
      else
        let d := mpnDomain p
        let i : Item := { off := 0, ext := { units := 17, kind := 3 }, source := .page 3 p,
                          bytes := pageExtent b p x.kind x.first x.claim x.applied s.now, rank := s.rankOf 11 }
        let s := { s with now := s.now + 1 }
        (((s.cleanPage p).updPage p fun x => { x with writing := true, dirty := none, again := false }).mapCount_ 4 1).place d 2 [i]

/-- Dirty pages of a domain. -/
def State.dirtyPages (s : State) (d : Nat) : List Nat :=
  (s.map.pages.filter fun p => mpnDomain p.1 == d && (p.2.dirty.isSome || p.2.writing)).map Prod.fst

/-- A metadata page's stripe is closed: PAGE_MAP for a map page, the anchor's PXA for an anchor page (R226, R237, R267). -/
def State.pageClosed (n : Nat) (i : Item) (s : State) : State :=
  let d := stripeDomainOf n
  let pxa := pxaOf n i.off
  match i.source with
  | .page 3 p =>
    match s.page? p with
    | none => s.dropExtent pxa
    | some x =>
      let s := s.updPage p fun x => { x with writing := false, dirty := if x.again && x.dirty.isNone then some s.tick else x.dirty }
      (s.stageMap d 0 (s.rankOf 11) [{ ashlar := p, op := 14, target := pxa, units := 17 }] none).updPage p fun y => { y with again := x.again }
  | .page 6 _ => s.updSdom d fun x => { x with anchorPxa := pxa }
  | .page (k + 7) x => s.updSdom d fun y =>
      { y with fresh := (y.fresh.filter fun t => !(t.1 == k + 7 && t.2.1 == x % 2 ^ 32)) ++ [(k + 7, x % 2 ^ 32, pxa)] }
  | .page 4 k =>
    let old := s.indexPage d (k % 2 ^ 40)
    let s := if old.pxa = 0 then s else s.dropExtent old.pxa
    s.updIndexPage d (k % 2 ^ 40) fun x => { x with pxa := pxa }
  | _ => s

/-! ### Extents that move (R269, R271, R277) -/

/-- EXTENT_MOVE is durable: the extent is at its new PXA, forwarding and index entries name it (R269, R271). -/
def State.moveExtent (old new : Nat) (s : State) : State :=
  match s.stripe.extents.get? old with
  | none => s.dropExtent new
  | some e =>
    let fwd : Tab Nat := (s.stripe.forward.mapVals fun v => if v = old then new else v).set old new
    let s := s.indexMove (stripeDomainOf (pxaStripe old)) old new
    let s := { s with
      stripe.extents := (s.stripe.extents.del old).set new e,
      stripe.forward := fwd,
      stripe.copies := s.stripe.copies.del old }
    let s := s.updStripe (pxaStripe old) fun t => { t with live := t.live - e.units }
    let s := s.stripeCount 5 1
    let paid := (s.segment (s.stripeOf (pxaStripe old)).segment).byEvac
    let s := { s with stripe.rebuild := { s.stripe.rebuild with progress := s.stripe.rebuild.progress + (if paid then 256 * e.units else 0) } }
    let cap := forwardCapacity s.dramBytes
    let high := decide (0 < cap) && decide (9 * cap ≤ 10 * s.stripe.forward.length)
    if high && !s.stripe.fwdHigh then
      ({ s with stripe.fwdHigh := true }).raise Ev.forwardAreaHigh (le 8 s.stripe.forward.length ++ le 8 cap)
    else if !high then { s with stripe.fwdHigh := false } else s

/-- An extent is being copied. -/
def State.copying (s : State) (p : Nat) : Bool :=
  s.stripe.copies.has p || s.flash.jobs.any fun j => j.2.use == .copy p

/-- One page leaves the index cache, or is written back first when it is dirty. -/
def State.dropIndexPage (k : Nat) (x : IndexPage) (s : State) : State :=
  let d := k / 2 ^ 40
  let p := k % 2 ^ 40
  if x.dirty then
    let i : Item := { off := 0, ext := { units := 17, kind := 4 }, source := .page 4 k,
                      bytes := pageExtent (x.body.getD []) (d * 2 ^ 32) 9 (8 * p) (s.claimOf d) s.wp.wsn s.now,
                      rank := s.rankOf 11 }
    ((s.updIndexPage d p fun x => { x with dirty := false }).place d 2 [i])
  else s.updIndexPage d p fun x => { x with body := none }

/-- An index page is on its way to flash. -/
def State.indexOut (s : State) (k : Nat) : Bool :=
  (s.stripe.stripes.any fun t => t.2.items.any fun i => i.source == .page 4 k) ||
    ((s.sdom (k / 2 ^ 40)).queues.getD 2 []).any fun i => i.source == .page 4 k

/-- A page of the newest checkpoint, or of one being written, stands at a PXA. -/
def StripeDomain.names (x : StripeDomain) (p : Nat) : Bool :=
  x.anchor == p || x.anchorPxa == p || x.tables.any (fun t => t.2.2 == p) || x.fresh.any fun t => t.2.2 == p

/-- Write a page of kind 3 to 6 again, so that its entry names another place (R269, R277): map and index pages through stream 2, once
they are in DRAM; the pages that a checkpoint names by a forced CHECKPOINT. One that nothing names is dead (R268). -/
def State.rewritePage (p : Nat) (rank : Nat) (s : State) : State :=
  let d := stripeDomainOf (pxaStripe p)
  if (s.sdom d).names p then s.updSdom d fun x => { x with checkpointWanted := true }
  else match s.map.pages.find? fun q => q.2.pxa == p, s.wp.index.find? fun q => q.2.pxa == p with
    | some q, _ =>
      if q.2.body.isNone then s.fetchPage q.1 rank
      else (s.updPage q.1 fun x => { x with dirty := if x.dirty.isNone then some s.tick else x.dirty }).writeBack q.1
    | none, some q =>
      if s.indexOut q.1 then s
      else if q.2.body.isNone then s.fetchIndex (q.1 / 2 ^ 40) (q.1 % 2 ^ 40) rank
      else s.dropIndexPage q.1 { q.2 with dirty := true }
    | none, none => s.dropExtent p

/-- Copy a live extent out (R277): kinds 1 and 2 as ciphertext into stream 1, pages again through stream 2, a CHECKPOINT for a meta
extent. -/
def State.copyExtent (p : Nat) (e : Extent) (rank : Nat) (s : State) : State :=
  if e.kind = 1 || e.kind = 2 then
    if s.copying p || s.heldExtent p then s else s.readUnits (.copy p) rank p e.units
  else if e.kind = 7 then s.updSdom (stripeDomainOf (pxaStripe p)) fun x => { x with checkpointWanted := true }
  else s.rewritePage p rank

/-- Copy the live extents of a stripe out (R277). -/
def State.copyOut (n rank : Nat) (s : State) : State :=
  (s.stripe.extents.filter fun e => pxaStripe e.1 == n).foldl (fun s e => s.copyExtent e.1 e.2 rank) s

/-- Stripes of a segment, in row order. -/
def State.rowsOf (s : State) (g : Nat) : List (Nat × Stripe) := s.stripe.stripes.filter fun t => t.2.segment == g

/-- Live extents left in a segment. -/
def State.liveIn (s : State) (g : Nat) : Nat :=
  let ns := (s.rowsOf g).map Prod.fst
  (s.stripe.extents.filter fun e => ns.contains (pxaStripe e.1)).length

/-! ### Durable records (R263, R272, R274) -/

/-- STRIPE_CLOSE is durable: the stripe is closed (step 12); copies and pages in it take effect, writes and the staging log
move on, and the stream goes on (R263, R271). The copy of an extent that a hold keeps in its place is given up (R170). -/
def State.strideClosed (n stamp : Nat) (s : State) : State :=
  let t := s.stripeOf n
  let d := stripeDomainOf n
  if t.state ≠ .open then s
  else
    let s := s.closedStripe n stamp
    let s := t.items.foldl (fun s i => match i.source with
      | .copy old =>
        if s.heldExtent old then ({ s with stripe.copies := s.stripe.copies.del old } : State).dropExtent (pxaOf n i.off)
        else s.journalWrite d i.rank (.extentMove old (pxaOf n i.off) i.ext.units i.ext.kind) 0
      | .page .. => s.pageClosed n i
      | _ => s) s
    (s.settleWrites.releaseStaging.settleSync).fill d t.stream

/-- MEMBER_REPLACE is durable: the replacement is a cell; the old block group is erased and returned when its module can
(R279, R284). -/
def State.memberReplaced (g cell old new : Nat) (s : State) : State :=
  let s := s.updSegment g fun x =>
    { x with cells := x.cells.set cell new, replacement := x.replacement.del cell,
             missing := x.missing.filter (· != cell), replaced := if x.replaced.contains cell then x.replaced else x.replaced ++ [cell],
             retired := x.retired ++ [old] }
  let s := s.updBlock new fun b => { b with place := .segment g }
  let s := if s.addrMissing old then s.updBlock old fun b => { b with place := .out }
    else s.queueErase old (segmentDomain g) (s.rankOf 9)
  s.checkAllRetired

/-- CHECKPOINT is durable: the window starts at its frame; older frames may be reclaimed; meta extents below its low_wsn, and the
pages that the checkpoint before it named, are dead (R268, R274). -/
def State.checkpointed (d low seq : Nat) (s : State) : State :=
  let j := s.journal d
  let s := s.updJournal d fun j =>
    { j with checkpointSeq := seq, checkpointLow := low, kept := j.kept.filter fun f => decide (seq ≤ f.seq) }
  let x := s.sdom d
  let s := s.updSdom d fun x =>
    { x with checkpointWanted := false, anchorPxa := 0, anchor := x.anchorPxa, tables := x.fresh, fresh := [], tablesOut := false }
  let s := (x.anchor :: x.tables.map fun t => t.2.2).foldl (fun s p => s.dropExtent p) s
  let dead := (s.stripe.extents.filter fun e => e.2.kind == 7 && stripeDomainOf (pxaStripe e.1) == d && decide (e.2.wsn < low)).map
    Prod.fst
  let s := dead.foldl (fun s p => s.dropExtent p) s
  j.trio.foldl (fun s m =>
    s.issue { id := 0, module := m, opcode := 14, domain := d, claim := s.claimOf d, use := .reclaim d, param := seq }) s

/-- What a record does once it is durable (R272). -/
def State.durable (d : Nat) (r : JRecord) (s : State) : State :=
  match r.body with
  | .stripeOpen n _ _ _ _ => (s.updStripe n fun t => { t with opened := true }).handOver n
  | .stripeClose n _ _ _ _ _ => s.strideClosed n r.stamp
  | .extentMove old new _ _ => s.moveExtent old new
  | .memberReplace g cell old new => s.memberReplaced g cell old new
  | .checkpoint _ low seq => s.checkpointed d low seq
  | .domainSettings level mode table flags b =>
    let old := s.reduceOf d
    let s := if b ≠ old.bucketLog2 then
        { s with wp.index := s.wp.index.keep fun k _ => k / 2 ^ 40 != d } else s
    let s := { s with wp.reduce := s.wp.reduce.set d { level := level, mode := mode, table := table, flags := flags, bucketLog2 := b } }
    let waits := s.wp.settings.filter fun x => x.2.1 == d
    let s := match waits.head? with
      | some w => ({ s with wp.settings := s.wp.settings.filter fun x => x != w }).replyTo w.1 St.ok 0 []
      | none => s
    s
  | .lostClear n =>
    let gone := (s.stripeOf n).state == .lost && !s.stripe.segments.has (s.stripeOf n).segment
    { s with stripe.lost := s.stripe.lost.del n, stripe.stripes := if gone then s.stripe.stripes.del n else s.stripe.stripes }
  | _ => s

/-- A frame is durable (R272): acknowledged by the trio, or by what is left of it with the mirror peer, and by the mirror
peer while one is live. -/
def State.frameDurable (s : State) (j : Journal) (f : JFrame) : Bool :=
  let n := (f.acks.filter j.trio.contains).length
  f.unmirrored.isEmpty && (decide (3 ≤ n) ||
    (j.degraded && (decide (2 ≤ n) || (decide (1 ≤ n) && s.mirror.state == .live))))

/-- Make a domain's oldest frames durable as far as their acknowledgements go. -/
def State.makeDurable (d : Nat) : Nat → State → State
  | 0, s => s
  | fuel + 1, s =>
    let j := s.journal d
    match j.flight with
    | [] => s
    | f :: rest =>
      if s.frameDurable j f then
        let s := s.updJournal d fun j => { j with flight := rest, kept := j.kept ++ [f] }
        (f.records.foldl (fun s r => s.durable d r) s).makeDurable d fuel
      else s

/-! ### Replay (R275, R352) -/

/-- Apply one record of a frame to the tables; the extents of a closed stripe come from its summary (R275). -/
def State.replayRecord (d : Nat) (summary : Nat → List Item) (r : JRecord) (s : State) : State :=
  match r.body with
  | .stripeOpen n stream row seg _ =>
    let t : Stripe := { stream := stream, segment := seg, row := row, opened := true }
    let s := if s.stripe.stripes.has n then s else { s with stripe.stripes := s.stripe.stripes.set n t }
    s.updSegment seg fun x => { x with rowsWritten := max x.rowsWritten (row + 1) }
  | .stripeClose n recs low _ _ sum =>
    if (s.stripeOf n).state ≠ .open then s
    else
      let s := s.updStripe n fun t => { t with items := summary n, records := recs, summaryUnits := sum, lowWsn := low, highWsn := r.wsn }
      let t := s.stripeOf n
      (s.enterExtents n t).updStripe n fun t =>
        { t with state := .closed, live := (t.items.map fun i => i.ext.units).sum, closeStamp := r.stamp, items := [] }
  | .stripeAbandon n _ _ => s.updStripe n fun t => { t with state := .abandoned }
  | .extentMove old new _ _ =>
    match s.stripe.extents.get? old with
    | some e => { s with stripe.extents := (s.stripe.extents.del old).set new e,
                         stripe.forward := (s.stripe.forward.mapVals fun v => if v = old then new else v).set old new }
    | none => s
  | .segmentOpen g data parity stream lid row rows ep =>
    let new : Segment := { data := data, parity := parity, stream := stream, layoutId := lid, layoutRow := row, rowsTotal := rows,
                           epoch := ep, openStamp := r.stamp }
    if s.stripe.segments.has g then s else { s with stripe.segments := s.stripe.segments.set g new }
  | .segmentMember g first cells => s.updSegment g fun x =>
      { x with cells := (x.cells ++ List.replicate (first + cells.length - x.cells.length) 0).take first ++ cells ++
                 x.cells.drop (first + cells.length) }
  | .segmentState g st =>
    let stays (n : Nat) (t : Stripe) : Bool := t.segment != g || s.stripe.forward.any fun f => pxaStripe f.1 == n
    if st = 0 then { s with stripe.segments := s.stripe.segments.del g, stripe.stripes := s.stripe.stripes.keep stays }
    else s.updSegment g fun x => { x with state := if st = 1 then .open else if st = 2 then .sealed else x.state }
  | .memberReplace g cell _ new => s.updSegment g fun x => { x with cells := x.cells.set cell new }
  | .stripeLost n cause missing =>
    let cells := ((List.range 64).filter fun i => bit missing i).length
    let e : LostEntry := { cause := cause, missing := cells, swept := false, stamp := r.stamp }
    { s.updStripe n (fun t => { t with state := .lost }) with
      stripe.lost := s.stripe.lost.set n e,
      map.sweeps := if s.map.sweeps.any fun x => x.1 == n then s.map.sweeps else s.map.sweeps ++ [(n, 0)] }
  | .checkpoint anchor low seq =>
    (s.updJournal d fun j => { j with checkpointSeq := seq, checkpointLow := low }).updSdom d fun x => { x with anchor := anchor }
  | .lostClear n => { s with stripe.lost := s.stripe.lost.del n }
  | .domainSettings level mode table flags b =>
    { s with wp.reduce := s.wp.reduce.set d { level := level, mode := mode, table := table, flags := flags, bucketLog2 := b } }

/-- Frames in frame_seq order from the newest CHECKPOINT on, one copy of each, up to the first that is missing (R275). -/
def orderFrames (fs : List JFrame) : List JFrame :=
  let seqs := (fs.map JFrame.seq).eraseDups
  let top := seqs.foldl max 0
  let marks := fs.flatMap fun f => f.records.filterMap fun r => match r.body with
    | .checkpoint _ _ q => some q
    | _ => none
  let start := if marks.isEmpty then seqs.foldl min top else marks.foldl max 0
  let run := (List.range (top + 1 - start)).map fun i => fs.find? fun f => f.seq == start + i
  (run.takeWhile Option.isSome).filterMap id

/-- A stripe still open after the replay is discarded and its segment sealed (R275). -/
def State.discardOpen (d : Nat) (s : State) : State :=
  (s.stripe.stripes.filter fun t => stripeDomainOf t.1 == d && t.2.state == .open).foldl (fun s t =>
    let s := s.updStripe t.1 fun x => { x with state := .discarded, items := [], programs := [] }
    ((s.sealSegment t.2.segment).stripeCount 4 1).raise Ev.stripeDiscarded (le 5 t.1 ++ le 1 t.2.stream)) s

end Sys2Proof.Machine
end

