-- ==== Sys2Proof/Machine/IoOps.lean ====
section
/-! DEFINITION. Fetching I/O capsules and admitting writes (R15, R144, R161, R162, R166, R207, R281). -/

namespace Sys2Proof.Machine

/-- A capsule of an opcode waits at the front of a READY queue connection of a live controller, and fetching goes on (R46,
R144). -/
def State.frontCapsule (s : State) (conn : Nat) : Option (List Byte) :=
  match (s.conn conn).use, (s.conn conn).inbox with
  | .nvme _ _, b :: _ =>
    if (s.conn conn).state == .ready && (s.ctrlOf conn).isSome && s.fetching then some b else none
  | _, _ => none

/-- Namespace Not Ready. -/
def nsNotReady : Nat := 0x82

/-- A Write Zeroes that covers part of a sett: the rest of that sett is decrypted and encrypted again, so it needs the key (R207;
DEDUCED, log entry 152). -/
def partSett (cap : List Byte) (lbaf : Nat) : Bool :=
  sqSlba cap % lbasPerSett lbaf != 0 || (sqNlb cap + 1) % lbasPerSett lbaf != 0

/-- Run an I/O command: the capsule is taken, its fetch stamp granted, and the checks of R144 made. A read or write of a
namespace whose key slot is empty completes with Namespace Not Ready (R207). -/
def ioRun (conn opcode : Nat) (s : State) (effect : List Byte → Nat → Nat → State → State) : Result :=
  match s.frontCapsule conn, s.ctrlOf conn with
  | some cap, some c =>
    if sqOpcode cap ≠ opcode || s.qidOf conn = 0 then .next s
    else
      let k := s.now
      let t := s.granted.popCapsule conn
      match (s.ctrl? c).bind Controller.subsys with
      | none => .next (t.refuseCapsule conn cap Nv.invalidOpcode)
      | some sub =>
        match t.ioCheck conn sub cap with
        | some st => .next (t.refuseCapsule conn cap st)
        | none =>
          let n := t.ns? (sqNsid cap)
          let slot := (n.map Namespace.keySlot).getD 0xFF
          let ciphers := opcode = 1 || opcode = 2 || (opcode = 8 && partSett cap ((n.map Namespace.lbaf).getD 0))
          if ciphers && (t.dataKey slot).isNone then
            .next ((t.keyMissing slot (sqNsid cap)).refuseCapsule conn cap nsNotReady)
          else .next (effect cap c k t)
  | _, _ => .next s

/-- A command as it is fetched. -/
def State.freshCmd (s : State) (kind : CmdKind) (conn c k : Nat) (cap : List Byte) (n : Namespace) (rank : Nat) : Cmd :=
  let wce := ((s.ctrl? c).map Controller.wce).getD true
  let move := kind == .write || kind == .read || kind == .zeroes
  { kind := kind, conn := conn, cntlid := c, cid := sqCid cap, nsid := sqNsid cap, domain := n.domain, capsule := cap, rank := rank,
    cls := n.cls, slba := if move then sqSlba cap else 0, nlb := if move then sqNlb cap + 1 else 0,
    flushPoint := !wce || ((kind == .write || kind == .zeroes) && bit (cdw cap 12) 30), since := k / 64,
    accepted := (s.conn conn).takenAt, reduce := s.reduceOf n.domain }

def State.addCmd (k : Nat) (c : Cmd) (s : State) : State := { s with nvme.cmds := s.nvme.cmds.set k c }

/-! ### Admission (R161, R162, R281) -/

/-- Writes waiting at step 2. -/
def Cmd.waits (c : Cmd) : Bool := c.writes && c.stage == 2 && !c.admitted && !c.torn && (c.kind != .dealloc || c.fetched)

/-- The write considered next: lowest rank, then lowest fetch stamp. Writes of classes B and C are not considered while the
floor gate is closed (R281). -/
def State.nextWrite (s : State) : Option (Nat × Cmd) :=
  let ws := s.nvme.cmds.filter fun x => x.2.waits && (s.stripe.rebuild.gate.isNone || classOf x.2.cls == 1)
  ws.foldl (fun (best : Option (Nat × Cmd)) x => match best with
    | none => some x
    | some y => if x.2.rank < y.2.rank then some x else some y) none

def ingestSlots : Nat := 8192

/-- Ingest slots in use by class A, and by the others. -/
def State.slotsBy (s : State) (a : Bool) : Nat :=
  ((s.nvme.cmds.filter fun x => x.2.admitted && x.2.wsn == 0 && x.2.writes && (classOf x.2.cls == 1) == a).map fun x => x.2.slots).sum

/-- Free slots for a class: those kept for class A are free to it alone (R161, R162). -/
def State.slotsFree (s : State) (a : Bool) : Nat :=
  let kept := s.wp.classASlots
  if a then ingestSlots - s.wp.slotsUsed
  else ingestSlots - s.slotsBy false - max kept (s.slotsBy true)

/-- The two conditions of R161. -/
def State.admissible (s : State) (c : Cmd) : Bool :=
  decide (c.slots ≤ s.slotsFree (classOf c.cls == 1)) &&
    decide (s.wp.occupancy + s.wp.reserved + 4181 + c.need ≤ s.wp.limit)

/-- Take slots and reservation of a write, and start fetching its data (R161). -/
def State.admit_ (k : Nat) (s : State) : State :=
  match s.cmdOf? k with
  | none => s
  | some c =>
    let s := { s with wp.reserved := s.wp.reserved + c.need, wp.slotsUsed := s.wp.slotsUsed + c.slots,
                      wp.stalled := if bit s.wp.stalled c.rank then s.wp.stalled - 2 ^ c.rank else s.wp.stalled }
    let s := (s.updNCmd k fun c => { c with admitted := true }).stagingClose
    match c.kind with
    | .write => s.post c.conn (.read (sglAddr c.capsule) (sglKey c.capsule) (sglLen c.capsule)) (.writeData k)
    | .zeroes =>
      let lbaf := ((s.ns? c.nsid).map Namespace.lbaf).getD 0
      let xs := partialSetts lbaf c.slba c.nlb
      let per := lbasPerSett lbaf
      let work (x : Nat) : SettWork :=
        let lo := max c.slba (x * per)
        let hi := min (c.slba + c.nlb) ((x + 1) * per)
        { data := zeros ((hi - lo) * 512), partial_ := true, off := (lo - x * per) * 512, merged := false }
      if xs.isEmpty then (s.updNCmd k fun c => { c with stage := 6, fetched := true }).reserveMap k
      else
        let setts : Tab SettWork := xs.foldl (fun (t : Tab SettWork) x => t.set x (work x)) []
        s.updNCmd k fun c => { c with fetched := true, stage := 3, setts := setts, ashlars := ashlarsOf setts }
    | _ => (s.updNCmd k fun c => { c with stage := 6 }).reserveMap k

/-- Admit waiting writes in order while they fit. A write that has to wait when it comes is counted (R161, R185). -/
def State.considerWrites : Nat → State → State
  | 0, s => s
  | fuel + 1, s =>
    match s.nextWrite with
    | none => s
    | some (k, c) => if s.admissible c then (s.admit_ k).considerWrites fuel else s

/-! ### Order of writes of one sett (R166) -/

/-- A write touches a sett of its namespace. A Deallocate whose ranges have not arrived may touch any. -/
def State.touchesSett (s : State) (c : Cmd) (x : Nat) : Bool :=
  let lbaf := ((s.ns? c.nsid).map Namespace.lbaf).getD 0
  let inRun (lo n : Nat) : Bool := decide (0 < n) && decide ((settRun lbaf lo n).1 ≤ x) && decide (x ≤ (settRun lbaf lo n).2)
  if c.kind = .dealloc then bit (cdw c.capsule 11) 2 && (!c.fetched || c.ranges.any fun r => inRun r.1 r.2) else inRun c.slba c.nlb

def State.partialOf (s : State) (c : Cmd) (x : Nat) : Bool :=
  let lbaf := ((s.ns? c.nsid).map Namespace.lbaf).getD 0
  c.kind != .dealloc && (partialSetts lbaf c.slba c.nlb).contains x

/-- Every earlier-fetched write touching a sett has been placed or has failed. -/
def State.mergeClear (s : State) (k : Nat) (c : Cmd) (x : Nat) : Bool :=
  !(s.nvme.cmds.any fun y => decide (y.1 < k) && y.2.writes && y.2.nsid == c.nsid && y.2.wsn == 0 && s.touchesSett y.2 x)

/-- Every earlier-fetched partial write of a sett this write touches has been placed or has failed. -/
def State.placeClear (s : State) (k : Nat) (c : Cmd) : Bool :=
  !(s.nvme.cmds.any fun y => decide (y.1 < k) && y.2.writes && y.2.nsid == c.nsid && y.2.wsn == 0 && y.2.kind != .dealloc &&
    (partialSetts (((s.ns? c.nsid).map Namespace.lbaf).getD 0) y.2.slba y.2.nlb).any fun x => s.touchesSett c x)

/-! ### Index pages in DRAM (R169, R174) -/

/-- The index cache holds at most its size: as many pages as are too many, none with a hold, leave it once they stand in flash
(R184). -/
def State.trimIndex (s : State) : State :=
  let cached := s.wp.index.filter fun x => x.2.body.isSome
  let excess := cached.length - 256 * s.wp.cacheMib
  if excess = 0 then s
  else
    let held (k : Nat) : Bool := s.wp.holds.any fun h => h.1 / 16 / 2 ^ 36 == k / 2 ^ 40 && h.1 / 16 % 2 ^ 36 / 8 == k % 2 ^ 40
    let leaving := (cached.filter fun x => s.indexOut x.1).length
    let free := cached.filter fun x => !held x.1 && !s.indexOut x.1 && !x.2.rebuilding && (x.2.dirty || x.2.pxa != 0)
    (free.take (excess - leaving)).foldl (fun s x => s.dropIndexPage x.1 x.2) s

end Sys2Proof.Machine
end

