-- ==== Sys2Proof/Machine/MapEngine.lean ====
section
/-! DEFINITION. The commands of the map engine and the metadata cache (R224, R228, R234 to R247). -/

namespace Sys2Proof.Machine

/-! ### Pages from flash (R245) -/

/-- A page extent passes its trailer check against the page table entry (R219, R245). -/
def trailerOk (p : Nat) (x : Page) (b : List Byte) : Bool :=
  fieldAt b 4096 5 == p && fieldAt b (4096 + 5) 1 == x.kind && fieldAt b (4096 + 6) 1 == mpnDomain p &&
    fieldAt b (4096 + 8) 8 == x.first && fieldAt b (4096 + 0x28) 4 == (crc32c (b.take 4096)).toNat

/-- The page's finished read. -/
def State.pageJob (s : State) (p : Nat) : Option (Nat × ReadJob) := s.flash.jobs.find? fun j => j.2.use == .mapPage p

/-- A page arrives (R245): used when its trailer passes; else read once more from the stripe's parity; a repaired page is dirty
and is written back, one that fails again is lost (R236). -/
def State.pageArrives (p j : Nat) (x : ReadJob) (g : Page) (s : State) : State :=
  let drop (s : State) : State := { s with flash.jobs := s.flash.jobs.del j }
  let good := match x.result with
    | some b => trailerOk p g b
    | none => false
  let lose (s : State) : State :=
    (((drop s).updPage p fun y => { y with lost := true, reading := false }).mapFault 2 0 g.first p).recreatePage p
  if good then
    let b := x.result.getD []
    let s := (drop s).updPage p fun y =>
      { y with body := some (b.take 4096), reading := false, used := true, claim := fieldAt b (4096 + 0x10) 8,
               applied := fieldAt b (4096 + 0x18) 8, dirty := if x.failedCheck then some s.tick else y.dirty }
    let s := s.mapCount_ 3 1
    if x.failedCheck then (s.mapFault 1 0 g.first p).writeBack p else s
  else if x.recon || x.result.isNone then lose s
  else
    let again : ReadJob :=
      { x with recon := true, failedCheck := true, done := false, result := none, bad := x.bad ++ x.want,
               got := x.got.keep fun k _ => !x.want.contains k }
    (s.setJob j again).settle j

/-- MAP_PAGE_READ_COMPLETE (R236, R245): what waited for the page goes on. -/
def execMapPageReadComplete (page : Nat) (s : State) : Result :=
  match s.pageJob page, s.page? page with
  | some (j, x), some g => dataIf x.done s (s.pageArrives page j x g).resumeReads
  | _, _ => .next s

/-! ### Applying records (R224) -/

/-- Pages that are not resident and that a delta needs: its leaf, or the leaf's sett pages. -/
def State.leafNeeds (s : State) (l : Layer) (a : Nat) : List Nat :=
  let p := s.leafOf l a
  if p = 0 then []
  else match s.pageBody p with
    | none => [p]
    | some b => (settPagesOf b).filter fun q => (s.pageBody q).isNone

/-- Pages that a LOST op needs: its own, and for a sett page the leaves at its place, of which those that name it have used_setts
above them (R222, R235). -/
def State.lostNeeds (s : State) (page : Nat) : List Nat :=
  match s.page? page with
  | none => []
  | some x =>
    let leaves := if x.kind = 2 then (s.map.layers.filter fun l => l.1 / 2 ^ 32 == mpnDomain page).map fun l => s.leafOf l.2 x.first
      else []
    (page :: leaves).eraseDups.filter fun p => p != 0 && (s.pageBody p).isNone

def State.deltaNeeds (s : State) (r : Staged) (d : Delta) : List Nat :=
  if d.op = 13 then s.lostNeeds d.ashlar
  else match s.layer? r.domain (s.headLayer r.nsid) with
  | none => []
  | some l =>
    if d.op ≤ 6 || d.op = 12 || d.op = 16 then s.leafNeeds l d.ashlar
    else if d.op ≤ 8 then
      ((List.range (d.target / 256 + 2)).map fun i => s.leafNeeds l (min (d.ashlar + 256 * i) (d.ashlar + d.target - 1))).flatten
    else []

/-- Read pages in at a rank. -/
def State.fetchPages (ps : List Nat) (rank : Nat) (s : State) : State := ps.eraseDups.foldl (fun s p => s.fetchPage p rank) s

/-- A record may be applied: its stripes are closed, and every record of lower WSN has been applied (R224). -/
def State.mayApply (s : State) (r : Staged) : Bool :=
  !r.applied && !r.dropped && s.recordClosed r && s.power.drain == .none && s.holdsClaim r.domain &&
    s.wp.log.all fun q => q.applied || q.dropped || decide (r.wsn ≤ q.wsn)

/-- Index pages that the inserts and increments of a record need and that are not in DRAM, by domain key (R173). A page being
rebuilt takes neither: its counts come from the map. -/
def State.indexNeeds (s : State) (r : Staged) : List Nat :=
  let b := (s.reduceOf r.domain).bucketLog2
  let buckets := r.deltas.foldl (fun (acc : List Nat × List (List Byte)) d =>
    let mine := acc.2.take d.fpSlots
    let hit : List Nat := match s.extent? d.target with
      | some e => (if e.tagged then [e.bucket] else []) ++ e.conts.map fun c => c.bucket
      | none => []
    let own := if d.action = 2 && d.op = 3 then hit
      else if d.action = 1 || d.action = 2 then (mine.filter fun f => f.any (· != 0)).map (bucketOf b) else []
    (acc.1 ++ own, acc.2.drop d.fpSlots)) (([], r.fps) : List Nat × List (List Byte))
  if b = 0 then []
  else ((buckets.1.map (· / 8)).eraseDups).filter fun p =>
    let x := s.indexPage r.domain p
    x.body.isNone && !x.rebuilding

/-- The reply of a layer packet whose record has been applied (R230 to R232, R234). -/
def State.layerReply (r : Staged) (s : State) : State :=
  match r.acc, r.deltas with
  | some acc, [d] =>
    let label := match s.packet? acc with
      | some p => p.bytes 8 16
      | none => zeros 16
    if d.op = 9 then
      (s.updLayer r.domain d.target fun l => { l with label := label }).replyTo acc St.ok d.target []
    else if d.op = 11 then s.replyTo acc St.ok 0 []
    else s.replyTo acc St.ok d.ashlar []
  | none, [d] => if d.op = 9 then s.deltaFrozen r.nsid d.target else s
  | _, _ => s

/-- Apply a record: all its deltas together; its reservation is returned and its packet replied to (R224, R238). -/
def State.applyRecord (r : Staged) (s : State) : State :=
  let s := (s.applyDeltas r r.deltas r.fps).markMerges r
  let s := (r.deltas.filter fun d => decide (d.op ≤ 6)).foldl
    (fun s d => s.touchPath r.domain (s.headLayer r.nsid) d.ashlar d.sett r.rank) s
  let s := s.updRecord r.wsn fun q => { q with applied := true }
  let s := { s with
    map.reservedEntries := s.map.reservedEntries - r.pages,
    wp.applied := s.wp.applied.set r.domain (max (s.wp.applied.getD r.domain 0) r.wsn) }
  let s := s.updDomain r.domain fun x => { x with highWsn := max x.highWsn r.wsn }
  (s.layerReply r).releaseStaging.pruneGhosts

/-- MAP_APPLY_RECORD (R173, R224, write-path step 13): the map and index pages it needs are read in first. -/
def execMapApplyRecord (wsn : Nat) (s : State) : Result :=
  match s.record? wsn with
  | none => .next s
  | some r =>
    let needs := r.deltas.flatMap (s.deltaNeeds r)
    let index := s.indexNeeds r
    dataIf (s.mayApply r) s
      (if needs.isEmpty && index.isEmpty then s.applyRecord r
       else
         let t := index.foldl (fun s p => s.fetchIndex r.domain p r.rank) (s.fetchPages needs r.rank)
         if (r.deltas.flatMap (t.deltaNeeds r)).isEmpty && (t.indexNeeds r).isEmpty then t.applyRecord r else t)

/-! ### Cold merges (R228) -/

/-- The table of a split ashlar that a cold merge may take: old enough, with no sett of type 0 or 4. -/
def State.coldTable (s : State) (l : Layer) (a : Nat) : Option (List MapEntry) :=
  match s.pageBody (s.leafOf l a) with
  | none => none
  | some b =>
    let r := rawEntry b (a % 256)
    let last := fieldAt r 12 4
    let old := decide (s.map.mergeAge * 10 ^ 9 < (lastWrite s.now - last) * 2 ^ 30)
    if fieldAt r 9 1 % 8 ≠ 3 || !old then none
    else match s.pageBody (splitPage r) with
      | none => none
      | some c =>
        let t := tableOf c (splitSlot r)
        if t.all fun e => e.typ == 1 || e.typ == 2 then some t else none

/-- The cold merge of an ashlar under way. -/
def State.coldOf (s : State) (nsid a : Nat) : Option (Nat × ColdMerge) :=
  s.map.merges.find? fun m => m.2.nsid == nsid && m.2.ashlar == a

def coldUse (nsid a : Nat) : ReadUse → Option (Nat × Bool × Nat)
  | .cold n b x _ whole src => if n = nsid && b = a then some (x, whole, src) else none
  | _ => none

/-- Start the 16 reads of a cold merge. -/
def State.coldStart (nsid a : Nat) (n : Namespace) (s : State) : State :=
  let key := s.flash.nextJob
  let m : ColdMerge := { nsid := nsid, ashlar := a, basis := s.wp.wsn }
  let s := ({ s with map.merges := s.map.merges.set key m, flash.nextJob := key + 1 }).startJob 0x29 (s.rankOf 14) 1
  (List.range 16).foldl (fun s x =>
    let have_ (b : List Byte) (s : State) : State :=
      { s with map.merges := s.map.merges.upd key fun m => { m with setts := m.setts.set x b } }
    match s.settSource n nsid a x with
    | .zero => have_ (zeros 4096) s
    | .data b => have_ b s
    | .flash p u raw whole src => s.readUnits (.cold nsid a x raw whole src) (s.rankOf 14) p u
    | src => s.noteSource n nsid a src |> fun s => { s with map.merges := s.map.merges.del key }) s

/-- Finish a cold merge once every sett is there: one 64 KiB job and a MERGE record (R226, R228). -/
def State.coldFinish (nsid a key : Nat) (m : ColdMerge) (n : Namespace) (s : State) : State :=
  let mine := s.flash.jobs.filter fun j => (coldUse nsid a j.2.use).isSome
  let got := mine.foldl (fun (t : Tab (List Byte)) j =>
    match coldUse nsid a j.2.use, j.2.result with
    | some (x, whole, src), some b => t.set x (settIn whole src b)
    | _, _ => t) m.setts
  if mine.any fun j => !j.2.done then s
  else
    let s := { s with flash.jobs := s.flash.jobs.keep fun k _ => !mine.any fun j => j.1 == k, map.merges := s.map.merges.del key }
    if !((List.range 16).all got.has) then s
    else
      let body := (List.range 16).flatMap fun x => fit 4096 (got.getD x [])
      let s := if (s.reduceOf n.domain).tableMissing s.templates.active then s.wpCount 16 1 else s
      let z := s.stored (s.reduceOf n.domain) s.templates.active n.keySlot body
      let units := z.2.2.length / 256
      let d : Delta := { ashlar := a, op := 12, action := 3, raw := z.1, units := units, clen := z.2.1, target := 0 }
      let r := bareRecord 3 n.domain (s.claimOf n.domain) (s.rankOf 14) nsid m.basis [d]
      let r : Staged := { r with extents := [z.2.2], keySlot := n.keySlot, marks := if m.touched then some 1 else none }
      s.stageLater { r with units := r.metaUnits + units }

/-- COLD_MERGE_SWEEP (R228). -/
def execColdMergeSweep (nsid ashlar : Nat) (s : State) : Result :=
  match s.ns? nsid with
  | none => .next s
  | some n =>
    match s.layer? n.domain n.layer with
    | none => .next s
    | some l =>
      let runs := decide (0 < s.map.mergeAge) && s.owns n.domain && !s.footing.active && s.power.drain == .none
      match s.coldOf nsid ashlar with
      | some (key, m) => dataIf runs s (s.coldFinish nsid ashlar key m n)
      | none =>
        let needs := s.leafNeeds l ashlar
        dataIf runs s
          (if !needs.isEmpty then s.fetchPages needs (s.rankOf 14)
           else if (s.coldTable l ashlar).isSome then
             let t := s.coldStart nsid ashlar n
             match t.coldOf nsid ashlar with
             | some (key, m) => t.coldFinish nsid ashlar key m n
             | none => t
           else s)

/-! ### Write-back, eviction, the spoil buffer, pinning (R237, R239, R243) -/

/-- WRITEBACK_AGE_EXPIRY (R237). -/
def execWritebackAgeExpiry (page : Nat) (s : State) : Result :=
  let old := match (s.page? page).bind Page.dirty with
    | some t => s.expired (t + ticksOf (s.map.writebackAge * 1000000000))
    | none => false
  dataIf (old && !s.footing.active && s.owns (mpnDomain page) && s.power.drain == .none) s (s.writeBack page)

/-- Space is needed in the map area: its resident pages fill it (R237). -/
def State.mapFull (s : State) : Bool :=
  decide (0 < s.map.area) && decide (s.map.area ≤ 4096 * (s.map.pages.filter fun p => p.2.body.isSome).length)

/-- Second chance from the hand: a used page is passed once. -/
def clockPick (hand : Nat) (ps : List (Nat × Page)) : Option Nat :=
  let order := (ps.filter fun p => decide (hand < p.1)) ++ ps.filter fun p => decide (p.1 ≤ hand)
  match order.find? fun p => !p.2.used with
  | some p => some p.1
  | none => order.head?.map Prod.fst

/-- MAP_PAGE_EVICT (R237, R240). -/
def execMapPageEvict (s : State) : Result :=
  let ps := s.map.pages.filter fun p => (p.2.kind == 1 || p.2.kind == 2) && p.2.pins == 0 && p.2.body.isSome
  match clockPick s.map.hand ps with
  | none => .next s
  | some p =>
    let passed := (ps.filter fun q => q.2.used && (if s.map.hand < p then decide (s.map.hand < q.1) && decide (q.1 < p)
      else decide (s.map.hand < q.1) || decide (q.1 < p))).map Prod.fst
    let t := passed.foldl (fun s q => s.updPage q fun x => { x with used := false }) s
    let t := { t with map.hand := p }
    let x := (s.page? p).getD { kind := 0 }
    let t :=
      if x.dirty.isSome then (if !s.footing.active then t.writeBack p else t)
      else if x.writing || x.pxa = 0 then t
      else ((t.cacheDrop p).cleanPage p).updPage p fun x => { x with body := none }
    dataIf s.mapFull s t

/-- SPOIL_DRAIN_ACK (R243): of two entries for one sector the older goes first. -/
def execSpoilDrainAck (seq : Nat) (s : State) : Result :=
  match s.map.spoil.find? fun e => e.seq == seq with
  | none => .next s
  | some e =>
    let older := s.map.spoil.any fun x => x.mpn == e.mpn && x.sector == e.sector && decide (x.seq < seq)
    dataIf (!older) s { s with map.spoil := s.map.spoil.filter fun x => x.seq != seq }

/-- MAP_PIN_COMPLETE (R239): the pages not resident are read in at rank 5; once all are, EV_MAP_PINNED. -/
def execMapPinComplete (nsid : Nat) (s : State) : Result :=
  match s.ns? nsid with
  | none => .next s
  | some n =>
    match s.layer? n.domain n.layer with
    | none => .next s
    | some l =>
      let absent := if l.root = 0 then [] else s.absentPages 7 l.root
      let t := { s with map.pinning := s.map.pinning.filter (· != nsid) }
      let ps := s.layerPages l
      let t := t.countPins n.domain
      dataIf (s.map.pinning.contains nsid) s
        (if absent.isEmpty then ({ t with map.pinned := nsid :: t.map.pinned.filter (· != nsid) }.raise Ev.mapPinned
            (le 4 nsid ++ le 8 ps.length)).mapLevels
         else s.fetchPages absent (s.rankOf 11))

/-! ### Lost sweeps and releases (R234, R235) -/

/-- Leaves and sett pages of a domain. -/
def State.entryPages (s : State) (d : Nat) : List (Nat × Page) :=
  s.map.pages.filter fun p => mpnDomain p.1 == d && (p.2.kind == 1 || p.2.kind == 2)

/-- Entries of a page that name a stripe, without a LOST op staged. -/
def State.entriesNaming (s : State) (n p : Nat) (b : List Byte) : List Delta :=
  (List.range 256).filterMap fun i =>
    let e := parseEntry (rawEntry b i)
    if e.typ = 1 && (pxaStripe e.pxa == n || pxaStripe (s.resolvePxa e.pxa) == n) && !s.lostStaged p i then
      some { ashlar := p, op := 13, sett := i, target := e.pxa }
    else none

/-- LOST_SWEEP (R235): every page of the domain is read in, a LOST op staged for each entry that names the stripe; once all
are applied the sweep ends. -/
def execLostSweep (stripe : Nat) (s : State) : Result :=
  let d := stripeDomainOf stripe
  match s.map.sweeps.find? fun x => x.1 == stripe with
  | none => .next s
  | some (_, marked) =>
    let pages := s.entryPages d
    let absent := (pages.filter fun p => p.2.body.isNone).map Prod.fst
    let found := pages.map fun p => s.entriesNaming stripe p.1 (p.2.body.getD [])
    let open_ := s.staged.any fun r => !r.applied && !r.dropped && r.marks == some stripe
    let all := (found.map List.length).sum
    let t :=
      if !absent.isEmpty then s.fetchPages absent (s.rankOf 9)
      else if 0 < all then
        let t := (found.filter fun ds => !ds.isEmpty).foldl (fun s ds =>
          s.stageLater { bareRecord 3 d (s.claimOf d) (s.rankOf 9) 0 0 ds with marks := some stripe }) s
        { t.indexPurge stripe with map.sweeps := t.map.sweeps.map fun x => if x.1 = stripe then (stripe, marked + all) else x }
      else if open_ then s
      else
        let t := s.indexPurge stripe
        ({ t with
          map.sweeps := t.map.sweeps.filter fun x => x.1 != stripe,
          stripe.lost := t.stripe.lost.upd stripe fun e => { e with swept := true } }).raise Ev.mapLostSwept
            (le 1 d ++ le 5 stripe ++ le 8 marked)
  dataIf (s.owns d && s.power.drain == .none) s t

/-- LAYER_RELEASE_END (R234): what the release needs is read in, then the tree goes, and the layer record with it. -/
def execLayerReleaseEnd (domain layer : Nat) (s : State) : Result :=
  match s.layer? domain layer with
  | none => .next s
  | some l =>
    let absent := if l.root = 0 then [] else s.absentPages 7 l.root
    let t :=
      if !absent.isEmpty then s.fetchPages absent (s.rankOf 14)
      else
        let t := if l.root = 0 then s else s.releasePage 7 l.root
        let freed := s.map.pages.length - t.map.pages.length
        let t := if l.dropKey then t.refKey l.keySlot false else t
        ({ t with map.layers := t.map.layers.del (layerKey domain layer) }).raise Ev.snapDeleted
          (le 1 domain ++ le 4 layer ++ le 8 freed)
    dataIf (l.kind == 3 && s.owns domain && s.power.drain == .none) s t

/-! ### Map checks and re-checks (R246, R247) -/

/-- Parents of a page: layer roots and directory entries, or for a sett page the leaves that name it (R218). -/
def State.parentsOf (s : State) (p : Nat) : Nat :=
  let roots := (s.map.layers.filter fun l => l.1 / 2 ^ 32 == mpnDomain p && l.2.root == p).length
  let dirs := (s.map.pages.map fun q => match q.2.body with
    | none => 0
    | some b =>
      if 3 ≤ q.2.kind && q.2.kind ≤ 6 then ((List.range 256).filter fun i => childOf b i == p).length
      else if q.2.kind = 1 then boolNat ((settPagesOf b).contains p) else 0).sum
  roots + dirs

/-- Type-1 entries of a domain's pages that name an extent. -/
def State.namersOf (s : State) (d pxa : Nat) : Nat :=
  ((s.entryPages d).map fun p => ((extentsIn (p.2.body.getD [])).filter fun e => s.resolvePxa e.pxa == pxa).length).sum

/-- Entries of a page that match no extent of the ledger (R247). -/
def State.badEntries (s : State) (p : Nat) (b : List Byte) : List Delta :=
  (List.range 256).filterMap fun i =>
    let e := parseEntry (rawEntry b i)
    let ok := match s.extent? e.pxa with
      | some x => x.units == e.units + 1
      | none => false
    if e.typ = 1 && !ok && !s.lostStaged p i then some { ashlar := p, op := 13, sett := i, target := e.pxa } else none

/-- Directory entries of a page whose used_setts is wrong. -/
def State.usedFaults (s : State) (x : Page) : Nat :=
  if x.kind < 3 || 6 < x.kind then 0
  else match x.body with
    | none => 0
    | some b => ((List.range 256).filter fun i =>
        usedOf b i != (if childOf b i = 0 then 0 else s.usedBelow (x.kind - 3) (childOf b i))).length

/-- Tables of a sett page that hold entries and that no split entry names. -/
def State.tableFaults (s : State) (p : Nat) (x : Page) : Nat :=
  match x.kind, x.body with
  | 2, some c => ((List.range 16).filter fun t =>
      !(slice c (256 * t) 256).all (· == 0) && !((s.entryPages (mpnDomain p)).any fun q => q.2.kind == 1 &&
        match q.2.body with
        | none => false
        | some b => (List.range 256).any fun i =>
            let r := rawEntry b i
            fieldAt r 9 1 % 8 == 3 && splitPage r == p && splitSlot r == t)).length
  | _, _ => 0

/-- The end of a map check (R247): findings counted, and with repair mended. -/
def State.endCheck (d : Nat) (repair : Bool) (s : State) : State :=
  let pages := s.map.pages.filter fun p => mpnDomain p.1 == d
  let badRefs := pages.filter fun p => p.2.refs != s.parentsOf p.1
  let badMaps := s.stripe.extents.filter fun e =>
    stripeDomainOf (pxaStripe e.1) == d && (e.2.kind == 1 || e.2.kind == 2) && e.2.mapCount != s.namersOf d e.1
  let badEnts := (s.entryPages d).map fun p => s.badEntries p.1 (p.2.body.getD [])
  let nEnts := (badEnts.map List.length).sum
  let nUsed := (pages.map fun p => s.usedFaults p.2).sum
  let nTabs := (pages.map fun p => s.tableFaults p.1 p.2).sum
  let faults := badRefs.length + badMaps.length + nEnts + nUsed + nTabs
  let mend (t : State) : State :=
    let t := badMaps.foldl (fun t e => t.updExtent e.1 fun x => { x with mapCount := s.namersOf d e.1 }) t
    let t := badRefs.foldl (fun t p =>
      let n := s.parentsOf p.1
      if n = 0 then
        let t := if p.2.pxa = 0 then t else t.dropExtent p.2.pxa
        let t := (t.cacheDrop p.1).cleanPage p.1
        { t with map.pages := t.map.pages.del p.1 }
      else t.updPage p.1 fun x => { x with refs := n }) t
    (badEnts.filter fun ds => !ds.isEmpty).foldl (fun t ds => t.stageMap d 0 (t.rankOf 17) ds none) t
  let t := if repair then mend s else s
  let fixed := if repair then badRefs.length + badMaps.length + nEnts else 0
  (t.updMdom d fun x => { x with checking := none }).raise Ev.mapCheckDone
    (le 1 d ++ le 8 pages.length ++ le 4 faults ++ le 4 fixed)

/-- MAP_CHECK_END (R247): every page of the domain is read in, so that its trailer is checked, before the findings. -/
def execMapCheckEnd (domain : Nat) (s : State) : Result :=
  match (s.mdom domain).checking with
  | none => .next s
  | some repair =>
    let absent := ((s.entryPages domain).filter fun p => p.2.body.isNone).map Prod.fst
    dataIf (s.owns domain) s (if absent.isEmpty then s.endCheck domain repair else s.fetchPages absent (s.rankOf 17))

/-- Type-1 entries of an ashlar: sett (16 for a coarse entry), page, index and entry. -/
def State.ashlarEntries (s : State) (l : Layer) (a : Nat) : List (Nat × Nat × Nat × MapEntry) :=
  let p := s.leafOf l a
  match s.pageBody p with
  | none => []
  | some b =>
    let r := rawEntry b (a % 256)
    let e := parseEntry r
    if e.typ = 1 then [(16, p, a % 256, e)]
    else if e.typ = 3 then
      let q := splitPage r
      ((tableOf ((s.pageBody q).getD []) (splitSlot r)).zipIdx.filter fun x => x.1.typ == 1).map fun x =>
        (x.2, q, 16 * splitSlot r + x.2, x.1)
    else []

def recheckUse (nsid a : Nat) : ReadUse → Option Nat
  | .recheck n b x _ _ => if n = nsid && b = a then some x else none
  | _ => none

/-- An entry passes its re-check (R246): extent, units, content and tag. -/
def State.recheckOk (s : State) (nsid a : Nat) (x : Nat × Nat × Nat × MapEntry) : Bool :=
  match s.extent? x.2.2.2.pxa with
  | none => false
  | some e =>
    let job := s.flash.jobs.find? fun j => recheckUse nsid a j.2.use == some x.1
    match job.bind fun j => j.2.result with
    | none => false
    | some b => e.units == x.2.2.2.units + 1 && (!e.tagged || ofLe (tagOf (sha 1 (if e.kind = 2 then
        (List.range 16).flatMap fun i => sha 1 (slice b (4096 * i) 4096) else b))) == e.tag)

/-- ASHLAR_RECHECK_RUN (R246): the extents of the ashlar's entries are read at rank 7, then judged together. -/
def execAshlarRecheckRun (nsid ashlar : Nat) (s : State) : Result :=
  let done (t : State) : State := { t with
    map.rechecks := t.map.rechecks.filter (· != (nsid, ashlar)),
    flash.jobs := t.flash.jobs.keep fun _ j => (recheckUse nsid ashlar j.use).isNone }
  let layer := (s.ns? nsid).bind fun n => s.layer? n.domain n.layer
  match s.ns? nsid, layer with
  | some n, some l =>
    let needs := s.leafNeeds l ashlar
    let es := s.ashlarEntries l ashlar
    let has_ (t : State) (x : Nat) : Bool := t.flash.jobs.any fun j => recheckUse nsid ashlar j.2.use == some x
    let waits (t : State) : Bool := t.flash.jobs.any fun j => (recheckUse nsid ashlar j.2.use).isSome && !j.2.done
    let judge (t : State) : State :=
      let bad := es.filter fun x => !t.recheckOk nsid ashlar x
      let t := done t
      if bad.isEmpty then t.mapFault 4 nsid ashlar 0
      else
        let t := bad.foldl (fun t x => t.mapFault 5 nsid ashlar x.2.1) t
        t.stageMap n.domain 0 (t.rankOf 17) (bad.map fun x => { ashlar := x.2.1, op := 13, sett := x.2.2.1, target := x.2.2.2.pxa }) none
    let t :=
      if !needs.isEmpty then s.fetchPages needs (s.rankOf 17)
      else
        let t := (es.filter fun x => !has_ s x.1).foldl (fun t x =>
          t.readUnits (.recheck nsid ashlar x.1 x.2.2.2.raw (x.1 == 16 || x.2.2.2.whole)) (t.rankOf 17) x.2.2.2.pxa
            (x.2.2.2.units + 1)) s
        if waits t then t else judge t
    dataIf (s.map.rechecks.contains (nsid, ashlar) && s.owns n.domain) s t
  | _, _ => dataIf (s.map.rechecks.contains (nsid, ashlar)) s (done s)

end Sys2Proof.Machine
end

