-- ==== Sys2Proof/Machine/NvmeErase.lean ====
section
/-! DEFINITION. Format and sanitize: how one starts, goes on, ends and is resumed (R151 to R154). -/

namespace Sys2Proof.Machine

/-- The live layers of a namespace by layer ID: its head layer, its snapshots, and the head layers cloned from them (R151). -/
def State.layersOf (s : State) (nsid : Nat) : List (Nat × Layer) :=
  match s.ns? nsid with
  | none => []
  | some n =>
    let here := s.map.layers.filter fun l => l.1 / 2 ^ 32 == n.domain && decide (l.2.kind ≤ 2)
    let mine := here.filter fun l => l.2.nsid == nsid
    let snaps := (mine.filter fun l => l.2.kind == 2).map fun l => l.1 % 2 ^ 32
    let clones := here.filter fun l => l.2.kind == 1 && l.2.nsid != nsid && bit l.2.flags 0 && snaps.contains l.2.parent
    (mine ++ clones).map fun l => (l.1 % 2 ^ 32, l.2)

/-- Map pages of namespaces that are not resident. -/
def State.eraseAbsent (s : State) (nsids : List Nat) : List Nat :=
  (nsids.flatMap s.layersOf).flatMap fun l => if l.2.root = 0 then [] else s.absentPages 7 l.2.root

/-- Stripes that hold an extent of namespaces (R151, R152). -/
def State.eraseStripes (s : State) (nsids : List Nat) : List Nat :=
  let pages := ((nsids.flatMap s.layersOf).flatMap fun l => s.layerPages l.2).eraseDups
  let mapped := (pages.filter fun p => ((s.page? p).map fun x => decide (x.kind ≤ 2)).getD false).flatMap fun p =>
    (extentsIn ((s.pageBody p).getD [])).map fun e => pxaStripe (s.resolvePxa e.pxa)
  let staged := (s.wp.log.filter fun r => nsids.contains r.nsid && !r.applied && !r.dropped).flatMap Staged.stripes
  (mapped ++ staged).eraseDups

def State.eraseAshlars (s : State) (nsids : List Nat) : Nat :=
  (nsids.map fun n => ((s.ns? n).map fun x => ashlarCount x.nsze x.lbaf).getD 0).sum

def EraseOp.byBlock (e : EraseOp) : Bool := (e.kind == 1 && e.action == 1) || (e.kind == 2 && e.action == 2)
def EraseOp.byKey (e : EraseOp) : Bool := (e.kind == 1 && e.action == 2) || (e.kind == 2 && e.action == 4)

/-- A slot for a new operation: at most 16 run at a time (R130). The record of a failure is kept while another slot serves (log
entry 147). -/
def State.eraseSlot (s : State) : Option Nat :=
  let state (i : Nat) : Nat := ((s.nvme.erases.get? i).map EraseOp.state).getD 0
  ((List.range 16).find? fun i => state i != 1 && state i != 3).or ((List.range 16).find? fun i => state i != 1)

/-- SPROG (R153). -/
def EraseOp.sprog (e : EraseOp) : Nat :=
  if e.state ≠ 1 then 0xFFFF else if e.total = 0 then 0xFFFE else min (65536 * e.done / e.total) 0xFFFE

/-- An operation as it now stands: SPROG follows its units (R153). -/
def State.putErase (k : Nat) (e : EraseOp) (s : State) : State :=
  let s := { s with nvme.erases := s.nvme.erases.set k e }
  if e.kind = 2 then s.updSubsys e.target fun x => { x with sprog := e.sprog } else s

/-- Write the progress record, and its copy at the mirror peer (R154). -/
def State.recordErase (k : Nat) (e : EraseOp) (s : State) : State :=
  let e := { e with checkpoint := s.now, checkpointDone := e.done }
  ((s.granted.putErase k e).logRecord 3 k e.bytes).mirrorProgress k e

/-- The failed operations on a namespace or subsystem are forgotten: their records become zeros (R152, R157; log entry 147). -/
def State.forgetErase (kind target : Nat) (s : State) : State :=
  (s.nvme.erases.filter fun x => x.2.kind == kind && x.2.target == target && x.2.state == 3).foldl (fun s x =>
    let none_ : EraseOp := { kind := 0, action := 0, state := 0, phase := 0, target := 0, total := 0, startStamp := 0 }
    (({ s with nvme.erases := s.nvme.erases.del x.1 } : State).logRecord 3 x.1 (zeros 64)).mirrorProgress x.1 none_) s

def State.eraseDomains (s : State) (e : EraseOp) : List Nat := (e.nsids.filterMap fun n => (s.ns? n).map Namespace.domain).eraseDups

/-- The end of an operation in state 3 (R154). The spec gives no status for the Format command whose operation has failed: the
model answers Internal Error (DESIGN CHOICE, log entry 150). -/
def State.failErase (k : Nat) (e : EraseOp) (s : State) : State :=
  let s := s.recordErase k { e with state := 3, cmd := none, inv := none }
  let s := s.raise Ev.eraseFailed (le 1 e.kind ++ le 4 e.target ++ le 1 e.phase ++ le 8 e.done)
  let s := if e.kind = 2 then s.updSubsys e.target fun x => { x with sstat := 3, sprog := 0xFFFF } else s
  match e.cmd with
  | none => s
  | some c => s.complete c.1 c.2 Nv.internal 0 e.inv

/-- Key slots of namespaces. -/
def State.keySlotsOf (s : State) (nsids : List Nat) : List Nat :=
  ((nsids.filterMap fun n => (s.ns? n).map Namespace.keySlot).filter fun k => decide (k < 64)).eraseDups

/-- An operation that needs a new key: a cryptographic erase of an encrypted namespace (R204). -/
def State.needsKey (s : State) (e : EraseOp) : Bool := e.byKey && !(s.keySlotsOf e.nsids).isEmpty

/-- Start an operation in a slot: the total is fixed, the record written, and for a cryptographic erase the keys destroyed
first (R151 to R154). It fails at once when no new key can be generated. -/
def State.startErase (k kind action target cdw10 newLbaf tag : Nat) (nsids : List Nat) (cmd : Option (Nat × Nat)) (inv : Option Nat)
    (s : State) : State :=
  let e : EraseOp := { kind := kind, action := action, target := target, total := 0, startStamp := s.now, newLbaf := newLbaf,
                       tag := tag, cdw10 := cdw10, cmd := cmd, inv := inv, nsids := nsids }
  let stripes := if e.byBlock then s.eraseStripes nsids else []
  let e := { e with stripes := stripes, total := s.eraseAshlars nsids + stripes.length }
  let s := if kind = 1 then { s with nvme.namespaces := s.nvme.namespaces.upd target fun n => { n with formatting := true } }
    else s.updSubsys target fun x => { x with sstat := 2, scdw10 := cdw10 }
  let s := s.recordErase k e
  if !s.needsKey e then s
  else if s.keys.entropyFailed then s.failErase k e
  else (s.keySlotsOf nsids).foldl (fun s n => s.eraseKey n) s

/-! ### Its steps (R152 to R154) -/

/-- Stage the unmapping of ashlars `lo` to `hi` of the operation's namespaces taken in order. -/
def State.unmapRun : List Nat → Nat → Nat → State → State
  | [], _, _, s => s
  | n :: ns, lo, hi, s =>
    match s.ns? n with
    | none => s.unmapRun ns lo hi
    | some x =>
      let c := ashlarCount x.nsze x.lbaf
      let b := min hi c
      let s := if lo < b then s.stageMap x.domain n (s.rankOf 14) (runDeltas 6 (16 * lo) (16 * b)) none else s
      s.unmapRun ns (lo - c) (hi - c)

/-- A namespace's head layer anew and empty; the old one is deleted (R151). -/
def State.freshLayer (nsid : Nat) (s : State) : State :=
  match s.ns? nsid with
  | none => s
  | some n =>
    let l : Layer := { kind := 1, levels := levelsFor (ashlarCount n.nsze n.lbaf), nsid := nsid, createStamp := s.now, nsze := n.nsze,
                       lbaf := n.lbaf, keySlot := n.keySlot }
    let s := if n.layer = 0 then s else s.stageMap n.domain 0 (s.rankOf 14) [{ ashlar := 0, op := 11, target := n.layer }] none
    let x := s.granted.addLayer n.domain l
    { x.2 with nvme.namespaces := x.2.nvme.namespaces.upd nsid fun n => { n with layer := x.1 } }

/-- Delete the snapshots and clones of a namespace: a namespace whose head layer was a clone gets an empty one. -/
def State.eraseLayers (nsid : Nat) (s : State) : State :=
  (s.layersOf nsid).foldl (fun s l =>
    if l.2.nsid ≠ nsid then s.freshLayer l.2.nsid
    else if l.2.kind = 2 then
      s.stageMap (((s.ns? nsid).map Namespace.domain).getD 0) 0 (s.rankOf 14) [{ ashlar := 0, op := 11, target := l.1 }] none
    else s) s

/-- Drop the staged copy of a host write before it is applied: what its deltas hold ends, its pages are free (R152). -/
def State.dropRecord (r : Staged) (s : State) : State :=
  let s := r.deltas.foldl (fun s d => s.discardDelta r d) s
  { (s.updRecord r.wsn fun r => { r with dropped := true, pages := 0 }) with map.reservedEntries := s.map.reservedEntries - r.pages }

/-- Purge (R152): the staged copies of the namespaces are dropped, and with their release those at the mirror peer. Unmaps and
other map records stay: they are what removes the references. -/
def State.dropErased (nsids : List Nat) (s : State) : State :=
  ((s.wp.log.filter fun r => nsids.contains r.nsid && decide (r.kind ≤ 2) && !r.applied && !r.dropped).foldl (fun s r => s.dropRecord r)
    s).releaseStaging

/-- Enter a phase: phase 3 drops the staged copies and forces a checkpoint of every domain, so that the map and journal are
rewritten (R152). -/
def State.enterPhase (k phase : Nat) (e : EraseOp) (s : State) : State :=
  let s := if phase = 3 then
      (s.eraseDomains e).foldl (fun s d => s.updSdom d fun x => { x with checkpointWanted := true }) (s.dropErased e.nsids)
    else s
  s.recordErase k { e with phase := phase }

/-- Ashlar units of an operation. -/
def EraseOp.unmapUnits (e : EraseOp) : Nat := e.total - e.stripes.length

/-- One step: phase 1 up to the next checkpoint; phase 2 queues what is left and counts the stripes that have gone. -/
def State.eraseStep (k : Nat) (e : EraseOp) (s : State) : State :=
  if e.phase = 1 then
    let s := if e.done = 0 then e.nsids.foldl (fun s n => s.eraseLayers n) s else s
    let next := min e.unmapUnits ((e.done / 1024 + 1) * 1024)
    let s := s.unmapRun e.nsids e.done next
    let e := { e with done := next }
    if next = e.unmapUnits then s.enterPhase k (if e.byBlock then 2 else 3) e else s.recordErase k e
  else if e.phase = 2 then
    let left := e.stripes.filter fun n => s.stripe.stripes.has n
    let s := left.foldl (fun s n =>
      let g := (s.stripeOf n).segment
      if (s.segment g).state = .open then s.closeStream (stripeDomainOf n) 0 (s.rankOf 14) else s.queueVictim g (s.rankOf 14)) s
    let e' := { e with done := e.total - left.length }
    if left.isEmpty then s.enterPhase k 3 e'
    else if e'.done / 1024 ≠ e.done / 1024 then s.recordErase k e'
    else s.putErase k e'
  else s

/-- An operation cannot continue: a stripe of phase 2 is lost, or a domain is no longer owned (R154). -/
def State.eraseBroken (s : State) (e : EraseOp) : Bool :=
  (e.phase == 2 && e.stripes.any fun n => s.stripe.lost.has n) || !((s.eraseDomains e).all s.owns)

/-- Phase 3 is over: no staged record of the namespaces waits, and the checkpoints have been written. -/
def State.erasePurged (s : State) (e : EraseOp) : Bool :=
  e.phase == 3 && !(s.staged.any fun r => e.nsids.contains r.nsid && !r.applied && !r.dropped) &&
    (s.eraseDomains e).all fun d => !(s.sdom d).checkpointWanted

/-- NSZE in another format. The spec does not say what it becomes: the model keeps the number of setts, so that the size stays a
whole number of them (R143; DESIGN CHOICE, log entry 151). -/
def nszeIn (nsze old new : Nat) : Nat := nsze / lbasPerSett old * lbasPerSett new

/-- The end of an operation in state 2 (R151 to R154). -/
def State.endErase (k : Nat) (e : EraseOp) (s : State) : State :=
  let s := s.recordErase k { e with state := 2, cmd := none, inv := none }
  let s := s.raise Ev.eraseDone (le 1 e.kind ++ le 4 e.target ++ le 4 e.restarts)
  if e.kind = 2 then
    let s := s.updSubsys e.target fun x => { x with sstat := 1, sprog := 0xFFFF, erased := true }
    (s.nvme.controllers.filter fun x => x.2.subsys == some e.target).foldl (fun s x => s.sendAen x.1 6 1 0x81) s
  else
    let set (n : Namespace) : Namespace :=
      { n with lbaf := e.newLbaf % 16, pi := e.newLbaf / 16 % 8, nsze := nszeIn n.nsze n.lbaf (e.newLbaf % 16), formatting := false }
    let s := ({ s with nvme.namespaces := s.nvme.namespaces.upd e.target set }).freshLayer e.target
    let s := match s.ns? e.target with
      | some n => s.nsChanged e.target n.subsys
      | none => s
    match e.cmd with
    | none => s
    | some c => s.complete c.1 c.2 0 0 e.inv

/-- A progress record, mirrored here or read from the Vault, as a parked operation of this head (R154, R350). The stripes of a
block erase that are left are those closed before it began (log entry 26). -/
def State.parseErase (s : State) (b : List Byte) : EraseOp :=
  let kind := fieldAt b 0 1
  let target := fieldAt b 4 4
  let ids := if kind = 1 then [target] else s.nsOf target
  let start := fieldAt b 0x18 8
  let doms := ids.filterMap fun n => (s.ns? n).map Namespace.domain
  let old := (s.stripe.stripes.filter fun t => doms.contains (stripeDomainOf t.1) && decide (t.2.closeStamp < start)).map Prod.fst
  let e : EraseOp :=
    { kind := kind, action := fieldAt b 1 1, state := fieldAt b 2 1, phase := fieldAt b 3 1, target := target,
      total := fieldAt b 8 8, done := fieldAt b 0x10 8, startStamp := start, checkpoint := fieldAt b 0x20 8,
      checkpointDone := fieldAt b 0x10 8, restarts := fieldAt b 0x28 4, newLbaf := fieldAt b 0x2C 1, tag := fieldAt b 0x2D 2,
      cdw10 := fieldAt b 0x30 4, nsids := ids, parked := true }
  { e with stripes := if e.byBlock then old else [] }

/-- SSTAT of an operation's state (R153). -/
def EraseOp.sstat (e : EraseOp) : Nat := if e.state = 1 then 2 else if e.state = 2 then 1 else 3

/-- An operation shows in its namespace, which is in Format In Progress until a format has succeeded, or in its subsystem (R151,
R153, R154). -/
def State.showErase (e : EraseOp) (s : State) : State :=
  if e.kind = 1 then { s with nvme.namespaces := s.nvme.namespaces.upd e.target fun n => { n with formatting := e.state != 2 } }
  else s.updSubsys e.target fun y => { y with sstat := e.sstat, sprog := e.sprog, scdw10 := e.cdw10 }

/-- The newest recorded operation on a namespace (kind 1) or a subsystem (kind 2) shows in it (R153, R154). -/
def State.recallErase (kind target : Nat) (s : State) : State :=
  let mine := (s.nvme.erases.filter fun x => x.2.kind == kind && x.2.target == target).map Prod.snd
  let newest := mine.foldl (fun (best : Option EraseOp) e => match best with
    | none => some e
    | some b => if b.startStamp ≤ e.startStamp then some e else some b) none
  match newest with
  | none => s
  | some e => s.showErase e

/-- An operation read from the Vault at the last start finds its namespaces and stripes once they exist (R154). -/
def State.findErase (s : State) (e : EraseOp) : EraseOp :=
  if e.stored then { s.parseErase e.bytes with stored := true } else e

/-- Resume the operations whose domains are all owned, from their last records (R154). -/
def State.resumeErases (s : State) : State :=
  s.nvme.erases.foldl (fun s x =>
    let e := s.findErase x.2
    let doms := s.eraseDomains e
    if e.state ≠ 1 || !e.parked || doms.isEmpty || !(doms.all s.owns) then s
    else
      let e := { e with parked := false, stored := false, restarts := e.restarts + 1, done := e.checkpointDone }
      let s := ({ s with nvme.erases := s.nvme.erases.set x.1 e } : State).showErase e
      s.raise Ev.eraseResumed (le 1 e.kind ++ le 4 e.target ++ le 8 e.done)) s

end Sys2Proof.Machine
end

