-- ==== Sys2Proof/Machine/NvmeAdmin.lean ====
section
/-! DEFINITION. What the NVMe target's admin and Fabrics commands work with: Connect, properties, features, log pages and
Identify structures (R132 to R142, R153, R155). Field places the spec does not give are those of the NVMe standard (log
entry 21). -/

namespace Sys2Proof.Machine

/-- The text of a 256-byte qualified-name field. -/
def nqnText (b : List Byte) : List Byte := b.takeWhile (· != 0)

def discoveryNqn : List Byte := ascii "nqn.2014-08.org.nvmexpress.discovery"

/-! ### Running admin commands -/

/-- FCTYPE of a Fabrics command. -/
def fcType (cap : List Byte) : Nat := fieldAt cap 4 1

/-- A Fabrics Connect. -/
def isConnect (cap : List Byte) : Bool := sqOpcode cap == 0x7F && fcType cap == 1

/-- After a Connect: a queue that still has no controller and whose next capsule is no Connect is torn down (R132). -/
def State.afterConnect (conn : Nat) (s : State) : State :=
  match s.ctrlOf conn, (s.conn conn).inbox with
  | none, b :: _ => if isConnect b then s else (s.tearQueue conn).disconnect conn
  | _, _ => s

/-- What a discovery controller accepts (R142): the commands, with Identify CNS 01h and log page 0x70 alone. -/
def discoveryStatus (cap : List Byte) : Option Nat :=
  let op := sqOpcode cap
  if op = 0x7F || op = 0x18 then none
  else if op = 0x06 then (if cdw cap 10 % 256 = 1 then none else some Nv.invalidField)
  else if op = 0x02 then (if cdw cap 10 % 256 = 0x70 then none else some Nv.invalidLog)
  else some Nv.invalidOpcode

/-- Run an admin or Fabrics command: the front capsule of an admin queue, of the opcode named. -/
def adminRun (conn : Nat) (fits : List Byte → Bool) (s : State) (effect : List Byte → Nat → Controller → State → State) : Result :=
  match s.frontCapsule conn, s.ctrlOf conn with
  | some cap, some c =>
    match s.ctrl? c with
    | none => .next s
    | some x =>
      if !fits cap || s.qidOf conn ≠ 0 then .next s
      else
        let t := s.granted.popCapsule conn
        match (if x.subsys.isNone then discoveryStatus cap else none) with
        | some st => .next (t.refuseCapsule conn cap st)
        | none => .next (effect cap c x t)
  | _, _ => .next s

/-- Return data to an admin command: a keyed descriptor of exactly its length (R137, R144). -/
def State.adminData (conn : Nat) (cap data : List Byte) (s : State) : State :=
  if !(sglId cap == 0x40 || sglId cap == 0x4F) then s.refuseCapsule conn cap Nv.sglType
  else if sglLen cap ≠ data.length then s.refuseCapsule conn cap Nv.sglLength
  else s.completeData conn cap data .none

/-! ### Connect (R132, R133, R136) -/

/-- KATO in milliseconds (R136). -/
def katoOf (v : Nat) : Nat := ((if v = 0 then 120000 else max v 1000) + 99) / 100 * 100

/-- Deadline of a controller whose timer restarts now (R136). -/
def State.katoDeadline (s : State) (ms : Nat) : Nat := s.tick + ms * 15625

def connectFormat : Nat := 0x180
def controllerBusy : Nat := 0x181
def connectInvalid : Nat := 0x182
def connectHost : Nat := 0x184

/-- The offset a Connect Invalid Parameters names: in the data, or in the command (R133). -/
def inData (off : Nat) : Nat := off + 65536

/-- A Connect fails: the status, and the offset where it names one. -/
def State.refuseConnect (conn : Nat) (cap : List Byte) (status dw : Nat) (s : State) : State :=
  s.complete conn (sqCid cap) status dw (sglInv cap)

def maxControllers : Nat := 4096

/-- Connect on qid 0 makes a controller with the lowest free ID, and the connection its admin queue whatever queue its REQ
named; `sub` is none for the discovery NQN (R130, R132, R133, R142). Critical warning bits that are already 1 do not rise
(R156). -/
def State.connectAdmin (conn : Nat) (cap data : List Byte) (sub : Option Nat) (s : State) : State :=
  match freeFrom (fun i => s.nvme.controllers.has i) maxControllers 1 with
  | none => s.refuseConnect conn cap controllerBusy 0
  | some id =>
    let hsq := match (s.conn conn).use with
      | .nvme _ n => n
      | _ => 0
    if fieldAt cap 44 2 + 1 ≠ hsq then s.refuseConnect conn cap connectInvalid 44
    else
      let ms := katoOf (fieldAt cap 48 4)
      let c : Controller := { subsys := sub, host := nqnText (slice data 512 256), hostId := slice data 0 16, admin := conn,
                              lport := (s.conn conn).lport, katoMs := ms, deadline := s.katoDeadline ms }
      let c := { c with shown := match sub with
        | some n => s.warningBits n s.compositeKelvin c.tempThreshold
        | none => 0 }
      let s := { s with nvme.controllers := s.nvme.controllers.set id c }
      let s := s.updConn conn fun y => { y with use := .nvme 0 hsq }
      let s := match sub with
        | some n => s.raise Ev.ctrlCreated (le 2 id ++ le 2 n ++ le 1 c.lport)
        | none => s.freed.raise Ev.ctrlCreated (le 2 id ++ le 2 s.freeNat ++ le 1 c.lport)
      s.complete conn (sqCid cap) 0 id (sglInv cap)

/-- Connect on qid 1 to 1,024 opens an I/O queue of a controller (R133). -/
def State.connectIo (conn : Nat) (cap data : List Byte) (qid sub : Nat) (s : State) : State :=
  let id := fieldAt data 16 2
  match s.ctrl? id with
  | none => s.refuseConnect conn cap connectInvalid (inData 16)
  | some x =>
    let count := match x.granted with
      | some g => min g.1 g.2 + 1
      | none => 1024
    let hsq := match (s.conn conn).use with
      | .nvme _ n => n
      | _ => 0
    if x.subsys ≠ some sub then s.refuseConnect conn cap connectInvalid (inData 16)
    else if x.host ≠ nqnText (slice data 512 256) then s.refuseConnect conn cap connectInvalid (inData 512)
    else if x.queues.has qid || count < qid then s.refuseConnect conn cap connectInvalid 42
    else if x.cc % 2 = 0 then s.refuseConnect conn cap Nv.sequence 0
    else if fieldAt cap 44 2 + 1 ≠ hsq then s.refuseConnect conn cap connectInvalid 44
    else
      let s := s.updCtrl id fun x => { x with queues := x.queues.set qid conn, opened := true }
      let s := s.updConn conn fun c => { c with use := .nvme qid hsq }
      s.complete conn (sqCid cap) 0 id (sglInv cap)

/-- The checks of R133, with the 1,024 bytes of Connect data. -/
def State.connectChecked (conn : Nat) (data : List Byte) (s : State) : State :=
  match (s.conn conn).inbox with
  | [] => s
  | cap :: _ =>
    let s := s.popCapsule conn
    let qid := fieldAt cap 42 2
    let nqn := nqnText (slice data 256 256)
    let host := nqnText (slice data 512 256)
    let found := s.nvme.subsystems.find? fun x => nqnText x.2.nqn == nqn
    if fieldAt cap 40 2 ≠ 0 then s.refuseConnect conn cap connectFormat 0
    else if nqn = discoveryNqn then
      if qid = 0 then s.connectAdmin conn cap data none else s.refuseConnect conn cap connectInvalid 42
    else match found with
      | none => s.refuseConnect conn cap connectInvalid (inData 256)
      | some (n, sub) =>
        if !bit sub.flags 0 && !(sub.hosts.any fun h => nqnText h == host) then
          (s.raise Ev.hostRejected (le 2 n ++ le 1 (s.conn conn).lport ++ fit 16 host)).refuseConnect conn cap connectHost 0
        else if qid = 0 then s.connectAdmin conn cap data (some n) else s.connectIo conn cap data qid n

/-- A Connect with its data (R132, R133). -/
def State.connect (conn : Nat) (data : List Byte) (s : State) : State := (s.connectChecked conn data).afterConnect conn

/-! ### Properties (R134) -/

def capValue : Nat := 1023 + 2 ^ 16 + 30 * 2 ^ 24 + 2 ^ 37

/-- A property's value by its offset. -/
def Controller.property (x : Controller) (off : Nat) : Option Nat :=
  if off = 0 then some capValue
  else if off = 0x08 then some 0x00020000
  else if off = 0x14 then some x.cc
  else if off = 0x1C then some (boolNat x.rdy + 2 * boolNat x.cfs + 4 * x.shst)
  else none

/-- Writable fields of CC: EN, SHN, IOSQES and IOCQES. -/
def ccMask : Nat := 0x00FFC001

/-- A write of CC. Every write of SHN 01b or 10b starts a shutdown but while one runs. EN from 0 to 1 clears SHST: a controller
enabled anew is not shut down (PRESUMED, the NVMe standard's; log entry 143). -/
def State.writeCc (c v : Nat) (s : State) : State :=
  match s.ctrl? c with
  | none => s
  | some x =>
    let shn := bits v 15 14
    let good := bits v 19 16 = 6 && bits v 23 20 = 4
    let s := s.updCtrl c fun x => { x with cc := v }
    let s :=
      if x.cc % 2 = 0 && v % 2 = 1 then s.updCtrl c fun x => { x with rdy := good, cfs := !good, shst := if x.shst = 2 then 0 else x.shst }
      else if x.cc % 2 = 1 && v % 2 = 0 then (s.tearIoQueues c).updCtrl c fun x => { x with rdy := false }
      else s
    if (shn = 1 || shn = 2) && x.shst ≠ 1 then
      let ws := match x.subsys with
        | some n => s.flushAwaits (s.nsOf n) s.now
        | none => []
      (s.updCtrl c fun x => { x with shst := 1, shutdown := ws }).closeAwaited ws (s.flushRank ws)
    else s

/-- Writes that a shutdown still awaits. -/
def State.shutdownLeft (s : State) (x : Controller) : List Nat := x.shutdown.filter fun w => match s.cmdOf? w with
  | some y => y.writes
  | none => false

/-! ### Features (R141) -/

/-- Set Features: the status and the completion's dword 0, with the controller as it then is. -/
def Controller.setFeature (x : Controller) (cap : List Byte) : Nat × Nat × Controller :=
  let v := cdw cap 11
  let fid := cdw cap 10 % 256
  if !([0x02, 0x04, 0x05, 0x06, 0x07, 0x0B] : List Nat).contains fid then (Nv.invalidField, 0, x)
  else if bit (cdw cap 10) 31 then (Nv.notSaveable, 0, x)
  else if fid = 0x02 then (if v % 32 = 0 then (0, 0, x) else (Nv.invalidField, 0, x))
  else if fid = 0x04 then
    if !([0, 15].contains (bits v 19 16)) || 1 < bits v 21 20 then (Nv.invalidField, 0, x)
    else if bits v 21 20 = 0 then (0, 0, { x with tempThreshold := v % 65536 })
    else (0, 0, { x with underThreshold := v % 65536 })
  else if fid = 0x05 then (if bits v 16 0 = 0 then (0, 0, x) else (Nv.invalidField, 0, x))
  else if fid = 0x06 then (0, 0, { x with wce := bit v 0 })
  else if fid = 0x07 then
    if x.granted.isSome || x.opened then (Nv.sequence, 0, x)
    else
      let g := (min (v % 65536) 1023, min (v / 65536 % 65536) 1023)
      (0, g.1 + g.2 * 65536, { x with granted := some g })
  else (0, 0, { x with aerConfig := v &&& 0x91F })

/-- Get Features: a value of dword 0, or none for an identifier not supported. -/
def Controller.getFeature (x : Controller) (cap : List Byte) : Option Nat :=
  let fid := cdw cap 10 % 256
  if fid = 0x02 || fid = 0x05 then some 0
  else if fid = 0x04 then some (if bits (cdw cap 11) 21 20 = 1 then x.underThreshold else x.tempThreshold)
  else if fid = 0x06 then some (boolNat x.wce)
  else if fid = 0x07 then match x.granted with
    | some g => some (g.1 + g.2 * 65536)
    | none => some (1023 + 1023 * 65536)
  else if fid = 0x0B then some x.aerConfig
  else if fid = 0x0F then some x.katoMs
  else none

/-! ### Log pages (R140, R142, R153, R155) -/

def ErrorEntry.bytes (e : ErrorEntry) : List Byte :=
  fit 64 (le 8 e.count ++ le 2 e.sqid ++ le 2 e.cid ++ le 2 (2 * e.status) ++ zeros 2 ++ le 8 e.lba ++ le 4 e.nsid)

/-- Units of 1,000 blocks of 512 bytes, rounded up. -/
def dataUnits (blocks : Nat) : Nat := (blocks + 999) / 1000

def State.smartLog (n : Nat) (x : Controller) (s : State) : List Byte :=
  let u := (s.subsys n).busyTo s.now
  struct 512 [(0, le 1 (s.warningBits n s.compositeKelvin x.tempThreshold)), (1, le 2 s.compositeKelvin), (3, le 1 u.spare),
    (4, le 1 u.threshold), (5, le 1 u.used), (32, le 16 (dataUnits (u.stats.getD 0 0))), (48, le 16 (dataUnits (u.stats.getD 1 0))),
    (64, le 16 (u.stats.getD 2 0)), (80, le 16 (u.stats.getD 3 0)), (96, le 16 (u.stats.getD 4 0)), (112, le 16 s.nvme.powerCycles),
    (128, le 16 s.nvme.powerOnHours), (144, le 16 s.nvme.unsafeShutdowns), (160, le 16 (u.stats.getD 5 0)),
    (176, le 16 x.errorCount)]

/-- Sorted insertion of a namespace ID. -/
def insertId (n : Nat) : List Nat → List Nat
  | [] => [n]
  | m :: ms => if n ≤ m then n :: m :: ms else m :: insertId n ms

def changedLog (x : Controller) : List Byte :=
  if 1024 < x.changed.length then fit 4096 (le 4 0xFFFFFFFF) else fit 4096 ((x.changed.foldr insertId []).flatMap (le 4))

/-- CSUPP, with LBCC and NCC where R140 says. -/
def effectsLog : List Byte :=
  let admin := [(0x02, 1), (0x06, 1), (0x08, 1), (0x09, 1), (0x0A, 1), (0x0C, 1), (0x18, 1), (0x7F, 1), (0x80, 7), (0x84, 3)]
  let io := [(0x00, 1), (0x01, 3), (0x02, 1), (0x08, 3), (0x09, 3)]
  struct 4096 ((admin.map fun e => (4 * e.1, le 4 e.2)) ++ io.map fun e => (1024 + 4 * e.1, le 4 e.2))

def State.anaLog (n : Nat) (rgo : Bool) (s : State) : List Byte :=
  let mine := s.nvme.namespaces.filter fun x => x.2.subsys == n
  let groups := (mine.map fun x => x.2.domain).foldr insertId [] |>.eraseDups
  let one (d : Nat) : List Byte :=
    let ids := (mine.filter fun x => x.2.domain == d).map Prod.fst
    le 4 (d + 1) ++ le 4 (if rgo then 0 else ids.length) ++ le 8 (s.nvme.anaChg.getD d 0) ++ le 1 (s.nvme.ana.getD d 3) ++ zeros 15 ++
      (if rgo then [] else ids.flatMap (le 4))
  le 8 s.nvme.anaCount ++ le 2 groups.length ++ zeros 6 ++ groups.flatMap one

def State.discoveryLog (lport : Nat) (s : State) : List Byte :=
  let es := s.nvme.discovery.getD lport []
  fit 1024 (le 8 s.nvme.genctr ++ le 8 es.length ++ le 2 0) ++ es.flatMap (fit 1024)

def State.sanitizeLog (n : Nat) (s : State) : List Byte :=
  let u := s.subsys n
  struct 512 [(0, le 2 u.sprog), (2, le 2 (u.sstat + 8 + 256 * boolNat u.erased)), (4, le 4 u.scdw10)]

/-- The content of a log page, or the status that refuses it. -/
def State.logPage (x : Controller) (cap : List Byte) (s : State) : Except Nat (List Byte) :=
  let lid := cdw cap 10 % 256
  match x.subsys with
  | none => if lid = 0x70 then .ok (s.discoveryLog x.lport) else .error Nv.invalidLog
  | some n =>
    if lid = 0x01 then .ok (fit 16384 (x.errors.flatMap ErrorEntry.bytes))
    else if lid = 0x02 then (if sqNsid cap = 0xFFFFFFFF then .ok (s.smartLog n x) else .error Nv.invalidField)
    else if lid = 0x03 then .ok (struct 512 [(0, le 1 1), (8, fit 8 (s.subsys n).fr)])
    else if lid = 0x04 then .ok (changedLog x)
    else if lid = 0x05 then .ok effectsLog
    else if lid = 0x0C then .ok (s.anaLog n (bit (cdw cap 10) 8))
    else if lid = 0x81 then .ok (s.sanitizeLog n)
    else .error Nv.invalidLog

/-- Bytes a Get Log Page asks for, and from where. -/
def logLength (cap : List Byte) : Nat := 4 * (cdw cap 10 / 65536 + cdw cap 11 % 65536 * 65536 + 1)
def logOffset (cap : List Byte) : Nat := cdw cap 12 + cdw cap 13 * 2 ^ 32

/-! ### Identify (R139) -/

/-- The formats have 512-byte LBAs in every namespace of a subsystem that has one. The spec gives no AWUN for a subsystem whose
namespaces mix LBA sizes: the model answers that of 4,096-byte LBAs (DESIGN CHOICE, log entry 144). -/
def State.allSmall (s : State) (n : Nat) : Bool :=
  let mine := s.nvme.namespaces.filter fun x => x.2.subsys == n
  !mine.isEmpty && mine.all fun x => x.2.lbaf % 2 == 1

def State.identifyController (c : Nat) (x : Controller) (s : State) : List Byte :=
  let fused := s.orderCode == .a0f
  let u := match x.subsys with
    | some n => s.subsys n
    | none => {}
  let awun := match x.subsys with
    | some n => if s.allSmall n then 7 else 0
    | none => 0
  let nqn := if x.subsys.isSome then fit 256 u.nqn else fit 256 discoveryNqn
  struct 4096 [(0, le 2 0x1F6A), (2, le 2 0x1F6A), (4, fit 20 u.sn), (24, fit 40 u.mn), (64, fit 8 u.fr), (76, le 1 0x0B),
    (77, le 1 8), (78, le 2 c), (80, le 4 0x00020000), (92, le 4 0x900), (96, le 4 1), (111, le 1 (if x.subsys.isSome then 1 else 2)),
    (256, le 2 2), (258, le 1 0), (259, le 1 3), (260, le 1 3), (261, le 1 6), (262, le 1 255), (266, le 2 373), (268, le 2 385),
    (320, le 2 1), (328, le 4 (if fused then 0xA0000003 else 0xA0000002)), (342, le 1 30), (343, le 1 0x55), (344, le 4 256),
    (348, le 4 256), (512, le 1 0x66), (513, le 1 0x44), (514, le 2 1024), (516, le 4 65536), (520, le 2 0x0C),
    (524, le 1 (if fused then 4 else 0)), (525, le 1 7), (526, le 2 awun), (528, le 2 awun), (536, le 4 5), (768, nqn),
    (1792, le 4 4), (1796, le 4 1), (1800, le 2 0), (1802, le 1 0), (1803, le 1 1)]

/-- NUSE: mapped blocks of the head layer (R139, R222); a head without the map has none to count: a free value. -/
def State.nuse (n : Namespace) (s : State) : Nat :=
  match s.layer? n.domain n.layer with
  | some l => s.layerUsed l * lbasPerSett n.lbaf
  | none => s.freeNat

/-- The pages whose counts NUSE needs. -/
def State.nuseNeeds (n : Namespace) (s : State) : List Nat :=
  match s.layer? n.domain n.layer with
  | none => []
  | some l =>
    if l.root = 0 then []
    else match s.pageBody l.root with
      | none => [l.root]
      | some b => if l.levels = 1 then (settPagesOf b).filter fun q => (s.pageBody q).isNone else []

def lbaFormats : List Byte := le 4 (12 * 65536) ++ le 4 (9 * 65536 + 2 ^ 24) ++ le 4 (8 + 12 * 65536) ++ le 4 (8 + 9 * 65536 + 2 ^ 24)

def State.identifyNamespace (n : Namespace) (s : State) : List Byte :=
  struct 4096 [(0, le 8 n.nsze), (8, le 8 n.nsze), (16, le 8 (s.nuse n)), (24, le 1 1), (25, le 1 3),
    (26, le 1 (n.lbaf + (if n.lbaf < 2 then 0 else 16))), (27, le 1 1), (28, le 1 0x15), (29, le 1 n.pi), (30, le 1 1), (33, le 1 9),
    (92, le 4 (n.domain + 1)), (99, le 1 (boolNat s.footing.active)), (104, fit 16 n.nguid), (120, fit 8 n.eui), (128, lbaFormats)]

/-- Identify: the structure CNS names, or a status. -/
def State.identify (c : Nat) (x : Controller) (cap : List Byte) (s : State) : Except Nat (List Byte) :=
  let cns := cdw cap 10 % 256
  let sub := x.subsys.getD 65536
  let mine := s.nvme.namespaces.filter fun y => y.2.subsys == sub
  let ns := mine.find? fun y => y.1 == sqNsid cap
  let known := decide (1 ≤ sqNsid cap) && decide (sqNsid cap ≤ 65536)
  if cns = 1 then .ok (s.identifyController c x)
  else if cns = 2 then .ok (fit 4096 ((((mine.map Prod.fst).filter fun i => decide (sqNsid cap < i)).take 1024).flatMap (le 4)))
  else if cns = 0x1C then .ok (fit 4096 (le 8 1))
  else if cns = 0 || cns = 3 || cns = 8 then
    match ns with
    | none => if known && cns ≠ 3 then .ok (zeros 4096) else .error Nv.invalidNamespace
    | some (_, n) =>
      if cns = 0 then .ok (s.identifyNamespace n)
      else if cns = 3 then .ok (fit 4096 (le 1 1 ++ le 1 8 ++ zeros 2 ++ fit 8 n.eui ++ le 1 2 ++ le 1 16 ++ zeros 2 ++ fit 16 n.nguid))
      else .ok (struct 4096 [(1, le 1 1), (4, le 4 (n.domain + 1)), (8, le 1 (boolNat s.footing.active)), (14, le 1 1)])
  else .error Nv.invalidField

end Sys2Proof.Machine
end

