-- ==== Sys2Proof/Machine/WritePath.lean ====
section
/-! DEFINITION. The commands of the write path (R138, R161 to R183). -/

namespace Sys2Proof.Machine

/-! ### Write Zeroes and Dataset Management (R167) -/

/-- WRITE_ZEROES: waits for admission, its slots counting the partly covered setts it merges (R161, R167). -/
def execWriteZeroes (conn : Nat) (s : State) : Result := ioRun conn 0x08 s fun cap c k s =>
  match s.ns? (sqNsid cap) with
  | none => s.refuseCapsule conn cap Nv.invalidNamespace
  | some n =>
    let x := s.freshCmd .zeroes conn c k cap n (s.classRank n.cls 1)
    let m := (partialSetts n.lbaf x.slba x.nlb).length
    let s := s.addCmd k { x with slots := m, need := needUnits m (x.ashlarSpan n.lbaf) }
    let s := s.considerWrites 1
    if ((s.cmdOf? k).map Cmd.waits).getD false then s.wpCount 15 1 else s

/-- DATASET_MANAGEMENT: without AD it completes at once; with AD its ranges are fetched first (R144, R167). -/
def execDatasetManagement (conn : Nat) (s : State) : Result := ioRun conn 0x09 s fun cap c k s =>
  match s.ns? (sqNsid cap) with
  | none => s.refuseCapsule conn cap Nv.invalidNamespace
  | some n =>
    (s.addCmd k (s.freshCmd .dealloc conn c k cap n (s.classRank n.cls 1))).post conn
      (.read (sglAddr cap) (sglKey cap) (sglLen cap)) (.writeData k)

/-! ### Admission (R161, R162) -/

/-- WRITE_ADMIT: the write first in rank and fetch-stamp order, if both conditions hold for it (R161). -/
def execWriteAdmit (s : State) : Result :=
  dataIf (s.power.drain == .none) s (s.considerWrites 1)

/-- WRITE_STALLED_EXPIRY: a write of the rank has waited 100 ms (R162). -/
def execWriteStalledExpiry (rank : Nat) (s : State) : Result :=
  let ws := s.nvme.cmds.filter fun x => x.2.waits && x.2.rank == rank && s.expired (x.2.since + ticksOf 100000000)
  match ws with
  | [] => .next s
  | x :: _ =>
    dataIf (decide (rank < 8) && !bit s.wp.stalled rank) s
      (({ s with wp.stalled := s.wp.stalled + 2 ^ rank }).raise Ev.writeStalled (le 1 rank ++ le 4 ((s.tick - x.2.since) * 64 / 1000000)))

/-! ### Merging and looking up (R165, R166, R170, R175) -/

/-- MERGE_READ_ISSUE (R165, R166). -/
def execMergeReadIssue (cmd sett : Nat) (s : State) : Result :=
  match s.cmdOf? cmd with
  | none => .next s
  | some c =>
    let w := (c.setts.get? sett).getD { data := [] }
    dataIf (c.fetched && c.stage == 3 && w.partial_ && !w.merged && !w.issued && s.mergeClear cmd c sett) s (s.startMerge cmd sett)

/-- A unit of a write: an ashlar or a sett. -/
def Cmd.lookOf (c : Cmd) (unit : Nat) (ashlar : Bool) : Look :=
  if ashlar then ((c.ashlars.get? unit).map AshlarWork.look).getD .none else ((c.setts.get? unit).map SettWork.look).getD .none

def Cmd.fpOf (c : Cmd) (unit : Nat) (ashlar : Bool) : List Byte :=
  if ashlar then ((c.ashlars.get? unit).map AshlarWork.fp).getD [] else ((c.setts.get? unit).map SettWork.fp).getD []

def Cmd.setLook (c : Cmd) (unit : Nat) (ashlar : Bool) (l : Look) : Cmd :=
  if ashlar then { c with ashlars := c.ashlars.upd unit fun w => { w with look := l } }
  else { c with setts := c.setts.upd unit fun w => { w with look := l } }

/-- The incoming bytes of a unit. -/
def Cmd.unitData (c : Cmd) (unit : Nat) (ashlar : Bool) : List Byte :=
  if ashlar then (List.range 16).flatMap fun i => fit 4096 (((c.setts.get? (16 * unit + i)).map SettWork.data).getD [])
  else fit 4096 (((c.setts.get? unit).map SettWork.data).getD [])

/-- A look-up that hits: the hold is taken; with verify the extent is read (R170, R175). -/
def State.lookHit (k unit : Nat) (ashlar : Bool) (c : Cmd) (bucket slot : Nat) (e : List Byte) (s : State) : State :=
  let s := s.takeHold c.domain bucket slot
  if bit c.reduce.flags 1 then
    let s := s.updNCmd k fun c => c.setLook unit ashlar (.verify bucket slot e)
    let whole := ixForm e != 1
    s.readUnits (.verify k unit ashlar (ixRaw e) whole (ixSett e)) c.rank (ixPxa e) (ixUnits e)
  else ((s.updNCmd k fun c => c.setLook unit ashlar (.hit bucket slot e)).wpCount (if ashlar then 3 else 4) 1).decide_ k

/-- An EXTENT_MOVE of an extent has been written or waits, and is not durable yet. -/
def State.moving (s : State) (p : Nat) : Bool :=
  let names (b : JBody) : Bool := match b with
    | .extentMove old _ _ _ => old == p
    | _ => false
  s.wp.waitingMoves.any (fun x => names x.2.2) ||
    s.stripe.journals.any fun j => j.2.open_.any (fun r => names r.body) || j.2.flight.any fun f => f.records.any fun r => names r.body

/-- INDEX_LOOKUP (R170, R174). An entry whose extent is moving is looked up again once the move is durable, so that no hold falls
on it meanwhile. -/
def execIndexLookup (cmd unit : Nat) (ashlar : Bool) (s : State) : Result :=
  match s.cmdOf? cmd with
  | none => .next s
  | some c =>
    let b := (s.reduceOf c.domain).bucketLog2
    let fp := c.fpOf unit ashlar
    let bucket := bucketOf b fp
    let page := s.indexPage c.domain (bucket / 8)
    let slot := ((s.ns? c.nsid).map Namespace.keySlot).getD 0xFF
    let bare (s : State) : State := ((s.updNCmd cmd fun c => c.setLook unit ashlar .unindexed).wpCount 8 1).decide_ cmd
    let t :=
      if b = 0 || page.rebuilding then bare s
      else match page.body with
        | none =>
          if bit c.reduce.flags 2 then bare s
          else s.fetchIndex c.domain (bucket / 8) c.rank
        | some body =>
          let good (e : List Byte) : Bool :=
            (if ashlar then ixForm e == 2 else ixForm e == 1 || ixForm e == 3) && ixTag e == tagOf fp && ixKey e == slot &&
              decide (ixRefs e < 0xFFFFFFFF)
          match findSlot body bucket good with
          | some i =>
            let e := entryOf body bucket i
            if s.moving (s.resolvePxa (ixPxa e)) then s else s.lookHit cmd unit ashlar c bucket i e
          | none => ((s.updNCmd cmd fun c => c.setLook unit ashlar .miss).wpCount 5 1).decide_ cmd
    dataIf (c.stage == 4 && c.lookOf unit ashlar == .wanted) s t.trimIndex

/-- BYTE_COMPARE_VERIFY (R175). -/
def execByteCompareVerify (cmd unit : Nat) (ashlar : Bool) (s : State) : Result :=
  match s.cmdOf? cmd with
  | none => .next s
  | some c =>
    match c.lookOf unit ashlar with
    | .verify bucket slot e =>
      let whole := ixForm e != 1
      match s.flash.jobs.find? fun j => j.2.use == .verify cmd unit ashlar (ixRaw e) whole (ixSett e) with
      | none => .next s
      | some (j, job) =>
        let t := ({ s with flash.jobs := s.flash.jobs.del j }).wpCount 9 1
        let drop (s : State) : State := ((s.dropHold c.domain bucket slot).updNCmd cmd fun c => c.setLook unit ashlar .unindexed)
        let t := match job.result with
          | none => (drop t).wpCount 11 1
          | some b =>
            let there := if ashlar then b else settIn whole (ixSett e) b
            if there = c.unitData unit ashlar then
              (t.updNCmd cmd fun c => c.setLook unit ashlar (.hit bucket slot e)).wpCount (if ashlar then 3 else 4) 1
            else ((drop t).wpCount 10 1).raise Ev.dedupCollision (le 1 c.domain ++ le 8 bucket ++ le 1 slot)
        dataIf job.done s (t.decide_ cmd).trimIndex
    | _ => .next s

/-! ### Compression and placement (R176, R178, R182) -/

/-- COMPRESSION_JOB_END (R22, R178, R180): the extent is compressed by the templates of the epoch its job began in, or raw, padded
and encrypted. -/
def execCompressionJobEnd (cmd unit : Nat) (ashlar : Bool) (s : State) : Result :=
  match s.cmdOf? cmd with
  | none => .next s
  | some c =>
    let slot := ((s.ns? c.nsid).map Namespace.keySlot).getD 0xFF
    let input := c.unitData unit ashlar
    let job := if ashlar then (c.ashlars.get? unit).map AshlarWork.job else (c.setts.get? unit).map SettWork.job
    let bank := match job with
      | some (.wanted e) => s.bankAt e
      | _ => []
    let x := s.stored c.reduce bank slot input
    let wanted := (job.map Job.waits).getD false
    let j : Job := .done x.1 x.2.1 x.2.2
    let t := s.updNCmd cmd fun c =>
      if ashlar then { c with ashlars := c.ashlars.upd unit fun w => { w with job := j } }
      else { c with setts := c.setts.upd unit fun w => { w with job := j } }
    let t := ((t.wpCount 12 input.length).wpCount 13 x.2.2.length).wpCount 14 (boolNat x.1)
    .next (if wanted then (if c.reduce.tableMissing bank then t.wpCount 16 1 else t) else s.lookForms cmd)

/-- STAGING_PLACE (R166, R182). A write whose ashlars the map engine has not all answered for asks it again (R176). -/
def execStagingPlace (cmd : Nat) (s : State) : Result :=
  match s.cmdOf? cmd with
  | none => .next s
  | some c =>
    .next (if c.writes && c.wsn == 0 && c.reduced && s.placeClear cmd c && s.wsnFree && s.power.drain == .none then
        (((s.placeWrite cmd).syncWrite cmd).ceilingCheck.considerWrites 64).trimIndex
      else s.lookForms cmd)

/-! ### Rebuilding an index page (R174) -/

/-- References that map entries with indexed set hold on an index entry of an extent (R171). -/
def State.refsOf (s : State) (d pxa form sett : Nat) : Nat :=
  ((s.entryPages d).map fun p => ((extentsIn (p.2.body.getD [])).filter fun e =>
    e.indexed && s.resolvePxa e.pxa == pxa &&
      (if p.2.kind = 1 then true else if e.whole then form == 3 && sett == e.src else form == 1)).length).sum

/-- The entries of a page that the extents of a domain give: bucket and entry. -/
def State.indexEntries (s : State) (d page : Nat) : List (Nat × List Byte) :=
  (s.stripe.extents.filter fun e => stripeDomainOf (pxaStripe e.1) == d).flatMap fun e =>
    let x := e.2
    let form := if x.kind = 2 then 2 else 1
    let one := if x.tagged && x.bucket / 8 = page && 0 < s.refsOf d e.1 form 0 then
        [(x.bucket, ixEntry (le 16 x.tag) e.1 (s.refsOf d e.1 form 0) x.units form 0 x.keySlot x.raw)] else []
    one ++ x.conts.filterMap fun c =>
      let n := s.refsOf d e.1 3 c.sett
      if c.bucket / 8 = page && 0 < n then some (c.bucket, ixEntry (le 16 c.tag) e.1 n x.units 3 c.sett x.keySlot x.raw) else none

/-- The rebuilt page and the entries it took: at most 16 to a bucket. -/
def rebuildBody (es : List (Nat × List Byte)) : List Byte × Nat :=
  es.foldl (fun (acc : List Byte × Nat) e => match findSlot acc.1 e.1 fun x => ixForm x == 0 with
    | some i => (patch acc.1 (512 * (e.1 % 8) + 32 * i) e.2, acc.2 + 1)
    | none => acc) (zeros 4096, 0)

/-- INDEX_PAGE_REBUILD (R174): the domain's map pages are read in and the entries restored. The map entries that the queued
decrements released are gone from the map by now, so the counts taken from it are those after the decrements. -/
def execIndexPageRebuild (domain page : Nat) (s : State) : Result :=
  let p := s.indexPage domain page
  let absent := ((s.entryPages domain).filter fun x => x.2.body.isNone).map Prod.fst
  let t :=
    if !absent.isEmpty then s.fetchPages absent (s.rankOf 17)
    else
      let r := rebuildBody (s.indexEntries domain page)
      let t := s.updIndexPage domain page fun p => { p with body := some r.1, dirty := true, rebuilding := false, queued := [] }
      t.raise Ev.indexPageRebuilt (le 1 domain ++ le 8 page ++ le 4 r.2)
  dataIf (p.rebuilding && s.owns domain) s t

end Sys2Proof.Machine
end

