-- ==== Sys2Proof/Machine/NvmeFamily.lean ====
section
/-! DEFINITION. The commands of the NVMe target (R132 to R156). -/

namespace Sys2Proof.Machine

/-! ### Fabrics commands -/

/-- FABRICS_CONNECT (R132, R133): with a keyed descriptor the Connect data is read from the host first. -/
def execFabricsConnect (conn : Nat) (s : State) : Result :=
  let c := s.conn conn
  match c.inbox with
  | [] => .next s
  | cap :: _ =>
    let nvme := match c.use with
      | .nvme .. => true
      | _ => false
    let reading := (c.sent.any fun r => r.use == .connectData) || c.waiting.any fun w => w.2 == .connectData
    let fits := nvme && c.state == .ready && (s.ctrlOf conn).isNone && isConnect cap && !reading && s.fetching
    let keyed := sglId cap == 0x40 || sglId cap == 0x4F
    let at_ := 64 + sglAddr cap
    let refuse (st : Nat) : State := ((s.granted.popCapsule conn).refuseCapsule conn cap st).afterConnect conn
    dataIf fits s
      (if !keyed && sglId cap != 0x01 then refuse Nv.sglType
       else if sglLen cap ≠ 1024 then refuse Nv.sglLength
       else if keyed then s.granted.post conn (.read (sglAddr cap) (sglKey cap) 1024) .connectData
       else if cap.length < at_ + 1024 then refuse Nv.sglLength
       else s.granted.connect conn (slice cap at_ 1024))

def isFabrics (t : Nat) (cap : List Byte) : Bool := sqOpcode cap == 0x7F && fcType cap == t

/-- PROPERTY_SET (R134): CC alone is writable, and in it EN, SHN, IOSQES and IOCQES. -/
def execPropertySet (conn : Nat) (s : State) : Result := adminRun conn (isFabrics 0) s fun cap c _ s =>
  let v := fieldAt cap 48 4
  if fieldAt cap 44 4 ≠ 0x14 || (v &&& (0xFFFFFFFF ^^^ ccMask)) ≠ 0 then s.refuseCapsule conn cap Nv.invalidField
  else (s.writeCc c v).complete conn (sqCid cap) 0 0 (sglInv cap)

/-- SHUTDOWN_COMPLETE (R134). -/
def execShutdownComplete (cntlid : Nat) (s : State) : Result :=
  match s.ctrl? cntlid with
  | none => .next s
  | some x =>
    dataIf (x.shst == 1 && (s.shutdownLeft x).isEmpty) s
      ((s.tearIoQueues cntlid).updCtrl cntlid fun x => { x with shst := 2, shutdown := [] })

/-- PROPERTY_GET (R134). -/
def execPropertyGet (conn : Nat) (s : State) : Result := adminRun conn (isFabrics 4) s fun cap _ x s =>
  match x.property (fieldAt cap 44 4) with
  | none => s.refuseCapsule conn cap Nv.invalidField
  | some v => s.complete conn (sqCid cap) 0 v (sglInv cap)

/-! ### Admin commands -/

def isAdmin (op : Nat) (cap : List Byte) : Bool := sqOpcode cap == op

/-- GET_LOG_PAGE (R140, R142): a read with RAE 0 ends the hold on further events of the log, and empties log 0x04. -/
def execGetLogPage (conn : Nat) (s : State) : Result := adminRun conn (isAdmin 0x02) s fun cap c x s =>
  let lid := cdw cap 10 % 256
  match s.logPage x cap with
  | .error st => s.refuseCapsule conn cap st
  | .ok b =>
    let len := logLength cap
    let off := logOffset cap
    if off % 4 ≠ 0 || b.length < off || 1048576 < len then s.refuseCapsule conn cap Nv.invalidField
    else
      let good := (sglId cap == 0x40 || sglId cap == 0x4F) && sglLen cap == len
      let clear (x : Controller) : Controller :=
        { x with masked := x.masked.filter (· != lid), changed := if lid = 4 then [] else x.changed }
      let s := if good && !bit (cdw cap 10) 15 then s.updCtrl c clear else s
      s.adminData conn cap (slice b off len)

/-- NVME_IDENTIFY (R139): map pages that NUSE needs are read in first. -/
def execNvmeIdentify (conn : Nat) (s : State) : Result :=
  let needs := match s.frontCapsule conn with
    | none => []
    | some cap =>
      if sqOpcode cap = 0x06 && cdw cap 10 % 256 = 0 then match s.ns? (sqNsid cap) with
        | some n => s.nuseNeeds n
        | none => []
      else []
  if !needs.isEmpty then .next (s.fetchPages needs (s.rankOf 13))
  else adminRun conn (isAdmin 0x06) s fun cap c x s =>
    match s.identify c x cap with
    | .error st => s.refuseCapsule conn cap st
    | .ok b => s.freed.adminData conn cap b

/-- ABORT (R149): completes at once with Dword 0 bit 0 set. -/
def execAbort (conn : Nat) (s : State) : Result := adminRun conn (isAdmin 0x08) s fun cap _ _ s =>
  s.complete conn (sqCid cap) 0 1 (sglInv cap)

/-- SET_FEATURES (R141). -/
def execSetFeatures (conn : Nat) (s : State) : Result := adminRun conn (isAdmin 0x09) s fun cap c x s =>
  let r := x.setFeature cap
  let s := s.updCtrl c fun _ => r.2.2
  let s := s.complete conn (sqCid cap) r.1 r.2.1 (sglInv cap)
  if cdw cap 10 % 256 = 4 && r.1 = 0 then s.healthCheck else s

/-- GET_FEATURES (R141): the Host Identifier is returned as data. -/
def execGetFeatures (conn : Nat) (s : State) : Result := adminRun conn (isAdmin 0x0A) s fun cap _ x s =>
  if cdw cap 10 % 256 = 0x81 then s.adminData conn cap (fit 16 x.hostId)
  else match x.getFeature cap with
    | none => s.refuseCapsule conn cap Nv.invalidField
    | some v => s.complete conn (sqCid cap) 0 v (sglInv cap)

/-- ASYNC_EVENT_REQUEST (R138). -/
def execAsyncEventRequest (conn : Nat) (s : State) : Result := adminRun conn (isAdmin 0x0C) s fun cap c x s =>
  if 4 ≤ x.aers.length then s.refuseCapsule conn cap Nv.aerLimit
  else s.updCtrl c fun x => { x with aers := x.aers ++ [(sqCid cap, sglInv cap)] }

/-- KEEP_ALIVE (R136): the timer was restarted when the capsule was accepted. -/
def execKeepAlive (conn : Nat) (s : State) : Result := adminRun conn (isAdmin 0x18) s fun cap _ _ s =>
  s.complete conn (sqCid cap) 0 0 (sglInv cap)

/-- KEEP_ALIVE_EXPIRY (R136). -/
def execKeepAliveExpiry (cntlid : Nat) (s : State) : Result :=
  match s.ctrl? cntlid with
  | none => .next s
  | some x =>
    dataIf (s.expired x.deadline) s ((s.raise Ev.katoExpired (le 2 cntlid ++ le 4 x.katoMs)).endController cntlid 2)

/-! ### Format and sanitize (R151 to R154) -/

/-- The status that refuses a format of a namespace to a LBAF, PI type and SES (R151, R200). -/
def State.formatStatus (n : Namespace) (nsid lbaf pi ses : Nat) (s : State) : Option Nat :=
  let shared := s.nvme.namespaces.any fun x => x.1 != nsid && x.2.keySlot == n.keySlot
  if 3 < lbaf || pi = 2 || 3 < pi || (pi ≠ 0 && lbaf < 2) then some Nv.invalidFormat
  else if 2 < ses then some Nv.invalidField
  else if ses = 2 && (s.noCipher || n.keySlot = 0xFF || shared) then some Nv.invalidField
  else none

/-- FORMAT_NVM (R151): what it needs of the map is read in first; it completes when the operation has ended. The spec gives no
status for a Format while 16 operations run: the model answers Operation Denied, as for a Sanitize (DESIGN CHOICE, log entry
145). -/
def execFormatNvm (conn : Nat) (s : State) : Result :=
  let absent := match s.frontCapsule conn with
    | some cap => if sqOpcode cap = 0x80 && s.owns (((s.ns? (sqNsid cap)).map Namespace.domain).getD 256) then s.eraseAbsent [sqNsid cap] else []
    | none => []
  if !absent.isEmpty then .next (s.fetchPages absent (s.rankOf 14))
  else adminRun conn (isAdmin 0x80) s fun cap _ x s =>
    let nsid := sqNsid cap
    let v := cdw cap 10
    match s.ns? nsid with
    | none => s.refuseCapsule conn cap Nv.invalidNamespace
    | some n =>
      let ana := s.nvme.ana.getD n.domain 3
      if some n.subsys ≠ x.subsys then s.refuseCapsule conn cap Nv.invalidNamespace
      else if ana = 3 then s.refuseCapsule conn cap Nv.inaccessible
      else if ana = 15 then s.refuseCapsule conn cap Nv.transition
      else if s.sanitizeRunning n.subsys then s.refuseCapsule conn cap Nv.sanitizing
      else if s.nvme.erases.any fun e => e.2.kind == 1 && e.2.target == nsid && e.2.state == 1 then
        s.refuseCapsule conn cap Nv.formatting
      else if s.footing.active then s.refuseCapsule conn cap Nv.protectedNs
      else match s.formatStatus n nsid (v % 16) (bits v 7 5) (bits v 11 9) with
        | some st => s.refuseCapsule conn cap st
        | none => match s.eraseSlot with
          | none => s.refuseCapsule conn cap Nv.denied
          | some k => s.startErase k 1 (bits v 11 9) nsid v (v % 16 + 16 * bits v 7 5) n.tag [nsid] (some (conn, sqCid cap)) (sglInv cap)

/-- A cryptographic erase is permitted (R152, R200). -/
def State.cryptoAllowed (sub : Nat) (s : State) : Bool :=
  let mine := s.nsOf sub
  let slots := s.keySlotsOf mine
  !s.noCipher && (mine.all fun n => ((s.ns? n).map Namespace.keySlot) != some 0xFF) &&
    !(s.nvme.namespaces.any fun x => x.2.subsys != sub && slots.contains x.2.keySlot)

/-- The status that refuses a Sanitize with action 2 or 4 of a subsystem (R152). -/
def State.sanitizeStatus (sub action : Nat) (host : Bool) (s : State) : Option Nat :=
  let owned := (s.nsOf sub).all fun n => s.owns (((s.ns? n).map Namespace.domain).getD 256)
  if action = 4 && !s.cryptoAllowed sub then some Nv.invalidField
  else if s.sanitizeRunning sub then some Nv.sanitizing
  else if s.footing.active then some Nv.protectedNs
  else if !owned || s.eraseSlot.isNone || (host && !bit (s.subsys sub).flags 1) then some Nv.denied
  else none

/-- A Sanitize of a host: it completes as soon as the operation is recorded. -/
def sanitizeRun (conn action : Nat) (s : State) : Result :=
  let fits (cap : List Byte) : Bool := sqOpcode cap == 0x84 && cdw cap 10 % 8 == action
  let absent := match s.frontCapsule conn, (s.ctrlOf conn).bind s.ctrl? with
    | some cap, some x => match x.subsys with
      | some n => if fits cap && action = 2 && (s.sanitizeStatus n action true).isNone then s.eraseAbsent (s.nsOf n) else []
      | none => []
    | _, _ => []
  if !absent.isEmpty then .next (s.fetchPages absent (s.rankOf 14))
  else adminRun conn fits s fun cap _ x s =>
    let sub := x.subsys.getD 65536
    match s.sanitizeStatus sub action true, s.eraseSlot with
    | some st, _ => s.refuseCapsule conn cap st
    | none, none => s.refuseCapsule conn cap Nv.denied
    | none, some k => (s.startErase k 2 action sub (cdw cap 10) 0 0 (s.nsOf sub) none none).complete conn (sqCid cap) 0 0 (sglInv cap)

/-- SANITIZE_BLOCK_ERASE (R152). -/
def execSanitizeBlockErase (conn : Nat) (s : State) : Result := sanitizeRun conn 2 s

/-- SANITIZE_CRYPTO_ERASE (R152). -/
def execSanitizeCryptoErase (conn : Nat) (s : State) : Result := sanitizeRun conn 4 s

/-- SANITIZE_EXIT_FAILURE (R152): action 001b; every action but 010b and 100b that it does not accept is an Invalid Field. The
record of the failure is dropped, so that no later start-up shows it again (log entry 147). -/
def execSanitizeExitFailure (conn : Nat) (s : State) : Result :=
  let fits (cap : List Byte) : Bool := sqOpcode cap == 0x84 && cdw cap 10 % 8 != 2 && cdw cap 10 % 8 != 4
  adminRun conn fits s fun cap _ x s =>
    let sub := x.subsys.getD 65536
    if cdw cap 10 % 8 ≠ 1 then s.refuseCapsule conn cap Nv.invalidField
    else if s.sanitizeRunning sub then s.refuseCapsule conn cap Nv.sanitizing
    else if !s.sanitizeBroken sub then s.refuseCapsule conn cap Nv.invalidField
    else ((s.forgetErase 2 sub).updSubsys sub fun u => { u with sstat := 0 }).complete conn (sqCid cap) 0 0 (sglInv cap)

/-- An operation of a slot runs: recorded, not waiting for its domains, and not stopped by footing mode (R154, R448). -/
def State.erasing (s : State) (index : Nat) : Option EraseOp :=
  match s.nvme.erases.get? index with
  | some e => if e.state = 1 && !e.parked && !s.footing.stopped && s.power.drain = .none then some e else none
  | none => none

/-- ERASE_OPERATION_STEP (R152 to R154). -/
def execEraseOperationStep (index : Nat) (s : State) : Result :=
  match s.erasing index with
  | none => .next s
  | some e => dataIf (!s.eraseBroken e && decide (e.phase < 3)) s (s.eraseStep index e)

/-- ERASE_OPERATION_END (R154). -/
def execEraseOperationEnd (index : Nat) (s : State) : Result :=
  match s.erasing index with
  | none => .next s
  | some e =>
    if s.eraseBroken e then .next (s.failErase index e)
    else dataIf (s.erasePurged e) s (s.endErase index e)

/-! ### I/O commands (R138, R144, R147) -/

/-- NVME_FLUSH (R147): the stripes of the writes it awaits are closed at once. -/
def execNvmeFlush (conn : Nat) (s : State) : Result := ioRun conn 0x00 s fun cap c k s =>
  let sub := ((s.ctrl? c).bind Controller.subsys).getD 65536
  let all := sqNsid cap = 0xFFFFFFFF
  let ids := if all then s.nsOf sub else [sqNsid cap]
  let n : Namespace := (s.ns? (sqNsid cap)).getD
    { subsys := sub, domain := 0, cls := 2, nsze := 0, lbaf := 0, pi := 0, tag := 0, keySlot := 0xFF, nguid := [], eui := [] }
  let ws := s.flushAwaits ids k
  let rank := if all then s.flushRank ws else s.classRank n.cls 2
  let x : Cmd := { s.freshCmd .flush conn c k cap n rank with await := ws }
  ((s.addCmd k x).closeAwaited ws rank).completeFlush k

/-- FLUSH_COMPLETE (R147). -/
def execFlushComplete (cmd : Nat) (s : State) : Result := .next (s.completeFlush cmd)

/-- NVME_WRITE (R144, R161). -/
def execNvmeWrite (conn : Nat) (s : State) : Result := ioRun conn 0x01 s fun cap c k s =>
  match s.ns? (sqNsid cap) with
  | none => s.refuseCapsule conn cap Nv.invalidNamespace
  | some n =>
    let x := s.freshCmd .write conn c k cap n (s.classRank n.cls 1)
    let r := settRun n.lbaf x.slba x.nlb
    let m := r.2 + 1 - r.1
    let s := s.addCmd k { x with slots := m, need := needUnits m (x.ashlarSpan n.lbaf) }
    let s := s.considerWrites 1
    if ((s.cmdOf? k).map Cmd.waits).getD false then s.wpCount 15 1 else s

/-- NVME_READ (R144, R281): a read of class B or C waits while the floor gate is closed. -/
def execNvmeRead (conn : Nat) (s : State) : Result := ioRun conn 0x02 s fun cap c k s =>
  match s.ns? (sqNsid cap) with
  | none => s.refuseCapsule conn cap Nv.invalidNamespace
  | some n =>
    let x := s.freshCmd .read conn c k cap n (s.classRank n.cls 0)
    let s := s.addCmd k { x with outside := s.readConditions x n }
    if s.stripe.rebuild.gate.isSome && classOf n.cls ≠ 1 then s else s.advanceRead k

/-! ### Groups (R145) -/

/-- ANATT, 30 s. -/
def anatt : Nat := ticksOf 30000000000

/-- ANATT_EXPIRY (R145): the acquisition goes on; the group is reported Inaccessible. -/
def execAnattExpiry (domain : Nat) (s : State) : Result :=
  dataIf (decide (domain < 256) && s.nvme.ana.getD domain 3 == 15 && (s.domain domain).state == .acquiring &&
    s.expired (s.nvme.anaSince.getD domain 0 + anatt)) s (s.setAna domain 3)

end Sys2Proof.Machine
end

