-- ==== Sys2Proof/Machine/NvmePackets.lean ====
section
/-! DEFINITION. The packets of class 0x03 (R19, R142, R151 to R157). -/

namespace Sys2Proof.Machine

/-- A packet on a subsystem that must exist. -/
def State.onSubsys (p : Packet) (f : Nat → Subsystem → State → State) (s : State) : State :=
  match s.nvme.subsystems.get? (p.f 0 2) with
  | none => s.fail p St.subsysUnknown
  | some u => f (p.f 0 2) u s

/-- A packet on a namespace that must exist. -/
def State.onNamespace (p : Packet) (f : Nat → Namespace → State → State) (s : State) : State :=
  match s.ns? (p.f 0 4) with
  | none => s.fail p St.nsUnknown
  | some n => f (p.f 0 4) n s

/-- SUBSYS_CONFIG (R155, R157): creates a subsystem, or changes one and keeps its hosts, health and counters. A new one shows the
newest sanitize recorded for its number (R153, R154). -/
def execSubsysConfig (op : PktOp) (s : State) : Result := packetRun 0x0300 op s fun p s =>
  let n := p.f 0 2
  let old := s.nvme.subsystems.get? n
  let nqn := p.bytes 4 256
  let live := s.nvme.controllers.any fun c => c.2.subsys == some n
  let moved := match old with
    | some u => u.nqn != nqn
    | none => false
  if moved && live then s.fail p St.subsysInUse
  else
    let fresh : Subsystem := { stats := s.nvme.saved.getD n (List.replicate 6 0) }
    let u : Subsystem := { old.getD fresh with
      flags := p.f 2 2, nqn := nqn, sn := p.bytes 260 20, mn := p.bytes 280 40, fr := p.bytes 320 8 }
    let s := { s with nvme.subsystems := s.nvme.subsystems.set n u }
    (if old.isNone then s.recallErase 2 n else s).replyOk p

/-- SUBSYS_DELETE (R157). -/
def execSubsysDelete (op : PktOp) (s : State) : Result := packetRun 0x0301 op s fun p s =>
  s.onSubsys p (fun n _ s =>
    if !(s.nsOf n).isEmpty || s.nvme.controllers.any fun c => c.2.subsys == some n then s.fail p St.subsysInUse
    else (({ s with nvme.subsystems := s.nvme.subsystems.del n }).forgetErase 2 n).replyOk p)

/-- SUBSYS_HOSTS (R157). -/
def execSubsysHosts (op : PktOp) (s : State) : Result := packetRun 0x0302 op s fun p s =>
  s.onSubsys p (fun n _ s =>
    let hosts := (List.range (p.f 2 2)).map fun i => slice (p.buffer op) (256 * i) 256
    (s.updSubsys n fun u => { u with hosts := hosts }).replyOk p)

/-- Bytes of all namespaces: 64 PiB at most (R130). -/
def State.nsBytes (s : State) : Nat :=
  (s.nvme.namespaces.map fun n => if n.1 < 2 ^ 32 && s.owns n.2.domain then n.2.nsze * dataSize n.2.lbaf else 0).sum
def nsBytesLimit : Nat := 2 ^ 56

/-- NS_CREATE (R157, R200): on the owning head its head layer is made too. A failed format recorded for its number still holds it
in Format In Progress (R154). -/
def execNsCreate (op : PktOp) (s : State) : Result := packetRun 0x0303 op s fun p s =>
  let nsid := p.f 0 4
  let slot := p.f 0x14 1
  let n : Namespace := { subsys := p.f 4 2, domain := p.f 6 1, cls := p.f 7 1, nsze := p.f 8 8, lbaf := p.f 0x10 1, pi := p.f 0x11 1,
                         tag := p.f 0x12 2, keySlot := slot, nguid := p.bytes 0x18 16, eui := p.bytes 0x28 8 }
  if s.noCipher && slot ≠ 0xFF then s.fail p St.cipherAbsent
  else if (s.ns? nsid).isSome then s.fail p St.nsExists
  else if !s.nvme.subsystems.has n.subsys then s.fail p St.subsysUnknown
  else if slot ≠ 0xFF && (s.keySlot slot).kind ≠ 1 then s.fail p St.keyUsage
  else if s.owns n.domain && nsBytesLimit < s.nsBytes + n.nsze * dataSize n.lbaf then s.fail p St.limitExceeded
  else
    let s := (({ s with nvme.namespaces := s.nvme.namespaces.set nsid n }).recallErase 1 nsid).refKey slot true
    let s := if s.owns n.domain then s.giveLayer nsid else s
    (s.startPinning nsid).replyOk p

/-- A format of the namespace or a sanitize of its subsystem runs. -/
def State.nsErasing (nsid : Nat) (n : Namespace) (s : State) : Bool :=
  s.nvme.erases.any fun e => e.2.state == 1 && ((e.2.kind == 1 && e.2.target == nsid) || (e.2.kind == 2 && e.2.target == n.subsys))

/-- The number a deleted namespace stands under while commands or records still name it (log entry 24). -/
def State.ghostId (s : State) (nsid : Nat) : Nat := nsid + 2 ^ 32 * (s.now + 1)

/-- NS_DELETE (R157): fetched commands and placed records keep the definition; on the owner a LAYER_DELETE record follows
them. A head without the map ends the key reference at once. -/
def execNsDelete (op : PktOp) (s : State) : Result := packetRun 0x0304 op s fun p s =>
  s.onNamespace p (fun nsid n s =>
    if s.nsErasing nsid n then s.fail p St.nsBusy
    else
      let s := s.forgetErase 1 nsid
      let g := s.ghostId nsid
      let gone : Namespace := { n with subsys := 65536 }
      let cmd (c : Cmd) : Cmd := if c.nsid = nsid then { c with nsid := g } else c
      let rec_ (r : Staged) : Staged := if r.nsid = nsid && !r.applied then { r with nsid := g } else r
      let s := { s with nvme.namespaces := (s.nvme.namespaces.del nsid).set g gone, nvme.cmds := s.nvme.cmds.mapVals cmd }
      let s := { s.granted with wp.log := s.wp.log.map rec_, wp.waiting := s.wp.waiting.map rec_, map.pinning := s.map.pinning.filter (· != nsid) }
      let relayer (l : Layer) : Layer := if l.nsid = nsid then { l with nsid := g } else l
      let layers : Tab Layer := s.map.layers.map fun (x : Nat × Layer) => if x.1 / 2 ^ 32 = n.domain then (x.1, relayer x.2) else x
      let s := { s with map.layers := layers }
      let s := if s.owns n.domain && n.layer ≠ 0 then
          s.stageMap n.domain g (s.rankOf 14) [{ ashlar := 0, op := 11, target := n.layer }] none
        else s.refKey n.keySlot false
      s.pruneGhosts.replyOk p)

/-- NS_RESIZE (R156, R157, R217): the tree is raised to the levels the new size needs. -/
def execNsResize (op : PktOp) (s : State) : Result := packetRun 0x0305 op s fun p s =>
  s.onNamespace p (fun nsid n s =>
    let size := p.f 8 8
    if size < n.nsze then s.fail p St.shrinkRefused
    else if size % lbasPerSett n.lbaf ≠ 0 then s.failField p St.outOfRange 8
    else if s.owns n.domain && nsBytesLimit < s.nsBytes + (size - n.nsze) * dataSize n.lbaf then s.fail p St.limitExceeded
    else
      let s := { s with nvme.namespaces := s.nvme.namespaces.set nsid { n with nsze := size } }
      let s := match s.layer? n.domain n.layer with
        | none => s
        | some l =>
          (s.updLayer n.domain n.layer fun l => { l with nsze := size }).growLayer n.domain n.layer
            (levelsFor (ashlarCount size n.lbaf) - l.levels)
      (s.nsChanged nsid n.subsys).replyOk p)

/-- Pages of the head layer of a namespace. -/
def State.nsPages (s : State) (n : Namespace) : List Nat :=
  match s.layer? n.domain n.layer with
  | none => []
  | some l => s.layerPages l

/-- NS_SET_CLASS (R19, R239): a change to A begins pinning, a change from A ends it. -/
def execNsSetClass (op : PktOp) (s : State) : Result := packetRun 0x0306 op s fun p s =>
  s.onNamespace p (fun nsid n s =>
    let cls := p.f 4 1
    let s1 := { s with nvme.namespaces := s.nvme.namespaces.set nsid { n with cls := cls } }
    let mine := s.nsPages n
    let fixed := (s.map.pages.filter fun x => decide (3 ≤ x.2.kind) || decide (0 < x.2.pins) || mine.contains x.1).length
    if cls = 1 && n.cls ≠ 1 && s.owns n.domain then
      if 3 * s.map.area < 4 * (4096 * fixed) then s.fail p St.limitExceeded else (s1.startPinning nsid).replyOk p
    else if cls ≠ 1 && n.cls = 1 then
      let s1 := s1.countPins n.domain
      ({ s1 with map.pinning := s1.map.pinning.filter (· != nsid), map.pinned := s1.map.pinned.filter (· != nsid) }).replyOk p
    else s1.replyOk p)

/-- The NS_CREATE record of a namespace. -/
def Namespace.record (nsid : Nat) (n : Namespace) : List Byte :=
  le 4 nsid ++ le 2 n.subsys ++ le 1 n.domain ++ le 1 n.cls ++ le 8 n.nsze ++ le 1 n.lbaf ++ le 1 n.pi ++ le 2 n.tag ++
    le 1 n.keySlot ++ zeros 3 ++ fit 16 n.nguid ++ fit 8 n.eui

/-- State of the newest format or sanitize that names a namespace: 0 none, else the state of its record (R154). -/
def State.eraseStateOf (nsid : Nat) (n : Namespace) (s : State) : Nat :=
  let mine := s.nvme.erases.filter fun e => (e.2.kind == 1 && e.2.target == nsid) || (e.2.kind == 2 && e.2.target == n.subsys)
  (mine.foldl (fun (best : Nat × Nat) e => if best.1 ≤ e.2.startStamp then (e.2.startStamp, e.2.state) else best) (0, 0)).2

/-- NS_QUERY (R157): map pages that NUSE needs are read in first. -/
def execNsQuery (op : PktOp) (s : State) : Result := packetRun 0x0307 op s fun p s =>
  s.onNamespace p (fun nsid n s =>
    let needs := s.nuseNeeds n
    if !needs.isEmpty then s.fetchPages needs (s.rankOf 13)
    else
      s.freed.reply p St.ok 0 (fit 64 (n.record nsid ++ le 8 (s.nuse n) ++ le 1 (s.nvme.ana.getD n.domain 3) ++ le 1 (s.eraseStateOf nsid n))))

/-- CTRL_QUERY (R157): subsystem, host NQN, KATO, I/O queue count, logical port, WCE (log entry 23). -/
def execCtrlQuery (op : PktOp) (s : State) : Result := packetRun 0x0308 op s fun p s =>
  match s.ctrl? (p.f 0 2) with
  | none => s.fail p St.ctrlUnknown
  | some x =>
    let sub := match x.subsys with
      | some n => n
      | none => s.freeNat
    s.freed.reply p St.ok 0 (fit 512 (le 2 sub ++ fit 256 x.host ++ le 4 x.katoMs ++ le 2 x.queues.length ++ le 1 x.lport ++
      le 1 (boolNat x.wce)))

/-- CTRL_TEARDOWN (R135, R157). -/
def execCtrlTeardown (op : PktOp) (s : State) : Result := packetRun 0x0309 op s fun p s =>
  match s.ctrl? (p.f 0 2) with
  | none => s.fail p St.ctrlUnknown
  | some _ => (s.endController (p.f 0 2) 4).replyOk p

/-- HEALTH_SET (R155, R156). -/
def execHealthSet (op : PktOp) (s : State) : Result := packetRun 0x030A op s fun p s =>
  let n := p.f 0 2
  let put (u : Subsystem) : Subsystem :=
    { u with warnings := (u.warnings ||| p.f 2 1) &&& (0xFF ^^^ p.f 3 1), spare := p.f 4 1, threshold := p.f 5 1, used := p.f 6 1,
             backupCleared := u.backupCleared || bit (p.f 3 1) 4 }
  if n ≠ 0xFFFF && !s.nvme.subsystems.has n then s.fail p St.subsysUnknown
  else
    let s := if n = 0xFFFF then { s with nvme.subsystems := s.nvme.subsystems.mapVals put } else s.updSubsys n put
    let s := if n = 0xFFFF && bit (p.f 3 1) 4 then { s with nvme.backupFailed := false } else s
    s.healthCheck.replyOk p

/-- ERASE_START (R151, R152, R157): a format keeps the current format. -/
def execEraseStart (op : PktOp) (s : State) : Result := packetRun 0x030B op s fun p s =>
  let action := p.f 1 1
  let target := p.f 4 4
  let begin_ (kind newLbaf tag : Nat) (nsids : List Nat) (s : State) : State :=
    let absent := s.eraseAbsent nsids
    match s.eraseSlot with
    | none => s.fail p St.limitExceeded
    | some k =>
      if !absent.isEmpty then s.fetchPages absent (s.rankOf 14)
      else
        let t := s.startErase k kind action target 0 newLbaf tag nsids none none
        let keyed := s.needsKey { kind := kind, action := action, target := target, total := 0, startStamp := 0, nsids := nsids }
        if keyed && s.keys.entropyFailed then t.fail p St.entropy else t.replyOk p
  if p.f 0 1 = 1 then
    match s.ns? target with
    | none => s.fail p St.nsUnknown
    | some n =>
      if !s.owns n.domain then s.fail p St.notOwner
      else if s.nsErasing target n then s.fail p St.nsBusy
      else if (s.formatStatus n target n.lbaf n.pi action).isSome then s.failField p St.invalidField 1
      else begin_ 1 (n.lbaf + 16 * n.pi) n.tag [target] s
  else if !s.nvme.subsystems.has target then s.fail p St.subsysUnknown
  else if !((s.nsOf target).all fun n => s.owns (((s.ns? n).map Namespace.domain).getD 256)) then s.fail p St.notOwner
  else if s.sanitizeRunning target then s.fail p St.nsBusy
  else if (action = 4 && !s.cryptoAllowed target) then s.failField p St.invalidField 1
  else begin_ 2 0 0 (s.nsOf target) s

/-- ERASE_STATUS (R154): zeros where no operation was recorded. -/
def execEraseStatus (op : PktOp) (s : State) : Result := packetRun 0x030C op s fun p s =>
  s.reply p St.ok 0 (((s.nvme.erases.get? (p.f 0 1)).map EraseOp.bytes).getD (zeros 64))

/-- DISC_LOG_SET (R142). -/
def execDiscLogSet (op : PktOp) (s : State) : Result := packetRun 0x030D op s fun p s =>
  let es := (List.range (p.f 2 2)).map fun i => slice (p.buffer op) (1024 * i) 1024
  ({ s with nvme.discovery := s.nvme.discovery.set (p.f 0 1) es, nvme.genctr := s.nvme.genctr + 1 }).replyOk p

end Sys2Proof.Machine
end

