-- ==== Sys2Proof/Machine/TransportRx.lean ====
section
/-! DEFINITION. Receiving RC packets: residence of contexts, the responder, the requester and the end of messages (R31, R102,
R109 to R124). -/

namespace Sys2Proof.Machine

/-! ### Regions (R117, R118) -/

/-- Protection domain of a connection (R117): 0 for hosts, one for each peer head and each replication session. -/
def Conn.domain (c : Conn) : Nat := match c.use with
  | .nvme .. => 0
  | .peer h _ => 1 + h
  | .repl n => 65537 + n

/-- The checks of R118: the region and offset, or a failure that says whether a stale key caused it. -/
def State.checkKey (s : State) (c : Conn) (key va len : Nat) (write : Bool) : Except Bool (Nat × Nat) :=
  match s.net.regions.get? (key / 256) with
  | none => .error false
  | some r =>
    if !r.live then .error false
    else if key % 256 ≠ r.gen then .error true
    else if c.domain ≠ r.domain then .error false
    else if !(if write then r.canWrite else r.canRead) then .error false
    else if va < r.base || r.base + r.len < va + len then .error false
    else .ok (key / 256, va - r.base)

/-- A 256-byte unit of a mirror area. -/
def unitOf (m : Tab (List Byte)) (u : Nat) : List Byte := m.getD u (zeros 256)

/-- Bytes written over the units from byte `off` on, at most `n` of them. -/
def writeUnits : Nat → Nat → List Byte → Tab (List Byte) → Tab (List Byte)
  | 0, _, _, m => m
  | n + 1, off, b, m =>
    if b.isEmpty then m
    else
      let r := off % 256
      let old := unitOf m (off / 256)
      let new := fit 256 (old.take r ++ b.take (256 - r) ++ old.drop (r + b.length))
      writeUnits n (off + 256 - r) (b.drop (256 - r)) (m.set (off / 256) new)

/-- Bytes written into a region; regions 0 and 1 are the mirror areas (R331). -/
def State.writeRegion (i off : Nat) (b : List Byte) (s : State) : State :=
  { s with mirror.areas := s.mirror.areas.modify i fun a => { a with mem := writeUnits (b.length / 256 + 2) off b a.mem } }

/-- Bytes read from a region. -/
def State.readRegion (s : State) (i off len : Nat) : List Byte :=
  let m := (s.mirror.areas.getD i {}).mem
  slice (((List.range ((off % 256 + len + 255) / 256)).map fun k => unitOf m (off / 256 + k)).flatten) (off % 256) len

/-! ### The end of messages -/

/-- The ranges of a Dataset Management command have arrived: their LBAs are checked, and it waits for admission (R144,
R167). -/
def State.rangesArrived (k : Nat) (b : List Byte) (s : State) : State :=
  match s.cmdOf? k with
  | none => s
  | some c =>
    match s.ns? c.nsid with
    | none => s.failCmd k Nv.invalidNamespace
    | some n =>
      let rs := (List.range (b.length / 16)).map fun i => (fieldAt b (16 * i + 8) 8, fieldAt b (16 * i + 4) 4)
      if rs.any fun r => decide (n.nsze < r.1 + r.2) then s.failCmd k Nv.lbaRange
      else
        if !bit (cdw c.capsule 11) 2 then s.failCmd k 0
        else
        let c' : Cmd := { c with ranges := rs, fetched := true }
        let s := s.updNCmd k fun _ => { c' with need := needUnits 0 (c'.ashlarSpan n.lbaf) }
        let s := s.considerWrites 1
        if ((s.cmdOf? k).map Cmd.waits).getD false then s.wpCount 15 1 else s

/-- A READ of this chip has ended with its bytes, or in a length error (R120). -/
def State.readEnded (conn : Nat) (u : RcUse) (b : Option (List Byte)) (s : State) : State :=
  match u, b with
  | .writeData k, none => s.failCmd k Nv.transient
  | .writeData k, some b =>
    match s.cmdOf? k with
    | none => s
    | some c => if c.kind = .dealloc then s.rangesArrived k b else (s.ingest k b).lookForms k
  | .connectData, none =>
    match (s.conn conn).inbox with
    | [] => s
    | cap :: _ => ((s.popCapsule conn).refuseCapsule conn cap Nv.transient).afterConnect conn
  | .connectData, some b => s.connect conn b
  | _, _ => s

/-- Opcodes of the admin command set (R138). -/
def adminOpcodes : List Nat := [0x02, 0x06, 0x08, 0x09, 0x0A, 0x0C, 0x18, 0x80, 0x84]

/-- The status of a capsule that no command of R138 answers. -/
def State.unknownCapsule (s : State) (conn : Nat) (cap : List Byte) : Option Nat :=
  let op := sqOpcode cap
  if s.qidOf conn = 0 then
    if op = 0x7F then (if fcType cap = 0 || fcType cap = 4 then none else if fcType cap = 1 then some Nv.sequence else some Nv.invalidOpcode)
    else if adminOpcodes.contains op then none
    else some Nv.invalidOpcode
  else if ioOpcodes.contains op then none
  else if s.cidBusy conn (sqCid cap) then some Nv.cidConflict
  else some Nv.invalidOpcode

/-- A message takes a receive slot. A capsule of a controller restarts its Keep Alive timer, unless its deadline has expired:
then it is discarded (R136). A first capsule that is no Connect tears the queue down; a later one waits until the Connect has
been answered (R132). -/
def State.deliverMessage (conn : Nat) (b : List Byte) (s : State) : State :=
  let put (s : State) : State := s.updConn conn fun c => { c with inbox := c.inbox ++ [b], inboxAt := c.inboxAt ++ [s.tick] }
  match (s.conn conn).use with
  | .nvme .. =>
    match s.ctrlOf conn with
    | none =>
      if isConnect b || !(s.conn conn).inbox.isEmpty then put s else (s.tearQueue conn).disconnect conn
    | some k =>
      match s.ctrl? k with
      | none => s
      | some x =>
        if s.expired x.deadline then s
        else
          let s := s.updCtrl k fun x => { x with deadline := s.katoDeadline x.katoMs }
          let s := match x.subsys with
            | some n => s.startBusy n
            | none => s
          match s.unknownCapsule conn b with
          | none => put s
          | some st => (((put s).updConn conn fun c => { c with inbox := b :: c.inbox.dropLast, inboxAt := s.tick :: c.inboxAt.dropLast }).popCapsule conn).refuseCapsule conn b st
  | _ => put s

/-! ### The responder (R111, R112, R115, R118, R121) -/

/-- Largest message of a receive slot: a capsule of R137, or a header and body of R330. -/
def Conn.slotBytes (c : Conn) : Nat := match c.use with
  | .nvme 0 _ => 64 + 8192
  | .nvme .. => 64
  | _ => 32 + 65600

/-- Send an ACK for ePSN - 1; on a port that cannot send it waits (R96, R106). -/
def State.sendAck (i : Nat) (s : State) : State :=
  let c := s.conn i
  (s.updConn i fun c => { c with rxPending := 0, ackDue := none, lastUse := s.now }).sendPackets i [.ack i (psnAdd c.epsn (2 ^ 24 - 1))]

/-- Send a NAK for ePSN. -/
def State.sendNak (i : Nat) (code : Aeth) (s : State) : State := s.sendPackets i [.nak i (s.conn i).epsn code]

/-- An Invalid Request NAK: the connection fails (R100, R104, R121). -/
def State.nakInvalid (i : Nat) (s : State) : State :=
  ((s.updConn i fun c => { c with rx := none }).sendNak i .invalidRequest).connError i 4

/-- A Remote Access Error NAK (R118). -/
def State.nakAccess (i : Nat) (stale : Bool) (s : State) : State :=
  ((((s.netCount 8 (boolNat stale)).netCount 9 1).updConn i fun c => { c with rx := none }).sendNak i .remoteAccess).connError i 4

/-- A packet has been executed: ePSN moves on by `n`, and it is acknowledged by the rule of R112. -/
def State.executed (i n : Nat) (ackReq : Bool) (s : State) : State :=
  let s := s.updConn i fun c => { c with epsn := psnAdd c.epsn n, nakFor := none, rxPending := c.rxPending + 1, dirty := true }
  if ackReq || 16 ≤ (s.conn i).rxPending then s.sendAck i
  else s.updConn i fun c => { c with ackDue := some (c.ackDue.getD (s.now + 2000)) }

/-- The responses of a READ: First 13, Middle 14, Last 15, Only 16 (R100). -/
def State.respond (i psn off len region : Nat) (s : State) : State :=
  let c := s.conn i
  let n := packetCount len c.pmtu
  let b := s.readRegion region off len
  let code (k : Nat) : Nat := if n = 1 then 16 else if k = 0 then 13 else if k + 1 = n then 15 else 14
  let os := (List.range n).map fun k =>
    Out.readResponse i (code k) (psnAdd psn k) (slice b (c.pmtu * k) (min c.pmtu (len - c.pmtu * k)))
  (s.updConn i fun c => { c with packetsTx := c.packetsTx + n, lastUse := s.now }).sendPackets i os

/-- A SEND packet at ePSN. -/
def State.rxSend (i : Nat) (p : RcPacket) (s : State) : State :=
  let c := s.conn i
  let first := p.op = 0 || p.op = 4
  let last := p.op = 2 || p.op = 4
  if first && c.slots ≤ c.inbox.length then (s.netCount 11 1).sendNak i (.rnr c.rnrTimer)
  else
    let open_ := match c.rx with
      | some m => !m.write
      | none => false
    let got := if first then p.payload else (c.rx.map RxMsg.bytes).getD [] ++ p.payload
    if (first && c.rx.isSome) || (!first && !open_) || c.slotBytes < got.length then s.nakInvalid i
    else
      let s := s.updConn i fun c => { c with rx := if last then none else some { write := false, bytes := got } }
      let s := s.executed i 1 p.ackReq
      if last then s.deliverMessage i got else s

/-- An RDMA WRITE packet at ePSN: the key is checked on the First or Only packet against the whole length, later packets
against its bounds (R118, R121). When the region is reused in the middle of a WRITE, which R118 does not settle, the later packets fail
with an Invalid Request NAK and nothing is placed (DESIGN CHOICE, log entry 134). -/
def State.rxWrite (i : Nat) (p : RcPacket) (s : State) : State :=
  let c := s.conn i
  let first := p.op = 6 || p.op = 10
  let last := p.op = 8 || p.op = 10
  let m : Option RxMsg := if first then some { write := true, va := p.va, len := p.len, bytes := [] } else c.rx
  match m with
  | none => s.nakInvalid i
  | some m =>
    if !m.write || (first && c.rx.isSome) then s.nakInvalid i
    else
      let got := m.bytes ++ p.payload
      let key := if first then p.key else c.rxKey
      match s.checkKey c key m.va m.len true with
      | .error stale => if first then s.nakAccess i stale else s.nakInvalid i
      | .ok (region, off) =>
        if m.len < got.length || (last && got.length ≠ m.len) then s.nakInvalid i
        else
          let s := s.updConn i fun c => { c with rx := if last then none else some { m with bytes := got }, rxKey := key }
          let s := if last then s.writeRegion region off got else s
          s.executed i 1 p.ackReq

/-- An RDMA READ request at ePSN: its responses, then its acknowledgement by R112. -/
def State.rxRead (i : Nat) (p : RcPacket) (s : State) : State :=
  let c := s.conn i
  match s.checkKey c p.key p.va p.len false with
  | .error stale => s.nakAccess i stale
  | .ok (region, off) =>
    (s.respond i p.psn off p.len region).executed i (packetCount p.len c.pmtu) p.ackReq

/-- A request packet by its PSN (R111). -/
def State.rxRequest (i : Nat) (p : RcPacket) (s : State) : State :=
  let c := s.conn i
  if p.psn = c.epsn then
    if [0, 1, 2, 4].contains p.op then s.rxSend i p
    else if [6, 7, 8, 10].contains p.op then s.rxWrite i p
    else if p.op = 12 then s.rxRead i p
    else s.nakInvalid i
  else if psnAhead p.psn c.epsn then
    let s := s.netCount 3 1
    if c.nakFor = some c.epsn then s
    else ((s.updConn i fun c => { c with nakFor := some c.epsn }).netCount 2 1).sendNak i .seqNak
  else if p.op = 12 then
    match s.checkKey c p.key p.va p.len false with
    | .error _ => s.netCount 8 1
    | .ok (region, off) => (s.netCount 1 1).respond i p.psn off p.len region
  else
    let s := s.netCount 0 1
    match c.dupAck with
    | some t => if s.now < t + 2000 then s else (s.updConn i fun c => { c with dupAck := some s.now }).sendAck i
    | none => (s.updConn i fun c => { c with dupAck := some s.now }).sendAck i

/-! ### The requester (R113 to R115, R120) -/

/-- RNR timer encodings in microseconds x 10 (InfiniBand's, log entry 20). -/
def rnrTimes : List Nat :=
  [6553600, 100, 200, 300, 400, 600, 800, 1200, 1600, 2400, 3200, 4800, 6400, 9600, 12800, 19200,
   25600, 38400, 51200, 76800, 102400, 153600, 204800, 307200, 409600, 614400, 819200, 1228800, 1638400, 2457600, 3276800, 4915200]

/-- A sequence NAK: what lies before it is acknowledged; it is answered once within a timer period (R114). -/
def State.rxSeqNak (i psn : Nat) (s : State) : State :=
  let s := ((s.netCount 4 1).acked i (psnAdd psn (2 ^ 24 - 1)))
  if (s.conn i).nakSeen.contains psn then s
  else (s.updConn i fun c => { c with nakSeen := psn :: c.nakSeen }).resendFrom i psn

/-- An RNR NAK (R115). -/
def State.rxRnr (i psn timer : Nat) (s : State) : State :=
  let s := (s.netCount 12 1).acked i (psnAdd psn (2 ^ 24 - 1))
  let c := s.conn i
  if c.rnrRetry ≠ 7 && c.rnrLeft = 0 then s.connError i 2
  else
    let until_ := s.tick + ticksOf (rnrTimes.getD (timer % 32) 100 * 100)
    s.updConn i fun c => { c with rnrLeft := c.rnrLeft - 1, rnrUntil := some until_, rnrPsn := psn }

/-- The retransmit timer of a connection has run past its deadline (R31, R113). -/
def State.ackLate (s : State) (i : Nat) : Bool :=
  let c := s.conn i
  c.state == .ready && !c.sent.isEmpty && match c.deadline with
    | some d => s.expired d
    | none => false

/-- The expiry of the retransmit timer (R113): the timer is re-armed at once, and again when a resend that had to wait for its port
goes out, so that retries run out while a link is down (R96; log entry 135). -/
def State.ackExpiry (i : Nat) (s : State) : State :=
  let c := s.conn i
  let s1 := s.netCount 5 1
  if c.retries = 0 then s1.connError i 1
  else
    let s2 := (s1.updConn i fun c => { c with
      retries := c.retries - 1, nakSeen := [], deadline := some (s.tick + c.period) }).resendFrom i c.oldest
    if s.canSend c then s2 else s2.updConn i fun c => { c with resendTimed := true }

/-- A response that acknowledges (R112 to R115). -/
def State.rxAck (i : Nat) (p : RcPacket) (s : State) : State :=
  match p.aeth with
  | .ack => (s.acked i p.psn).pump i
  | .seqNak => s.rxSeqNak i p.psn
  | .rnr t => s.rxRnr i p.psn t
  | _ => s.connError i 3

def RcReq.isRead (r : RcReq) : Bool := match r.op with
  | .read .. => true
  | _ => false

/-- Take a READ off the unacknowledged requests. -/
def State.endRead (i : Nat) (r : RcReq) (s : State) : State :=
  s.updConn i fun c => ({ c with sent := c.sent.filter fun q => q.psn != r.psn, dirty := true }).progress s.tick

/-- A read response (R114, R120). -/
def State.rxResponse (i : Nat) (p : RcPacket) (s : State) : State :=
  match (s.conn i).sent.find? RcReq.isRead with
  | none => s.netCount 15 1
  | some r =>
    let want := psnAdd r.psn r.gotPkts
    if p.psn = want then
      let s := s.acked i (psnAdd r.psn (2 ^ 24 - 1))
      let c := s.conn i
      let total := match r.op with
        | .read _ _ len => len
        | _ => 0
      let final := r.gotPkts + 1 = r.count
      let size := if final then total - c.pmtu * r.gotPkts else c.pmtu
      let ends := p.op = 15 || p.op = 16
      if (ends && !final) || (!ends && final) || p.payload.length ≠ size then
        ((((s.netCount 10 1).endRead i r).readEnded i r.use none)).pump i
      else if final then (((s.endRead i r).readEnded i r.use (some (r.got ++ p.payload)))).pump i
      else
        let more (q : RcReq) : RcReq := if q.psn = r.psn then { q with got := q.got ++ p.payload, gotPkts := q.gotPkts + 1 } else q
        s.updConn i fun c => ({ c with sent := c.sent.map more, dirty := true }).progress s.tick
    else if psnAhead p.psn want && !psnAhead p.psn (psnAdd (s.conn i).nextPsn (2 ^ 24 - 1)) then s.resendFrom i (s.conn i).oldest
    else s.netCount 15 1

/-! ### Receiving a packet (R99, R102, R103, R109, R123) -/

/-- Send a Congestion Notification Packet, at most one each cnp_interval (R109). -/
def State.sendCnp (i : Nat) (s : State) : State :=
  let c := s.conn i
  let due := match c.cnpSent with
    | some t => decide (t + 1000 * s.net.config.cnpInterval ≤ s.now)
    | none => true
  if !bit s.net.config.ecnEnable 1 || !due then s
  else
    let b := s.subRecord c.lport
    let pcp := fieldAt b 0x21 1 % 8
    ((s.updConn i fun c => { c with cnpSent := some s.now }).portCount c.lport 25 1).sendLoose c.lport pcp c.ip
      (.cnp i pcp (fieldAt b 0x22 1 % 64))

/-- A packet for a live, resident context: packets of a connection that is not READY are dropped. -/
def State.rcResident (i : Nat) (p : RcPacket) (s : State) : State :=
  let s := s.updConn i fun c => { c with lastUse := s.now }
  let c := s.conn i
  if c.state = .timewait then s.netCount 7 1
  else if c.state ≠ .ready then s
  else
    let s := s.updConn i fun c => { c with packetsRx := c.packetsRx + 1 }
    let s := match c.use with
      | .peer h _ => s.updPeer h fun x => { x with lastPacket := s.tick }
      | _ => s
    let s := if p.ce then s.sendCnp i else s
    if 13 ≤ p.op && p.op ≤ 17 then
      let s := if s.ackLate i then s.ackExpiry i else s
      if (s.conn i).state ≠ .ready then s
      else if p.op = 17 then s.rxAck i p
      else s.rxResponse i p
    else s.rxRequest i p

/-! ### The receive buffer (R106, R123) -/

/-- The headroom of a lossless priority at the port's rate (R106). -/
def State.headroom (s : State) (lport : Nat) : Nat :=
  let r := s.lineRate lport
  if r = 400000 then 131072 else if r = 200000 then 65536 else 32768

/-- Packets in a port's receive buffer: those held for a context, then those behind them. -/
def State.heldOn (s : State) (lport : Nat) : List RcPacket :=
  (s.net.conns.flatMap fun x => x.2.held.filter fun p => p.lport == lport) ++ (s.lport lport).rxq

/-- Free receive buffer of a priority. -/
def State.rxFree (s : State) (lport prio : Nat) : Nat :=
  Config.receiveBuffer - (((s.heldOn lport).filter fun p => p.pcp == prio).map RcPacket.frameLen).sum

/-- XOFF when the free buffer of a lossless priority has fallen to its headroom, XON when twice the headroom is free again (R106). -/
def State.flowCheck (lport : Nat) (s : State) : State :=
  if (s.heldOn lport).isEmpty && (s.lport lport).xoff = 0 then s
  else
    (List.range 8).foldl (fun s k =>
      let off := bit (s.lport lport).xoff k
      let free := s.rxFree lport k
      if !s.pfcEnabled lport k then s
      else if !off && free ≤ s.headroom lport then
        ((s.updLport lport fun x => { x with xoff := x.xoff + 2 ^ k }).portCount lport (16 + k) 1).sendLoose lport 0 [] (.pfc lport k 65535)
      else if off && 2 * s.headroom lport ≤ free then
        (s.updLport lport fun x => { x with xoff := x.xoff - 2 ^ k }).sendLoose lport 0 [] (.pfc lport k 0)
      else s) s

/-- Context fetches under way on an island (R123). -/
def State.fetchesOn (s : State) (island : Nat) : Nat :=
  (s.net.conns.filter fun x => !x.2.held.isEmpty && contextIsland x.1 == island).length

def fetchLimit : Nat := 1024

/-- Take one packet: none when it must wait because the fetch of its context cannot start (R102, R123). A packet that finds no buffer on
a priority without flow control is dropped (R106). -/
def State.rcTake (p : RcPacket) (s : State) : Option State :=
  let i := qpnIndex p.qpn
  let c := s.conn i
  if c.state = .free || c.gen ≠ qpnGen p.qpn then some (s.netCount 7 1)
  else if c.resident then some (s.rcResident i p)
  else
    let busy := (s.net.conns.filter fun x => !x.2.held.isEmpty).length
    if c.held.isEmpty && fetchLimit ≤ busy && fetchLimit ≤ s.fetchesOn (contextIsland i) then none
    else if !s.pfcEnabled p.lport p.pcp && s.rxFree p.lport p.pcp < p.frameLen then some (s.portCount p.lport 31 1)
    else some ((s.updConn i fun c => { c with held := c.held ++ [p] }).netCount 13 (boolNat c.held.isEmpty))

/-- Packets held in order on a port go on while they can (R123). -/
def State.rcResume (lport : Nat) : Nat → State → State
  | 0, s => s
  | n + 1, s =>
    match (s.lport lport).rxq with
    | [] => s
    | p :: ps =>
      match s.rcTake p with
      | none => s
      | some s => (s.updLport lport fun x => { x with rxq := ps }).rcResume lport n

/-- A received RC packet: the checks of R99, then its QPN and its context, in order on its port (R102, R123). -/
def State.rcReceive (p : RcPacket) (s : State) : State :=
  let s := ((s.portCount p.lport 0 1).portCount p.lport 1 p.frameLen).portCount p.lport 24 (boolNat p.ce)
  if !p.icrcOk then s.portCount p.lport 27 1
  else if !p.pkeyOk then s.portCount p.lport 28 1
  else
    let wait (s : State) : State := s.updLport p.lport fun x => { x with rxq := x.rxq ++ [p] }
    let s :=
      if (s.lport p.lport).rxq.isEmpty then (s.rcTake p).getD (wait s)
      else (wait s).rcResume p.lport ((s.lport p.lport).rxq.length + 1)
    s.flowCheck p.lport

end Sys2Proof.Machine
end

