-- ==== Sys2Proof/Machine/TransportCm.lean ====
section
/-! DEFINITION. Connection management (R101 to R105, R125, R131, R329, R356). -/

namespace Sys2Proof.Machine

/-- A context returns to FREE, its generation advanced from 7 back to 1 (R102, R103). -/
def State.freeConn (i : Nat) (s : State) : State :=
  let g := if (s.conn i).gen = 7 then 1 else (s.conn i).gen + 1
  if g = 1 then { s with net.conns := s.net.conns.del i } else { s with net.conns := s.net.conns.set i { gen := g } }

def maxContexts : Nat := 2 ^ 21

/-- The lowest FREE context. -/
def State.freeContext (s : State) : Option Nat := freeFrom (fun i => (s.conn i).state != .free) maxContexts 0

def State.connecting (s : State) : Nat := (s.net.conns.filter fun x => x.2.state == .connecting).length

/-- Path MTU of a connection: the least of the port's pmtu_max, the MTU asked for and 4,096, lowered to what max_frame holds
with 98 bytes of headers (R101). -/
def State.pathMtu (s : State) (lport code : Nat) : Nat :=
  let b := s.subRecord lport
  let frame := fieldAt b 0x1C 2
  let want := min (fieldAt b 0x1E 1) (min code 5)
  (([5, 4, 3].find? fun k => decide (k ≤ want) && decide (2 ^ (k + 7) + 98 ≤ frame)).map fun k => 2 ^ (k + 7)).getD 1024

/-- Send a CM message on a path (R99, R103). -/
def State.sendCm (lp pcp : Nat) (ip : List Byte) (name : String) (conn remoteQpn psn : Nat) (data : List Byte) (s : State) : State :=
  s.sendLoose lp pcp ip (.cm lp name conn remoteQpn psn data)

/-- A CM message of a context, on its primary path. -/
def State.connCm (i : Nat) (name : String) (psn : Nat) (data : List Byte) (s : State) : State :=
  let c := s.conn i
  s.sendCm c.lport c.pcp c.ip name i c.remoteQpn psn data

/-- A received CM message is a frame of its port (R127). -/
def State.cmArrives (lp : Nat) (ip : List Byte) (s : State) : State :=
  (s.portCount lp 0 1).portCount lp 1 (s.frameBytes lp ip 264 0)

/-- The context enters READY: its rate starts at the line rate (R103, R110). -/
def State.becomeReady (i : Nat) (s : State) : State :=
  let line := s.lineRate (s.conn i).lport
  let put (c : Conn) : Conn :=
    { c with state := .ready, cmDeadline := none, rate := line, target := line, alpha := 65536, step := 0, rateAt := s.now,
             alphaAt := s.now, sentBytes := 0 }
  let s := (s.updConn i put).makeResident i
  let s := { s with net.establishedAt := s.now :: s.net.establishedAt.filter fun t => decide (s.now < t + 1000000000) }
  s.pump i

/-- Parameters a new connection takes from TRANSPORT_CONFIG (R126). -/
def TransportConfig.into (t : TransportConfig) (c : Conn) : Conn :=
  { c with timeoutK := t.timeoutK, retryCnt := t.retryCnt, retries := t.retryCnt, rnrRetry := t.rnrRetry, rnrLeft := t.rnrRetry,
           rnrTimer := t.rnrTimer }

/-- A UDP source port (R116: from 0xC000 to 0xFFFF; which one is a free value). -/
def State.udpPort (s : State) : Nat := 0xC000 + s.freeNat % 0x4000

/-- PCP of the peer traffic of a lane (R125, R329). -/
def lanePcp (lane : Nat) : Nat := if lane = 1 then 5 else if lane = 3 then 1 else 3

/-- Begin an active connection: a context is taken and REQ sent (R103, R105). -/
def State.activeConnect (use : ConnUse) (lport : Nat) (alt : Option Nat) (ip : List Byte) (pcp dscp : Nat) (priv : List Byte)
    (s : State) : State :=
  match s.freeContext with
  | none => s
  | some i =>
    let old := s.conn i
    let psn := (Config.initialPsn s.net.psnSeed).toNat
    let c : Conn :=
      { gen := old.gen, state := .connecting, use := use, active := true, port := lport, alt := alt, udp := s.udpPort, ip := ip,
        pcp := pcp, dscp := dscp, pmtu := s.pathMtu lport 5, private_ := priv, nextPsn := psn, slots := 1024, cmTimeout := ticksOf 1000000000, cmRetries := 3 }
    let c := s.net.config.into { c with cmDeadline := some (s.tick + c.cmTimeout) }
    let s := { s.freed with net.conns := s.net.conns.set i c, net.psnSeed := s.net.psnSeed + 1 }
    (s.makeResident i).connCm i "REQ" psn priv

/-- A REJ with its reason and private data. -/
def State.reject (q : CmReq) (reason : Nat) (data : List Byte) (s : State) : State :=
  s.sendCm q.lport q.pcp q.srcIp "REJ" 0 q.qpn 0 (le 2 reason ++ data)

def rejectNoQp : Nat := 1
def rejectMtu : Nat := 26
def rejectConsumer : Nat := 28

/-- The NVMe target's checks of the private data, in order: the reject status of the first that fails (R131). -/
def privateStatus (q : CmReq) : Option Nat :=
  let qid := fieldAt q.priv 2 2
  let hrq := fieldAt q.priv 4 2
  let size := fieldAt q.priv 6 2 + 1
  if q.priv.length < 32 then some 1
  else if fieldAt q.priv 0 2 ≠ 0 then some 2
  else if 1024 < qid then some 3
  else if size < 2 || (if qid = 0 then 32 else 1024) < size then some 4
  else if hrq ≠ size then some 5
  else if 16 < q.initiatorDepth then some 7
  else if 16 < q.responderResources then some 8
  else none

/-- The address is one of the port's. -/
def State.portAddress (s : State) (lport : Nat) (ip : List Byte) : Bool :=
  let b := s.subRecord lport
  ip.any (· != 0) && (ip == slice b 8 4 || ip == slice b 0xC 16)

/-- Accept a REQ: a context is taken, its addressing recorded, and REP sent (R103, R105, R131). -/
def State.acceptReq (q : CmReq) (use : ConnUse) (alt : Option Nat) (slots : Nat) (rep : List Byte) (s : State) : Option Nat × State :=
  match s.freeContext with
  | none => (none, s)
  | some i =>
    let psn := (Config.initialPsn s.net.psnSeed).toNat
    let b := s.subRecord q.lport
    let overlay := bit (fieldAt b 0x1F 1) 0 && q.lport < 32
    let pcp := match use with
      | .peer _ lane => lanePcp lane
      | _ => if overlay then fieldAt b 0x23 1 % 8 else q.pcp
    let c : Conn :=
      { gen := (s.conn i).gen, state := .connecting, use := use, port := q.lport, alt := alt, udp := s.udpPort, mac := q.srcMac,
        ip := q.srcIp, pcp := pcp, dscp := if overlay then fieldAt b 0x22 1 % 64 else q.dscp,
        remoteQpn := q.qpn, depth := min 16 q.responderResources, pmtu := s.pathMtu q.lport q.mtu, private_ := rep, epsn := q.psn,
        nextPsn := psn, slots := slots, cmTimeout := q.timeout, cmRetries := q.retries }
    let c := s.net.config.into { c with cmDeadline := some (s.tick + q.timeout) }
    let s := { s.freed with net.conns := s.net.conns.set i c, net.psnSeed := s.net.psnSeed + 1 }
    (some i, (s.makeResident i).connCm i "REP" psn rep)

/-- The head that PEER_TABLE lists an address for, on the plane of a partner port (R125, R329). -/
def State.peerOfIp (s : State) (lport : Nat) (ip : List Byte) : Option Nat :=
  (s.head.peers.find? fun p =>
    ip.any (· != 0) && ((p.2.ip4.getD (lport - 32) []) == ip || (p.2.ip6.getD (lport - 32) []) == ip)).map Prod.fst

/-- The open direct-target session of a tag (R356). -/
def State.sessionOfTag (s : State) (tag : Nat) : Option Nat :=
  (s.heads.sessions.find? fun x => x.2.role == 3 && x.2.tag == tag && x.2.state != 0 && x.2.conn.isNone).map Prod.fst

/-- The lane that a peer head's REQ names: its private data is the lane in its first byte and zeros after it (R125, R329; the layout is
the model's, log entry 136). An NVMe/RDMA REQ, whose queue sizes are not zero, and a replication REQ are none. -/
def peerLane (q : CmReq) : Option Nat :=
  let lane := fieldAt q.priv 0 1
  if q.priv.isEmpty || 3 < lane || (q.priv.drop 1).any (· != 0) then none else some lane

/-- Serve a REQ that is within the rate (R105, R125, R131, R356). -/
def State.serveReq (q : CmReq) (s : State) : State :=
  let full := s.freeContext.isNone || 4096 ≤ s.connecting
  if q.mtu < 3 then s.reject q rejectMtu []
  else if 32 ≤ q.lport then
    match s.peerOfIp q.lport q.srcIp, peerLane q with
    | some h, some lane =>
      if s.head.headId = 0xFFFF || s.head.headId ≤ h then s.reject q rejectConsumer []
      else if full then s.reject q rejectNoQp []
      else
        let s := match s.peerConn h lane with
          | some i => s.endConn i
          | none => s
        (s.acceptReq q (.peer h lane) (some (65 - q.lport)) 1024 []).2
    | _, _ => s.reject q rejectConsumer []
  else if q.priv.length ≥ 10 && fieldAt q.priv 0 2 = 0x5250 then
    match s.sessionOfTag (fieldAt q.priv 2 8) with
    | none => s.reject q rejectConsumer []
    | some n =>
      if full then s.reject q rejectNoQp []
      else
        let x := s.acceptReq q (.repl n) none 1024 []
        x.2.updSession n fun y => { y with conn := x.1 }
  else
    match privateStatus q with
    | some st => s.reject q rejectConsumer (le 2 0 ++ le 2 st)
    | none =>
      if full then s.reject q rejectNoQp (le 2 0 ++ le 2 6)
      else
        let size := fieldAt q.priv 6 2 + 1
        (s.acceptReq q (.nvme (fieldAt q.priv 2 2) size) none size (le 2 0 ++ le 2 (fieldAt q.priv 4 2))).2

/-- Connection establishments of the last second (R105). -/
def State.recentCount (s : State) : Nat := (s.net.establishedAt.filter fun t => decide (s.now < t + 1000000000)).length

def establishRate : Nat := 250000

/-- Serve the REQs answered with MRA, in arrival order, while the rate allows (R105). -/
def State.serveMra : Nat → State → State
  | 0, s => s
  | fuel + 1, s =>
    match s.net.mra with
    | [] => s
    | q :: qs =>
      if establishRate ≤ s.recentCount + s.connecting then s
      else (({ s with net.mra := qs }).serveReq q).serveMra fuel

def State.serveWaiting (s : State) : State := s.serveMra s.net.mra.length

/-- CM_REQ_RECEIVE (R105): a REQ for another address than the port's is no REQ of this chip; one repeated while its context
is CONNECTING has its REP sent again; one above the rate is answered with MRA. -/
def execCmReqReceive (req : CmReq) (s : State) : Result :=
  let s1 := (s.cmArrives req.lport req.srcIp).serveWaiting
  let same := s1.net.conns.find? fun x =>
    x.2.state == .connecting && !x.2.active && x.2.remoteQpn == req.qpn && x.2.ip == req.srcIp && x.2.port == req.lport
  let t := match same with
    | some (i, c) => s1.connCm i "REP" c.nextPsn c.private_
    | none =>
      if s1.net.mra.contains req then s1
      else if !s1.net.mra.isEmpty || establishRate ≤ s1.recentCount + s1.connecting then
        ({ s1 with net.mra := s1.net.mra ++ [req] }).sendCm req.lport req.pcp req.srcIp "MRA" 0 req.qpn 0 []
      else s1.serveReq req
  dataIf ((s.lport req.lport).up && s.portAddress req.lport req.dstIp) s t

/-- A context that was CONNECTING returns to FREE: its peer connection is tried again later, its session fails (R366). -/
def State.connectFailed (i : Nat) (s : State) : State :=
  let s' := match (s.conn i).use with
    | .peer h _ => s.updPeer h fun p => { p with retryAt := s.tick + ticksOf 100000000 }
    | .repl n => if (s.session n).conn = some i then (s.updSession n fun x => { x with conn := none }).failSession n 1 0 else s
    | _ => s
  s'.freeConn i

/-- The CM, DREQ or TIMEWAIT timer of a context has expired (R31, R103). -/
def State.cmExpired (s : State) (c : Conn) : Bool := match c.cmDeadline with
  | some d => s.expired d
  | none => false

/-- An expiry of the CM timeout (R103): REQ or REP is sent again, or the context returns to FREE. -/
def State.cmExpiry (i : Nat) (s : State) : State :=
  let c := s.conn i
  if c.cmRetries = 0 then s.connectFailed i
  else (s.updConn i fun c => { c with cmRetries := c.cmRetries - 1, cmDeadline := some (s.tick + c.cmTimeout) }).connCm i
    (if c.active then "REQ" else "REP") c.nextPsn c.private_

/-- A CM message for a CONNECTING context arrives: one after the deadline finds the expiry taken first (R31, R127). -/
def State.cmAnswer (i : Nat) (s : State) : State :=
  let s := s.cmArrives (s.conn i).lport (s.conn i).ip
  if s.cmExpired (s.conn i) then s.cmExpiry i else s

/-- CM_REP_RECEIVE (R98, R103): the sender's MAC address is recorded, RTU is sent and the context becomes READY. -/
def execCmRepReceive (conn : Nat) (rep : CmRep) (psn mtu : Nat) (s : State) : Result :=
  let c := s.conn conn
  let s1 := s.cmAnswer conn
  let put (c : Conn) : Conn :=
    { c with remoteQpn := rep.qpn, epsn := psn % 2 ^ 24, pmtu := min c.pmtu (s.pathMtu c.port mtu), mac := rep.srcMac }
  let t := if (s1.conn conn).state = .connecting then ((s1.updConn conn put).connCm conn "RTU" 0 []).becomeReady conn else s1
  dataIf (c.state == .connecting && c.active) s t.serveWaiting

/-- CM_RTU_RECEIVE (R103). -/
def execCmRtuReceive (conn : Nat) (s : State) : Result :=
  let c := s.conn conn
  let s1 := s.cmAnswer conn
  dataIf (c.state == .connecting && !c.active) s
    (if (s1.conn conn).state = .connecting then s1.becomeReady conn else s1).serveWaiting

/-- CM_REJ_RECEIVE (R103). -/
def execCmRejReceive (conn : Nat) (s : State) : Result :=
  dataIf ((s.conn conn).state == .connecting) s ((s.cmArrives (s.conn conn).lport (s.conn conn).ip).connectFailed conn)

/-- CM_RETRY_EXPIRY (R103). -/
def execCmRetryExpiry (conn : Nat) (s : State) : Result :=
  let c := s.conn conn
  dataIf (c.state == .connecting && s.cmExpired c) s (s.cmExpiry conn).serveWaiting

/-- TIMEWAIT lasts 10 ms (R103). -/
def State.timewait (i : Nat) (s : State) : State :=
  let until_ := s.tick + ticksOf 10000000
  s.updConn i fun c => { c with state := .timewait, cmDeadline := some until_, inbox := [], inboxAt := [], sent := [], waiting := [], rx := none,
                                deadline := none, rnrUntil := none, ackDue := none, held := [] }

/-- CM_DREQ_RECEIVE (R103): DREP is sent; what the connection served is told. -/
def execCmDreqReceive (conn : Nat) (s : State) : Result :=
  let c := s.conn conn
  let t := ((s.cmArrives c.lport c.ip).timewait conn).connCm conn "DREP" 0 []
  if c.state = .ready then .next (t.leftReady conn 1)
  else dataIf (c.state == .error || c.state == .disconnecting) s t

/-- CM_DREP_RECEIVE (R103). -/
def execCmDrepReceive (conn : Nat) (s : State) : Result :=
  let c := s.conn conn
  dataIf (c.state == .disconnecting) s ((s.cmArrives c.lport c.ip).timewait conn)

/-- DREQ_RETRY_EXPIRY (R103): 3 retries at 1 ms. -/
def execDreqRetryExpiry (conn : Nat) (s : State) : Result :=
  let c := s.conn conn
  let again : Conn := { c with cmRetries := c.cmRetries - 1, cmDeadline := some (s.tick + ticksOf 1000000) }
  let t := if c.cmRetries = 0 then s.timewait conn
    else (s.updConn conn fun _ => again).connCm conn "DREQ" 0 []
  dataIf (c.state == .disconnecting && s.cmExpired c) s t

/-- TIMEWAIT_EXPIRY (R102, R103). -/
def execTimewaitExpiry (conn : Nat) (s : State) : Result :=
  let c := s.conn conn
  dataIf (c.state == .timewait && s.cmExpired c) s (s.freeConn conn)

end Sys2Proof.Machine
end

