-- ==== Sys2Proof/Machine/PortFamily.lean ====
section
/-! DEFINITION. The commands of the Ethernet ports and the packets of class 0x02 (R93 to R98, R106 to R108, R116, R124, R126,
R127). -/

namespace Sys2Proof.Machine

/-! ### Links (R95, R96, R116) -/

/-- Tj band of R44: below 50 degrees, below 85, and above. -/
def State.tjBand (s : State) : Nat := if s.tjMax < 800 then 0 else if s.tjMax < 1360 then 1 else 2

/-- Lanes of sub-port `sub` in a mode (R93). -/
def lanesOf (mode sub : Nat) : List Nat :=
  if mode = 1 then [0, 1, 2, 3] else if mode = 2 then [2 * sub, 2 * sub + 1] else if mode = 3 then [sub] else []

def State.updPort (p : Nat) (f : EthPort → EthPort) (s : State) : State :=
  { s with net.ports := s.net.ports.set p (f (s.eth p)) }

/-- Connections in READY on a logical port. -/
def State.readyOn (s : State) (lport : Nat) : List Nat :=
  (s.net.conns.filter fun x => x.2.state == .ready && x.2.lport == lport).map Prod.fst

/-- The logical port of the path a connection does not use (R116). -/
def Conn.other (c : Conn) : Option Nat := c.alt.map fun a => if c.onAlt then c.port else a

/-- A peer connection changes to its alternate path at once and sends again from the oldest unacknowledged PSN (R116). -/
def State.changePath (i : Nat) (s : State) : State :=
  let c := s.conn i
  match c.other with
  | none => s
  | some other =>
    if !(s.lport other).up then s
    else
      let s := (s.freed.updConn i fun c => { c with onAlt := !c.onAlt, udp := s.udpPort })
      ((s.resendFrom i (s.conn i).oldest)).pump i

/-- PORT_LINK_UP (R52, R95, R96): not while its reference clock is lost or a drain runs; a lane with no stored settings is trained
under the present envelope; a connection whose own path is down and whose other path this is changes to it (R116). -/
def execPortLinkUp (lport : Nat) (s : State) : Result :=
  let p := physOf lport
  let mode := (s.eth p).mode
  let here := (s.tjBand, s.power.loadBand)
  let s1 := (lanesOf mode (subOf lport)).foldl (fun s l =>
    match (s.eth p).envelope.getD l none with
    | some _ => s
    | none =>
      let s := s.updPort p fun e => { e with envelope := e.envelope.set l (some here) }
      s.logRecord 18 (4 * p + l) (le 1 here.1 ++ le 1 here.2)) s
  let t := ((s1.updLport lport fun x => { x with up := true }).raiseFrom (3 + p / 2) Ev.portUp (le 1 lport ++ le 1 mode)).pumpPort lport
  let stuck := (t.net.conns.filter fun x => x.2.state == .ready && !(t.lport x.2.lport).up && x.2.other == some lport).map Prod.fst
  let t := stuck.foldl (fun s i => s.changePath i) t
  let clock := if lport < 16 then 0 else 1
  dataIf (decide (lport < 34) && s.lportEnabled lport && !(s.lport lport).up && !s.power.clocksLost.getD clock false &&
    s.power.drain == .none) s t

/-- The link of a logical port goes down (R96). -/
def State.linkDown (lport : Nat) (s : State) : State :=
  let n := (s.readyOn lport).length
  let s := (s.updLport lport fun x => { x with up := false }).raiseFrom (3 + physOf lport / 2) Ev.portDown (le 1 lport ++ le 4 n)
  (s.readyOn lport).foldl (fun s i => s.changePath i) s

/-- PORT_LINK_DOWN (R96, R116). -/
def execPortLinkDown (lport : Nat) (s : State) : Result :=
  dataIf (decide (lport < 34) && (s.lport lport).up) s (s.linkDown lport)

/-- SERDES_ENVELOPE_CROSSING (R95): the adapted settings are stored with the present envelope. -/
def execSerdesEnvelopeCrossing (port lane : Nat) (s : State) : Result :=
  let here := (s.tjBand, s.power.loadBand)
  let stored := ((s.eth port).envelope.getD lane none)
  let lport := if port < 8 then 4 * port else 24 + port
  let subs := (List.range 4).filter fun k => (lanesOf (s.eth port).mode k).contains lane
  let up := decide (port < 10) && subs.any fun k => (s.lport (lport + k)).up
  match stored with
  | none => .next s
  | some e =>
    let t := s.updPort port fun x => { x with envelope := x.envelope.set lane (some here) }
    let t := t.logRecord 18 (4 * port + lane) (le 1 here.1 ++ le 1 here.2)
    dataIf (up && e != here) s (t.raiseFrom (3 + port / 2) Ev.serdesEnvelope
      (le 1 port ++ le 1 lane ++ le 1 e.1 ++ le 1 e.2 ++ le 1 here.1 ++ le 1 here.2))

/-! ### Flow control (R106, R108) -/

/-- A PFC frame: each enabled priority it names is paused for the quanta, or released by 0. A quantum is 512 bit times. -/
def State.pfcReceive (lport enabled : Nat) (quanta : List Nat) (s : State) : State :=
  let s := (List.range 8).foldl (fun s k =>
    if !bit enabled k then s
    else
      let q := quanta.getD k 0
      let ticks := ticksOf (q * 512 * 1000 / max 1 (s.lineRate lport))
      let s := s.portCount lport (8 + k) 1
      if !s.pfcEnabled lport k then s
      else if q = 0 then
        s.updLport lport fun x => { x with pause := x.pause.set k none, pausedAt := x.pausedAt.set k none,
                                           longRaised := if bit x.longRaised k then x.longRaised - 2 ^ k else x.longRaised }
      else
        s.updLport lport fun x => { x with pause := x.pause.set k (some (s.tick + ticks)), pauseSeen := x.pauseSeen.set k (some s.tick),
                                           pausedAt := x.pausedAt.modify k fun v => some (v.getD s.tick) }) s
  s.pumpPort lport

/-- PFC_FRAME_RECEIVE (R106): a frame of 60 bytes. -/
def execPfcFrameReceive (lport enabled : Nat) (quanta : List Nat) (s : State) : Result :=
  dataIf (decide (lport < 34) && (s.lport lport).up) s
    (((s.portCount lport 0 1).portCount lport 1 60).pfcReceive lport enabled quanta)

/-- PFC_PAUSE_EXPIRY (R106): transmission of the priority resumes. -/
def execPfcPauseExpiry (lport prio : Nat) (s : State) : Result :=
  let x := s.lport lport
  let clear (x : LogPort) : LogPort :=
    { x with pause := x.pause.set prio none, pausedAt := x.pausedAt.set prio none,
             longRaised := if bit x.longRaised prio then x.longRaised - 2 ^ prio else x.longRaised }
  dataIf (match x.pause.getD prio none with
    | some d => s.expired d
    | none => false) s ((s.updLport lport clear).pumpPort lport)

/-- PFC_PAUSE_LONG_EXPIRY (R108): raised once for a pause. -/
def execPfcPauseLongExpiry (lport prio : Nat) (s : State) : Result :=
  let x := s.lport lport
  let t := (s.updLport lport fun x => { x with longRaised := x.longRaised + 2 ^ prio }).raiseFrom (3 + physOf lport / 2)
    Ev.pfcPausedLong (le 1 lport ++ le 1 prio)
  dataIf (decide (lport < 34) && !bit x.longRaised prio && match x.pausedAt.getD prio none with
    | some d => s.expired (d + ticksOf 100000000)
    | none => false) s t

/-! ### Frames (R97, R98) -/

def be16At (b : List Byte) (o : Nat) : Nat := ofLe (slice b o 2).reverse
def toBe (n v : Nat) : List Byte := (le n v).reverse

/-- The Internet checksum of a byte string of even length. -/
def checksum16 (b : List Byte) : Nat :=
  let sum := ((List.range (b.length / 2)).map fun i => be16At b (2 * i)).sum
  let fold (n : Nat) : Nat := n % 65536 + n / 65536
  0xFFFF - fold (fold (fold sum))

/-- The VLAN tag of frames a port sends. -/
def State.vlanTag (s : State) (lport : Nat) : List Byte :=
  let vid := fieldAt (s.subRecord lport) 6 2 % 4096
  if vid = 0 then [] else toBe 2 0x8100 ++ toBe 2 vid

/-- The ARP reply to a request, and the Neighbor Advertisement to a solicitation (R97). -/
def State.arpReply (s : State) (lport : Nat) (arp : List Byte) : List Byte :=
  let b := s.subRecord lport
  let mac := slice b 0 6
  fit 60 (slice arp 8 6 ++ mac ++ s.vlanTag lport ++ toBe 2 0x0806 ++ slice arp 0 6 ++ toBe 2 2 ++ mac ++ slice b 8 4 ++
    slice arp 8 6 ++ slice arp 14 4)

def State.ndReply (s : State) (lport : Nat) (srcMac ip : List Byte) : List Byte :=
  let b := s.subRecord lport
  let mac := slice b 0 6
  let own := slice b 0xC 16
  let asker := slice ip 8 16
  let unspecified := asker.all (· == 0)
  let to_ := if unspecified then toBe 2 0xFF02 ++ zeros 13 ++ [1] else asker
  let toMac := if unspecified then toBe 2 0x3333 ++ zeros 3 ++ [1] else srcMac
  let body (sum : Nat) : List Byte :=
    toBe 1 136 ++ toBe 1 0 ++ toBe 2 sum ++ toBe 4 (if unspecified then 0x20000000 else 0x60000000) ++ own ++ toBe 1 2 ++ toBe 1 1 ++ mac
  let pseudo := own ++ to_ ++ toBe 4 32 ++ toBe 4 58
  toMac ++ mac ++ s.vlanTag lport ++ toBe 2 0x86DD ++ toBe 4 0x60000000 ++ toBe 2 32 ++ toBe 1 58 ++ toBe 1 255 ++ own ++ to_ ++
    body (checksum16 (pseudo ++ body 0))

/-- Send a control frame (R98); it waits as other packets do while its port is down or its priority paused. -/
def State.sendFrame (lport pcp : Nat) (b : List Byte) (s : State) : State :=
  (s.queueOut lport [{ pcp := pcp, rank := 2, conn := none, out := .frame lport pcp b, bytes := b.length }]).flushPort lport

/-- The frame is for the control-frame queue, which drops what it has no room for. -/
def State.queueFrame (lport : Nat) (b : List Byte) (s : State) : State :=
  if 64 ≤ (s.lport lport).ctrl.length then s.portCount lport 29 1
  else s.updLport lport fun x => { x with ctrl := x.ctrl ++ [b] }

/-- Classify a frame by the first row of R97 that matches. A frame passed to the transport goes on as the packet commands, which count
it as received. The chip's ARP and Neighbor Discovery replies go out at PCP 0, since R97 names none (DESIGN CHOICE, log entry 138). -/
def State.frameReceive (lport : Nat) (f : EthFrame) (s : State) : State :=
  let b := f.bytes
  let r := s.subRecord lport
  let s0 := s
  let s := (s.portCount lport 0 1).portCount lport 1 b.length
  let tagged := be16At b 12 == 0x8100
  let vid := fieldAt r 6 2 % 4096
  let eth := if tagged then be16At b 16 else be16At b 12
  let load := b.drop (if tagged then 18 else 14)
  let dst := slice b 0 6
  let ip4 := slice r 8 4
  let ip6 := slice r 0xC 16
  let own := dst == slice r 0 6 || dst == List.replicate 6 0xFF || (ip6.any (· != 0) && dst == toBe 3 0x3333FF ++ slice ip6 13 3)
  let vlanOk := if vid = 0 then !tagged else tagged && be16At b 14 % 4096 == vid
  let drop := s.portCount lport 3 1
  if !f.fcsOk || fieldAt r 0x1C 2 < b.length then s.portCount lport 2 1
  else if be16At b 12 = 0x8808 then
    if be16At b 14 = 0x0101 then s.pfcReceive lport (be16At b 16) ((List.range 8).map fun k => be16At b (18 + 2 * k)) else drop
  else if !vlanOk || !own then drop
  else if eth = 0x0806 then
    if be16At load 6 = 1 && slice load 24 4 = ip4 && ip4.any (· != 0) then
      (s.portCount lport 30 1).sendFrame lport 0 (s.arpReply lport load)
    else drop
  else if eth = 0x0800 then
    let hdr := 4 * (fieldAt load 0 1 % 16)
    let proto := fieldAt load 9 1
    let whole := be16At load 6 % 0x4000 = 0
    if proto = 17 && whole && be16At load (hdr + 2) = 4791 && slice load 16 4 = ip4 && ip4.any (· != 0) then s0
    else if proto = 1 && whole then s.queueFrame lport b
    else drop
  else if eth = 0x86DD then
    let next := fieldAt load 6 1
    let typ := fieldAt load 40 1
    if next = 17 && be16At load 42 = 4791 && slice load 24 16 = ip6 && ip6.any (· != 0) then s0
    else if next = 58 && typ = 135 && slice load 48 16 = ip6 && ip6.any (· != 0) then
      (s.portCount lport 30 1).sendFrame lport 0 (s.ndReply lport (slice b 6 6) load)
    else if next = 58 && !(decide (133 ≤ typ) && decide (typ ≤ 137)) then s.queueFrame lport b
    else drop
  else if eth = 0x88CC then s.queueFrame lport b
  else drop

/-- FRAME_RECEIVE (R97). -/
def execFrameReceive (lport : Nat) (frame : EthFrame) (s : State) : Result :=
  dataIf (decide (lport < 34) && (s.lport lport).up) s (s.frameReceive lport frame)

/-! ### Packets of class 0x02 (R126) -/

/-- Island of a physical port (R11). -/
def portIsland (p : Nat) : Nat := 3 + p / 2

/-- PORT_CONFIG (R104, R126): a sub-port whose enable bit is cleared loses its connections and its link. -/
def execPortConfig (op : PktOp) (s : State) : Result := packetRun 0x0200 op s fun p s =>
  let n := p.f 0 1
  let old := s.eth n
  let mask := p.f 2 1
  let subs : List (List Byte) := (List.range 4).map fun k => p.bytes (8 + 48 * k) 48
  let kept := (List.range 4).filter fun k => bit old.enableMask k
  let changed := (!kept.isEmpty && (old.mode != p.f 1 1 || old.txInvert != p.f 3 1 || old.rxInvert != p.f 4 1)) ||
    kept.any fun k => old.sub.getD k [] != subs.getD k []
  let first := if n < 8 then 4 * n else 24 + n
  let off := kept.filter fun k => !bit mask k
  if s.power.islands.getD (portIsland n) .awake ≠ .awake then s.fail p St.portAsleep
  else if changed then s.fail p St.portEnabled
  else
    let s := off.foldl (fun s k =>
      let lp := first + k
      let s := (s.readyOn lp).foldl (fun s i => s.connError i 5) s
      if (s.lport lp).up then s.linkDown lp else s) s
    let new : EthPort := { old with mode := p.f 1 1, enableMask := mask, txInvert := p.f 3 1, rxInvert := p.f 4 1, sub := subs }
    (s.updPort n fun _ => new).replyOk p

/-- TRANSPORT_CONFIG (R126). -/
def execTransportConfig (op : PktOp) (s : State) : Result := packetRun 0x0201 op s fun p s =>
  let c : TransportConfig :=
    { timeoutK := p.f 0 1, retryCnt := p.f 1 1, rnrRetry := p.f 2 1, rnrTimer := p.f 3 1, cnpInterval := p.f 4 2, alphaGain := p.f 6 2,
      rateTimer := p.f 8 2, alphaTimer := p.f 0xA 2, byteCounter := p.f 0xC 4, aiRate := p.f 0x10 4, haiRate := p.f 0x14 4,
      minRate := p.f 0x18 4, ecnEnable := p.f 0x1C 1 }
  ({ s with net.config := c }).replyOk p

/-- The live context that a QPN names (R126). -/
def State.connOfQpn (s : State) (q : Nat) : Option Nat :=
  let i := qpnIndex q
  if q < 2 ^ 24 && (s.conn i).state ≠ .free && (s.conn i).gen = qpnGen q then some i else none

def mtuCode (m : Nat) : Nat := if m = 1024 then 3 else if m = 2048 then 4 else 5

/-- The connection record. -/
def Conn.record (c : Conn) (i : Nat) : List Byte :=
  let peer := match c.use with
    | .peer .. => true
    | _ => false
  le 4 (qpnOf c.gen i) ++ le 1 c.state.code ++ le 1 c.lport ++ le 1 (boolNat c.onAlt) ++
    le 1 (boolNat c.pinned + 2 * boolNat c.resident + 4 * boolNat peer) ++ le 4 c.remoteQpn ++ le 4 c.epsn ++ le 4 c.nextPsn ++
    le 4 c.oldest ++ le 1 (mtuCode c.pmtu) ++ le 1 (c.retries + 16 * c.rnrRetry) ++ le 1 c.timeoutK ++ le 1 c.pcp ++ le 1 c.dscp ++ zeros 3 ++
    le 4 c.rate ++ le 4 c.cause ++ le 8 c.packetsRx ++ le 8 c.packetsTx ++ le 8 c.retransmitted

/-- CONN_QUERY (R126). -/
def execConnQuery (op : PktOp) (s : State) : Result := packetRun 0x0202 op s fun p s =>
  match s.connOfQpn (p.f 0 4) with
  | none => s.fail p St.connUnknown
  | some i => s.reply p St.ok 64 ((s.conn i).record i)

/-- CONN_PIN (R124, R126). -/
def execConnPin (op : PktOp) (s : State) : Result := packetRun 0x0203 op s fun p s =>
  match s.connOfQpn (p.f 0 4) with
  | none => s.fail p St.connUnknown
  | some i =>
    let pinned := s.net.conns.filter fun x => x.2.pinned
    let inSet := pinned.filter fun x => contextSet x.1 == contextSet i
    if p.f 4 1 = 0 then (s.updConn i fun c => { c with pinned := false }).replyOk p
    else if (s.conn i).pinned then s.replyOk p
    else if 16384 ≤ pinned.length then s.fail p St.limitExceeded
    else if 8 ≤ inSet.length then s.fail p St.pinSetFull
    else ((s.makeResident i).updConn i fun c => { c with pinned := true }).replyOk p

/-- PORT_STATUS (R126). -/
def execPortStatus (op : PktOp) (s : State) : Result := packetRun 0x0204 op s fun p s =>
  let n := p.f 0 1
  let e := s.eth n
  let first := if n < 8 then 4 * n else 24 + n
  let subs := List.range (modeSubs e.mode)
  let here := (s.tjBand, s.power.loadBand)
  let mask (f : Nat → Bool) (ks : List Nat) : Nat := (ks.filter f).foldl (fun m k => m + 2 ^ k) 0
  let paused (k : Nat) : Bool := subs.any fun i => ((s.lport (first + i)).pause.getD k none).isSome
  let outside (l : Nat) : Bool := match e.envelope.getD l none with
    | some v => v != here
    | none => false
  s.reply p St.ok 32 (le 1 n ++ le 1 e.mode ++ le 1 (mask (fun k => (s.lport (first + k)).up) subs) ++ le 1 (mask paused (List.range 8)) ++
    le 1 (mask outside (List.range 4)) ++ zeros 3 ++
    ((List.range 4).flatMap fun k => le 4 (if k < modeSubs e.mode then (s.readyOn (first + k)).length else 0)) ++ zeros 8)

/-- PORT_COUNTERS (R127). -/
def execPortCounters (op : PktOp) (s : State) : Result := packetRun 0x0205 op s fun p s =>
  let n := p.f 0 1
  let data := fit 256 ((s.lport n).counters.flatMap (le 8))
  (if p.f 1 1 = 1 then s.updLport n fun x => { x with counters := List.replicate 32 0 } else s).reply p St.ok 0 data

/-- CTRL_FRAME_SEND (R98). -/
def execCtrlFrameSend (op : PktOp) (s : State) : Result := packetRun 0x0206 op s fun p s =>
  if !(s.lport (p.f 0 1)).up then s.fail p St.linkDown
  else (s.sendFrame (p.f 0 1) (p.f 1 1) (p.buffer op)).replyOk p

/-- CTRL_FRAME_RECV (R98). -/
def execCtrlFrameRecv (op : PktOp) (s : State) : Result := packetRun 0x0207 op s fun p s =>
  match (s.lport (p.f 0 1)).ctrl with
  | [] => s.fail p St.frameQueueEmpty
  | b :: bs => (s.updLport (p.f 0 1) fun x => { x with ctrl := bs }).reply p St.ok b.length b

/-- TRANSPORT_COUNTERS (R127). -/
def execTransportCounters (op : PktOp) (s : State) : Result := packetRun 0x0208 op s fun p s =>
  let data := fit 128 (s.net.counters.flatMap (le 8))
  (if p.f 0 1 = 1 then { s with net.counters := List.replicate 16 0 } else s).reply p St.ok 0 data

/-- CONN_DISCONNECT (R103, R126). -/
def execConnDisconnect (op : PktOp) (s : State) : Result := packetRun 0x0209 op s fun p s =>
  match s.connOfQpn (p.f 0 4) with
  | none => s.fail p St.connUnknown
  | some i =>
    if (s.conn i).state = .ready || (s.conn i).state = .error then (s.endConn i).replyOk p else s.fail p St.connState

end Sys2Proof.Machine
end

