-- ==== Sys2Proof/Machine/Plinth.lean ====
section
/-! DEFINITION. The commands of Plinth links, schedule slots, READs, responses, modules and the scrub (R290 to R324, R463,
R464). -/

namespace Sys2Proof.Machine

/-! ### Links (R292, R294, R295) -/

/-- Enter TRAINING: the stamp taken then is the session (R295). -/
def State.train (l : Nat) (s : State) : State :=
  { s.updLink l (fun k => { k with state := .training, session := s.now }) with now := s.now + 1 }

/-- In Mesh a command with frames that wait on a link that has left UP goes over the alternate link, all its frames again, when that
link is UP (R304, R323). -/
def State.moveWaiting (l : Nat) (s : State) : State :=
  let o := l ^^^ 1
  if s.mesh && (s.link o).state == .up then
    let ks := (s.link l).txq.map Prod.fst
    let cs := s.flash.cmds.filter fun c => ks.contains c.key
    cs.foldl (fun s c => s.sendFrames o (s.framesOf c o)) (s.updLink l fun k => { k with txq := [] })
  else s

/-- Leave UP for TRAINING (R292). -/
def State.linkLost (l cause : Nat) (s : State) : State :=
  let s := (s.updLink l fun k => { k with downSince := s.tick }).train l
  (s.raiseFrom (linkIsland l) Ev.plinthLinkDown (le 1 l ++ le 1 cause)).moveWaiting l

/-- CREDIT: 64 frames beyond those freed (R294). -/
def State.sendCredit (l : Nat) (s : State) : State :=
  (s.emit (.plinthCredit l (((s.link l).rxSeq + 64) % 65536))).updLink l fun k => { k.count 0 1 with freed := 0 }

/-- The wait of an UP link for a good frame has expired (R31, R292). -/
def State.quietLink (l : Nat) (s : State) : Bool := (s.link l).state == .up && s.expired ((s.link l).lastRx + 1024)

/-- A good frame arrived (R292, R294): a module's timer, counts and credits; 8 frames freed send a CREDIT. One that comes after the wait
of its link has expired finds the link lost first (R31). -/
def State.heard (l : Nat) (frames : Nat) (s : State) : State :=
  let s := if s.quietLink l then s.linkLost l 3 else s
  let s := s.updLink l fun k => { k.count 1 1 with lastRx := s.tick, rxSeq := (k.rxSeq + frames) % 65536, freed := k.freed + frames }
  if (s.link l).state == .up && decide (8 ≤ (s.link l).freed) then s.sendCredit l else s

/-- PLINTH_LINK_TRAINED (R52, R292). -/
def execPlinthLinkTrained (link : Nat) (s : State) : Result :=
  dataIf ((s.link link).state == .training && !s.power.clocksLost.getD 3 false) s (s.updLink link fun k => { k with state := .hello })

/-- HELLO_INTERVAL (R292, R295): session, head ID and the 64 credits granted. -/
def execHelloInterval (link : Nat) (s : State) : Result :=
  dataIf ((s.link link).state == .hello) s
    ((s.emit (.plinthHello link (s.link link).session s.head.headId 64)).updLink link fun k => k.count 0 1)

/-- A module has accepted the session of a link: its commands are settled under it, and a module not attached is identified (R295, R323,
R464). -/
def State.helloFrom (link module : Nat) (s : State) : State :=
  let s := (s.newSession module).updModule module fun x => { x with sessions := x.sessions.set link (s.link link).session }
  let s := if (s.module module).state = .detached then
      s.issue { id := 0, module := module, opcode := 1, use := .identify } else s
  s.flushLink link

/-- PLINTH_HELLO_ANSWER (R292, R295, R323, R324, R464): the link is UP, and its module's session starts. In Pair another module than
before detaches the old one. A module that is not reached over the link is a mismatch at once (R323, log entry 154). In Mesh each of the modules
reached over the link answers: one that answers the session of a link that is UP already starts its own (log entry 155). -/
def execPlinthHelloAnswer (link module credits session : Nat) (s : State) : Result :=
  let k := s.link link
  let fits := (s.linksOf module).contains link
  let changed := !s.mesh && k.module != 0xFFFF && k.module != module
  let up (s : State) : State :=
    let s := s.updLink link fun k => { k with state := .up, module := module, seq := 0, limit := credits % 65536, rxSeq := 0,
                                              freed := 0, lastRx := s.tick }
    let s := s.raiseFrom (linkIsland link) Ev.plinthLinkUp (le 1 link ++ le 2 module)
    let s := if changed then s.detach k.module 3 else s
    if fits then s.helloFrom link module
    else (s.raiseFrom (linkIsland link) Ev.moduleMismatch (le 1 link ++ le 2 module)).flushLink link
  let new := (s.module module).sessions.get? link != some session
  if k.state = .up && s.mesh && k.session = session && fits && new then dataIf true s (s.helloFrom link module)
  else dataIf (k.state == .hello && k.session == session) s (up s)

/-- PLINTH_LINK_LOSS (R292): cause 1 block lock, 2 FEC. -/
def execPlinthLinkLoss (link cause : Nat) (s : State) : Result :=
  dataIf ((s.link link).state == .up && (cause == 1 || cause == 2)) s (s.linkLost link cause)

/-- PLINTH_SILENCE_EXPIRY (R292): 1,024 ticks without a good frame. -/
def execPlinthSilenceExpiry (link : Nat) (s : State) : Result :=
  dataIf (s.quietLink link) s (s.linkLost link 3)

/-- KEEPALIVE_INTERVAL (R292, R294): the next link_seq this end will use. -/
def execKeepaliveInterval (link : Nat) (s : State) : Result :=
  dataIf ((s.link link).state == .up) s
    ((s.emit (.plinthKeepalive link (s.link link).seq)).updLink link fun k => k.count 0 1)

/-- CREDIT_INTERVAL (R294). -/
def execCreditInterval (link : Nat) (s : State) : Result :=
  dataIf ((s.link link).state == .up) s (s.sendCredit link)

/-- PLINTH_CREDIT_RECEIVE (R294): a CREDIT moves the send limit; a KEEPALIVE names the sender's next link_seq, and frames
missing before it count as received and freed. -/
def execPlinthCreditReceive (link : Nat) (keepalive : Bool) (value : Nat) (s : State) : Result :=
  let v := value % 65536
  let credit := ((s.heard link 0).updLink link fun k => { k with limit := v }).flushLink link
  let alive := s.heard link ((v + 65536 - (s.link link).rxSeq) % 65536)
  dataIf ((s.link link).state == .up) s (if keepalive then alive else credit)

/-- PLINTH_ENVELOPE_CROSSING (R95, R290): the settings in force are stored with the present envelope. -/
def execPlinthEnvelopeCrossing (link tjBand loadBand : Nat) (s : State) : Result :=
  let old := (s.link link).envelope.getD (0, 0)
  let t := s.updLink link fun k => { k with envelope := some (tjBand, loadBand) }
  let t := (t.logRecord 18 (48 + link) (le 1 tjBand ++ le 1 loadBand)).raiseFrom (linkIsland link) Ev.plinthEnvelope
    (le 1 link ++ le 1 old.1 ++ le 1 old.2 ++ le 1 tjBand ++ le 1 loadBand)
  dataIf ((s.link link).state != .disabled && (s.link link).envelope != some (tjBand, loadBand)) s t

/-! ### READs, suspend (R300, R312, R313, R384) -/

/-- Insert a READ by rank, then arrival (R312). -/
def insertRead (x : ReadReq) : List ReadReq → List ReadReq
  | [] => [x]
  | y :: ys => if x.rank < y.rank || (x.rank = y.rank && x.arrival ≤ y.arrival) then x :: y :: ys else y :: insertRead x ys

/-- The class-A guard of R384, for the READs issued while it is set: a READ of rank 2 to 7 goes only while no other such READ is at the die. -/
def State.guardAdmits (s : State) (r : ReadReq) : Bool :=
  !s.latency.guard || decide (r.rank < 2) ||
    !(s.flash.cmds.any fun c => c.opcode == 2 && c.module == r.module && c.die == r.die && decide (2 ≤ c.rank))

/-- READ_ISSUE (R312, R314, R317, R319): the first READ of the die in rank and arrival order. One that names a block group this chip is
erasing by then is not sent and is answered ST_FLASH_ERASE_PENDING. -/
def execReadIssue (module die : Nat) (s : State) : Result :=
  let waiting := (s.flash.reads.filter fun r => r.module == module && r.die == die).foldr insertRead []
  let free := match (s.die module die).op with
    | some o => o.suspendedAt.isSome
    | none => true
  match waiting.find? s.guardAdmits with
  | none => .next s
  | some r =>
    let x := s.offsetsFor r
    let c : PlCmd := { id := 0, module := module, opcode := 2, die := die, addr := r.addr, page := r.page, rank := r.rank,
                       use := .read r.job r.cell, reads := r.words, mode := r.mode, entry := s.levelEntry r, probe := x.2,
                       offsets := x.1 }
    let t := { s with flash.reads := s.flash.reads.filter fun q => q != r }
    let u := if x.2.isSome then t.countProbe module die c.entry else t
    if s.eraseRuns r.addr then dataIf true s (((t.flashCount 7).wordsBad r.job r.cell r.words true).maybeResume module die)
    else dataIf (free && s.hasRoom module die 2) s ((u.issue c).maybeResume module die)

/-- SUSPEND_TRIGGER (R313): of an operation that has started, its last frame sent (R311). -/
def execSuspendTrigger (module die : Nat) (s : State) : Result :=
  let f := s.opConfig module die
  let asked := (s.flash.cmds ++ s.flash.held).any fun c => c.opcode == 5 && c.module == module && c.die == die
  match (s.die module die).op with
  | none => .next s
  | some o =>
    let started := match s.cmd? module o.cmd with
      | some c => c.deadline.isSome || decide (0 < c.attempt)
      | none => true
    let ok := s.urgentRead module die && !asked && started && o.suspendedAt.isNone && decide (o.suspends < f.maxSuspends) &&
      s.expired (o.since + ticksOf (f.minRunUs * 1000))
    let t := s.updDie module die fun x => { x with op := x.op.map fun o => { o with suspends := o.suspends + 1 } }
    let t := (t.issue { id := 0, module := module, opcode := 5, die := die, use := .suspend }).flashCount 8
    dataIf ok s t

/-- SUSPEND_AGE_EXPIRY (R313): after 1.5 s the RESUME is queued whatever waits. -/
def execSuspendAgeExpiry (module die : Nat) (s : State) : Result :=
  let old := match (s.die module die).op with
    | some o => (o.suspendedAt.map fun t => s.expired (t + ticksOf 1500000000)).getD false
    | none => false
  dataIf old s (s.queueResume module die)

/-- LINKS_DOWN_READ_EXPIRY (R324): the reads that wait for a module with every link down are served by reconstruction. -/
def execLinksDownReadExpiry (module : Nat) (s : State) : Result :=
  let down := !s.anyLinkUp module && (s.linksOf module).all fun l => s.expired ((s.link l).downSince + ticksOf 2000000)
  let rs := s.flash.reads.filter fun r => r.module == module
  let cs := (s.flash.cmds ++ s.flash.held).filter fun c => c.module == module && c.opcode == 2
  let t := { s with
    flash.reads := s.flash.reads.filter fun r => r.module != module,
    flash.cmds := s.flash.cmds.filter fun c => !(c.module == module && c.opcode == 2),
    flash.held := s.flash.held.filter fun c => !(c.module == module && c.opcode == 2) }
  let t := rs.foldl (fun s r => s.wordsBad r.job r.cell r.words false) t
  let t := cs.foldl (fun s c => s.failPl c) t
  dataIf (down && !(rs.isEmpty && cs.isEmpty)) s (t.sendHeld module)

/-! ### Slots (R307, R310, R311, R316, R449) -/

/-- SCHEDULE_FRAME_START (R307): the frame takes the newest epoch whose switch stamp has come. -/
def execScheduleFrameStart (s : State) : Result :=
  let t := { s with flash.slot := 0, flash.frameEpoch := if s.templates.switchStamp ≤ s.now then s.templates.epoch else s.flash.frameEpoch }
  .next t

/-- Work that footing mode's entry lets run to its end: staged records, open stripes, wanted checkpoints (R448). -/
def State.footingRuns (s : State) : Bool :=
  !s.footing.active || s.staged.any (fun (r : Staged) => !r.applied && !r.dropped) ||
    s.stripe.stripes.any (fun t => t.2.state == .open) || s.stripe.domains.any fun d => d.2.checkpointWanted

/-- A start may run in footing mode: no erase, and programs and appends only for the work of its entry (R448, R449). -/
def State.startAllowed (s : State) (x : Start) : Bool :=
  if s.footing.active then x.opcode == 6 || (x.opcode != 4 && s.footingRuns) else true

/-- Admit candidates in order while their cost fits; the first that does not defers itself and all behind it. A program or erase whose
die an earlier candidate has made busy, or a deferred one's busy die, is passed over and stays queued (log entry 156). -/
def State.admitStarts (m : Nat) (plan : List Byte) : Nat → List Start → State → State
  | _, [], s => s
  | tokens, x :: xs, s =>
    let erase := match (s.die m x.die).op with
      | some o => o.erase
      | none => x.opcode == 4
    let cost := tokenCost plan x.opcode erase
    if !s.startable x || !s.hasRoom m x.die x.opcode then s.admitStarts m plan tokens xs
    else if cost ≤ tokens then
      (({ s with flash.starts := s.flash.starts.filter fun y => y != x }).sendStart x).admitStarts m plan (tokens - cost) xs
    else
      let defer (y : Start) : Start :=
        if (x :: xs).contains y then { y with deferred := true, slots := y.slots + 1, raised := y.raised || decide (10000 ≤ y.slots + 1) }
        else y
      let late := (x :: xs).filter fun y => !y.raised && decide (10000 ≤ y.slots + 1)
      let s := { s with flash.starts := s.flash.starts.map defer }
      late.foldl (fun s y => s.raiseFrom (flashIsland m) Ev.startDeferredLong
        (le 2 m ++ le 1 y.die ++ le 1 y.rank ++ le 4 (y.slots + 1))) s

/-- SLOT_START (R311): nothing under brown-out blocking or after a thermal trip. -/
def execSlotStart (module slot : Nat) (s : State) : Result :=
  let bank := s.flashBank
  let plan := bodyOf bank kindTokens
  let sched := bodyOf bank kindSchedule
  let cand (x : Start) : Bool :=
    x.module == module && s.startAllowed x &&
      (x.deferred || x.opcode == 6 || x.opcode == 12 || (mayStart sched module x.die slot && s.startable x))
  let t := { s with flash.slot := slot }
  let go := t.admitStarts module plan (budgetOf plan module) (sortStarts (s.flash.starts.filter cand))
  .next (if s.power.brownout || s.power.tripped then t else go)

/-! ### Responses (R299, R303 to R306) -/

/-- A command's wait for its response has expired (R31, R304). -/
def State.overdue (s : State) (c : PlCmd) : Bool := (c.deadline.map s.expired).getD false

/-- A response that comes after its deadline tick finds its command retried first (R31). -/
def State.lateRetry (m id : Nat) (s : State) : State :=
  match s.cmd? m id with
  | none => s
  | some c => if s.overdue c then s.retry c else s

/-- A gated command was answered ST_PL_FENCED (R303): above the claim held the domain is taken; else the claim is presented again and the
command retried once. -/
def State.fencedAnswer (c : PlCmd) (detail : Nat) (s : State) : State :=
  let own := s.claimOf c.domain
  if own < detail then (s.endOp c.module c.die c.id).fenced c.domain c.module detail
  else if c.fencedRetry then s.failPl c
  else
    let s := s.presentClaim c.module c.domain own (.present c.domain)
    let id := (s.module c.module).nextCmd
    let moved (o : DieOp) : DieOp := if o.cmd = c.id then { o with cmd := id } else o
    let s := s.updDie c.module c.die fun x => { x with op := x.op.map moved }
    s.sendCmd { c with fencedRetry := true, attempt := 0, deadline := none }

/-- Take a response: it must answer an outstanding command of one of the opcodes. Its die temperature is noted; a short
transfer is retried; fencing takes the domain or presents the claim again and retries once; a failed die is marked. What is
left goes to `f`, with the command taken off the list. -/
def State.answer (r : PlResponse) (opcodes : List Nat) (f : PlCmd → State → State) (s : State) : State :=
  let s := (s.heard r.link 1).lateRetry r.module r.cmdId
  match s.cmd? r.module r.cmdId with
  | none => s
  | some c =>
    if !opcodes.contains c.opcode then s
    else
      let s := s.updModule r.module fun x => { x with exhausted := 0 }
      let s := s.updDie r.module c.die fun x => { x with tempBand := tempBandOf r.dieTemp }
      if r.status = 3 then s.retry c
      else
        let s := s.dropCmd r.module r.cmdId
        (if r.status = 1 then s.fencedAnswer c r.detail
        else if r.status = 9 then (s.failDie r.module c.die).failPl c
        else f c s).sendHeld r.module

/-- Note the record fields a response reports for the block group addressed. -/
def State.noteBlock (a : Nat) (r : PlResponse) (s : State) : State :=
  s.updBlock a fun b => { b with state := r.bgState, eraseCount := r.eraseCount }

/-- A start refused for tokens is deferred to the next slot, keeping its ready stamp (R310). -/
def State.tokensRefused (c : PlCmd) (s : State) : State :=
  let s := s.updModule c.module fun x => { x with refusals := x.refusals + 1 }
  let s := if c.opcode = 3 || c.opcode = 4 then s.endOp c.module c.die c.id else s
  let x : Start := { module := c.module, opcode := c.opcode, domain := c.domain, die := c.die, addr := c.addr, page := c.page,
                     rank := c.rank, ready := c.ready, deferred := true, slots := c.slots + 1, use := c.use, data := c.frame,
                     param := c.param }
  { s with flash.starts := s.flash.starts ++ [x] }

/-- PLINTH_READ_DATA (R293, R305, R317): a codeword of the attempt under way is decoded; one of wrong length or index spoils
the attempt. -/
def execPlinthReadData (link module cmdId attempt index : Nat) (bytes : List Byte) (s : State) : Result :=
  let s' := s.heard link 1
  match s.cmd? module cmdId with
  | none => .next s'
  | some c =>
    match c.use with
    | .read j cell =>
      let good := bytes.length == 4608 && index == c.got && decide (index < c.reads.length)
      let t := if good then
          (s'.decodeWord c j cell (c.reads.getD index 0) bytes).updCmd module cmdId fun c => { c with got := c.got + 1 }
        else s'.updCmd module cmdId fun c => { c with bad := true }
      .next (if attempt = c.attempt && c.opcode = 2 then t else s')
    | _ => .next s'

/-- PLINTH_READ_RESPONSE (R299, R305, R314, R317, R319, R320). -/
def execPlinthReadResponse (r : PlResponse) (s : State) : Result :=
  .next (s.answer r [2] fun c s =>
    match c.use with
    | .read j cell =>
      if r.status = 0 then
        if r.dataFrames ≠ c.got || c.bad || c.got ≠ c.reads.length then
          ({ s with flash.cmds := s.flash.cmds ++ [c] }).retry c
        else
          let s := s.updBlock c.addr fun b => { b with readCount := r.readCount, eraseCount := r.eraseCount }
          let s := match c.probe with
            | some j => s.recordProbe c.module c.die c.entry j (if c.data.isEmpty then c.errs else probeFailed)
            | none => s
          let s := if c.config.readLimit ≤ r.readCount then s.refresh c.addr 1 else s
          (s.commitRead c j cell).maybeResume c.module c.die
      else if r.status = 6 then ((s.probeLost c).flashCount 7).wordsBad j cell c.reads true
      else s.failPl c
    | _ => s)

/-- PLINTH_PROGRAM_RESPONSE (R263, R265, R299): the strip is programmed, deferred for tokens, or the stripe abandoned. -/
def execPlinthProgramResponse (r : PlResponse) (s : State) : Result :=
  .next (s.answer r [3] fun c s =>
    if r.status = 8 then s.tokensRefused c
    else if r.status ≠ 0 then s.failPl c
    else
      let s := (s.endOp c.module c.die c.id).noteBlock c.addr r
      let s := s.updBlock c.addr fun b => { b with lastPage := c.page }
      match c.use with
      | .program n cell => s.updStripe n fun t => { t with programs := t.programs.filter (· != cell) }
      | .rebuild g cell row =>
        let s := s.updSegment g fun x => { x with rebuilding := x.rebuilding.filter (· != (cell, row)) }
        { s with stripe.rebuild := { s.stripe.rebuild with bytes := s.stripe.rebuild.bytes + 65536,
                                                            progress := s.stripe.rebuild.progress + 65536 } }
      | _ => s)

/-- PLINTH_ERASE_RESPONSE (R255, R277, R299, R322). -/
def execPlinthEraseResponse (r : PlResponse) (s : State) : Result :=
  .next (s.answer r [4] fun c s =>
    if r.status = 8 then s.tokensRefused c
    else
      let s := s.endOp c.module c.die c.id
      let g := s.segmentWith c.addr
      if r.status = 0 then (s.erased c.addr).updBlock c.addr fun b => { b with eraseCount := r.eraseCount }
      else
        let s := (s.noteBlock c.addr r).updBlock c.addr fun b => { b with erasing := false, place := .out }
        let s := if r.status = 5 then s.retire c.addr 2 else s
        match g with
        | some g => s.segmentErased g
        | none => s)

/-- PLINTH_JOURNAL_APPEND_RESPONSE (R272, R273, R463): one copy of a frame is acknowledged, or the member failed; a
JOURNAL_RECLAIM's answer changes nothing. -/
def execPlinthJournalAppendResponse (r : PlResponse) (s : State) : Result :=
  .next (s.answer r [12, 14] fun c s =>
    match c.use with
    | .journal d q =>
      if r.status = 8 then s.tokensRefused c
      else if r.status ≠ 0 then s.memberFailed d c.module
      else
        let ack (f : JFrame) : JFrame := if f.seq = q && !f.acks.contains c.module then { f with acks := f.acks ++ [c.module] } else f
        s.updJournal d fun j => { j with flight := j.flight.map ack, kept := j.kept.map ack }
    | _ => s)

/-- PLINTH_CLAIM_PRESENT_RESPONSE (R301, R303, R323, R339, R348). -/
def execPlinthClaimPresentResponse (r : PlResponse) (s : State) : Result :=
  .next (s.answer r [7] fun c s =>
    let ok := r.status = 0
    match c.use with
    | .claim d => s.claimAnswer d c.module ok r.detail
    | .probe d =>
      if r.status = 2 then (s.probeAnswer d true).fenced d c.module r.detail else s.probeAnswer d false
    | .present d =>
      if ok then s.updModule c.module fun x => { x with claimed := if x.claimed.contains d then x.claimed else x.claimed ++ [d] }
      else if r.status = 2 && decide (s.claimOf d < r.detail) then s.fenced d c.module r.detail
      else s
    | _ => s)

/-- PLINTH_BLOCK_COMMAND_RESPONSE (R306, R322, R465): the copy of the record follows the answer. A BLOCK_CLAIM another head
won makes the chip read the record again. -/
def execPlinthBlockCommandResponse (r : PlResponse) (s : State) : Result :=
  .next (s.answer r [8, 9, 10] fun c s =>
    let ok := r.status = 0
    match c.use with
    | .blockClaim a d =>
      if ok then s.updBlock a fun b => { b with state := 1, domain := d, place := if s.writesFor d then .free d else .out }
      else (s.updBlock a fun b => { b with place := .out }).issue
        { id := 0, module := c.module, opcode := 11, die := c.die, addr := a, count := 1, use := .scan }
    | .blockReturn a => if ok then s.updBlock a fun b => { b with state := 0, domain := 0, place := .spare } else s.noteBlock a r
    | .blockRetire a => if ok then s.updBlock a fun b => { b with state := 6, domain := 0, failed := true } else s.noteBlock a r
    | _ => s)

/-- An erase or a program whose suspension the bridge has aborted (R306, R464). -/
def State.abortedOp (m d : Nat) (s : State) : State :=
  match (s.die m d).op with
  | none => s
  | some o =>
    match s.cmd? m o.cmd with
    | none => s.freeDie m d
    | some c => ((s.dropCmd m o.cmd).freeDie m d).settleOne c

/-- PLINTH_SUSPEND_RESPONSE (R304, R313): the answer of a SUSPEND stops the deadline of the suspended command, and its die's
READs may go; the answer of a RESUME arms it again with the full time. -/
def execPlinthSuspendResponse (r : PlResponse) (s : State) : Result :=
  .next (s.answer r [5, 6] fun c s =>
    if r.status = 8 then s.tokensRefused c
    else
      let op := (s.die c.module c.die).op
      let id := (op.map DieOp.cmd).getD 0
      if c.opcode = 5 then
        if r.status = 0 then
          let s := s.updDie c.module c.die fun x => { x with op := x.op.map fun o => { o with suspendedAt := some s.tick } }
          (s.updCmd c.module id fun c => { c with deadline := none }).maybeResume c.module c.die
        else s
      else if r.status = 0 then
        let back (o : DieOp) : DieOp := { o with suspendedAt := none, resumeQueued := false, since := s.tick }
        let s := s.updDie c.module c.die fun x => { x with op := x.op.map back }
        (s.updCmd c.module id fun c => { c with deadline := some (s.tick + plTime c.opcode) }).flashCount 9
      else if r.status = 12 then s.abortedOp c.module c.die
      else s.failPl c)

/-- A block-group record (R306). -/
def noteRecord (b : BgRecord) (x : List Byte) : BgRecord :=
  { b with state := fieldAt x 0 1, domain := fieldAt x 1 1, flags := fieldAt x 2 1, eraseCount := fieldAt x 4 4,
           lastPage := fieldAt x 8 2, readCount := fieldAt x 12 4, failed := b.failed || fieldAt x 0 1 == 6,
           place := if fieldAt x 0 1 = 0 then .spare else if b.place == .spare then .out else b.place }

/-- Settle a command by the record of its block group (R464). -/
def State.settleRecord (opcode a domain cause : Nat) (s : State) : State :=
  let b := s.block a
  if opcode = 4 then
    if b.state = 1 then s.erased a else (s.updBlock a fun b => { b with erasing := false }).queueErase a domain (s.rankOf 14)
  else if opcode = 8 then
    if b.state = 1 && b.domain = domain then s.updBlock a fun b => { b with place := .free domain }
    else s.issue { id := 0, module := bgModule a, opcode := 8, domain := domain, die := bgDie a, addr := a,
                   claim := s.claimOf domain, use := .blockClaim a domain }
  else if opcode = 9 then
    if b.state = 0 then s else s.issue { id := 0, module := bgModule a, opcode := 9, domain := domain, die := bgDie a, addr := a,
                                         claim := s.claimOf domain, use := .blockReturn a }
  else if b.state = 6 then s
  else s.issue { id := 0, module := bgModule a, opcode := 10, domain := domain, die := bgDie a, addr := a,
                 claim := s.claimOf domain, use := .blockRetire a, param := cause }

/-- The module of an IDENTIFY record is the one its link must name: in Pair the link's number, in Mesh one reached over it (R323). -/
def State.moduleFits (s : State) (link m : Nat) (rec_ : List Byte) : Bool :=
  let n := fieldAt rec_ 0x14 2 % 1024
  n == m && if s.mesh then (s.linksOf n).contains link else n == link

/-- A module that identifies itself starts anew: its failed dies and block groups are those its scan finds; another serial is another
module, with nothing kept of its dies and block groups (R322, R323). -/
def State.identified (m : Nat) (rec_ : List Byte) (s : State) : State :=
  let same := ((s.module m).record.take 16) == rec_.take 16
  let again (b : BgRecord) : BgRecord := { b with failed := false }
  let mine (a : Nat) : Bool := bgModule a == m
  let blocks := if same then s.flash.blocks.map fun b => if mine b.1 then (b.1, again b.2) else b
    else s.flash.blocks.keep fun a _ => !mine a
  let fresh (d : Die) : Die := { d with failed := false, retired := [] }
  ({ s with flash.blocks := blocks }).updModule m fun x =>
    { x with identified := true, scanned := false, record := rec_, dies := if same then x.dies.mapVals fresh else [] }

/-- PLINTH_INFO_RESPONSE (R298, R306, R323): IDENTIFY stores the module record and starts the scan; BLOCK_STATE_READ stores
records, answers a BLOCK_QUERY or settles a command. -/
def execPlinthInfoResponse (r : PlResponse) (data : List (List Byte)) (s : State) : Result :=
  .next (s.answer r [1, 11, 13, 15] fun c s =>
    if r.dataFrames ≠ data.length then ({ s with flash.cmds := s.flash.cmds ++ [c] }).retry c
    else if r.status ≠ 0 then s.failPl c
    else
      let body := data.flatten
      let records := (List.range c.count).map fun i => slice body (16 * i) 16
      match c.use with
      | .identify =>
        let rec_ := fit 128 body
        if !s.moduleFits r.link c.module rec_ then
          s.raiseFrom (linkIsland r.link) Ev.moduleMismatch (le 1 r.link ++ le 2 (fieldAt rec_ 0x14 2 % 1024))
        else
          (s.identified c.module rec_).scanModule c.module
      | .scan =>
        records.zipIdx.foldl (fun s e => s.updBlock (c.addr + e.2 * 2 ^ 18) fun b => noteRecord b e.1) s
      | .query acc =>
        let s := records.zipIdx.foldl (fun s e => s.updBlock (c.addr + e.2 * 2 ^ 18) fun b => noteRecord b e.1) s
        s.replyTo acc St.ok 0 records.flatten
      | .journalRead d first => s.journalRead d first (data.filterMap (parseFrame d))
      | .check op a d cause =>
        (s.updBlock a fun b => noteRecord b (records.headD [])).settleRecord op a d cause
      | _ => s)

/-- PLINTH_RESPONSE_EXPIRY (R304). -/
def execPlinthResponseExpiry (module cmdId : Nat) (s : State) : Result :=
  match s.cmd? module cmdId with
  | none => .next s
  | some c => dataIf (s.overdue c) s (s.retry c)

/-! ### Modules (R315, R322 to R324) -/

/-- What the restart scan does with one block group of an owned domain (R315). -/
def State.scanBlock (a : Nat) (pools : Bool) (s : State) : State :=
  let b := s.block a
  let inSegment := s.segmentWith a
  if (s.die (bgModule a) (bgDie a)).failed then s.updBlock a fun b => { b with failed := true }
  else if b.state = 3 then
    if b.erasing then s
    else
      let s := s.queueErase a b.domain (s.rankOf 14)
      (s.updBlock a fun b => { b with place := .out }).raiseFrom (flashIsland (bgModule a)) Ev.eraseReissued (le 5 a)
  else if b.state = 4 then
    match inSegment with
    | some g => if pools then s.sealSegment g else s
    | none => s
  else if b.state = 6 then s.updBlock a fun b => { b with failed := true }
  else if b.state = 1 && pools && inSegment.isNone && b.place == .out && !b.erasing then
    s.updBlock a fun b => { b with place := .free b.domain }
  else match inSegment with
    | some g => if pools then s.updBlock a fun b => { b with place := .segment g } else s
    | none => s

/-- The block groups of owned domains on a module. -/
def State.ownBlocks (s : State) (m : Nat) : List Nat :=
  (s.flash.blocks.filter fun b => bgModule b.1 == m && b.2.state != 0 && b.2.state != 5 && s.owns b.2.domain).map Prod.fst

/-- The block groups of a domain. -/
def State.domainBlocks (s : State) (d : Nat) : List Nat :=
  (s.flash.blocks.filter fun b => b.2.state != 0 && b.2.state != 5 && b.2.domain == d && s.reachable (bgModule b.1)).map Prod.fst

def State.scanOpen (s : State) (m : Nat) : Bool := (s.flash.cmds ++ s.flash.held).any fun c => c.module == m && c.use == .scan

/-- RESTART_SCAN (R315): once every record has been read. At an attach the claims are presented next (R323); for a domain
being acquired the pool decisions wait for its journal replay (R339). -/
def execRestartScan (target : ScanTarget) (s : State) : Result :=
  match target with
  | .module m =>
    let x := s.module m
    let t := (s.ownBlocks m).foldl (fun s a => s.scanBlock a true) s
    let t := (t.updModule m fun x => { x with scanned := true }).presentClaims m
    let t := t.startJob 0x10 (s.rankOf 13) (s.ownBlocks m).length
    dataIf (x.identified && !x.scanned && x.state == .detached && !s.scanOpen m) s t
  | .domain d =>
    let x := s.domain d
    let t := (s.domainBlocks d).foldl (fun s a => s.scanBlock a false) s
    let t := t.updDomain d fun x => { x with scanning := false, replaying := true }
    dataIf (x.state == .acquiring && x.scanning && !(s.attachedModules.any s.scanOpen)) s t

/-- A module is attached again (R284): the block groups that rebuilds replaced are erased and returned; a queued segment whose rebuild
has not started has its cells on the module back, and leaves the queue when none is missing. -/
def State.rejoinModule (m : Nat) (s : State) : State :=
  s.stripe.segments.foldl (fun s g =>
    let mine := g.2.retired.filter fun a => bgModule a == m
    let s := mine.foldl (fun s a => s.queueErase a (segmentDomain g.1) (s.rankOf 9)) s
    let started := !g.2.replacement.isEmpty || s.stripe.rebuild.current == some g.1 || g.2.state == .evacuating
    s.updSegment g.1 fun x =>
      let x := { x with retired := x.retired.filter fun a => bgModule a != m }
      if x.state ≠ .rebuilding || started then x
      else
        let left := x.missing.filter fun c => s.addrMissing (x.cells.getD c 0) || bgModule (x.cells.getD c 0) != m
        { x with missing := left, state := if left.isEmpty then .sealed else .rebuilding, byEvac := x.byEvac && !left.isEmpty }) s

/-- MODULE_ATTACH (R323): a link UP, IDENTIFY and the scan done, every owned domain's claim presented. -/
def execModuleAttach (module : Nat) (s : State) : Result :=
  let x := s.module module
  let held := (s.domains.filter fun d => d.2.state != .none && decide (0 < d.2.claim)).map Prod.fst
  let ok := x.state == .detached && x.identified && x.scanned && s.anyLinkUp module && held.all fun d => x.claimed.contains d
  let t := s.updModule module fun x => { x with state := .attached, ever := true }
  let t := t.raiseFrom (flashIsland module) Ev.moduleAttached (le 2 module ++ le 2 ((List.range 256).filter x.diePresent).length ++ slice x.record 0 16)
  dataIf ok s (t.rejoinModule module).recomputeDrain

/-- MODULE_DETACH (R324): cause 1 no link UP for detach_ms, 2 eight commands in a row exhausted their retries. -/
def execModuleDetach (module cause : Nat) (s : State) : Result :=
  let x := s.module module
  let quiet := !s.anyLinkUp module &&
    (s.linksOf module).all fun l => s.expired ((s.link l).downSince + ticksOf (s.flash.config.detachMs * 1000000))
  let ok := x.state != .detached && ((cause == 1 && quiet) || (cause == 2 && decide (8 ≤ x.exhausted)))
  dataIf ok s (s.detach module cause)

/-! ### Scrub (R321) -/

/-- FLASH_SCRUB_VISIT (R321): the next closed stripe of the owned domains, in number order; past the last the pass ends. -/
def execFlashScrubVisit (s : State) : Result :=
  let next := s.stripe.stripes.find? fun t => decide (s.flash.scrubNext ≤ t.1) && t.2.state == .closed && s.owns (stripeDomainOf t.1)
  let f := s.flash.scrub
  let t := match next with
    | some (n, st) =>
      let g := s.segment st.segment
      let ws := allWords g
      let s := { s with flash.scrubNext := n + 1, flash.scrub := (f.1 + ws.length, f.2.1, f.2.2) }
      ((s.startWords (.scrub n 3) (s.rankOf 17) n ws).settle s.flash.nextJob).startJob 0x23 (s.rankOf 17) 1
    | none =>
      ({ s with flash.scrubNext := 0, flash.scrub := (0, 0, 0) }).raise Ev.scrubPassDone (le 8 f.1 ++ le 4 f.2.1 ++ le 4 f.2.2)
  dataIf (s.flash.config.scrubDays != 0) s t

end Sys2Proof.Machine
end

