-- ==== Sys2Proof/Machine/Stripes.lean ====
section
/-! DEFINITION. The commands of segments, stripes, the journal, garbage collection and rebuild (R254 to R285, R352, R465). -/

namespace Sys2Proof.Machine

/-! ### Segments and pools (R255, R256, R259, R465) -/

/-- The SPARE block group of a module (on a die, 0xFF any) to claim next: lowest erase count, die, number (R465). -/
def State.pickSpare (s : State) (m die : Nat) : Option Nat :=
  let key (a : Nat) : Nat := (s.block a).eraseCount * 2 ^ 24 + bgDie a * 2 ^ 16 + bgGroup a
  (s.flash.blocks.filter fun b => bgModule b.1 == m && b.2.place == .spare && b.2.state == 0 && (die == 0xFF || bgDie b.1 == die) &&
    !(s.die m (bgDie b.1)).failed).foldl (fun (best : Option Nat) b => match best with
    | none => some b.1
    | some y => if key b.1 < key y then some b.1 else some y) none

/-- Claim a SPARE block group for a domain (R255, R465). -/
def State.claimBlock (a d rank : Nat) (s : State) : State :=
  (s.updBlock a fun b => { b with place := .out }).issue
    { id := 0, module := bgModule a, opcode := 8, domain := d, die := bgDie a, addr := a, claim := s.claimOf d, rank := rank,
      use := .blockClaim a d }

/-- The block groups a domain's unanswered BLOCK_CLAIMs name. -/
def State.claiming (s : State) (d : Nat) : List Nat :=
  s.flash.cmds.filterMap fun c => match c.use with
    | .blockClaim a e => if e = d then some a else none
    | _ => none

/-- How a layout row stands for a domain: its cells, none when it fails, or a cell whose block group can be claimed or is being
claimed. -/
inductive RowPick where
  | cells (as : List Nat)
  | fails
  | wait
  | claim (a : Nat)
deriving DecidableEq, Repr

def State.pickRow (s : State) (d r : Nat) (y : Layout) : Nat → List Nat → RowPick
  | 0, acc => .cells acc
  | n + 1, acc =>
    let c := acc.length
    let m := y.module r c
    let die := (y.cell r c).2
    let die := if (s.module m).diePresent die then die else 0xFF
    if (s.module m).state ≠ .attached then .fails
    else match s.pickFree d m die acc with
      | some a => s.pickRow d r y n (acc ++ [a])
      | none =>
        if (s.claiming d).any fun a => bgModule a == m && (die == 0xFF || bgDie a == die) then .wait
        else match s.pickSpare m die with
          | some a => .claim a
          | none => .fails

/-- The first row from the cursor that does not fail, and how many rows were passed over. -/
def State.findRow (s : State) (d : Nat) (y : Layout) : Nat → Nat → Option (Nat × RowPick)
  | 0, _ => none
  | n + 1, r =>
    match s.pickRow d r y y.width [] with
    | .fails => s.findRow d y n (if r + 1 < y.rows then r + 1 else 0)
    | x => some (r, x)

/-- A stream of a domain needs a segment: items wait, and no segment of it has a row left. -/
def State.needsSegment (s : State) (d t : Nat) : Bool :=
  !((s.sdom d).queues.getD t []).isEmpty && (s.openSegment d t).isNone && (s.openStripe d t).isNone

def State.poolSize (s : State) (d : Nat) : Nat := (s.freePool d).length

/-- D + P of a domain's layout. -/
def State.widthOf (s : State) (d : Nat) : Nat := ((s.layout? (s.sdom d).layoutId).map Layout.width).getD 0

/-- EV_LAYOUT_STALLED once for a stream (R259). -/
def State.layoutStalled (d t : Nat) (s : State) : State :=
  let x := s.sdom d
  if x.stalled.contains t then s
  else (s.updSdom d fun x => { x with stalled := t :: x.stalled }).raise Ev.layoutStalled (le 1 d ++ le 1 t ++ le 1 x.layoutId)

/-- The lowest rank among the items that wait for a segment of a domain (R20, R465). -/
def State.streamRank (s : State) (d : Nat) : Nat := ((s.sdom d).queues.flatten.map Item.rank).foldl min 7

/-- Record a segment: SEGMENT_OPEN and SEGMENT_MEMBER, then the stream fills it (R259, R271). -/
def State.recordSegment (d t row : Nat) (y : Layout) (cells : List Nat) (s : State) : State :=
  let g := s.newSegment d
  let rows := (s.module (bgModule (cells.getD 0 0))).rowsTotal
  let seg : Segment := { data := y.data, parity := y.parity, stream := t, layoutId := y.id, layoutRow := row,
                         epoch := s.templates.epoch, rowsTotal := rows, openStamp := s.now, cells := cells }
  let s := { s with now := s.now + 1, stripe.segments := s.stripe.segments.set g seg }
  let s := cells.foldl (fun s a => s.updBlock a fun b => { b with place := .segment g }) s
  let next := if row + 1 < y.rows then row + 1 else 0
  let s := s.updSdom d fun x => { x with cursor := next, stalled := x.stalled.filter (· != t),
                                          reserveRaised := if t = 0 then false else x.reserveRaised }
  let rank := s.streamRank d
  let s := s.journalWrite d rank (.segmentOpen g y.data y.parity t y.id row rows seg.epoch) 0
  let s := (List.range ((cells.length + 5) / 6)).foldl (fun s i =>
    s.journalWrite d rank (.segmentMember g (6 * i) ((cells.drop (6 * i)).take 6)) 0) s
  s.fill d t

/-- SEGMENT_OPEN (R256, R259). A row that waits for a block group the chip can claim keeps the stream waiting (R465). -/
def execSegmentOpen (domain stream : Nat) (s : State) : Result :=
  let x := s.sdom domain
  let t :=
    match s.layout? x.layoutId with
    | none => s.layoutStalled domain stream
    | some y =>
      if stream = 0 && s.poolSize domain ≤ x.gcReserve * y.width then
        if x.reserveRaised then s
        else (s.updSdom domain fun x => { x with reserveRaised := true }).raise Ev.gcReserve (le 1 domain ++ le 4 (s.poolSize domain))
      else match s.findRow domain y y.rows (if x.cursor < y.rows then x.cursor else 0) with
        | some (r, .cells cells) => s.recordSegment domain stream r y cells
        | some (_, .claim _) | some (_, .wait) => s
        | _ => s.layoutStalled domain stream
  dataIf (s.writesFor domain && decide (stream < 3) && s.needsSegment domain stream && s.footingRuns) s t

/-- The next module of a domain's turn that has a SPARE block group, from position `i` of the layout's list (R465). -/
def State.nextTurn (s : State) (ms : List Nat) : Nat → Nat → Option (Nat × Nat)
  | 0, _ => none
  | n + 1, i =>
    let m := ms.getD (i % ms.length) 0
    match (if (s.module m).state = .attached then s.pickSpare m 0xFF else none) with
    | some a => some (i % ms.length, a)
    | none => s.nextTurn ms n (i + 1)

/-- FREE_POOL_REPLENISH (R465): a cell that lacks a block group first, at the rank of the work that opens the segment; then
the pool below gc_stop x (D + P), at rank 5. Block groups being claimed count as the pool's. -/
def execFreePoolReplenish (domain : Nat) (s : State) : Result :=
  let x := s.sdom domain
  let pool := s.poolSize domain + (s.claiming domain).length
  let t :=
    match s.layout? x.layoutId with
    | none => s
    | some y =>
      let cell := match s.findRow domain y y.rows (if x.cursor < y.rows then x.cursor else 0) with
        | some (_, .claim a) => if [0, 1, 2].any (s.needsSegment domain) then some a else none
        | _ => none
      match cell with
      | some a => s.claimBlock a domain (s.streamRank domain)
      | none =>
        if pool < x.gcStop * y.width && (x.freeCeiling = 0 || pool < x.freeCeiling) then
          match s.nextTurn y.modules y.modules.length x.turn with
          | some (i, a) => (s.updSdom domain fun x => { x with turn := i + 1 }).claimBlock a domain (s.rankOf 11)
          | none => s
        else s
  dataIf (s.writesFor domain && !s.footing.active) s t

/-! ### Stripes (R263, R264) -/

/-- STRIPE_PROGRAMS_DONE (R263 step 4). -/
def execStripeProgramsDone (stripe : Nat) (s : State) : Result :=
  let t := s.stripeOf stripe
  let g := s.segment t.segment
  let ok := s.stripe.stripes.has stripe && t.state == .open && t.complete && !t.closing && t.programs.isEmpty &&
    t.handed == g.data + g.parity
  let crc := (crc32c (summaryRecords t.items).flatten).toNat
  let u := (s.updStripe stripe fun t => { t with closing := true }).journalWrite (stripeDomainOf stripe) t.rank
    (.stripeClose stripe t.records t.lowWsn crc t.fill t.summaryUnits) t.highWsn
  dataIf ok s u

/-- CLOSE_AGE_EXPIRY (R264). -/
def execCloseAgeExpiry (stripe : Nat) (s : State) : Result :=
  let t := s.stripeOf stripe
  let age := ticksOf ((s.sdom (stripeDomainOf stripe)).closeAge * 1000000)
  let ok := s.stripe.stripes.has stripe && t.state == .open && !t.complete && (t.since.map fun x => s.expired (x + age)).getD false
  dataIf ok s (s.completeStripe stripe (s.rankOf 4) true)

/-! ### Journal (R272 to R275) -/

def windowBytes (x : StripeDomain) : Nat := x.journalWindow * 1048576

/-- JOURNAL_FRAME_SEND (R272, R274): the open frame goes to the trio and the mirror peer. -/
def execJournalFrameSend (domain : Nat) (s : State) : Result :=
  let j0 := s.journal domain
  let trio := if j0.trio.isEmpty then s.trioFor domain else j0.trio
  let due := j0.open_.any (fun r => r.body.awaited) || decide (63 ≤ j0.open_.length)
  let checkpoint := j0.open_.any fun r => r.body.type == 10
  let full := decide (windowBytes (s.sdom domain) ≤ j0.window)
  let f : JFrame := { seq := j0.seq + 1, claim := s.claimOf domain, records := j0.open_.take 63,
                      unmirrored := if s.mirror.state = .live then [j0.seq + 1] else [] }
  let rest := j0.open_.drop 63
  let rank := j0.rank
  let t := s.updJournal domain fun j => { j with trio := trio, seq := f.seq, open_ := rest, flight := j.flight ++ [f],
                                                  rank := if rest.any fun r => r.body.awaited then rank else 7 }
  let stamp := t.now
  let t := { t with now := t.now + 1 }
  let t := trio.zipIdx.foldl (fun t m =>
    t.queueStart { module := m.1, opcode := 12, domain := domain, die := 0, addr := 0, rank := rank, ready := 0,
                   use := .journal domain f.seq, data := frameBytes domain m.2 stamp f, param := f.seq }) t
  let t := (t.stripeCount 10 1).mirrorJournal domain rank f
  dataIf (s.holdsClaim domain && due && !trio.isEmpty && (!full || checkpoint)) s t

/-- JOURNAL_RECORD_DURABLE (R272). -/
def execJournalRecordDurable (domain : Nat) (s : State) : Result :=
  .next (s.makeDurable domain (s.journal domain).flight.length)

/-- A trio member is unusable: detached, down, retiring, or it failed an append (R273). -/
def State.memberLost (s : State) (j : Journal) (m : Nat) : Bool := !s.usableJournal m || j.bad.contains m

/-- JOURNAL_DEGRADED (R273): the next usable entry takes the member's place and the frames since the checkpoint are copied to
it at rank 4. -/
def execJournalDegraded (domain : Nat) (s : State) : Result :=
  let j := s.journal domain
  match j.trio.find? (s.memberLost j) with
  | none => .next s
  | some m =>
    let js := s.journalSet
    let n := js.length
    let next := ((List.range n).map fun i => js.getD ((domain + i) % n) 0).find? fun x =>
      s.usableJournal x && !j.trio.contains x && !j.bad.contains x
    let left := (j.trio.filter fun x => !s.memberLost j x).length
    let trio := match next with
      | some x => j.trio.map fun y => if y = m then x else y
      | none => j.trio.filter (· != m)
    let repair := match next with
      | some x => some x
      | none => j.repair
    let t := s.updJournal domain fun j => { j with trio := trio, degraded := true, repair := repair, bad := j.bad.filter (· != m) }
    let t := { t with flash.starts := t.flash.starts.filter fun x => !(x.module == m && x.opcode == 12 && x.domain == domain) }
    let t := t.raise Ev.journalDegraded (le 1 domain ++ le 2 m ++ le 1 left)
    let copy := (trio.findIdx? fun x => some x == next).getD 0
    let t : State := match next with
      | none => t
      | some x => (j.kept ++ j.flight).foldl (fun t f =>
        t.queueStart { module := x, opcode := 12, domain := domain, die := 0, addr := 0, rank := t.rankOf 10, ready := 0,
                       use := .journal domain f.seq, data := frameBytes domain copy t.now f, param := f.seq }) t
    let n := if next.isNone then 0 else j.kept.length + j.flight.length
    .next (t.startJob 0x21 (t.rankOf 10) n)

/-- JOURNAL_REPAIR_END (R273). -/
def execJournalRepairEnd (domain : Nat) (s : State) : Result :=
  let j := s.journal domain
  match j.repair with
  | none => .next s
  | some m =>
    let ok := (j.kept ++ j.flight).all fun f => f.acks.contains m
    let t := s.updJournal domain fun j => { j with repair := none, degraded := decide (j.trio.length < 3) }
    dataIf ok s (t.raise Ev.journalRepaired (le 1 domain ++ le 2 m ++ le 4 j.kept.length)).checkAllRetired

/-- The lowest WSN of a record not yet applied to written-back pages (R274). -/
def State.lowUnapplied (s : State) (d : Nat) : Nat :=
  match s.wp.log.find? fun r => r.domain == d && !r.applied && !r.dropped with
  | some r => r.wsn
  | none => s.wp.wsn + 1

/-- Live units of a segment. -/
def State.liveUnits (s : State) (g : Nat) : Nat := ((s.rowsOf g).map fun t => t.2.live).sum

/-- Cells of a segment to rebuild: missing, or on a retiring module. -/
def State.missingCells (s : State) (x : Segment) : List Nat :=
  (List.range x.cells.length).filter fun c =>
    let a := x.cells.getD c 0
    s.addrMissing a || (s.module (bgModule a)).state == .retiring

/-- Forwarding entries with a source in a stripe (R267). -/
def State.forwardCount (s : State) (n : Nat) : Nat := (s.stripe.forward.filter fun f => pxaStripe f.1 == n).length

/-- The stripe record (R267). -/
def State.stripeRecord (s : State) (n : Nat) : List Byte :=
  let t := s.stripeOf n
  le 5 n ++ le 1 t.state.code ++ le 1 t.stream ++ le 1 (boolNat t.weak + 2 * boolNat (0 < s.forwardCount n)) ++ le 4 t.segment ++
    le 2 t.row ++ le 2 t.live ++ le 2 t.records ++ le 2 t.summaryUnits ++ le 4 (s.forwardCount n) ++ le 8 t.closeStamp

/-- A bitmap of cells. -/
def cellBits (cs : List Nat) : Nat := cs.foldl (fun m c => m ||| 2 ^ c) 0

/-- The segment record (R287). -/
def State.segmentRecord (s : State) (g : Nat) : List Byte :=
  let x := s.segment g
  le 4 g ++ le 1 (segmentDomain g) ++ le 1 x.state.code ++ le 1 x.data ++ le 1 x.parity ++ le 1 x.stream ++ le 1 x.layoutId ++
    le 2 x.layoutRow ++ le 4 x.epoch ++ le 2 x.rowsWritten ++ le 2 x.rowsTotal ++ le 4 (s.liveUnits g) ++ le 8 x.openStamp ++
    le 8 (cellBits (s.missingCells x)) ++ le 8 (cellBits x.replaced) ++ fit 165 (x.cells.flatMap (le 5)) ++ zeros 43

/-- Lost stripes of a domain, in table order (R283). -/
def State.lostOf (s : State) (d : Nat) : List (Nat × LostEntry) := s.stripe.lost.filter fun e => stripeDomainOf e.1 == d

/-- The entry of a lost stripe (R283). -/
def LostEntry.record (n : Nat) (e : LostEntry) : List Byte :=
  le 5 n ++ le 1 e.cause ++ le 1 e.missing ++ le 1 (boolNat e.swept) ++ le 8 e.stamp

/-- A page table entry (R218). -/
def Page.entry (x : Page) : List Byte :=
  le 8 x.pxa ++ le 3 x.refs ++ le 3 x.pins ++ le 1 x.kind ++
    le 1 (boolNat x.body.isSome + 2 * boolNat x.dirty.isSome + 4 * boolNat x.writing + 8 * boolNat x.lost)

/-- A page-table page: the entries of 256 consecutive page indexes, a free one all zeros (R218). -/
def State.pageTablePage (s : State) (d k : Nat) : List Byte :=
  (List.range 256).flatMap fun i => ((s.page? (d * 2 ^ 32 + 256 * k + i)).map Page.entry).getD (zeros 16)

/-- The 4 KiB pages that a table of records fills, of a kind. -/
def pagesOf (kind : Nat) (b : List Byte) : List (Nat × Nat × List Byte) :=
  (List.range ((b.length + 4095) / 4096)).map fun i => (kind, i, slice b (4096 * i) 4096)

/-- The page-table pages (kind 7), layer pages (8) and ledger pages of a domain: stripe table (10), forwarding (12), segments (13) and
lost stripes (14), with their records in increasing number (R218, R229, R267, R269, R283, R287; log entry 153). The spec gives a count
page no layout, so the counts are in no page. -/
def State.tablePages (s : State) (d : Nat) : List (Nat × Nat × List Byte) :=
  let mine (k : Nat) : Bool := k / 2 ^ 32 == d
  let table := ((s.map.pages.filter fun p => mine p.1).map fun p => p.1 % 2 ^ 32 / 256).eraseDups
  table.map (fun k => (7, k, s.pageTablePage d k)) ++
    pagesOf 8 ((s.map.layers.filter fun l => mine l.1).flatMap fun l => l.2.record (l.1 % 2 ^ 32)) ++
    pagesOf 10 ((s.stripe.stripes.filter fun t => mine t.1).flatMap fun t => s.stripeRecord t.1) ++
    pagesOf 12 ((s.stripe.forward.filter fun f => f.1 / 2 ^ 56 == d).flatMap fun f => le 8 f.1 ++ le 8 f.2) ++
    pagesOf 13 ((s.stripe.segments.filter fun g => segmentDomain g.1 == d).flatMap fun g => s.segmentRecord g.1) ++
    pagesOf 14 ((s.lostOf d).flatMap fun e => e.2.record e.1)

/-- The items of a domain's table pages (R219, R267). -/
def State.tableItems (s : State) (d : Nat) : List Item :=
  (s.tablePages d).map fun t =>
    let n := d * 2 ^ 32 + t.2.1
    { off := 0, ext := { units := 17, kind := if t.1 ≤ 8 then 3 else 5 }, source := .page t.1 n,
      bytes := pageExtent t.2.2 n t.1 0 (s.claimOf d) s.wp.wsn s.now, rank := s.rankOf 11 }

/-- An anchor page's item: it lists the PXAs of the domain's page-table, layer and ledger pages (R267). -/
def State.anchorItem (s : State) (d : Nat) : Item :=
  let pxas := (s.sdom d).fresh.flatMap fun t => le 8 t.2.2
  { off := 0, ext := { units := 17, kind := 6 }, source := .page 6 d, bytes := pageExtent pxas (d * 2 ^ 32) 6 0 (s.claimOf d) s.wp.wsn s.now,
    rank := s.rankOf 11 }

/-- Pages of a checkpoint are on their way to flash. -/
def State.anchorOut (s : State) (d : Nat) : Bool :=
  let mine (i : Item) : Bool := match i.source with
    | .page k _ => decide (6 ≤ k)
    | _ => false
  (s.stripe.stripes.any fun t => stripeDomainOf t.1 == d && t.2.items.any mine) || ((s.sdom d).queues.getD 2 []).any mine

/-- JOURNAL_CHECKPOINT (R267, R274): dirty pages are written back and, once they are, the table pages, then the anchor page that lists
them; when it is closed the CHECKPOINT is written. Each run takes the next of these steps. -/
def execJournalCheckpoint (domain : Nat) (s : State) : Result :=
  let j := s.journal domain
  let x := s.sdom domain
  let due := x.checkpointWanted || decide (3 * windowBytes x ≤ 4 * j.window)
  let waits := j.open_.any (fun r => r.body.type == 10) || j.flight.any fun f => f.records.any fun r => r.body.type == 10
  let dirty := s.dirtyPages domain
  let s1 := s.updSdom domain fun x => { x with checkpointWanted := true }
  let t :=
    if !dirty.isEmpty then (dirty.foldl (fun s p => s.writeBack p) s1).closeStream domain 2 (s.rankOf 11)
    else if s.anchorOut domain then s1.closeStream domain 2 (s.rankOf 11)
    else if x.anchorPxa = 0 then
      let s2 := s1.updSdom domain fun x => { x with tablesOut := true }
      let items := if x.tablesOut then [s.anchorItem domain] else s.tableItems domain
      (s2.place domain 2 items).closeStream domain 2 (s.rankOf 11)
    else s1.journalWrite domain (s.rankOf 11) (.checkpoint x.anchorPxa (s.lowUnapplied domain) (j.seq + 1)) 0
  dataIf (s.writesFor domain && due && !waits && s.footingRuns) s t

/-! ### Acquiring: journal replay (R146, R275, R339, R350) -/

/-- Take up the running operations of a domain, and the failures, from the progress records mirrored here (R154, R350). -/
def State.adoptErases (d : Nat) (s : State) : State :=
  s.mirror.progress.foldl (fun s x =>
    let e := s.parseErase x.2
    let known := s.nvme.erases.any fun y => y.2.kind == e.kind && y.2.target == e.target && y.2.state == 1
    match s.eraseSlot with
    | none => s
    | some k =>
      if (e.state ≠ 1 && e.state ≠ 3) || known || !(s.eraseDomains e).contains d then s
      else
        ({ s with nvme.erases := s.nvme.erases.set k e, mirror.progress := s.mirror.progress.del x.1 } : State).showErase e) s

/-- Every namespace of a domain has a head layer before records are applied to it. -/
def State.giveLayers (d : Nat) (s : State) : State :=
  ((s.nvme.namespaces.filter fun n => n.2.domain == d && decide (n.1 < 2 ^ 32)).map Prod.fst).foldl (fun s n => s.giveLayer n) s

/-- The domain is owned: Optimized, EV_DOMAIN_ACQUIRED; formats and sanitizes of its namespaces go on (R154, R339, R350). -/
def State.finishAcquire (d : Nat) (s : State) : State :=
  let c := s.claimOf d
  let taken := (s.domain d).takeover.isSome
  let s := s.updDomain d fun x => { x with state := .owned, replaying := false, takeover := none, mirrorLeft := 0, tookOver := taken }
  let s := (s.giveLayers d).setAna d 1
  let s := s.raise Ev.domainAcquired (le 1 d ++ le 8 c)
  let s := ((s.nvme.namespaces.filter fun n => n.2.domain == d && n.2.cls == 1 && decide (n.1 < 2 ^ 32)).map Prod.fst).foldl
    (fun s n => s.startPinning n) s
  (if taken then s.adoptErases d else s).resumeErases

/-- The area bound to a failed head that was live at the declaration (R348). -/
def State.liveArea (s : State) (h : Nat) : Option Nat :=
  s.mirror.areas.findIdx? fun a => a.bound == some h && a.liveAt

/-- Journal frames of a domain that a failed head mirrored (R352). -/
def State.mirroredFrames (s : State) (h d : Nat) : List JFrame :=
  match s.liveArea h with
  | none => []
  | some i =>
    (((s.mirror.areas.getD i {}).journal.getD d [])).map fun f => { seq := f.1, claim := 0, records := f.2.filterMap parseRecord }

/-- Load the tables the checkpoint names, for the domain alone (R275). -/
def State.loadImage (d : Nat) (m : LedgerImage) (s : State) : State :=
  let mine32 (k : Nat) : Bool := k / 2 ^ 32 == d
  let mine56 (k : Nat) : Bool := k / 2 ^ 56 == d
  let add {α : Type} (t u : Tab α) (p : Nat → Bool) : Tab α := (u.keep fun k _ => p k).foldl (fun (t : Tab α) e => t.set e.1 e.2) t
  let st : Stripes := { s.stripe with
    stripes := add s.stripe.stripes m.stripes mine32,
    segments := add s.stripe.segments m.segments fun k => k / 2 ^ 24 == d,
    extents := add s.stripe.extents m.extents mine56,
    forward := add s.stripe.forward m.forward mine56,
    lost := add s.stripe.lost m.lost mine32 }
  let mp : MapState := { s.map with
    pages := add s.map.pages m.pages mine32,
    layers := add s.map.layers m.layers mine32 }
  let s := { s with stripe := st, map := mp, wp.index := add s.wp.index m.index fun k => k / 2 ^ 40 == d }
  let s := s.updMdom d fun x => { x with nextLayer := max x.nextLayer m.nextLayer }
  let s := s.updSdom d fun x => { x with tables := m.tables }
  let head (n : Nat) : Nat := ((s.map.layers.find? fun l => l.1 / 2 ^ 32 == d && l.2.kind == 1 && l.2.nsid == n).map fun l => l.1 % 2 ^ 32).getD 0
  let put (e : Nat × Namespace) : Nat × Namespace := if e.2.domain = d then (e.1, { e.2 with layer := head e.1 }) else e
  { s with nvme.namespaces := s.nvme.namespaces.map put }

/-- Correct a namespace definition to the map's copy (R146, R350). -/
def State.correctNs (e : Nat × Nat × Nat × Nat × Nat) (s : State) : State :=
  match s.ns? e.1 with
  | none => s
  | some n =>
    let field := boolNat (n.nsze != e.2.1) + 2 * boolNat (n.lbaf != e.2.2.1) + 4 * boolNat (n.cls != e.2.2.2.1) +
      8 * boolNat (n.keySlot != e.2.2.2.2)
    if field = 0 then s
    else
      let new : Namespace := { n with nsze := e.2.1, lbaf := e.2.2.1, cls := e.2.2.2.1, keySlot := e.2.2.2.2 }
      let s := (s.refKey n.keySlot false).refKey e.2.2.2.2 true
      ({ s with nvme.namespaces := s.nvme.namespaces.set e.1 new }).raise Ev.nsMismatch (le 4 e.1 ++ le 1 field)

/-- Replayed records in increasing WSN; a MERGE whose ashlar another has touched since its basis WSN is marked (R224, R228). -/
def replayOrder (rs : List Staged) : List Staged :=
  let order := rs.foldl (fun (acc : List Staged) r =>
    acc.takeWhile (fun q => decide (q.wsn ≤ r.wsn)) ++ r :: acc.dropWhile fun q => decide (q.wsn ≤ r.wsn)) []
  order.map fun r =>
    let hit := r.deltas.any fun d => d.op == 12 && rs.any fun q =>
      decide (r.fetch < q.wsn) && decide (q.wsn < r.wsn) && q.touches r.nsid d.ashlar
    if hit then { r with marks := some 1 } else r

/-- Put a replayed record's deltas into the map (R224, R275). -/
def State.replayStaged (d : Nat) (r : Staged) (s : State) : State :=
  let s := s.applyDeltas { r with domain := d, replayed := true } r.deltas r.fps
  let s := { s with wp.applied := s.wp.applied.set d (max (s.wp.applied.getD d 0) r.wsn) }
  s.updDomain d fun x => { x with highWsn := max x.highWsn r.wsn }

/-- JOURNAL_REPLAY (R275, R339, R352): the tables, then the frames from the newest checkpoint in order, with the mirrored
frames that no copy holds on a takeover; then the pools and open stripes. -/
def execJournalReplay (domain : Nat) (image : LedgerImage) (s : State) : Result :=
  let x := s.domain domain
  let read := image.frames.filterMap (parseFrame domain)
  let extra := match x.takeover with
    | none => []
    | some h => (s.mirroredFrames h domain).filter fun f => !read.any fun g => g.seq == f.seq
  let frames := orderFrames (read ++ extra)
  let t := (s.loadImage domain image).giveLayers domain
  let t := (frames.flatMap JFrame.records).foldl (fun t r => t.replayRecord domain (fun n => image.summaries.getD n []) r) t
  let t := (replayOrder image.records).foldl (fun t r => t.replayStaged domain r) t
  let t := t.discardOpen domain
  let t := (t.domainBlocks domain).foldl (fun t a => t.scanBlock a true) t
  let t := image.namespaces.foldl (fun t e => if ((t.ns? e.1).map Namespace.domain) = some domain then t.correctNs e else t) t
  let top := (frames.map JFrame.seq).foldl max 0
  let late := frames.filter fun f => extra.contains f
  let t := t.updJournal domain fun j =>
    { j with trio := t.trioFor domain, seq := max j.seq top, kept := frames.filter fun f => !late.contains f, flight := late }
  let trio := (t.journal domain).trio
  let t := late.foldl (fun t f => trio.zipIdx.foldl (fun t m =>
    t.queueStart { module := m.1, opcode := 12, domain := domain, die := 0, addr := 0, rank := t.rankOf 13, ready := 0,
                   use := .journal domain f.seq, data := frameBytes domain m.2 t.now { f with claim := t.claimOf domain }, param := f.seq }) t) t
  let t := t.closeSessions domain
  let mine := frames.filter fun f => f.claim % 65536 == s.head.headId
  let t := { t with wp.wsn := ((mine.flatMap JFrame.records).map JRecord.wsn).foldl max t.wp.wsn }
  let claims := (frames.map JFrame.claim).foldl max 0
  let t := t.updDomain domain fun x =>
    { x with replaying := false, journalDone := true, lastClaim := if claims = 0 then x.lastClaim else claims }
  let t := match x.takeover with
    | none => t.finishAcquire domain
    | some h =>
      if (t.liveArea h).isSome then t
      else t.raise Ev.takeoverUnmirrored (le 1 domain ++ le 2 h ++ le 8 (t.domain domain).highWsn ++ le 8 (t.peer h).highWsn)
  let closes := (frames.flatMap JFrame.records).filter fun r => r.body.type == 2
  let dirs := image.pages.filter fun p => decide (3 ≤ p.2.kind) && decide (p.2.kind ≤ 6)
  let rank := s.rankOf 13
  let t := (t.startJob 0x12 rank image.frames.length).startJob 0x13 rank closes.length
  dataIf (x.state == .acquiring && x.replaying && !x.journalDone) s
    ((t.startJob 0x14 rank dirs.length).startJob 0x15 rank image.lost.length)

/-! ### Garbage collection (R276, R277) -/

/-- The better victim (R266, R277): a failed block group first, then fewer live units per written unit, then the older. -/
def State.betterVictim (s : State) (a b : Nat × Segment) : Bool :=
  let fa := a.2.cells.any s.addrMissing
  let fb := b.2.cells.any s.addrMissing
  let x := s.liveUnits a.1 * (b.2.rowsWritten * b.2.data)
  let y := s.liveUnits b.1 * (a.2.rowsWritten * a.2.data)
  if fa != fb then fa else if x ≠ y then decide (x < y) else decide (a.2.openStamp < b.2.openStamp)

/-- The victim of a domain: sealed segments only; while the forward area is full only those with no extent of kind 1 or 2
(R269, R277). -/
def State.pickVictim (s : State) (d : Nat) : Option Nat :=
  let full := decide (forwardCapacity s.dramBytes ≤ s.stripe.forward.length) && decide (0 < s.dramBytes)
  let movable (g : Nat) : Bool :=
    let ns := (s.rowsOf g).map Prod.fst
    !(s.stripe.extents.any fun e => ns.contains (pxaStripe e.1) && decide (e.2.kind ≤ 2))
  ((s.stripe.segments.filter fun g => segmentDomain g.1 == d && g.2.state == .sealed && (!full || movable g.1)).foldl
    (fun (b : Option (Nat × Segment)) g => match b with
      | none => some g
      | some y => if s.betterVictim g y then some g else some y) none).map Prod.fst

/-- The queued victim of lowest rank that is sealed. -/
def State.queuedVictim (s : State) (d : Nat) : Option (Nat × Nat) :=
  ((s.sdom d).victims.filter fun v => (s.segment v.1).state == .sealed).foldl (fun (b : Option (Nat × Nat)) v => match b with
    | none => some v
    | some y => if v.2 < y.2 then some v else some y) none

/-- Move a segment's live extents out. -/
def State.evacuate (g rank : Nat) (s : State) : State :=
  let s := s.updSegment g fun x => { x with state := .evacuating, evacuating := true }
  (s.rowsOf g).foldl (fun s t => s.copyOut t.1 rank) s

/-- A domain's pool can still be kept up from the spare pools of its layout's modules (R465): a block group is on its way or can
be claimed. -/
def State.canReplenish (s : State) (d : Nat) : Bool :=
  let x := s.sdom d
  match s.layout? x.layoutId with
  | none => false
  | some y =>
    let n := s.poolSize d + (s.claiming d).length
    decide (x.gcStart * y.width ≤ n) ||
      ((x.freeCeiling == 0 || decide (n < x.freeCeiling)) && (s.nextTurn y.modules y.modules.length x.turn).isSome)

/-- GC_VICTIM_START (R276, R277, R320, R465): an evacuation under way goes on; a queued victim comes next, at its rank; then the
lowest-live sealed segment while the pool is low. -/
def execGcVictimStart (domain : Nat) (s : State) : Result :=
  let x := s.sdom domain
  let w := s.widthOf domain
  let pool := s.poolSize domain
  let running := !x.gcSuspended && decide (0 < w) && ((decide (pool < x.gcStart * w) && !s.canReplenish domain) || (x.gcRunning && decide (pool < x.gcStop * w)))
  let s1 := s.updSdom domain fun x => { x with gcRunning := running }
  let going := s.stripe.segments.find? fun g => segmentDomain g.1 == domain && g.2.evacuating && !g.2.byEvac && 0 < s.liveIn g.1
  let t := match going with
    | some g => s1.evacuate g.1 (s.rankOf 14)
    | none => match s.queuedVictim domain with
      | some v =>
        ((s1.updSdom domain fun x => { x with victims := x.victims.filter fun y => y.1 != v.1 }).evacuate v.1 v.2).startJob 0x22 v.2 1
      | none =>
        if running then match s.pickVictim domain with
          | some g => (s1.evacuate g (s.rankOf 14)).startJob 0x22 (s.rankOf 14) 1
          | none => s1
        else s1
  dataIf (s.owns domain && !s.footing.active) s t

/-- A segment's rebuild has ended with cells replaced; after the last one EV_REBUILD_DONE (R279, R280). -/
def State.rebuildNext (cells : Nat) (s : State) : State :=
  let b := s.stripe.rebuild
  let b : Rebuild := { b with current := none, done := b.done + 1, cells := b.cells + cells }
  let s := { s with stripe.rebuild := b }
  if s.stripe.segments.any fun y => y.2.toRebuild then s
  else
    let s := { s with stripe.rebuild := { s.stripe.rebuild with running := false, belowRaised := false, below := 0 } }
    s.raise Ev.rebuildDone (le 4 b.cells ++ le 4 b.lost ++ le 4 ((s.now - b.started) / 10 ^ 9))

/-- GC_SEGMENT_ERASE (R277): no live extent is left; each block group is erased at the domain's claim. -/
def execGcSegmentErase (segment : Nat) (s : State) : Result :=
  let x := s.segment segment
  let d := segmentDomain segment
  let ok := s.stripe.segments.has segment && x.evacuating && x.state == .evacuating && s.owns d && !s.footing.active &&
    s.liveIn segment == 0 && !((s.rowsOf segment).any fun t => t.2.state == .open)
  let t := s.updSegment segment fun x => { x with state := .erasing }
  let t := x.cells.foldl (fun t a =>
    if t.addrMissing a then t.updBlock a fun b => { b with place := .out } else t.queueErase a d (t.rankOf 14)) t
  let t := if x.byEvac then t.rebuildNext 0 else t
  dataIf ok s (t.segmentErased segment)

/-! ### Rebuild (R279 to R285) -/

/-- In place when a quarter of the data units are live (R279). -/
def State.rebuildInPlace (s : State) (g : Nat) : Bool :=
  let x := s.segment g
  decide (x.rowsTotal * x.data * 256 ≤ 4 * s.liveUnits g)

/-- REBUILD_START (R279): the segments with a missing cell on the module are queued. -/
def execRebuildStart (module : Nat) (s : State) : Result :=
  let hit (g : Nat × Segment) : Bool :=
    s.owns (segmentDomain g.1) && (g.2.state == .sealed || g.2.state == .open) &&
      (s.missingCells g.2).any fun c => bgModule (g.2.cells.getD c 0) == module && !g.2.missing.contains c
  let gs := (s.stripe.segments.filter hit).map Prod.fst
  let b := s.stripe.rebuild
  let going := b.running && s.stripe.segments.any fun g => g.2.toRebuild
  let fresh : Rebuild := { b with running := true, started := s.now, done := 0, cells := 0, bytes := 0, gateUs := 0, lost := 0 }
  let t := { s with stripe.rebuild := if going then b else fresh }
  let t := gs.foldl (fun t g =>
    let t := t.sealSegment g
    let t := t.updSegment g fun x => { x with missing := t.missingCells x }
    t.updSegment g fun x => { x with state := .rebuilding, byEvac := !t.rebuildInPlace g }) t
  let t := gs.foldl (fun t g => t.startJob 0x20 (s.rankOf 9) (s.segment g).rowsWritten) t
  dataIf (!gs.isEmpty && !s.footing.active) s (t.raise Ev.rebuildStart (le 2 module ++ le 4 gs.length))

/-- The order of the rebuild queue (R280): lower margin, then streams 2, 0, 1, then the lower segment number. -/
def rebuildBefore (a b : Nat × Segment) : Bool :=
  let m (x : Segment) : Nat := x.parity - x.missing.length
  let t (x : Segment) : Nat := if x.stream = 2 then 0 else x.stream + 1
  if m a.2 ≠ m b.2 then decide (m a.2 < m b.2) else if t a.2 ≠ t b.2 then decide (t a.2 < t b.2) else decide (a.1 < b.1)

/-- The segment rebuild works on: the one in progress, or the first of the queue; one whose margin has fallen to 0 passes at
once (R280). -/
def State.rebuildPick (s : State) : Option Nat :=
  let qs := s.stripe.segments.filter fun g => g.2.toRebuild
  let first := (qs.foldl (fun (b : Option (Nat × Segment)) g => match b with
    | none => some g
    | some y => if rebuildBefore g y then some g else some y) none)
  match s.stripe.rebuild.current with
  | some c =>
    if qs.any fun g => g.1 == c then
      match first with
      | some f => if f.2.parity ≤ f.2.missing.length && c ≠ f.1 then some f.1 else some c
      | none => some c
    else first.map Prod.fst
  | none => first.map Prod.fst

/-- The replacement of a missing cell (R279): the first module after the missing one in the layout's list that is no member
and has a free block group. -/
def State.replacementFor (s : State) (g cell : Nat) : Option Nat :=
  let x := s.segment g
  let d := segmentDomain g
  match s.layout? x.layoutId with
  | none => none
  | some y =>
    let here := bgModule (x.cells.getD cell 0)
    let at_ := (y.modules.findIdx? (· == here)).getD 0
    let n := y.modules.length
    let used := x.cells.map bgModule ++ x.replacement.map fun r => bgModule r.2
    ((List.range n).map fun i => y.modules.getD ((at_ + 1 + i) % n) 0).findSome? fun m =>
      if used.contains m || (s.module m).state != .attached then none else s.pickFree d m 0xFF []

/-- Rank of rebuild work: within the floor while the bucket holds tokens, else above it (R281, R462). -/
def State.rebuildRank (s : State) : Nat := if 0 < s.stripe.rebuild.tokens then s.rankOf 9 else s.rankOf 15

def State.spendTokens (n : Nat) (s : State) : State :=
  { s with stripe.rebuild := { s.stripe.rebuild with tokens := s.stripe.rebuild.tokens - n } }

/-- Program one strip of a replacement. -/
def State.programRebuild (g cell row : Nat) (strip : List Byte) (s : State) : State :=
  match (s.segment g).replacement.get? cell with
  | none => s
  | some a =>
    let rank := s.rebuildRank
    ((s.updSegment g fun x => { x with rebuilding := x.rebuilding ++ [(cell, row)] }).spendTokens 65536).queueStart
      { module := bgModule a, opcode := 3, domain := segmentDomain g, die := bgDie a, addr := a, page := row, rank := rank,
        ready := 0, use := .rebuild g cell row, data := stripFrame strip }

/-- The strip of a cell from a finished row read. -/
def rowStrip (x : ReadJob) (d cell : Nat) : Option (List Byte) :=
  let word (i : Nat) : Option (List Byte) := match x.got.get? (wordKey cell i) with
    | some b => some b
    | none => (recoverData d 4096 (x.known i)).map fun ws =>
      if cell < d then ws.getD cell [] else parityOf 4096 (cell - d) ws
  let ws := (List.range 16).map word
  if ws.all Option.isSome then some (ws.flatMap fun w => w.getD []) else none

/-- The last row is done and its programs have ended: MEMBER_REPLACE for each cell (R279). -/
def State.segmentRebuilt (g : Nat) (s : State) : State :=
  let x := s.segment g
  let d := segmentDomain g
  let s := x.replacement.foldl (fun s r => s.journalWrite d (s.rankOf 9) (.memberReplace g r.1 (x.cells.getD r.1 0) r.2) 0) s
  (s.updSegment g fun x => { x with state := .sealed, rebuildRow := 0 }).rebuildNext x.replacement.length

/-- Copy the live extents of a segment out as rebuild work, which spends tokens (R279, R281). -/
def State.evacuateRebuild (g : Nat) (s : State) : State :=
  let s := s.updSegment g fun x => { x with state := .evacuating, evacuating := true }
  (s.rowsOf g).foldl (fun s t => (s.stripe.extents.filter fun e => pxaStripe e.1 == t.1).foldl (fun s e =>
    let rank := s.rebuildRank
    (if s.copying e.1 || s.heldExtent e.1 then s else s.spendTokens (256 * e.2.units)).copyExtent e.1 e.2 rank) s) s

/-- The row before the one to rebuild is weak and still holds live extents (R282). -/
def State.weakBefore (s : State) (g row : Nat) : Option Nat :=
  ((s.rowsOf g).find? fun t => t.2.row + 1 == row && t.2.weak && t.2.state == .closed &&
    s.stripe.extents.any fun e => pxaStripe e.1 == t.1).map Prod.fst

/-- One row of the segment in progress (R279, R282). A weak row's live extents have left it before the next row. -/
def State.rebuildStep (g : Nat) (s : State) : State :=
  let x := s.segment g
  let row := x.rebuildRow
  let lack := x.missing.filter fun c => !x.replacement.has c
  let s := { s with stripe.rebuild := { s.stripe.rebuild with current := some g } }
  if x.byEvac then s.evacuateRebuild g
  else match s.weakBefore g row with
  | some n => s.copyOut n (s.rankOf 9)
  | none =>
  match lack with
  | c :: _ =>
    match s.replacementFor g c with
    | some a => (s.updBlock a fun b => { b with place := .segment g }).updSegment g fun x =>
        { x with replacement := x.replacement.set c a, rebuildRow := 0 }
    | none => s
  | [] =>
    if x.rowsWritten ≤ row then (if x.rebuilding.isEmpty then s.segmentRebuilt g else s)
    else
      let zero (s : State) : State :=
        (x.missing.foldl (fun s c => s.programRebuild g c row (zeros 65536)) s).updSegment g fun x => { x with rebuildRow := row + 1 }
      match (s.rowsOf g).find? fun t => t.2.row == row with
      | none => zero s
      | some (n, t) =>
        if t.state ≠ .closed || t.live = 0 then zero s
        else
          match s.flash.jobs.find? fun j => j.2.use == .row g row with
          | none =>
            let usable := (List.range (x.data + x.parity)).filter fun c => !s.addrMissing (x.cells.getD c 0)
            let ks := (usable.take x.data).flatMap fun c => (List.range 16).map (wordKey c)
            (s.startWords (.row g row) s.rebuildRank n ks).settle s.flash.nextJob
          | some (j, job) =>
            if !job.done then s
            else
              let failed := badCells job
              let gone := ((List.range (x.data + x.parity)).filter fun c => s.addrMissing (x.cells.getD c 0) || failed.contains c)
              let spare := (List.range (x.data + x.parity)).filter fun c =>
                !gone.contains c && !job.need.any fun k => k / 16 == c
              let lackN := x.data - ((job.need.map (· / 16)).eraseDups.filter fun c => !failed.contains c).length
              if x.parity < gone.length then
                zero (({ s with flash.jobs := s.flash.jobs.del j } : State).loseOrFoot n 1 (gone.foldl (fun m c => m + 2 ^ c) 0))
              else if 0 < lackN then
                let ks := (spare.take lackN).flatMap fun c => (List.range 16).map (wordKey c)
                ((s.setJob j { job with done := false, want := job.want ++ ks }).wantWords j ks).settle j
              else
                let s := { s with flash.jobs := s.flash.jobs.del j }
                let s := if failed.isEmpty then s else (s.updStripe n fun t => { t with weak := true }).copyOut n (s.rankOf 9)
                let s := s.stripeCount 8 x.missing.length
                (x.missing.foldl (fun s c => s.programRebuild g c row ((rowStrip job x.data c).getD (zeros 65536))) s).updSegment g fun x =>
                  { x with rebuildRow := row + 1 }

/-- REBUILD_ROW (R279, R280, R282): journal repair comes first. -/
def execRebuildRow (segment : Nat) (s : State) : Result :=
  let repair := s.stripe.journals.any fun j => j.2.repair.isSome
  dataIf (s.rebuildPick == some segment && !repair && !s.footing.active) s (s.rebuildStep segment)

/-- REBUILD_FLOOR_WINDOW_END (R281): the shortfall of the 10 ms window closes the floor gate; the bucket refills. -/
def execRebuildFloorWindowEnd (s : State) : Result :=
  let b := s.stripe.rebuild
  let goal := b.floor * 10000
  let work := s.stripe.segments.any fun g => g.2.toRebuild
  let short := goal - b.progress
  let g := if work && decide (0 < short) then min (b.gateMax * 100000) (10000000 * short / goal) else 0
  let atMax := decide (0 < g) && g == b.gateMax * 100000
  let below := if atMax then b.below + 1 else 0
  let wins := (b.progress :: b.windows).take 100
  let b' : Rebuild := { b with
    progress := 0, windows := wins, tokens := min goal (b.tokens + goal), below := below,
    gate := if 0 < g then some (s.tick + ticksOf g) else none, gateUs := b.gateUs + g / 1000,
    belowRaised := b.belowRaised || decide (100 ≤ below) }
  let t := { s with stripe.rebuild := b' }
  let t := if decide (100 ≤ below) && !b.belowRaised then
      t.raise Ev.rebuildBelowFloor (le 4 (wins.sum / 1000000) ++ le 4 b.floor) else t
  .next t

/-- FLOOR_GATE_OPEN (R281): held reads are resolved; held writes are considered again. -/
def execFloorGateOpen (s : State) : Result :=
  let passed := (s.stripe.rebuild.gate.map s.expired).getD false
  dataIf passed s ({ s with stripe.rebuild := { s.stripe.rebuild with gate := none } }).resumeReads

end Sys2Proof.Machine
end

