-- ==== Sys2Proof/Machine/HeadOps.lean ====
section
/-! DEFINITION. Ring frames received, messages between heads, binding a mirror peer, declaring a head failed and choosing the
taker (R329 to R337, R342 to R348, R354). -/

namespace Sys2Proof.Machine

/-! ### Messages between heads (R330) -/

/-- The fields of a message. -/
structure PeerMsg where
  kind : Nat
  seq : Nat
  wsn : Nat
  flags : Nat
  body : List Byte
deriving DecidableEq, Repr

/-- The message whose header and body CRC pass, from a sender to a receiver as its header must name them, of at most 65,600 bytes of body
(R330). -/
def parseMessage (from_ dest next : Nat) (b : List Byte) : Option PeerMsg :=
  let len := fieldAt b 0x18 4
  let body := slice b 32 len
  if b.length = 32 + len && len ≤ 65600 && fieldAt b 2 1 = 1 && fieldAt b 4 2 = from_ && fieldAt b 6 2 = dest && next ≤ fieldAt b 8 8 &&
      fieldAt b 0x1C 4 = (crc32c body).toNat then
    some { kind := fieldAt b 0 2, seq := fieldAt b 8 8, wsn := fieldAt b 0x10 8, flags := fieldAt b 3 1, body := body }
  else none

/-- Mirroring kinds that have a meaning (R333). -/
def mirrorKinds : List Nat := [1, 2, 3, 4, 5, 6, 7, 8, 9]

/-- Run the front message of a peer connection when it is of a kind; one that fails its checks is discarded and counted
(R330). -/
def peerRun (conn kind : Nat) (s : State) (effect : Nat → Nat → PeerMsg → State → State) : Result :=
  let c := s.conn conn
  match c.use, c.inbox with
  | .peer h lane, b :: rest =>
    if c.state ≠ .ready then .next s
    else
      let t := s.updConn conn fun c => { c with inbox := rest, inboxAt := c.inboxAt.drop 1 }
      match parseMessage h s.head.headId c.rxSeq b with
      | none => .next { t with heads.discarded := t.heads.discarded + 1 }
      | some m =>
        if !mirrorKinds.contains m.kind then .next { t with heads.discarded := t.heads.discarded + 1 }
        else if m.kind ≠ kind then .next s
        else .next (effect h lane m (t.updConn conn fun c => { c with rxSeq := m.seq + 1 }))
  | _, _ => .next s

/-! ### The area held for a head (R331, R335) -/

def State.areaOf (s : State) (h : Nat) : Option Nat := s.mirror.areas.findIdx? fun a => a.bound == some h
def State.area (s : State) (i : Nat) : Area := s.mirror.areas.getD i {}
def State.updArea (i : Nat) (f : Area → Area) (s : State) : State := { s with mirror.areas := s.mirror.areas.modify i f }

/-- An area becomes FREE; its key is taken back (R119, R331). -/
def State.freeArea (i : Nat) (s : State) : State :=
  { s.updArea i (fun _ => {}) with net.regions := s.net.regions.upd i fun r => { r with live := false } }

/-- A takeover of a head is under way. -/
def State.takingOver (s : State) (h : Nat) : Bool := s.heads.takeovers.any fun t => t.failed == h

/-! ### The own mirror peer (R331, R336, R337) -/

/-- Candidates for the mirror peer in order: the partner in Pair; in Mesh the active heads from the next higher ID, wrapping
from 16 to 1 (R336). -/
def State.candidates (s : State) : List Nat :=
  let act := s.activeHeads
  let own := s.head.headId
  (act.filter fun h => decide (own < h)) ++ act.filter fun h => decide (h < own)

/-- The message to all mirror lanes can go. -/
def State.lanesReady (s : State) (h : Nat) : Bool := [1, 2, 3].all fun l => (s.peerConn h l).isSome

/-- Try the next candidate; with none left there is no mirror peer: EV_MIRROR_LOST with cause 4, once (R331, R336). -/
def State.tryBind (s : State) : State :=
  if !s.head.joined || s.footing.active || s.power.drain != .none || s.mirror.bound || s.mirror.candidate.isSome then s
  else match s.candidates.find? fun h => !s.mirror.refused.contains h with
  | some h =>
    let x := s.sendMessage h 0 6 0 (le 1 1 ++ zeros 3 ++ le 4 s.wp.logUnits)
    if x.1.isSome then { x.2 with mirror.candidate := some h } else s
  | none =>
    if s.mirror.refused.isEmpty || s.mirror.lostRaised then s
    else
      let due := s.tick + ticksOf 1000000000
      ({ s with mirror.lostRaised := true, mirror.retryAt := due }).raise Ev.mirrorLost
        (le 2 (s.mirror.refused.getLastD 0) ++ le 1 4)

/-- Re-silvering starts: every unreleased record is sent, and the journal records of each owned domain from its last CHECKPOINT: those of
durable frames are read back by JOURNAL_READ first (R337). -/
def State.startResilver (s : State) : State :=
  let rs := s.wp.log.filter fun r => !r.released
  let kept := s.ownedDomains.flatMap fun d => (s.journal d).kept.map fun f => (d, f)
  let fly := s.ownedDomains.flatMap fun d => (s.journal d).flight.map fun f => (d, f)
  let m : Mirror := { s.mirror with state := .resilvering, resilver := rs.map Staged.wsn,
                                    resilverJournal := (kept ++ fly).map fun x => (x.1, x.2.seq),
                                    resilvered := 0 }
  let hold (r : Staged) : Staged := if r.released then r else { r with unmirrored := true }
  let s := { s with mirror := m, wp.log := s.wp.log.map hold }
  let s := rs.foldl (fun s r =>
    let s := { s with mirror.resilvered := s.mirror.resilvered + 256 * r.units }
    s.mirrorRecord { r with rank := s.rankOf 13 }) s
  let s := s.startJob 0x24 (s.rankOf 13) ((s.mirror.resilvered + 4194303) / 4194304)
  let s := fly.foldl (fun s x => s.resilverFrame x.1 x.2) s
  ((kept.map Prod.fst).eraseDups).foldl (fun s d => s.readJournal d (((s.journal d).kept.map JFrame.seq).headD 0)) s

/-! ### Declaring a head failed (R346 to R348) -/

/-- Heads of the peer table whose ID is above this head's and that have not left (R348). -/
def State.waitCount (s : State) : Nat :=
  (s.head.peers.filter fun p => decide (s.head.headId < p.1) && p.2.state != 3).length

/-- The taker of a failed head's domains: its mirror peer while that head holds its live area, else the active head with the
lowest ID (R348). -/
def State.takerOf (s : State) (h : Nat) : Nat :=
  let p := (s.peer h).mirrorPeer
  let act := s.activeHeads.filter (· != h)
  let own := s.head.headId
  if p = own && (s.liveArea h).isSome then own
  else if p ≠ own && act.contains p then p
  else act.foldl min own

/-- The domains a head owned: the bitmap of its last HEARTBEAT and its CLAIM_DONE frames since (R348). -/
def Peer.domains (p : Peer) : List Nat := (List.range 256).filter fun d => bit p.owned d || p.claimed.contains d

/-- The half of a bitmap as 16 bytes. -/
def halfBitmap (ds : List Nat) (half : Nat) : List Byte := le 16 (domainBits ds / 2 ^ (128 * half) % 2 ^ 128)

/-- Begin a takeover: EV_TAKEOVER_START twice, and the wait of R348. -/
def State.beginTakeover (h : Nat) (ds : List Nat) (s : State) : State :=
  let deadline := s.tick + ticksOf (s.head.takeoverDelay * 1000000 * s.waitCount)
  let t : Takeover := { failed := h, domains := ds, since := s.now, deadline := deadline, area := s.liveArea h }
  let s := { s with heads.takeovers := s.heads.takeovers ++ [t] }
  let s := s.raise Ev.takeoverStart (le 2 h ++ le 1 0 ++ zeros 1 ++ halfBitmap ds 0)
  s.raise Ev.takeoverStart (le 2 h ++ le 1 1 ++ zeros 1 ++ halfBitmap ds 1)

/-- A mirror peer or candidate that is gone. -/
def State.peerGone (h : Nat) (s : State) : State :=
  let s := if s.mirror.candidate = some h then { s with mirror.candidate := none } else s
  let s := if s.mirror.peer = h && (s.mirror.state != .none || s.mirror.bound) then s.loseMirror 3 else s
  s.tryBind

/-- Declare a head failed: FAILED on the ring unless a FAILED frame said so, EV_HEAD_FAILED, the mirror peer lost if it was
this head, and the takeover when this head is the taker (R346, R348, R349). -/
def State.declareFailed (h cause : Nat) (s : State) : State :=
  let p := s.peer h
  if p.state = 2 then s
  else
    let s := s.updPeer h fun p => { p with state := 2, asked := false }
    let s := if cause = 2 then s else s.ringSend 7 (le 2 h)
    let s := s.raise Ev.headFailed (le 2 h ++ le 1 cause)
    let live (a : Area) : Area := if a.bound = some h && p.mirrorPeer = s.head.headId then { a with liveAt := true } else a
    let s := { s with mirror.areas := s.mirror.areas.map live }
    let ds := p.domains
    let s := if ds.isEmpty || s.footing.active || s.takerOf h ≠ s.head.headId then s else s.beginTakeover h ds
    let forget (x : Domain) : Domain := if x.intent = h then { x with intent := 0 } else x
    ({ s with domains := s.domains.mapVals forget }).peerGone h

/-! ### Ring frames (R343) -/

/-- Act on a frame of a type when it is the first copy of its origin and seq: it is forwarded out of the opposite port
unless it fails its CRC, returns to its origin or has no ttl left (R343). `later` is what a later copy does: of a HEARTBEAT every copy
counts in its own direction. A JOIN of a head that is not active starts its numbers anew. -/
def ringRun (typ : Nat) (f : RingFrame) (s : State) (later act : State → State) : Result :=
  if !s.head.joined || f.typ ≠ typ || 2 ≤ f.direction || !f.crcOk || f.origin = s.head.headId then .next s
  else
    let s := if 2 ≤ f.ttl then s.emit (.ring f.direction typ f.origin (f.ttl - 1) f.seq f.body) else s
    if !s.head.peers.has f.origin then .next s
    else
      let p := s.peer f.origin
      let fresh := typ = 2 && p.state ≠ 1
      if p.seqs.contains f.seq && !fresh then .next (later s)
      else .next (act (s.updPeer f.origin fun p => { p with seqs := if fresh then [f.seq] else f.seq :: p.seqs }))

/-- Send RESYNC_QUERY once to each active head whose control connection is READY (R354). -/
def State.askResync (s : State) : State :=
  s.activeHeads.foldl (fun s h =>
    if (s.peer h).asked then s
    else
      let x := s.sendMessage h 0 8 0 []
      if x.1.isSome then x.2.updPeer h fun p => { p with asked := true } else s) s

/-- The direction's loss is raised once: every other active head misses in it and none in the other (R345). -/
def State.checkDirection (d : Nat) (s : State) : State :=
  let ps := (s.head.peers.filter fun p => p.2.state == 1).map Prod.snd
  let lost := !ps.isEmpty && ps.all fun p => decide (s.head.hbMisses ≤ p.misses.getD d 0) && p.misses.getD (1 - d) 0 == 0
  if lost && !bit s.head.lostDir d then
    ({ s with head.lostDir := s.head.lostDir + 2 ^ d }).raise Ev.ringDirectionLost (le 1 d)
  else s

/-- The head is silent in both directions and on its peer connections (R346). -/
def State.silent (s : State) (h : Nat) : Bool :=
  let p := s.peer h
  p.misses.all (fun m => decide (s.head.hbMisses ≤ m)) && decide (p.lastPacket ≤ p.lastBeat)

/-- A head of the ring is still heard. -/
def State.heardHead (s : State) (h : Nat) : Bool := (s.peer h).misses.any fun m => decide (m < s.head.hbMisses)

/-- The failure decision of R346 for a head. -/
def State.checkFailed (h : Nat) (s : State) : State :=
  let others := s.activeHeads.filter (· != h)
  if !s.silent h then s
  else if !s.mesh || others.any s.heardHead then s.declareFailed h 1
  else if others.all s.silent && !s.head.isolated then
    ({ s with head.isolated := true }).raise Ev.isolated (le 2 0)
  else s

end Sys2Proof.Machine
end

