-- ==== Sys2Proof/Machine/FaultOps.lean ====
section
/-! DEFINITION. Codewords and words in error: the Lintel outcomes by region, early warnings and repair lists, parity of the
metadata cache, the patrol and the sweeps (R244, R373 to R376, R453). -/

namespace Sys2Proof.Machine

/-- A region in DRAM; the others are SRAM (R374). -/
def lintelInDram (h : LintelHit) : Bool := decide (h.region ≤ 9) || h.region == 17

/-- Location of a codeword (R372, R391): with its symbol when the code resolves one, else at depth 2. -/
def lintelSite (h : LintelHit) (resolved : Bool) : Nat :=
  let sym := if resolved then h.symbol else 0
  let depth := if resolved then 1 else 2
  if lintelInDram h then location 0 (28 + h.channel / 4) (2 * (h.channel % 4) + h.sub) (8 * h.lane + h.rank) h.row sym depth
  else location 0 h.island h.tile h.macr h.word sym depth

/-- Enter a row in its channel's repair list, with its Vault record (R375). -/
def State.queueRepair (h : LintelHit) (s : State) : State :=
  let c := s.dramChannel h.channel
  let same (r : RepairRow) : Bool := r.rank == h.rank && r.bankGroup == h.bankGroup && r.bank == h.bank && r.row == h.row
  if decide (64 ≤ c.repairs.length) || c.repairs.any same then s
  else
    let rows := c.repairs ++ [{ rank := h.rank, bankGroup := h.bankGroup, bank := h.bank, row := h.row, state := 1 }]
    ((s.setDramChannel h.channel { c with repairs := rows }).logRecord 7 h.channel (rows.flatMap RepairRow.bytes)).raiseFrom (dramIsland h.channel)
      Ev.dramRowRepairQueued (le 1 h.channel ++ le 1 h.rank ++ le 1 h.bankGroup ++ le 1 h.bank ++ le 4 h.row)

/-- Key of a row among a channel's counts. -/
def lintelRow (h : LintelHit) : Nat := ((h.rank * 16 + h.bankGroup) * 16 + h.bank) * 2 ^ 32 + h.row

/-- A corrected symbol is counted; its lane and its row may reach their thresholds (R373, R375). -/
def State.lintelCorrected (h : LintelHit) (s : State) : State :=
  if !(lintelInDram h) then { s with dram.sramCorrected := s.dram.sramCorrected + 1 }
  else
    let c := s.dramChannel h.channel
    let lane := 8 * h.lane + h.rank
    let hits := recent s.now dayNs (c.corrections.getD lane [])
    let rowHits := recent s.now dayNs (c.rowHits.getD (lintelRow h) [])
    let due := decide (s.dram.dramEw ≤ hits.length) && (match c.warned.get? lane with
      | none => true
      | some t => decide (t + dayNs ≤ s.now))
    let c := { c with corrected := c.corrected + 1, corrections := c.corrections.set lane hits,
                      rowHits := c.rowHits.set (lintelRow h) rowHits, warned := if due then c.warned.set lane s.now else c.warned }
    let s := s.setDramChannel h.channel c
    let s := if due then
        s.raiseAt (lintelSite h true) Ev.dramEarlyWarning (le 1 h.channel ++ le 1 h.lane ++ le 1 h.rank ++ le 4 hits.length)
      else s
    if 3 ≤ rowHits.length then s.queueRepair h else s

/-- EV_LINTEL_UNCORRECTABLE with its outcome, and the fatal outcome (R374). -/
def State.uncorrectable (h : LintelHit) (outcome : Nat) (s : State) : State :=
  s.raiseAt (lintelSite h false) Ev.lintelUncorrectable (le 1 h.region ++ le 1 outcome)

def State.lintelFatal (h : LintelHit) (s : State) : State :=
  s.fatal (lintelSite h false) Ev.lintelFatal h.region (le 1 h.region)

/-- A staging record whose completion has not been posted: its write fails and the record is freed (R374 region 1). -/
def State.stagingHit (h : LintelHit) (s : State) : State :=
  match s.nvme.cmds.find? fun x => x.2.wsn == h.obj && x.2.wsn != 0 && x.2.stage != 9 with
  | some (k, _) =>
    let drop (r : Staged) : Staged := if r.wsn = h.obj then { r with dropped := true } else r
    (({ s with wp.log := s.wp.log.map drop } : State).failCmd k Nv.internal).uncorrectable h 2
  | none => s.lintelFatal h

/-- A map page: refetched while it is clean, fatal otherwise (R374 region 3). -/
def State.mapHit (h : LintelHit) (s : State) : State :=
  match s.page? h.obj with
  | some x => if x.dirty.isNone && x.pxa != 0 then (s.updPage h.obj fun x => { x with body := none }).uncorrectable h 1 else s.lintelFatal h
  | none => s.lintelFatal h

/-- The read-assembly buffer of a read: it restarts once from read-path step 3 (R374 region 11). -/
def State.readHit (h : LintelHit) (s : State) : State :=
  match s.cmdOf? h.obj with
  | none => s
  | some c =>
    if c.restarted then (s.failCmd h.obj Nv.internal).uncorrectable h 2
    else
      let mine (j : ReadJob) : Bool := match j.use with
        | .host k _ _ _ => k == h.obj
        | _ => false
      let s := { s with flash.jobs := s.flash.jobs.keep fun _ j => !mine j }
      let s := s.updNCmd h.obj fun c => { c with restarted := true, got := [], stage := 2, outside := c.outside ||| 2 ^ 10 }
      (s.advanceRead h.obj).uncorrectable h 1

/-- A context: a clean way is refetched, a dirty way or a spilled context takes its connection to ERROR (R374 regions 6 and
12). -/
def State.contextHit (h : LintelHit) (s : State) : State :=
  if h.region = 12 && !(s.conn h.obj).dirty then (s.updConn h.obj fun c => { c with resident := false }).uncorrectable h 1
  else (s.connError h.obj 6).uncorrectable h 3

/-- The outcome of an uncorrectable codeword by its region (R374). -/
def State.lintelOutcome (h : LintelHit) (s : State) : State :=
  match h.region with
  | 1 => s.stagingHit h
  | 2 => (s.updArea h.sub fun a => { a with lost := h.obj :: a.lost }).uncorrectable h 4
  | 3 => s.mapHit h
  | 6 => s.contextHit h
  | 7 =>
    ((s.updIndexPage h.domain h.obj fun q => { q with body := none, rebuilding := true }).raise Ev.indexPageRebuild
      (le 1 h.domain ++ le 8 h.obj)).uncorrectable h 5
  | 8 =>
    let v := s.digest.records.getD h.obj {}
    ({ s with digest.records := s.digest.records.set h.obj { v with saved := none, lost := v.saved.isSome } }).uncorrectable h 6
  | 9 => ({ s with dump.state := if s.dump.state = 2 then 3 else s.dump.state }).uncorrectable h 7
  | 10 => (s.failCmd h.obj Nv.internal).uncorrectable h 2
  | 11 => s.readHit h
  | 12 => s.contextHit h
  | _ => s.lintelFatal h

/-- A codeword that was read (R373 to R376). -/
def State.lintelHit (h : LintelHit) (s : State) : State :=
  if h.symbols = 0 then s
  else if h.symbols = 1 then s.lintelCorrected h
  else
    let s := if lintelInDram h then
        let c := s.dramChannel h.channel
        (s.setDramChannel h.channel { c with uncorrectable := c.uncorrectable + 1 }).queueRepair h
      else s
    s.lintelOutcome h

/-- An armed fault of target 3 or 4 appears in the next codeword of its region that is read (R453). -/
def State.injectLintel (h : LintelHit) (s : State) : LintelHit × State :=
  match s.run.inject with
  | some (t, r) =>
    if decide (3 ≤ t) && r == h.region && h.symbols == 0 then
      ({ h with symbols := t - 2 }, { s with run := { s.run with inject := none } })
    else (h, s)
  | none => (h, s)

def State.lintelHits (hs : List LintelHit) (s : State) : State :=
  hs.foldl (fun s h => let r := s.injectLintel h; r.2.lintelHit r.1) s

/-! ### Parity of the metadata cache (R244) -/

def State.setWays (k : Nat) (ws : List CacheWay) (s : State) : State := { s with map.sets := s.map.sets.set k ws }

/-- Disabled ways a set may have. -/
def disabledLimit : Nat := 4

/-- A clean error: the sector is refilled, and the third one of a way within 24 h disables the way (R244). -/
def State.cleanParity (h : ParityHit) (s : State) : State :=
  let bank := h.set % 8
  let ws := s.cacheWays h.set
  let w := ws.getD h.way {}
  let errs := recent s.now dayNs w.errors
  let out := decide (3 ≤ errs.length) && decide ((ws.filter CacheWay.disabled).length < disabledLimit)
  let loc := match h.bitIx with
    | some b => location 0 20 bank h.macr h.word b 1
    | none => location 0 20 bank h.macr h.word 0 2
  let s := (s.mapCount_ 11 1).setWays h.set (ws.set h.way { w with errors := errs })
  let s := s.raiseAt loc Ev.mcacheParity (le 1 bank ++ le 1 h.way ++ le 2 h.set ++ le 1 h.sector)
  if out then
    let s := (s.spill w).setWays h.set ((s.cacheWays h.set).set h.way { errors := errs, disabled := true })
    s.raise Ev.mcacheWayDisabled (le 1 bank ++ le 2 h.set ++ le 1 h.way)
  else s

def State.fatalParity (h : ParityHit) (flags : Nat) (s : State) : State :=
  let bank := h.set % 8
  s.fatal (location 0 20 bank h.macr h.word 0 2) Ev.mcacheParityFatal 0 (le 1 bank ++ le 1 h.way ++ le 2 h.set ++ le 1 flags)

/-- A word of the metadata cache that was read; an armed fault of target 1 or 2 appears in the next clean or dirty sector read
(R244, R453). -/
def State.parityHit (h : ParityHit) (s : State) : State :=
  let w := (s.cacheWays h.set).getD h.way {}
  let valid := bit w.valid h.sector
  let dirty := bit w.dirty h.sector
  let armed := match s.run.inject with
    | some (t, _) => !h.bad && !h.tag && valid && (if dirty then t == 2 else t == 1)
    | none => false
  let s := if armed then { s with run := { s.run with inject := none } } else s
  if w.disabled || (!h.bad && !armed) then s
  else if h.tag then s.fatalParity h 1
  else if dirty then s.fatalParity h 2
  else if valid then s.cleanParity h
  else s

/-! ### The patrol and the sweeps (R376) -/

/-- DRAM_PATROL_SCRUB (R376): the patrol of a channel reads `lines` lines; `hits` holds those worth naming. -/
def execDramPatrolScrub (channel lines : Nat) (hits : List LintelHit) (s : State) : Result :=
  let c := s.dramChannel channel
  onlyIf (decide (channel < 12) && c.dimm == .trained && s.dram.scrubHours != 0 && s.dump.stage == .none) s
    ((s.setDramChannel channel { c with scrubbed := c.scrubbed + lines }).lintelHits hits)

/-- SRAM_SWEEP (R376): an island sweeps its Lintel-guarded SRAM, or with `metadata` the metadata-cache arrays. -/
def execSramSweep (island : Nat) (hits : List LintelHit) (metadata : Option (List ParityHit)) (s : State) : Result :=
  let t := match metadata with
    | some ps => ps.foldl (fun s h => s.parityHit h) { s with dram.mcacheSweeps := s.dram.mcacheSweeps + 1 }
    | none => ({ s with dram.sramSweeps := s.dram.sramSweeps + 1 }).lintelHits hits
  onlyIf (decide (island < 37) && s.power.islands.getD island .asleep == .awake && s.dump.stage == .none &&
    (metadata.isNone || island == 20)) s t

end Sys2Proof.Machine
end

