-- ==== Sys2Proof/Machine/ConfigSpace.lean ====
section
/-! DEFINITION. The configuration space of the PCIe function: identity, BARs and capabilities (R3, R66). No command of the table reads
or writes it; BUS_MASTER_OR_D_STATE_CHANGE moves the two bits of it that act (R67). -/

namespace Sys2Proof.Machine

/-- A 64-bit BAR: its number, its configuration offset, its size in bytes and whether it is prefetchable (R66). -/
structure PciBar where
  number : Nat
  offset : Nat
  size : Nat
  prefetchable : Bool
deriving DecidableEq, Repr

/-- The BARs of R66: rings, doorbells and the MSI-X table; direct registers; the dump window. -/
def pciBars : List PciBar :=
  [{ number := 0, offset := 0x10, size := 0x10000, prefetchable := false },
   { number := 1, offset := 0x18, size := 0x10000, prefetchable := false },
   { number := 2, offset := 0x20, size := 0x10000000, prefetchable := true }]

/-- The capabilities of R66. -/
inductive PciCapability where
  | pciExpress (linkWidth maxPayload maxReadRequest tagBits outstanding : Nat)
  | powerManagement (d0 : Bool)
  | msix (vectors tableBar tableOffset pbaBar pbaOffset : Nat)
  | aer
  | deviceSerialNumber (bytes : List Byte)
deriving DecidableEq, Repr

/-- The PCIe lanes that are powered: lanes 4 to 7 are powered down when STRAP5 is 1 (R55). -/
def State.pcieLanes (s : State) : List Nat := if s.power.straps.getLsbD 5 then [0, 1, 2, 3] else [0, 1, 2, 3, 4, 5, 6, 7]

/-- The link width: x8, or x4 when STRAP5 is 1 (R55, R66). -/
def State.linkWidth (s : State) : Nat := s.pcieLanes.length

/-- The capabilities as head software finds them; the serial number is bytes 0 to 7 of the chip serial (R66). -/
def State.pciCapabilities (s : State) : List PciCapability :=
  [.pciExpress s.linkWidth 512 4096 10 256, .powerManagement s.pcie.d0, .msix 32 0 0x3000 0 0x3800, .aer,
   .deviceSerialNumber (Config.serial.take 8)]

/-- The type bits of a BAR: 64-bit memory, prefetchable or not (R66, PCI). -/
def PciBar.typeBits (b : PciBar) : Nat := 4 + (if b.prefetchable then 8 else 0)

/-- The 64-byte configuration header: vendor, device, command with Bus Master Enable, status with the capability list, revision, class
code 0x018000, the BARs' type bits, subsystem vendor 0x1F6A and subsystem 0x0000 (R3, R66). The address bits of the BARs, which head
software assigns, read 0 here (log entry 128). -/
def State.configHeader (s : State) : List Byte :=
  struct 64 ([(0x00, le 2 Config.vendorId), (0x02, le 2 Config.deviceId), (0x04, le 2 (if s.pcie.bme then 4 else 0)), (0x06, le 2 0x10),
    (0x08, le 1 Config.revisionId), (0x09, le 3 Config.classCode), (0x2C, le 2 Config.vendorId), (0x2E, le 2 0)] ++
    pciBars.map fun b => (b.offset, le 8 b.typeBits))

end Sys2Proof.Machine
end

