-- ==== Sys2Proof/Machine/Digest.lean ====
section
/-! DEFINITION. The commands of the digest channels (R189 to R198, R213). -/

namespace Sys2Proof.Machine

/-- DG_START (R189 to R191, R197). -/
def execDgStart (op : PktOp) (s : State) : Result := packetRun 0x0500 op s fun p s =>
  let sel := p.f 0 1
  if !s.hmacKeyOk p then s.fail p St.keyUsage
  else s.requestChannel sel p

/-- DG_UPDATE (R192, R197). -/
def execDgUpdate (op : PktOp) (s : State) : Result := packetRun 0x0501 op s fun p s =>
  if p.f 0 1 = 34 && s.digest.taken34 then s.fail p St.busyOwned
  else match s.live (p.f 0 4) with
  | none => s.fail p St.handleStale
  | some c =>
    let ch := s.chan c
    if ch.state = .lastWord then s.fail p St.channelState
    else if general c && p.dataLen % 8 != 0 then s.fail p St.dataLength
    else if general c && decide (ch.msg.declared < ch.msg.bytes.length + p.dataLen) then s.fail p St.lengthMismatch
    else
      let m := { ch.msg with bytes := ch.msg.bytes ++ p.buffer op }
      (s.setChan c { ch with msg := m }).reply p St.ok m.bytes.length []

/-- DG_FINISH (R194, R197, R198). A general channel still OWNED waits up to 2 us for its last word; meanwhile the packet holds the
later packets of its channel (R85). -/
def execDgFinish (op : PktOp) (s : State) : Result := packetRun 0x0502 op s fun p s =>
  if p.f 0 1 = 34 && s.digest.taken34 then s.fail p St.busyOwned
  else match s.live (p.f 0 4) with
  | none => s.fail p St.handleStale
  | some c =>
    let ch := s.chan c
    let n := digestLen ch.msg.algorithm
    let verify := ch.msg.mode % 2 == 1
    let tagLen := p.f 4 1
    if (verify && decide (0 < p.dataLen)) || (!verify && decide (p.dataLen < n)) then s.fail p St.dataLength
    else if if verify then decide (tagLen < 16) || decide (n < tagLen) else tagLen != 0 then
      s.failField p St.outOfRange 4
    else if general c && ch.state == .owned then
      (s.setChan c { ch with finish := some (p.acc, s.tick + ticksOf 2000) }).await p
    else s.finishMessage c p

/-- DG_SUSPEND (R195): the lowest-numbered free record or shadow takes the state. -/
def execDgSuspend (op : PktOp) (s : State) : Result := packetRun 0x0503 op s fun p s =>
  if p.f 0 1 = 34 && s.digest.taken34 then s.fail p St.busyOwned
  else match s.live (p.f 0 4) with
  | none => s.fail p St.handleStale
  | some c =>
    let ch := s.chan c
    let shadow := !general c
    let n := if shadow then 6 else 1024
    let slot (i : Nat) : SaveSlot := if shadow then s.digest.shadows.getD i {} else s.digest.records.getD i {}
    if ch.state = .lastWord then s.fail p St.channelState
    else match (List.range n).find? fun i => (slot i).saved.isNone with
    | none => s.fail p St.saveFull
    | some i =>
      let g := ((slot i).gen + 1) % 2 ^ 20
      let s := s.setSaveSlot shadow i { gen := g, saved := some ch.msg }
      (s.reply p St.ok (i + boolNat shadow * 2 ^ 11 + g * 2 ^ 12) []).freeChannel c

/-- DG_RESUME (R191, R195). -/
def execDgResume (op : PktOp) (s : State) : Result := packetRun 0x0504 op s fun p s =>
  if (s.saved (p.f 0 4)).isNone then s.noSaved p
  else s.requestChannel (p.f 4 1) p

/-- DG_ABANDON (R196). -/
def execDgAbandon (op : PktOp) (s : State) : Result := packetRun 0x0505 op s fun p s =>
  if bit (p.f 4 1) 0 then
    let c := p.f 5 1
    let ch := s.chan c
    if c = 34 && s.digest.taken34 then s.fail p St.busyOwned
    else if ch.state = .free then s.replyOk p
    else
      ((s.raise Ev.digestForcedRelease (le 1 c ++ le 8 ch.msg.owner)).replyOk p).freeChannel c
  else if p.f 0 1 = 34 && s.digest.taken34 then s.fail p St.busyOwned
  else match s.live (p.f 0 4) with
  | none => s.fail p St.handleStale
  | some c => (s.replyOk p).freeChannel c

/-- The state byte of DG_STATUS. -/
def ChanState.code : ChanState → Nat
  | .free => 0
  | .owned => 1
  | .lastWord => 2

/-- DG_STATUS (R213). -/
def execDgStatus (op : PktOp) (s : State) : Result := packetRun 0x0506 op s fun p s =>
  let ch := s.chan (p.f 0 1)
  if p.f 0 1 = 34 && s.digest.taken34 then s.fail p St.busyOwned
  else s.reply p St.ok 0
    (le 1 ch.state.code ++ le 1 ch.msg.algorithm ++ le 1 ch.msg.mode ++ le 1 ch.msg.keySlot ++ le 1 ch.waiters.length ++
      zeros 3 ++ le 8 ch.msg.declared ++ le 8 ch.msg.bytes.length ++ le 8 ch.msg.owner)

/-- Remove a waiter from every FIFO (R191). -/
def Digest.dropWaiter (d : Digest) (acc : Nat) : Digest :=
  { d with channels := d.channels.map fun ch => { ch with waiters := ch.waiters.filter fun w => w.acc != acc },
           poolWaiters := d.poolWaiters.map fun q => q.filter fun w => w.acc != acc }

def Digest.waiter? (d : Digest) (acc : Nat) : Option Waiter :=
  ((d.channels.flatMap Channel.waiters) ++ d.poolWaiters.flatten).find? fun w => w.acc == acc

/-- DG_QUEUE_DEADLINE_EXPIRY (R191, R31). -/
def execDgQueueDeadlineExpiry (acc : Nat) (s : State) : Result :=
  match s.digest.waiter? acc with
  | none => .next s
  | some w =>
    dataIf (s.expired w.deadline) s (({ s with digest := s.digest.dropWaiter acc }).replyTo acc St.busyOwned 0 [])

/-- DG_LW_DATA_WRITE (R193): the 8 bytes are stored. -/
def execDgLwDataWrite (c : Nat) (v : W64) (s : State) : Result :=
  dataIf (c < 32) s (s.setChan c { s.chan c with lwData := le 8 v.toNat })

/-- The wait of a DG_FINISH for its last word ends at its deadline and the channel stays OWNED (R31, R194). -/
def State.lastWordExpiry (c : Nat) (s : State) : State :=
  match (s.chan c).finish with
  | none => s
  | some (acc, deadline) =>
    if s.expired deadline then (s.setChan c { s.chan c with finish := none }).replyTo acc St.noLastWord 0 [] else s

/-- DG_LW_CTRL_WRITE (R193): one after the deadline of a waiting DG_FINISH finds that wait ended (R31). -/
def execDgLwCtrlWrite (c : Nat) (v : W32) (s : State) : Result :=
  dataIf (c < 32) s ((s.lastWordExpiry c).lastWord c (bits v.toNat 3 0))

/-- LAST_WORD_WAIT_EXPIRY (R194): the 2 us wait of a DG_FINISH ends and the channel stays OWNED. -/
def execLastWordWaitExpiry (c : Nat) (s : State) : Result :=
  dataIf (c < 32) s (s.lastWordExpiry c)

end Sys2Proof.Machine
end

