-- ==== Sys2Proof/Machine/RingOps.lean ====
section
/-! DEFINITION. The operations of the rings and the event ring: doorbells, ring states, fetching, posting events
(R68 to R73, R76, R88, R457). -/

namespace Sys2Proof.Machine

/-- The rings are serviced: the field image runs, or the boot ROM serves them in recovery boot (R56, R405). -/
def State.ringsServiced (s : State) : Bool := s.power.firmwareRunning || s.direct.recoveryBoot

/-- Take a ring pair to FAULTED and raise EV_RING_FAULT (R73). -/
def State.ringFault (n cause : Nat) (s : State) : State :=
  (s.setRing n { s.ring n with state := .faulted, faultCause := cause, released := false }).raise Ev.ringFault (le 1 n ++ le 1 cause)

/-- Position of a slot index after the chip's head. -/
def Ring.after (r : Ring) (i : Nat) : Nat := (i + r.slots - r.sqHead) % r.slots

/-- A submission tail that lies in the ring and does not pass the chip's head (R73 cause 4). -/
def Ring.tailOk (r : Ring) (v : Nat) : Bool := decide (v < r.slots) && decide (r.after r.sqTail ≤ r.after v)

/-- SQn_TAIL_DB (R68, R73). -/
def State.sqTailDoorbell (n v : Nat) (s : State) : State :=
  let r := s.ring n
  if r.state ≠ .enabled then s
  else if r.tailOk v then s.setRing n { r with sqTail := v }
  else s.ringFault n 4

/-- RQn_HEAD_DB (R68, R73). -/
def State.rqHeadDoorbell (n v : Nat) (s : State) : State :=
  let r := s.ring n
  if r.state ≠ .enabled then s
  else if v < r.slots then s.setRing n { r with rqHead := v }
  else s.ringFault n 4

/-- The fields of RING_CFG that a write changes besides ENABLE: IRQ_EN and MSIX_VECTOR in any state, SIZE_LOG2 only in
DISABLED (R72, R75). -/
def Ring.configured (r : Ring) (v : Nat) : Ring :=
  let r := { r with vector := bits v 15 8, irqEn := bit v 16, enable := bit v 0 }
  if r.state = .disabled then { r with sizeLog2 := bits v 7 4 } else r

/-- A valid configuration (R72). -/
def Ring.valid (r : Ring) : Bool :=
  r.sqBase.toNat % 4096 == 0 && r.sqBase != 0 && r.rqBase.toNat % 4096 == 0 && r.rqBase != 0 &&
  decide (2 ≤ r.sizeLog2) && decide (r.sizeLog2 ≤ 10) && decide (r.vector ≤ 31)

/-- Entry to ENABLED: SQ_HEAD, RQ_TAIL and the phase start at 0, 0 and 1, LOST_REPLIES is cleared (R72, R75). -/
def Ring.start (r : Ring) : Ring :=
  { r with state := .enabled, faultCause := 0, sqHead := 0, sqTail := 0, rqTail := 0, rqHead := 0, phase := true,
           lostReplies := 0, refused := false }

/-- A write of RING_CFG (R72, R73, R75). In FAULTED the last value written to ENABLE stands: a 1 written before the last packet has
ended takes the release back (log entry 127). -/
def State.ringCfgWrite (n v : Nat) (s : State) : State :=
  let r := (s.ring n).configured v
  if bit v 0 then
    if r.state = .disabled then
      if r.valid then s.setRing n r.start else (s.setRing n r).ringFault n 1
    else if r.state = .enabled && decide (31 < r.vector) then (s.setRing n r).ringFault n 1
    else s.setRing n { r with released := false }
  else if r.state = .enabled then s.setRing n { r with state := .stopping }
  else s.setRing n { r with released := r.state == .faulted }

/-- The last packet of a stopping ring, or of a faulted one whose ENABLE has been written 0 in FAULTED, has ended (R72). -/
def Ring.drainedOut (r : Ring) : Bool :=
  r.inProgress.isEmpty && r.held.isEmpty && (r.state == .stopping || (r.state == .faulted && r.released))

/-! ### The event ring (R457) -/

def EventRing.slots (q : EventRing) : Nat := 2 ^ q.sizeLog2

def EventRing.valid (q : EventRing) : Bool :=
  q.base.toNat % 4096 == 0 && q.base != 0 && decide (6 ≤ q.sizeLog2) && decide (q.sizeLog2 ≤ 16)

/-- The event ring goes to FAULTED, with EV_RING_FAULT for ring 0xFF (R457). -/
def State.evqFault (cause : Nat) (s : State) : State :=
  ({ s with pcie.evq := { s.pcie.evq with state := .faulted, faultCause := cause } }).raise Ev.ringFault
    (le 1 0xFF ++ le 1 cause)

/-- EVQ_HEAD_DB (R457). -/
def State.evqHeadDoorbell (v : Nat) (s : State) : State :=
  if s.pcie.evq.state ≠ .enabled then s
  else if v < s.pcie.evq.slots then { s with pcie.evq := { s.pcie.evq with head := v } }
  else s.evqFault 4

/-- A write of EVQ_CFG (R457). -/
def State.evqCfgWrite (v : Nat) (s : State) : State :=
  let q := { s.pcie.evq with vector := bits v 23 16, irqEn := bit v 24, enable := bit v 0 }
  let q := if q.state = .disabled then { q with sizeLog2 := bits v 8 4 } else q
  if bit v 0 then
    if q.state = .disabled then
      if q.valid then
        { s with pcie.evq := { q with state := .enabled, faultCause := 0, tail := 0, phase := true, head := 0 } }
      else ({ s with pcie.evq := q }).evqFault 1
    else { s with pcie.evq := q }
  else { s with pcie.evq := { q with state := .disabled, faultCause := 0 } }

/-- The event ring has room for one entry more (R68). -/
def EventRing.room (q : EventRing) : Bool := (q.tail + 1) % q.slots != q.head

/-- The oldest event can be written now (R67, R74, R88). -/
def State.postable (s : State) : Bool :=
  s.pcie.evq.state == .enabled && s.pcie.evq.room && s.dma &&
  match s.events.backlog with
  | [] => false
  | e :: _ => e.complete

/-- The newest 1,024 events posted, which the dump copies (R439). -/
def keepPosted (e : Event) (l : List Event) : List Event := (e :: l).take 1024

/-- Write the oldest event of the backlog to the event ring, with its message (R76, R87, R88). -/
def State.postEvent (s : State) : State :=
  match s.events.backlog with
  | [] => s
  | e :: rest =>
    let q := s.pcie.evq
    let q' := if q.tail + 1 = q.slots then { q with tail := 0, phase := !q.phase } else { q with tail := q.tail + 1 }
    let s := { s with
      pcie.evq := q',
      events.backlog := rest, events.lostSince := 0, events.posted := keepPosted e s.events.posted,
      out := .event q.tail q.phase s.events.lostSince e :: s.out }
    if q.irqEn then s.notify q.vector else s

/-! ### Fetching (R70, R71, R73, R78, R83) -/

/-- Packets in progress in total, those among them whose ring a PCIe reset took away (R71, R74). -/
def State.inProgressTotal (s : State) : Nat :=
  (s.pcie.rings.map fun r => r.inProgress.length + r.held.length).sum + s.pcie.orphans.length

/-- A ring the chip may fetch from (R70, R71). -/
def Ring.fetchable (r : Ring) (total : Nat) : Bool :=
  r.state == .enabled && r.sqHead != r.sqTail &&
  decide (r.inProgress.length + r.held.length + r.unreleased < r.slots - 1) &&
  decide (r.inProgress.length + r.held.length < 64) && decide (total < 256)

/-- The ring whose turn it is (R71). -/
def State.turn (s : State) : Option Nat :=
  ((List.range 16).map fun i => (s.pcie.rotation + i) % 16).find? fun n => (s.ring n).fetchable s.inProgressTotal

/-- The packet that a slot holds (R77). -/
def packetOf (n acc : Nat) (slot : List Byte) : Packet :=
  { ring := n, opcode := fieldAt slot 0 2, ordered := bit (fieldAt slot 3 1) 0, queue := bit (fieldAt slot 3 1) 1,
    tag := fieldAt slot 4 4, params := slice slot 0x20 (min (fieldAt slot 8 2) 4064), dataLen := fieldAt slot 0xC 4,
    dataAddr := fieldAt slot 0x10 8, acc := acc }

/-- Fetch one slot of ring `n`: SQ_HEAD moves past it and it takes its accept stamp; a failed read faults the ring with
cause 2; a failed check replies at once; else the packet is in progress. -/
def State.fetchSlot (n : Nat) (slot : SlotRead) (s : State) : State :=
  let r := s.ring n
  let s1 := { s.setRing n { r with sqHead := (r.sqHead + 1) % r.slots } with
              now := s.now + 1, pcie.rotation := (n + 1) % 16 }
  match slot with
  | .fault =>
    (s1.writeReply n { status := St.dataFault, opcode := 0xFFFF, tag := 0xFFFFFFFF, dataOut := [], acc := s.now,
                       result := 0 }).ringFault n 2
  | .bytes data =>
    let p := packetOf n s.now data
    match checkSlot data s.templates.epoch s.footing.active s.draining s.direct.recoveryBoot with
    | some (st, res) =>
      s1.writeReply n { status := st, opcode := p.opcode, tag := p.tag, dataOut := [], acc := p.acc, result := res }
    | none => s1.setRing n { s1.ring n with inProgress := r.inProgress ++ [p] }

/-- The newest reply entry of a ring is not accepted: it is discarded and counted, and the tail steps back over it
(R72, R73 cause 3). -/
def Ring.refuse (r : Ring) : Ring :=
  let r := if r.rqTail = 0 then { r with rqTail := r.slots - 1, phase := !r.phase } else { r with rqTail := r.rqTail - 1 }
  { r with refused := true, lostReplies := satAdd 16 r.lostReplies 1 }

/-- Put a reply in its place by the order in which the packets finished. -/
def insertHeld (x : Nat × PendingReply) : List (Nat × PendingReply) → List (Nat × PendingReply)
  | [] => [x]
  | y :: ys => if x.2.order < y.2.order then x :: y :: ys else y :: insertHeld x ys

/-- The replies that wait on chip, with their rings, in the order in which their packets finished (R67, R83). -/
def State.heldReplies (s : State) : List (Nat × PendingReply) :=
  ((List.range 16).flatMap fun n => (s.ring n).held.map fun p => (n, p)).foldl (fun l x => insertHeld x l) []

/-- DMA is possible again: the held replies go out in order, each vector's message follows the last of them, and messages that waited
for DMA go out (R67, R76, R83). -/
def State.resumeDma (s : State) : State :=
  let replies := s.heldReplies
  let told := ((List.range 16).filter fun n => !(s.ring n).held.isEmpty && (s.ring n).irqEn && !(s.ring n).refused).map fun n =>
    (s.ring n).vector
  let s := (List.range 16).foldl (fun s n => s.setRing n { s.ring n with held := [] }) s
  let s := replies.foldl (fun s x => s.writeEntry x.1 x.2) s
  let late := (List.range 32).filter fun v => (s.pcie.vectors.getD v {}).again && !(s.pcie.vectors.getD v {}).interval
  let again (s : State) (v : Nat) : State :=
    ({ s with pcie.vectors := s.pcie.vectors.set v { s.pcie.vectors.getD v {} with again := false } }).notify v
  ((told ++ late).eraseDups).foldl again s

end Sys2Proof.Machine
end

