-- ==== Sys2Proof/Machine/Rings.lean ====
section
/-! DEFINITION. The commands of the rings, the event ring, MSI-X and the common packets (03). -/

namespace Sys2Proof.Machine

/-- SQ_TAIL_DB (R68). -/
def execSqTailDb (n : Nat) (v : W32) (s : State) : Result := onlyIf (n < 16) s (s.sqTailDoorbell n (v.toNat % 65536))

/-- RQ_HEAD_DB (R68). -/
def execRqHeadDb (n : Nat) (v : W32) (s : State) : Result := onlyIf (n < 16) s (s.rqHeadDoorbell n (v.toNat % 65536))

/-- EVQ_HEAD_DB (R457). -/
def execEvqHeadDb (v : W32) (s : State) : Result := .next (s.evqHeadDoorbell (v.toNat % 65536))

/-- RING_ENABLE (R72): RING_CFG written with ENABLE 1. -/
def execRingEnable (n : Nat) (v : W32) (s : State) : Result :=
  onlyIf (decide (n < 16) && bit v.toNat 0) s (s.ringCfgWrite n v.toNat)

/-- RING_STOP (R72): RING_CFG written with ENABLE 0. -/
def execRingStop (n : Nat) (v : W32) (s : State) : Result :=
  onlyIf (decide (n < 16) && !bit v.toNat 0) s (s.ringCfgWrite n v.toNat)

/-- RING_STOP_DRAINED (R72). -/
def execRingStopDrained (n : Nat) (s : State) : Result :=
  onlyIf (decide (n < 16) && (s.ring n).drainedOut) s
    (s.setRing n { s.ring n with state := .disabled, faultCause := 0 })

/-- EVQ_ENABLE (R457): EVQ_CFG written with ENABLE 1. -/
def execEvqEnable (v : W32) (s : State) : Result := onlyIf (bit v.toNat 0) s (s.evqCfgWrite v.toNat)

/-- EVQ_DISABLE (R457): EVQ_CFG written with ENABLE 0. -/
def execEvqDisable (v : W32) (s : State) : Result := onlyIf (!bit v.toNat 0) s (s.evqCfgWrite v.toNat)

/-- PACKET_FETCH (R70, R71): one packet of the ring whose turn it is, while DMA is possible and the rings are serviced. -/
def execPacketFetch (slot : SlotRead) (s : State) : Result :=
  match s.turn with
  | some n => onlyIf (s.dma && s.ringsServiced) s (s.fetchSlot n slot)
  | none => .next s

/-- REPLY_WRITE_REFUSED (R73 cause 3). A ring pair already FAULTED raises no second fault. -/
def execReplyWriteRefused (n : Nat) (s : State) : Result :=
  let r := s.ring n
  let t := s.setRing n r.refuse
  onlyIf (decide (n < 16) && r.state != .disabled && !r.refused && decide (0 < r.unreleased)) s
    (if r.state = .faulted then t else t.ringFault n 3)

/-- EVENT_POST (R88). -/
def execEventPost (s : State) : Result := onlyIf s.postable s s.postEvent

/-- EVENT_WRITE_REFUSED (R457): the event stays the oldest of the backlog. -/
def execEventWriteRefused (s : State) : Result := onlyIf s.postable s (s.evqFault 3)

/-- MSIX_INTERVAL_EXPIRY (R76). -/
def execMsixIntervalExpiry (vec : Nat) (s : State) : Result :=
  let e := s.pcie.vectors.getD vec {}
  let t := { s with pcie.vectors := s.pcie.vectors.set vec { e with interval := false, again := e.again && !s.dma } }
  onlyIf (decide (vec < 32) && e.interval) s (if e.again && s.dma then t.notify vec else t)

/-- NOP (R86). -/
def execNop (op : PktOp) (s : State) : Result := packetRun 0x0000 op s fun p s => s.replyOk p

/-- STAMP_READ (R86): the stamp counter value when the reply is built. -/
def execStampRead (op : PktOp) (s : State) : Result := packetRun 0x0002 op s fun p s => s.reply p St.ok s.now []

/-- Set one code to post (0) or to count only (1) (R86, R89). -/
def setMask (masked : List Nat) (code action : Nat) : List Nat :=
  if action = 1 then (if masked.contains code then masked else code :: masked) else masked.filter fun c => c != code

/-- EVENT_CONFIG (R86, R89). -/
def execEventConfig (op : PktOp) (s : State) : Result := packetRun 0x0003 op s fun p s =>
  let apply (m : List Nat) (i : Nat) : List Nat := setMask m (p.f (4 + 4 * i) 2) (p.f (6 + 4 * i) 1)
  ({ s with events.masked := (List.range (p.f 0 2)).foldl apply s.events.masked }).replyOk p

/-- EVENT_COUNTS (R86). -/
def execEventCounts (op : PktOp) (s : State) : Result := packetRun 0x0004 op s fun p s =>
  let n := p.f 2 2
  s.reply p St.ok (8 * n) ((List.range n).flatMap fun i => le 8 (s.events.counters.getD (p.f 0 2 + i) 0))

end Sys2Proof.Machine
end

