-- ==== Sys2Proof/Machine/Registers.lean ====
section
/-! DEFINITION. The registers of BAR0, BAR1 and BAR2 as they read and as writes act on them, the chip identity reply, the heartbeat
and the PCIe reset (R53, R67, R74, R75, R86, R90, R91). -/

namespace Sys2Proof.Machine

/-! ### Reads -/

/-- A register of `n` indexed copies, `stride` bytes apart from `base`: the index an offset names. -/
def indexOf (base stride n off : Nat) : Option Nat :=
  if base ≤ off && (off - base) % stride == 0 && decide ((off - base) / stride < n) then some ((off - base) / stride) else none

/-- RING_CFG (R75). -/
def Ring.cfg (r : Ring) : Nat := boolNat r.enable + 16 * r.sizeLog2 + 256 * r.vector + 65536 * boolNat r.irqEn

/-- RING_STATUS (R75): FAULT_CAUSE reads 0 when not FAULTED. -/
def Ring.status (r : Ring) : Nat :=
  r.state.code + 16 * (if r.state = .faulted then r.faultCause else 0) + 256 * (r.inProgress.length + r.held.length) +
    65536 * r.lostReplies

/-- EVQ_CFG and EVQ_STATUS (R75). -/
def EventRing.cfg (q : EventRing) : Nat := boolNat q.enable + 16 * q.sizeLog2 + 65536 * q.vector + 16777216 * boolNat q.irqEn

def EventRing.status (q : EventRing) (backlog : Nat) : Nat :=
  q.state.code + 16 * (if q.state = .faulted then q.faultCause else 0) + 65536 * backlog

/-- The 16 bytes of an MSI-X table entry. -/
def Vector32.bytes (e : Vector32) : List Byte := le 8 e.addr.toNat ++ le 4 e.data.toNat ++ le 4 e.control.toNat

/-- The MSI-X pending bits. -/
def State.pba (s : State) : Nat := ((List.range 32).map fun v => boolNat (s.pcie.vectors.getD v {}).pending * 2 ^ v).sum

/-- A 32-bit register of a ring pair, at its offset from the pair's first (R75). -/
def Ring.register (r : Ring) (k : Nat) : Nat :=
  if k = 0x10 then r.cfg else if k = 0x14 then r.status else if k = 0x18 then r.sqHead else if k = 0x1C then
    r.rqTail + 65536 * boolNat r.phase else 0

/-- A read of BAR0: zero for an offset or an access size of no register (R75). -/
def State.bar0Read (s : State) (off size : Nat) : Nat :=
  let q := s.pcie.evq
  if 0x3000 ≤ off && decide (off + size ≤ 0x3200) && off % size == 0 && (size == 4 || size == 8) then
    fieldAt (s.pcie.vectors.flatMap Vector32.bytes) (off - 0x3000) size
  else if size = 8 then
    match indexOf 0x1000 0x40 16 off, indexOf 0x1008 0x40 16 off with
    | some n, _ => (s.ring n).sqBase.toNat / 4096 * 4096
    | none, some n => (s.ring n).rqBase.toNat / 4096 * 4096
    | none, none =>
      if off = 0x2000 then q.base.toNat / 4096 * 4096 else if off = 0x2018 then s.events.lost else if off = 0x3800 then s.pba else 0
  else if size = 4 then
    if 0x1000 ≤ off && decide (off < 0x1400) then (s.ring ((off - 0x1000) / 0x40)).register (off % 0x40)
    else if off = 0x0800 then Config.bar0Cap.toNat
    else if off = 0x2008 then q.cfg
    else if off = 0x200C then q.status s.events.backlog.length
    else if off = 0x2010 then q.tail + 65536 * boolNat q.phase
    else 0
  else 0

/-- CHIP_STATE (R90): MFG_TEST shows the strap as sampled. -/
def State.chipState (s : State) : Nat :=
  s.direct.phase + 16 * boolNat s.direct.recoveryBoot + 32 * boolNat (s.power.straps.toNat % 4 == 2) +
    65536 * s.direct.heartbeat.toNat

/-- FOOTING_STATUS (R90). -/
def State.footingStatus (s : State) : Nat :=
  let f := s.footing
  boolNat f.active + 2 * boolNat f.readService + 16 * (if f.active then f.cause else 0)

/-- DUMP_STATUS (R90). -/
def State.dumpStatus (s : State) : Nat := s.dump.state + 4 * boolNat s.dump.vaultSummary

/-- DG_LW_STATUS (R90). -/
def Channel.lwStatus (c : Channel) : Nat := boolNat (c.state == .lastWord) + 2 * boolNat c.lwError

/-- A read of BAR1, but for the latching of STAMP_HI by a read of STAMP_LO (R90). -/
def State.bar1Read (s : State) (off size : Nat) : Nat :=
  if size = 8 then
    if off = 0x28 then s.direct.dumpWindowBase.toNat / 2 ^ 28 * 2 ^ 28 else if off = 0x30 then s.dump.size else 0
  else if size = 4 then
    match indexOf 0x100 4 256 off, indexOf 0x100C 0x20 32 off with
    | some a, _ => s.ksPrio a
    | none, some c => (s.chan c).lwStatus
    | none, none =>
      if off = 0 then s.chipState
      else if off = 8 then s.now % 2 ^ 32
      else if off = 0xC then s.direct.stampHi.toNat
      else if off = 0x10 then s.footingStatus
      else if off = 0x18 then s.direct.scratch.toNat
      else if off = 0x20 then s.dumpStatus
      else 0
  else 0

/-- A read of BAR2 (R91, R436). -/
def State.bar2Read (s : State) (off len : Nat) : List Byte := s.windowRead off len

/-- STAMP_LO_READ (R90): STAMP_HI latches the upper half. -/
def execStampLoRead (s : State) : Result :=
  .next { s with direct.stampHi := BitVec.ofNat 32 (s.now / 2 ^ 32), out := .readData (s.now % 2 ^ 32) :: s.out }

/-! ### Writes -/

/-- A write of DUMP_WINDOW_BASE: bits [27:0] are reserved (R90, R91). -/
def State.setWindow (v : W64) (s : State) : State :=
  { s with direct.dumpWindowBase := BitVec.ofNat 64 (v.toNat / 2 ^ 28 * 2 ^ 28) }

/-- DUMP_WINDOW_BASE_WRITE (R91). -/
def execDumpWindowBaseWrite (v : W64) (s : State) : Result := .next (s.setWindow v)

/-- A vector that is unmasked while its message is pending sends it (R76). -/
def State.unmask (v : Nat) (s : State) : State :=
  let e := s.pcie.vectors.getD v {}
  if e.pending && !e.control.getLsbD 0 then s.notify v else s

/-- A write into the MSI-X table. -/
def State.msixWrite (off size v : Nat) (s : State) : State :=
  let n := off / 16
  let old := (s.pcie.vectors.getD n {}).bytes
  let new := old.take (off % 16) ++ le size v ++ old.drop (off % 16 + size)
  let e := { s.pcie.vectors.getD n {} with
    addr := BitVec.ofNat 64 (fieldAt new 0 8), data := BitVec.ofNat 32 (fieldAt new 8 4), control := BitVec.ofNat 32 (fieldAt new 12 4) }
  ({ s with pcie.vectors := s.pcie.vectors.set n e }).unmask n

/-- SQ_BASE and RQ_BASE are written only while the pair is DISABLED (R72). -/
def State.baseWrite (n : Nat) (sq : Bool) (v : W64) (s : State) : State :=
  let r := s.ring n
  if r.state = .disabled then s.setRing n (if sq then { r with sqBase := v } else { r with rqBase := v }) else s

/-- A write of BAR0 (R75). -/
def State.bar0Write (off size : Nat) (v : W64) (s : State) : State :=
  if 0x3000 ≤ off && decide (off + size ≤ 0x3200) && off % size == 0 && (size == 4 || size == 8) then
    s.msixWrite (off - 0x3000) size v.toNat
  else if size = 8 then
    match indexOf 0x1000 0x40 16 off, indexOf 0x1008 0x40 16 off with
    | some n, _ => s.baseWrite n true v
    | none, some n => s.baseWrite n false v
    | none, none => if off = 0x2000 && s.pcie.evq.state == .disabled then { s with pcie.evq.base := v } else s
  else if size = 4 then
    match indexOf 0 8 16 off, indexOf 0x80 8 16 off, indexOf 0x1010 0x40 16 off with
    | some n, _, _ => s.sqTailDoorbell n (v.toNat % 65536)
    | none, some n, _ => s.rqHeadDoorbell n (v.toNat % 65536)
    | none, none, some n => s.ringCfgWrite n (v.toNat % 2 ^ 32)
    | none, none, none =>
      if off = 0x100 then s.evqHeadDoorbell (v.toNat % 65536) else if off = 0x2008 then s.evqCfgWrite (v.toNat % 2 ^ 32) else s
  else s

/-- A write of BAR1 (R90). -/
def State.bar1Write (off size : Nat) (v : W64) (s : State) : State :=
  if size = 8 then
    match indexOf 0x1000 0x20 32 off with
    | some c => s.setChan c { s.chan c with lwData := le 8 v.toNat }
    | none => if off = 0x28 then s.setWindow v else s
  else if size = 4 then
    match indexOf 0x100 4 256 off, indexOf 0x1008 0x20 32 off with
    | some a, _ => s.writeKsPrio a (v.toNat % 2 ^ 32)
    | none, some c => s.lastWord c (bits v.toNat 3 0)
    | none, none => if off = 0x18 then { s with direct.scratch := v.setWidth 32 } else s
  else s

/-- REGISTER_WRITE (R75, R90): a write of BAR0 or BAR1; writes of BAR2 are ignored (R91). -/
def execRegisterWrite (bar off size : Nat) (v : W64) (s : State) : Result :=
  .next (if bar = 0 then s.bar0Write off size v else if bar = 1 then s.bar1Write off size v else s)

/-! ### DMA, PCIe reset, identity, heartbeat -/

/-- BUS_MASTER_OR_D_STATE_CHANGE (R67). -/
def execBusMasterOrDStateChange (bme d0 : Bool) (s : State) : Result :=
  let t := { s with pcie.bme := bme, pcie.d0 := d0 }
  .next (if !s.dma && t.dma then t.resumeDma else t)

/-- Started packets of the rings; the others are discarded by a PCIe reset (R74). -/
def State.ringPackets (s : State) : List Packet := s.pcie.rings.flatMap Ring.inProgress

/-- Island 33 is reset: rings and event ring go to DISABLED, started packets run on with their replies discarded, and
EV_PCIE_RESET is committed (R53, R74). -/
def State.pcieReset (s : State) : State :=
  let kept := s.pcie.rings.flatMap Ring.started
  let lost := s.ringPackets.length - kept.length
  let replies := (s.pcie.rings.map fun r => r.held.length).sum
  let p : Pcie := { perstHigh := s.pcie.perstHigh, linkUp := s.pcie.linkUp, answers := s.pcie.answers,
                    orphans := s.pcie.orphans ++ kept.map fun q => { q with discard := true },
                    resets := s.pcie.resets ++ [{ stamp := s.now, packets := lost, replies := replies, left := kept.map Packet.acc }] }
  ({ s with pcie := p, now := s.now + 1,
            events := s.events.commit Ev.pcieReset 1 33 s.now 0 [] false }).completePcieReset

/-- PCIE_RESET (R53, R74): held pending while a drain runs (R47). After PERST the endpoint stays in reset until
PCIE_PERST_L rises; after the other kinds the link trains again. -/
def execPcieReset (kind : PcieResetKind) (s : State) : Result :=
  let down := kind == .perst
  let s := if down then { s with pcie.perstHigh := false } else s
  if s.power.drain = .quiesce || s.power.drain = .draining then .next { s with power.held := s.power.held.set 2 true }
  else
    let s := if down then { s with pcie.linkUp := false, pcie.answers := false } else s
    onlyIf (!s.power.internalReset) s s.pcieReset

/-- Islands present (R11, R86). -/
def State.islandsPresent (s : State) : Nat := 2 ^ 63 + 2 ^ 37 - 1 - (if s.noCipher then 2 ^ 18 else 0)

/-- Where a DRAM address lies (R369): its granule, the channel, the offset in it and the sub-channel. -/
structure DramPlace where
  granule : Nat
  channel : Nat
  offset : Nat
  sub : Nat
deriving DecidableEq, Repr

/-- The place of DRAM address `a`: 256-byte granules go round the trained channels in increasing number (R369); none outside the
address space. -/
def State.dramPlace (s : State) (a : Nat) : Option DramPlace :=
  let set := (List.range 12).filter fun c => bit s.trainedSet c
  let n := set.length
  let g := a / 256
  if a < s.dramBytes && 0 < n then
    some { granule := g, channel := set.getD (g % n) 0, offset := g / n * 256 + a % 256, sub := a / 64 % 2 }
  else none

/-- Plinth links up as a bitmap. -/
def State.linkBits (s : State) : Nat := ((List.range 96).map fun l => if (s.link l).state = .up then 2 ^ l else 0).sum

/-- The chip identity reply (R86). -/
def State.identity (s : State) : List Byte :=
  fit 256 (le 2 Config.deviceId ++ le 1 Config.revisionId ++ le 1 (boolNat s.noCipher) ++ le 1 s.head.configuration ++ le 1 s.power.bootMode ++
    le 2 s.head.headId ++ le 8 s.islandsPresent ++ fit 16 Config.serial ++ le 4 Config.romVersion ++ le 4 s.imageVersion ++
    le 1 s.mason.slot ++ le 1 s.linkWidth ++ zeros 2 ++ le 4 s.templates.epoch ++
    le 8 s.dramBytes ++ le 2 s.trainedSet ++ zeros 2 ++ le 4 s.bootRec.floor ++ le 16 s.linkBits ++ le 4 s.chipState)

/-- CHIP_IDENTIFY (R86). -/
def execChipIdentify (op : PktOp) (s : State) : Result := packetRun 0x0001 op s fun p s => s.reply p St.ok 256 s.identity

/-- The Mason core runs. -/
def State.coreRuns (s : State) : Bool :=
  !s.power.internalReset && !s.mason.halted && s.mason.boot != .none && s.mason.boot != .halted

/-- CHIP_STATE_HEARTBEAT_TICK (R90). -/
def execChipStateHeartbeatTick (s : State) : Result :=
  onlyIf (s.coreRuns && decide (s.mason.lastBeat + 1000000 ≤ s.now)) s
    { s with direct.heartbeat := s.direct.heartbeat + 1, mason.lastBeat := s.now }

end Sys2Proof.Machine
end

