-- ==== Sys2Proof/Machine/VaultFamily.lean ====
section
/-! DEFINITION. The Vault and firmware update: the packets of class 0x0B, stamp checkpoints, weak blocks and the LOG (R30, R394 to
R412, R422). -/

namespace Sys2Proof.Machine

/-- The Vault can erase and program a block (R399). -/
def State.vaultReady (s : State) : Bool := s.canErase && s.canProgram

/-- A class-0x0B packet: ST_VAULT_BUSY while the lowering erase runs, VAULT_STATUS excepted (R401). -/
def vaultRun (opcode : Nat) (op : PktOp) (s : State) (effect : Packet → State → State) : Result :=
  packetRun opcode op s fun p s => if s.mason.lowering then s.fail p St.vaultBusy else effect p s

/-- The slot with an open update (R402 state RECEIVING). -/
def State.openSlot (s : State) : Option Nat := [0, 1].find? fun n => s.bootRec.slot n == 1

/-- The slot of the open update that an update_id names. -/
def State.updateSlot (s : State) (id : Nat) : Option Nat := if s.bootRec.updateId = id then s.openSlot else none

/-- Channel 34 is released by the update and serves its waiters (R188, R191, R411). -/
def State.release34 (s : State) : State :=
  let s := { s with digest.taken34 := false, digest.grant34 := none }
  if (s.chan 34).state = .free then s.serveWaiters 34 32 else s

/-- The first logical block of an image slot (R395). -/
def imageBlock (slot : Nat) : Nat := 48 + 512 * slot

/-- Erase a block and program it; a failure of cause 1 or 2 retires it, and the write is retried once on the replacement. False
when no spare is left (R396, R399). -/
def State.writeBlock (l failure : Nat) (s : State) : Bool × State :=
  let s := s.vaultErase l
  if failure = 0 then (true, s)
  else
    let r := s.vaultRetire l failure
    if r.1 then (true, r.2.vaultErase l) else r

/-! ### Status and reading (R422) -/

/-- The settings format of the current type-19 record (R398). -/
def Vault.format? (v : Vault) (bad : List Nat) : Option Nat := (v.current? bad 19 0).map fun r => fieldAt r.body 0 2

def State.heldChunks (s : State) : List Nat :=
  match s.openSlot with
  | some n => (s.image n).held
  | none => []

/-- VAULT_STATUS (R422). -/
def execVaultStatus (op : PktOp) (s : State) : Result := packetRun 0x0B00 op s fun p s =>
  let b := s.bootRec
  let v := s.vault
  s.reply p St.ok 0 (le 1 b.level ++ le 1 b.lowerPending ++ le 1 b.active ++ le 1 b.pending ++ le 1 b.attempts ++
    b.slots.flatMap (le 1) ++ le 1 b.revoked ++ le 4 b.floor ++ b.versions.flatMap (le 4) ++ le 2 ((v.format? []).getD 0) ++
    le 2 v.spares ++ le 2 v.grownBad ++ le 2 Config.factoryBadBlocks ++ le 4 v.logErased ++
    le 4 (v.erases.vals.foldl max 0) ++ le 4 v.warnings ++ le 4 b.updateId ++ le 2 s.heldChunks.length ++ zeros 14)

/-- Protection levels that permit VAULT_READ of a partition (R400). -/
def readable (part level : Nat) : Bool :=
  if part = 0 || part = 5 then true else if part = 1 || part = 4 then decide (level ≤ 1) else level == 0

/-- Record types whose body the spec lays out (R154, R445, R446). -/
def knownBody (typ : Nat) : Bool := typ == 1 || typ == 3 || typ == 5

/-- A LOG page: the record's header and body, the rest free (R397). -/
def LogRecord.page (r : LogRecord) : List Byte :=
  let free := Config.vaultBytes 4 r.typ r.seq
  let body := if knownBody r.typ then r.body else free.take 4072
  let head (crc : Nat) : List Byte := le 2 r.typ ++ le 2 r.key ++ le 4 body.length ++ le 4 r.seq ++ le 4 crc ++ le 8 r.stamp
  fit 4096 (head (crc32c (head 0 ++ body)).toNat ++ body ++ free.drop 4072)

def erasedPage : List Byte := List.replicate 4096 0xFF

/-- Page `k` of a block that holds `data` from page 0 on. -/
def dataPage (data : List Byte) (block k : Nat) : List Byte :=
  if 4096 * k < data.length then fit 4096 ((data.drop (4096 * k)).take 4096 ++ Config.vaultBytes block k 0) else erasedPage

/-- A page of a partition (R395). -/
def State.vaultPage (s : State) (part page : Nat) : List Byte :=
  let b := page / 64
  let k := page % 64
  if part ≤ 1 then fit 4096 (Config.vaultBytes part page s.bootRec.seq)
  else if part ≤ 3 then
    let x := s.image (part - 2)
    if b = 0 then dataPage x.manifest (imageBlock (part - 2)) k
    else match x.chunks.get? (b - 1) with
      | some c => dataPage c.data (imageBlock (part - 2) + b) k
      | none => erasedPage
  else if part = 4 then
    match s.vault.log.find? fun x => x.block == b with
    | some x => ((x.records[k]?).map LogRecord.page).getD erasedPage
    | none => erasedPage
  else match s.vault.summaries.get? (b / 16) with
    | some x => x.page (64 * (b % 16) + k)
    | none => erasedPage

/-- VAULT_READ (R396, R400, R422): `bad` lists the sectors of the partition that could not be corrected, four to a page, `weak`
the sectors of the Vault in which 8 bits or more were, with their number. -/
def execVaultRead (op : PktOp) (bad : List Nat) (weak : List (Nat × Nat)) (s : State) : Result := vaultRun 0x0B01 op s fun p s =>
  let part := p.f 0 1
  let span := partitionSpan part
  let first := p.f 4 8 / 4096
  let n := (p.dataLen + 4095) / 4096
  if !readable part s.bootRec.level then s.fail p St.vaultProtected
  else if 64 * span.2 * 4096 < p.f 4 8 + p.dataLen then s.fail p St.outOfRange
  else
    let base := 64 * span.1 + first
    let inside (k : Nat) : Bool := decide (base ≤ k / 4) && decide (k / 4 < base + n)
    let s := (weak.filter fun w => inside w.1).foldl (fun s w => s.vaultWeak w.1 w.2) s
    match ((List.range (4 * n)).map (4 * first + ·)).find? fun k => bad.contains k with
    | some q =>
      let k := q / 4
      let l := span.1 + k / 64
      (s.raiseAt (s.vault.sectorSite (sectorOf l (k % 64) (q % 4))) Ev.vaultReadFault (le 1 part ++ le 2 (s.vault.phys l) ++
        le 1 (k % 64))).reply p St.vaultReadFault
        (4096 * k) []
    | none => s.reply p St.ok 0 (fit p.dataLen (((List.range n).map (first + ·)).flatMap (s.vaultPage part)))

/-! ### Protection levels (R400, R401) -/

/-- VAULT_PROTECT with a level not below the present one (R400). -/
def execVaultProtectRaise (op : PktOp) (s : State) : Result := vaultRun 0x0B02 op s fun p s =>
  let old := s.bootRec.level
  let new := p.f 0 1
  if decide (new < old) || !s.canProgram then s
  else if new = old then s.replyOk p
  else ((s.writeBoot fun b => { b with level := new }).raise Ev.vaultProtection (le 1 old ++ le 1 new)).replyOk p

/-- An open update is aborted: its slot becomes EMPTY and channel 34 is released (R401, R411). -/
def State.abortUpdate (s : State) : State :=
  match s.openSlot with
  | some n => (s.writeBoot fun b => b.setSlot n 0).release34
  | none => s

/-- VAULT_PROTECT with a lower level (R401). -/
def execVaultProtectLower (op : PktOp) (s : State) : Result := vaultRun 0x0B02 op s fun p s =>
  let old := s.bootRec.level
  let new := p.f 0 1
  if decide (old ≤ new) || !s.vaultReady then s
  else if p.f 1 1 ≠ 0xA5 then s.failField p St.invalidField 1
  else
    let s := s.abortUpdate.writeBoot fun b => { b with lowerPending := new }
    let s := { s with mason.lowering := true }
    (s.raise Ev.vaultProtection (le 1 old ++ le 1 new)).replyOk p

/-- Steps 3 to 5 of R401: IMAGE_0, IMAGE_1 and DUMP are erased. -/
def State.completeLowering (s : State) : State :=
  let blocks := (List.range 1024).map (48 + ·) ++ (List.range 1024).map (5168 + ·)
  let level := s.bootRec.lowerPending
  let s := blocks.foldl (fun s l => s.vaultErase l) s
  let s := s.updVault fun v => { v with images := [{}, {}], summaries := [] }
  let s := s.writeBoot fun b => { (b.setSlot 0 0).setSlot 1 0 with level := level, lowerPending := 0xFF }
  let s := { s with mason.lowering := false }
  s.raise Ev.vaultLowered (le 1 level ++ le 4 blocks.length)

/-- VAULT_LOWERING_COMPLETE (R401). -/
def execVaultLoweringComplete (s : State) : Result := onlyIf (s.mason.lowering && s.vaultReady) s s.completeLowering

/-! ### Delivering an update (R408 to R412) -/

/-- The result of UPDATE_OPEN (R408). -/
def openResult (held id : Nat) : Nat := held + id * 2 ^ 32

/-- A slot that takes no update: running or on trial (R408). -/
def State.slotInUse (s : State) (slot : Nat) : Bool :=
  s.mason.slot == slot || (s.bootRec.slot slot == 3 && !s.direct.recoveryBoot)

/-- An update is accepted into a slot: the manifest and the boot control record are written and channel 34 is the update's
(R408). -/
def State.openUpdate (slot : Nat) (m : List Byte) (p : Packet) (s : State) : State :=
  let s := { s with digest.taken34 := true, digest.grant34 := none }
  let s := (s.vaultErase (imageBlock slot)).updImage slot fun _ => { manifest := m }
  let s := s.writeBoot fun b =>
    { b.setSlot slot 1 with
      versions := b.versions.set slot (manifestVersion m)
      updateId := (b.updateId + 1) % 2 ^ 32
      digest := fit 32 (sha 1 m)
      pending := if b.pending = slot then 0xFF else b.pending }
  let id := s.bootRec.updateId
  (s.reply p St.ok (openResult 0 id) []).raise Ev.updateOpened (le 4 id ++ le 1 slot ++ le 4 (manifestVersion m))

/-- A reply of UPDATE_OPEN that opens nothing gives back channel 34 if the packet's wait had won it. -/
def State.noOpen (p : Packet) (s : State) : State := if s.digest.grant34 = some p.acc then s.release34 else s

/-- UPDATE_OPEN (R408). -/
def execUpdateOpen (op : PktOp) (s : State) : Result := vaultRun 0x0B03 op s fun p s =>
  let m := p.buffer op
  let slot := if p.f 0 1 = 0xFF then (if s.bootRec.active = 0 then 1 else 0) else p.f 0 1
  let won := s.digest.grant34 == some p.acc
  match s.openSlot with
  | some n =>
    if s.bootRec.digest = fit 32 (sha 1 m) then
      (s.reply p St.ok (openResult (s.image n).held.length s.bootRec.updateId) []).noOpen p
    else (s.fail p St.updateOpen).noOpen p
  | none =>
    if s.slotInUse slot then (s.fail p St.slotInUse).noOpen p
    else match manifestFault m m.length with
    | some o => (s.reply p St.imageFormat o []).noOpen p
    | none =>
      if manifestEncrypted m && s.noCipher then (s.fail p St.cipherAbsent).noOpen p
      else if !manifestEncrypted m && s.bootRec.level == 2 && !s.noCipher then (s.fail p St.imagePolicy).noOpen p
      else if !won && ((s.chan 34).state != .free || s.digest.taken34) then
        if p.queue then s.queueOn 34 p else s.fail p St.busyOwned
      else if s.vaultReady then s.openUpdate slot m p
      else s

/-- The plaintext of a delivered chunk; none when its tag fails (R407, R409). -/
def chunkPlain (m : List Byte) (i : Nat) (data : List Byte) : Option (List Byte) :=
  if manifestEncrypted m then
    let n := chunkLen m i
    let iv := slice m 0x20 8 ++ le 4 i
    let aad := slice m 8 4 ++ le 4 i
    if fit 16 (gcmTag Config.imageKey iv aad (data.take n)) = slice data n 16 then
      some (fit n (gcmDec Config.imageKey iv (data.take n)))
    else none
  else some data

/-- UPDATE_CHUNK (R409): `failure` is 1 or 2 when the program or the erase of the chunk's block failed (R396). -/
def execUpdateChunk (op : PktOp) (failure : Nat) (s : State) : Result := vaultRun 0x0B04 op s fun p s =>
  match s.updateSlot (p.f 0 4) with
  | none => s.fail p St.updateUnknown
  | some slot =>
    let x := s.image slot
    let m := x.manifest
    let i := p.f 4 2
    if chunkCount m ≤ i then s.fail p St.outOfRange
    else if p.dataLen ≠ chunkLen m i + (if manifestEncrypted m then 16 else 0) then s.fail p St.dataLength
    else if x.holds i then s.reply p St.ok 1 []
    else match chunkPlain m i (p.buffer op) with
    | none => s.fail p St.chunkTag
    | some plain =>
      if fit 32 (sha 1 plain) ≠ slice m (384 + 32 * i) 32 then s.fail p St.chunkDigest
      else if !s.vaultReady then s
      else
        let r := s.writeBlock (imageBlock slot + 1 + i) failure
        if r.1 then
          (r.2.updImage slot fun x => { x with chunks := x.chunks.set i { data := plain, mac := sealOf m i plain } }).replyOk p
        else r.2.fail p St.vaultFull

/-- UPDATE_STATUS (R422). -/
def execUpdateStatus (op : PktOp) (s : State) : Result := vaultRun 0x0B05 op s fun p s =>
  let (slot, count) := match s.openSlot with
    | some n => (n, chunkCount (s.image n).manifest)
    | none => (0xFF, 0)
  let held := s.heldChunks
  s.reply p St.ok 0 (le 4 s.bootRec.updateId ++ le 1 slot ++ zeros 1 ++ le 2 count ++ le 2 held.length ++ zeros 6 ++
    le 64 ((held.map fun i => 2 ^ i).sum))

/-- UPDATE_CLOSE (R405, R411). -/
def execUpdateClose (op : PktOp) (s : State) : Result := vaultRun 0x0B06 op s fun p s =>
  match s.updateSlot (p.f 0 4) with
  | none => s.fail p St.updateUnknown
  | some slot =>
    let x := s.image slot
    let missing := chunkCount x.manifest - x.held.length
    if missing ≠ 0 then s.reply p St.updateIncomplete missing []
    else if !s.canProgram then s
    else
      let s := s.writeBoot fun b => { b.setSlot slot 2 with pending := slot, attempts := 0 }
      let s := { s with mason.closedUpdate := s.direct.recoveryBoot }
      let s := s.release34.raise Ev.updateClosed (le 4 s.bootRec.updateId ++ le 1 slot ++ le 4 (s.bootRec.versions.getD slot 0))
      s.replyOk p

/-- UPDATE_ABORT (R411). -/
def execUpdateAbort (op : PktOp) (s : State) : Result := vaultRun 0x0B07 op s fun p s =>
  match s.updateSlot (p.f 0 4) with
  | none => s.fail p St.updateUnknown
  | some _ => if s.canProgram then s.abortUpdate.replyOk p else s

/-- The boot control record after IMAGE_CONFIRM (R412): slots that hold an image below the new floor fail. -/
def BootRecord.confirmed (b : BootRecord) (slot : Nat) (m : List Byte) : BootRecord :=
  let floor := max b.floor (fieldAt m 0xC 4)
  let b := { b.setSlot slot 4 with active := slot, pending := 0xFF, floor := floor, revoked := b.revoked ||| bits (fieldAt m 7 1) 3 0 }
  [0, 1].foldl (fun b n => if b.slot n ≠ 0 && decide (b.versions.getD n 0 < floor) then b.setSlot n 5 else b) b

/-- IMAGE_CONFIRM (R412). -/
def execImageConfirm (op : PktOp) (s : State) : Result := vaultRun 0x0B08 op s fun p s =>
  let slot := s.mason.slot
  if s.direct.phase ≠ 5 then s.fail p St.notReady
  else if s.bootRec.slot slot ≠ 3 then s.fail p St.imageNotTrial
  else if !s.canProgram then s
  else
    let updating := s.openSlot.isSome
    let s := s.writeBoot fun b => b.confirmed slot (s.image slot).manifest
    let s := if updating && s.openSlot.isNone then s.release34 else s
    let b := s.bootRec
    (s.raise Ev.imageConfirmed (le 1 slot ++ le 4 (b.versions.getD slot 0) ++ le 4 b.floor ++ le 1 b.revoked)).replyOk p

/-- IMAGE_SELECT (R412). -/
def execImageSelect (op : PktOp) (s : State) : Result := vaultRun 0x0B09 op s fun p s =>
  let slot := p.f 0 1
  if s.bootRec.slot slot ≠ 4 then s.fail p St.slotState
  else if !s.canProgram then s
  else (s.writeBoot fun b => { b with pending := slot }).replyOk p

/-- SETTINGS_RESET (R398, R422). -/
def execSettingsReset (op : PktOp) (s : State) : Result := vaultRun 0x0B0A op s fun p s =>
  (s.updVault fun v => { v with resetSettings := true }).replyOk p

/-! ### Checkpoints, weak blocks and the LOG (R30, R396, R397) -/

/-- A program or an erase of the LOG block in use fails: it is retired, and its replacement erased before it is programmed; without a
spare the LOG goes on in its remaining blocks (R396, R399). -/
def State.logFault (failure : Nat) (s : State) : State :=
  let target := if failure = 1 then s.vault.log.getLast?.map LogBlock.block else s.vault.nextLog
  match target with
  | none => s
  | some b =>
    let r := s.vaultRetire (logFirst + b) failure
    if r.1 then (if failure = 1 then r.2.vaultErase (logFirst + b) else r.2)
    else if failure = 1 then r.2.openLog
    else r.2.updVault fun v => { v with logGone := v.logGone ++ [b] }

/-- STAMP_CHECKPOINT_INTERVAL (R30): 2^34 counts have passed; `failure` is 1 or 2 when a program or an erase failed. -/
def execStampCheckpointInterval (failure : Nat) (s : State) : Result :=
  onlyIf (s.power.firmwareRunning && decide (s.run.lastCheckpoint + 2 ^ 34 ≤ s.now)) s
    (((if failure = 0 then s else s.logFault failure).stampCheckpoint false).placeHeld)

/-- VAULT_WEAK_BLOCK_COPY (R396, R399): the oldest weak block is copied to a fresh block, which is erased first, and is itself erased
and returned. FACTORY stays where R395 puts it. -/
def execVaultWeakBlockCopy (s : State) : Result :=
  match s.vault.weak with
  | [] => .next s
  | l :: rest =>
    let done := s.updVault fun v => { v with weak := rest }
    if l < 16 then .next done
    else match s.vault.takeSpare with
      | none => .next s
      | some (n, v) =>
        let old := s.vault.phys l
        let t := ({ s with mason.vault := { v with grown := v.grown.set l n } } : State).vaultErase l
        let t := (t.updVault fun v => { v with grown := v.grown.set l old }).vaultErase l
        onlyIf s.vaultReady s (t.updVault fun v => { v with weak := rest, grown := v.grown.set l n, returned := v.returned ++ [old] })

/-- A kept record is copied to the open LOG block under its own seq. -/
def State.copyRecord (r : LogRecord) (s : State) : State :=
  let s := if s.vault.logRoom 1 then s else s.openLog
  s.updVault fun v => v.appendLog [r]

/-- LOG_BLOCK_RECLAIM (R397). -/
def execLogBlockReclaim (s : State) : Result :=
  match s.vault.log with
  | b :: c :: rest =>
    let due := match s.vault.lastReclaim with
      | none => true
      | some t => decide (t + 100000000 ≤ s.now)
    let kept := s.vault.kept b
    let t := s.updVault fun v => { v with log := c :: rest }
    let t := kept.foldl (fun s r => s.copyRecord r) t
    let t := (t.vaultErase (logFirst + b.block)).updVault fun v => { v with lastReclaim := some s.now }
    onlyIf (decide (s.vault.logErased < 64) && due && s.vaultReady) s t
  | _ => .next s

end Sys2Proof.Machine
end

