-- ==== Sys2Proof/Machine/PowerOps.lean ====
section
/-! DEFINITION. The operations of supply, reset, drain and power-down (R39 to R65, R446, R458, R460). -/

namespace Sys2Proof.Machine

def State.setPower (p : Power) (s : State) : State := { s with power := p }

/-- Raise an event once stamps are granted; before that it waits (R458, R393). -/
def State.raiseEarly (code : Nat) (params : List Byte) (s : State) : State :=
  if s.power.stamps then s.raise code params else s.setPower { s.power with early := s.power.early ++ [(code, params)] }

/-! ### Reset (R53 to R56) -/

/-- What a reset keeps of supply, clocks and pins: the levels that the board holds, and at a reset that is no power-on reset the
sticky bits, what the power stage keeps, the ramp limiter among it, and the TAP (R53, R54, R62). -/
def Power.kept (p : Power) (powerOn : Bool) : Power :=
  let q : Power :=
    { vbus := p.vbus, ibus := p.ibus, pbus := p.pbus, temps := p.temps, resetL := p.resetL, clocksLost := p.clocksLost,
      vbusFail := p.vbusFail }
  if powerOn then q
  else
    { q with
      standbyRail := p.standbyRail, coreRails := p.coreRails, pwrGood := p.pwrGood, standby := p.standby, tripped := p.tripped,
      selfRefresh := p.selfRefresh, lowArmed := p.lowArmed, brownout := p.brownout, vbusFailSeen := p.vbusFailSeen,
      brownoutSeen := p.brownoutSeen, thermAlert := p.thermAlert, tripSeen := p.tripSeen, loadBand := p.loadBand, plans := p.plans,
      tapIr := p.tapIr, tapData := p.tapData, tapDriven := p.tapDriven, islands := p.islands, wakeQueue := p.wakeQueue }

/-- Everything that a reset does not keep takes its reset value: the Vault stays, and the dump region at a reset that is no
power-on reset (R53, R54). -/
def State.cleared (powerOn : Bool) (s : State) : State :=
  { orderCode := s.orderCode, power := s.power.kept powerOn,
    pcie := { perstHigh := s.pcie.perstHigh },
    dump := { image := if powerOn then none else s.dump.image, wiped := !powerOn && s.dump.wiped },
    mason := { vault := s.mason.vault, starts := s.mason.starts },
    net := { psnSeed := s.net.psnSeed },
    run := { powerOnReset := powerOn },
    out := s.out, free := s.free, pending := s.pending }

/-- A DIMM is trained. -/
def State.anyTrained (s : State) : Bool := s.dram.channels.any fun c => c.dimm == .trained

def State.island (s : State) (i : Nat) : Island := s.power.islands.getD i .absent

def State.setIsland (i : Nat) (v : Island) (s : State) : State :=
  s.setPower { s.power with islands := s.power.islands.set i v }

/-- A wake request: it waits for the ramp limiter behind every earlier request, or revokes the sleep at the end of a ramp; a request
that waits already stands in its place (R42, R43). -/
def State.wakeIsland (i : Nat) (s : State) : State :=
  match s.island i with
  | .asleep =>
    if s.power.wakeQueue.any fun w => w.1 == i then s
    else s.granted.setPower { s.power with wakeQueue := s.power.wakeQueue ++ [(i, s.now)] }
  | .ramp _ => s.setIsland i (.ramp false)
  | .awake => s
  | .absent => s

/-- The core rails start through the ramp limiter: every island present asks for its wake, in island order; the system island runs on
the standby rail, and island 18 of CZ9648-A0N is never powered (R12, R42, R56, R460, log entry 46). -/
def State.wakeAll (s : State) : State :=
  (List.range 37).foldl (fun s i =>
    if i = 18 && s.noCipher then s.setIsland i .absent
    else if i = 34 then s.setIsland i .awake
    else s.wakeIsland i) s

/-- No island waits for its wake or is in ramp. -/
def State.rampsDone (s : State) : Bool :=
  s.power.wakeQueue.isEmpty && s.power.islands.all fun i => match i with
    | .ramp _ => false
    | _ => true

/-- Internal reset begins (R54, R58); an island that slept asks for its wake. -/
def State.enterReset (refresh : Bool) (s : State) : State :=
  let t := (s.setBypass true).cleared false
  (t.setPower { t.power with selfRefresh := t.power.selfRefresh || refresh }).wakeAll

/-- A reset with the effects of a pin reset: the DIMMs enter self-refresh first (R53, R54). -/
def State.beginReset (s : State) : State :=
  if s.anyTrained then (s.setBypass true).setPower { s.power with bypassClosed := true, selfRefreshing := true } else s.enterReset false

/-- Internal reset ends: the straps are sampled, and t1 is fixed (R55, R56). -/
def State.release (straps : BitVec 6) (s : State) : State :=
  s.setPower { s.power with straps := straps, sampled := true, internalReset := false, autoAt := none }

/-- Every island without its rail: only the system island, on the standby rail, is awake (R57, R460). -/
def Power.railsOff (p : Power) : Power :=
  { p with
    coreRails := false, pwrGood := false, wakeQueue := [],
    islands := (List.range 37).map fun i => if i = 34 then Island.awake else Island.asleep }

/-- The chip enters standby: every rail but standby is off (R57, R63, R460). -/
def State.enterStandby (refresh trip : Bool) (s : State) : State :=
  let t := s.enterReset refresh
  t.setPower { t.power.railsOff with standby := true, tripped := trip, tripSeen := t.power.tripSeen || trip }

/-- The core rails start again from standby, through the ramp limiter (R460). -/
def State.leaveStandby (s : State) : State := (s.setPower { s.power with standby := false, tripped := false }).wakeAll

/-- The supply as measured: VBUS as given, the input current and power free (R61). -/
def State.measured (vbus : Nat) (s : State) : State :=
  s.setPower { s.power with
    vbus := vbus, ibus := Config.inputCurrent s.now % 65536, pbus := Config.inputPower s.now % 65536 }

/-- A reset is held pending: a drain runs, or a dump (R47, R435). -/
def State.holdsReset (s : State) : Bool :=
  s.power.drain == .quiesce || s.power.drain == .draining || s.dump.fault.isSome || s.dump.stage != .none

/-- A pin reset (which = 0) or software reset (1) takes effect, or is held (R47, R435). -/
def State.takeReset (which : Nat) (s : State) : State :=
  if s.holdsReset then s.setPower { s.power with held := s.power.held.set which true }
  else if s.power.internalReset || s.power.selfRefreshing then s
  else s.beginReset

/-! ### Islands (R42, R43, R65) -/

/-- An island has reached its final state: the packets that waited for it alone are answered (R65). -/
def State.settleIsland (i : Nat) (s : State) : State :=
  let waits := s.power.islandWaits.map fun w => { w with left := w.left.filter fun k => k != i }
  let s := s.setPower { s.power with islandWaits := waits.filter fun w => !w.left.isEmpty }
  (waits.filter fun w => w.left.isEmpty).foldl (fun s w => s.replyTo w.acc St.ok 0 []) s

/-- A sleep: it removes a waiting wake, acts at once, or at the end of a ramp (R42, R43). -/
def State.sleepIsland (i : Nat) (s : State) : State :=
  let s := s.setPower { s.power with wakeQueue := s.power.wakeQueue.filter fun w => w.1 != i }
  match s.island i with
  | .awake => (s.setIsland i .asleep).settleIsland i
  | .asleep => s.settleIsland i
  | .ramp _ => s.setIsland i (.ramp true)
  | .absent => s

/-- Weight of the islands in ramp (R42). -/
def State.rampWeight (s : State) : Nat :=
  ((List.range 37).map fun i => match s.island i with
    | .ramp _ => Config.weight i
    | _ => 0).sum

/-- The logical ports of a port island. -/
def portsOfIsland (i : Nat) : List Nat := (List.range 34).filter fun l => 3 + physOf l / 2 == i

/-- An island that may sleep (R65). -/
def State.maySleep (s : State) (i : Nat) : Bool :=
  if i = 31 then s.heads.sessions.vals.all fun x => x.role == 0
  else (portsOfIsland i).all fun l => !s.lportEnabled l

/-! ### Drain and power-down (R46, R57) -/

/-- What a dropped queue still sends: no data of reads with their completions, and no RDMA READ (R46). -/
def keptRequests : Bool → List (RcOp × RcUse) → List (RcOp × RcUse)
  | _, [] => []
  | data, r :: rs => match r.1 with
    | .write .. => keptRequests true rs
    | .read .. => keptRequests data rs
    | .send .. => if data then keptRequests false rs else r :: keptRequests false rs

/-- The NVMe connections send no more data of reads and start no RDMA READ (R46). -/
def State.dropRequests (s : State) : State :=
  { s with net.conns := s.net.conns.mapVals fun c => match c.use with
    | .nvme .. => { c with waiting := keptRequests false c.waiting }
    | _ => c }

/-- A fetched command that has not reached step 7 is dropped without completion (R46, R57, R150). -/
def State.dropUnstaged (s : State) : State :=
  let s := s.dropRequests
  s.nvme.cmds.foldl (fun s x => if x.2.wsn = 0 then (s.updNCmd x.1 fun c => { c with torn := true }).failCmd x.1 0 else s) s

/-- Admin commands that wait are dropped; a recorded Format NVM or Sanitize goes on without its command (R46, R57). -/
def State.dropAdmin (s : State) : State :=
  { s with nvme.controllers := s.nvme.controllers.mapVals fun c => { c with aers := [] },
           nvme.erases := s.nvme.erases.mapVals fun e => { e with cmd := none } }

/-- A drain may start (R48, R435, R458). -/
def State.mayDrain (s : State) : Bool :=
  s.power.firmwareRunning && s.runs && s.power.drain == .none && s.power.pdown == .none && s.dump.fault.isNone &&
    !s.power.selfRefreshing

/-- Bytes in staging (R65). -/
def State.stagedBytes (s : State) : Nat := 256 * s.wp.occupancy

/-- The first two steps of the drain sequence (R46). -/
def State.startDrain (s : State) : State :=
  let n := s.stagedBytes
  let stamp := s.now
  let s := s.raise Ev.vbusFail (le 8 n)
  let s := s.setPower { s.power with vbusFailSeen := true, drain := .quiesce, drainStart := stamp, drainBytes := n }
  ({ s with direct.phase := 7 } : State).dropUnstaged.dropAdmin

/-- A supply failure starts a drain where one may start; during the power-down sequence only the event is raised (R48). -/
def State.supplyFails (s : State) : State := if s.mayDrain then s.startDrain else s

/-- Islands that stay awake in a drain (R46). -/
def drainIslands : List Nat := [0, 1, 2, 21, 22, 23, 24, 25, 26, 27, 28, 29, 30, 32, 34, 36]

/-- Every island but those named sleeps (R46). -/
def State.sleepAllBut (kept : List Nat) (s : State) : State :=
  ((List.range 37).filter fun i => !kept.contains i).foldl (fun s i =>
    let s := s.setPower { s.power with wakeQueue := s.power.wakeQueue.filter fun w => w.1 != i }
    match s.island i with
    | .absent => s
    | _ => (s.setIsland i .asleep).settleIsland i) s

/-- Rank at which a drain closes stripes: that of class-B writes (log entry 47). -/
def State.drainRank (s : State) : Nat := s.rankOf 4

/-- Every staged extent is closed into stripes (R46, R57). -/
def State.closeStaged (s : State) : State := s.ownedDomains.foldl (fun s d => s.closeDomain d s.drainRank) s

/-- The stripes of the staged records are closed in the journal, and the journal records are durable (R46, R57). -/
def State.drainSettled (s : State) : Bool :=
  (s.wp.log.all fun r => r.released || r.dropped || s.recordClosed r) &&
    s.stripe.journals.vals.all fun j => j.open_.isEmpty && j.flight.isEmpty

/-- The body of a drain-outcome record (R446). -/
def drainBody (run start bytes stop : Nat) : List Byte := le 8 run ++ le 8 start ++ le 8 bytes ++ le 8 stop

/-- The drained state (R46, R47): checkpoint, drain-outcome record, LEAVE, bypass closed, islands asleep; then the resets held
take effect. -/
def State.enterDrained (s : State) : State :=
  let s := s.stampCheckpoint false
  let s := s.logRecord 5 0 (drainBody s.run.start s.power.drainStart s.power.drainBytes s.now)
  let s := (s.leaveRing.setBypass true).sleepAllBut [34]
  let held := s.power.held
  let s := ({ s with direct.phase := 8 } : State).setPower { s.power with drain := .drained, held := [false, false, false] }
  let s := if held.getD 2 false then s.pcieReset else s
  if held.getD 0 false || held.getD 1 false then s.beginReset else s

/-! ### Phase plans (R44) -/

/-- VBUS band (R44). -/
def State.vbusBand (s : State) : Nat := if s.power.vbus < 18000 then 0 else if s.power.vbus < 36000 then 1 else 2

/-- The plan of a band lies within its envelope. -/
def State.planFits (s : State) (band : Nat) : Bool :=
  match s.power.plans.get? band with
  | some p => p.vbusBand == s.vbusBand && p.tjBand == s.tjBand
  | none => false

/-! ### SMBus and TAP (R60 to R64) -/

/-- SMB_STATUS (R62). -/
def State.smbStatus (s : State) : Nat :=
  let p := s.power
  boolNat p.pwrGood + 2 * boolNat p.internalReset + 4 * boolNat p.vbusFailSeen + 8 * boolNat p.brownoutSeen +
    16 * boolNat p.thermAlert + 32 * boolNat p.tripSeen + 64 * boolNat (p.drain == .quiesce || p.drain == .draining) +
    128 * boolNat (p.drain == .drained)

/-- SMB_ALERT_L is asserted (R60): from the standby rail on, while an unmasked bit of SMB_STATUS is set. -/
def State.smbAlert (s : State) : Bool :=
  s.power.standbyRail && decide (s.smbStatus &&& (0xFF ^^^ s.power.alertMask.toNat) ≠ 0)

/-- The 7-bit SMBus address: 0x60 + STRAP[4:2] (R55). -/
def State.smbAddress (s : State) : Nat := 0x60 + bits s.power.straps.toNat 4 2

/-- The packet error code of SMBus: the CRC-8 of polynomial x^8 + x^2 + x + 1 over the bytes of the transfer, the address bytes among
them (R60, log entry 125). -/
def smbPec (bytes : List Byte) : Byte :=
  bytes.foldl (fun c b => (List.range 8).foldl (fun c _ => if c.getLsbD 7 then (c <<< 1) ^^^ 0x07#8 else c <<< 1) (c ^^^ b)) 0#8

/-- The bytes of an SMBus register, in order (R61): none for a code of no register. A sensor index above 17 names no sensor. -/
def State.smbRead (s : State) (code : Nat) : List Byte :=
  let p := s.power
  match code with
  | 0x00 => le 2 0x9648
  | 0x01 => le 1 (16 * boolNat (s.orderCode == .a0n))
  | 0x02 => le 1 s.smbStatus
  | 0x03 => [p.alertMask]
  | 0x04 => le 2 (s.tjMax % 65536).toNat
  | 0x05 => [p.tjSel]
  | 0x06 => le 2 (p.temps.getD p.tjSel.toNat 0).toNat
  | 0x07 => le 2 p.vbus
  | 0x08 => le 2 p.ibus
  | 0x09 => le 2 p.pbus
  | 0x0A => le 2 p.thermSet.toNat
  | 0x0B => [p.thermHyst]
  | 0x0C => Config.serial
  | _ => []

/-- What the chip drives when a requester reads: an own register after its code is written to the chip's address, with the packet
error code where the requester uses it; a block read leads with its byte count; the Alert Response Address 0x0C is answered with the
chip's address while SMB_ALERT_L is asserted. Nothing without the standby rail, nor to another address (R60, R61). -/
def State.smbAnswer (s : State) (address code : Nat) (pec : Bool) : List Byte :=
  let a := s.smbAddress
  if !s.power.standbyRail then []
  else if address = 0x0C then
    let d := le 1 (2 * a)
    if s.smbAlert then d ++ (if pec then [smbPec (le 1 (2 * 0x0C + 1) ++ d)] else []) else []
  else if address = a then
    let r := s.smbRead code
    let d := if code = 0x0C then le 1 r.length ++ r else r
    d ++ (if pec && !d.isEmpty then [smbPec (le 1 (2 * a) ++ le 1 code ++ le 1 (2 * a + 1) ++ d)] else [])
  else []

/-- An SMBus write of a register that takes one; a value outside the range of SMB_THERM_SET or SMB_THERM_HYST is not stored
(R61, log entry 48). -/
def State.smbWrite (code : Nat) (v : W16) (s : State) : State :=
  let p := s.power
  match code with
  | 0x03 => s.setPower { p with alertMask := v.setWidth 8 }
  | 0x05 => s.setPower { p with tjSel := v.setWidth 8 }
  | 0x0A => if decide (960 ≤ v.toNat) && decide (v.toNat ≤ 1680) then s.setPower { p with thermSet := v } else s
  | 0x0B => if decide (1 ≤ v.toNat) && decide (v.toNat ≤ 20) then s.setPower { p with thermHyst := v.setWidth 8 } else s
  | _ => s

/-- The public TAP instructions in the order of R64. -/
inductive TapOp where
  | bypass
  | idcode
  | sample
  | extest
  | clamp
  | highz
  | extestPulse
  | extestTrain
deriving DecidableEq, Repr

def tapOps : List TapOp := [.bypass, .idcode, .sample, .extest, .clamp, .highz, .extestPulse, .extestTrain]

/-- The instruction of a code: every other code acts as BYPASS (R64). -/
def tapOf (ir : Byte) : TapOp :=
  if ir == Config.bypassCode then .bypass
  else ((tapOps.zip (List.range 8)).find? fun x => Config.tapCode x.2 == ir).elim .bypass Prod.fst

/-- The TAP drives or releases pins: EXTEST, CLAMP, HIGHZ, EXTEST_PULSE and EXTEST_TRAIN, only while RESET_L is low and PWR_GOOD is
high (R64). -/
def State.tapDrives (s : State) : Bool :=
  let op := tapOf s.power.tapIr
  !s.power.resetL && s.power.pwrGood && op != .bypass && op != .idcode && op != .sample

/-- A TAP instruction whose register is the boundary register (R64, log entry 105). -/
def TapOp.boundary : TapOp → Bool
  | .sample => true
  | .extest => true
  | .extestPulse => true
  | .extestTrain => true
  | _ => false

/-- The register a TAP instruction puts between TDI and TDO, as captured: the boundary register's cells hold pin levels, which are
free. -/
def State.tapCapture (s : State) (op : TapOp) : List Bool :=
  if op = .idcode then (List.range 32).map fun i => Config.idcode.getLsbD i
  else if op.boundary then (List.range Config.boundaryLength).map fun i => (Config.freeValue s.free).testBit i
  else [false]

/-- Load an instruction and shift bits in; the bits that come out are the captured register's, then those shifted in, and the
register then holds the last bits of both. With the boundary register updated, or held by CLAMP, the pins are driven from it, and
HIGHZ releases them, where R64 lets them be. -/
def State.tapShift (ir : Byte) (bits_ : List Bool) (s : State) : State :=
  let op := tapOf ir
  let line := s.tapCapture op ++ bits_
  let data := if op.boundary then line.drop bits_.length else s.power.tapData
  let s := (s.freed.setPower { s.power with tapIr := ir, tapData := data }).emit (.tap (line.take bits_.length))
  let driven := if s.tapDrives then some (ir, if op = .highz then [] else data) else none
  if driven = s.power.tapDriven then s
  else (s.setPower { s.power with tapDriven := driven }).emit (.pins (driven.map Prod.snd))

/-- The TAP in reset, while TRST_L is low: IDCODE, no pin driven (R64, IEEE 1149.1). -/
def State.tapReset (s : State) : State := s.setPower { s.power with tapIr := Config.tapCode 1, tapDriven := none }

/-- RESET_L or PWR_GOOD has moved: pins that the TAP drove are let go where R64 no longer lets it drive them. -/
def State.tapRelease (s : State) : State :=
  if s.power.tapDriven.isSome && !s.tapDrives then (s.setPower { s.power with tapDriven := none }).emit (.pins none) else s

end Sys2Proof.Machine
end

