-- ==== Sys2Proof/Machine/TemplateChecks.lean ====
section
/-! DEFINITION. The checks of the template kinds (R180, R258, R308, R309, R462), each answering the body offset of the
first faulty field, and the standard templates of the Mason core (R260, R420, R461). -/

namespace Sys2Proof.Machine

/-- The offset of the first entry that does not hold. -/
def firstFault (l : List (Nat × Bool)) : Option Nat := (l.find? fun e => !e.2).map Prod.fst

def between (lo v hi : Nat) : Bool := decide (lo ≤ v) && decide (v ≤ hi)

def zeroAt (b : List Byte) (off n : Nat) : Bool := (slice b off n).all fun x => x == 0

/-- Entry `i` of a list of 2-byte numbers differs from those before it. -/
def freshAt (b : List Byte) (off i : Nat) : Bool :=
  !((List.range i).any fun k => fieldAt b (off + 2 * k) 2 == fieldAt b (off + 2 * i) 2)

/-! ### Layout templates (R257, R258) -/

/-- Rows in which a module index appears. -/
def Layout.rowsWith (y : Layout) (i : Nat) : Nat :=
  ((List.range y.rows).filter fun r => (List.range y.width).any fun c => (y.cell r c).1 == i).length

/-- Every module index appears in floor or ceil of R x (D + P) / M rows. -/
def Layout.balanced (y : Layout) : Bool :=
  let m := y.modules.length
  let t := y.rows * y.width
  (List.range m).all fun i => y.rowsWith i == t / m || y.rowsWith i == (t + m - 1) / m

/-- The fields of one layout at byte `off`; `ids` are those of the layouts before it. -/
def layoutEntries (b : List Byte) (lim off : Nat) (ids : List Nat) : List (Nat × Bool) :=
  let d := fieldAt b (off + 1) 1
  let p := fieldAt b (off + 2) 1
  let m := fieldAt b (off + 4) 2
  let r := fieldAt b (off + 6) 2
  let mods := off + 16
  let cells := off + 16 + 8 * ((m + 3) / 4)
  let id := fieldAt b off 1
  let y : Layout := { id := id, data := d, parity := p, rows := r, modules := (List.range m).map fun i => fieldAt b (mods + 2 * i) 2,
                      cells := slice b cells (4 * r * (d + p)) }
  [(off, decide (id ≤ 15) && !ids.contains id), (off + 1, between 4 d 30), (off + 2, between 1 p 3),
    (off + 3, zeroAt b (off + 3) 1), (off + 4, between (d + p) m 768), (off + 6, between 1 r 16384),
    (off + 8, fieldAt b (off + 8) 4 == layoutBytes d p m r), (off + 12, zeroAt b (off + 12) 4)] ++
  ((List.range m).map fun i => (mods + 2 * i, decide (fieldAt b (mods + 2 * i) 2 < lim) && freshAt b mods i)) ++
  [(mods + 2 * m, zeroAt b (mods + 2 * m) (cells - mods - 2 * m))] ++
  ((List.range r).flatMap fun k => (List.range (d + p)).flatMap fun c =>
    let o := cells + 4 * (k * (d + p) + c)
    let before := (List.range c).map fun e => (y.cell k e).1
    [(o, decide ((y.cell k c).1 < m) && !before.contains (y.cell k c).1), (o + 3, zeroAt b (o + 3) 1)]) ++
  [(cells, y.balanced)]

/-- The layouts from byte `off` on, and that the body ends with the last. -/
def layoutsFault (b : List Byte) (lim : Nat) : Nat → Nat → List Nat → Option Nat
  | 0, off, _ => if b.length = off then none else some (min off b.length)
  | n + 1, off, ids =>
    match firstFault (layoutEntries b lim off ids) with
    | some o => some o
    | none => layoutsFault b lim n (off + 16 + fieldAt b (off + 8) 4) (fieldAt b off 1 :: ids)

def layoutFault (mesh : Bool) (b : List Byte) : Option Nat :=
  let lim := if mesh then 768 else 96
  let n := fieldAt b 0 2
  let j := fieldAt b 2 2
  let entry (i : Nat) : Nat × Bool :=
    (8 + 2 * i, if i < j then decide (fieldAt b (8 + 2 * i) 2 < lim) && freshAt b 8 i else zeroAt b (8 + 2 * i) 2)
  match firstFault ([(0, between 1 n 16 && decide (b.length ≤ 8388608)), (2, between 3 j 16), (4, zeroAt b 4 4)] ++
      (List.range 16).map entry ++ [(0x28, zeroAt b 0x28 8)]) with
  | some o => some o
  | none => layoutsFault b lim n 0x30 []

/-! ### Die-slot schedules (R308), power-token plans (R309), rank maps (R462) -/

def scheduleFault (b : List Byte) : Option Nat :=
  let n := fieldAt b 4 1
  let f := frameSlots b
  let die (i : Nat) : List (Nat × Bool) :=
    let first := fieldAt b (0x10 + 4 * i) 2
    let period := fieldAt b (0x12 + 4 * i) 2
    [(0x10 + 4 * i, decide (first < period) || period == 0), (0x12 + 4 * i, period != 0 && f % period == 0)]
  let module_ (m : Nat) : Nat × Bool :=
    let o := 0x10 + 1024 * n + m
    (o, fieldAt b o 1 == 0xFF || decide (fieldAt b o 1 < n))
  firstFault ([(0, between 16 f 4096), (2, decide (16 ≤ slotTicks b)), (4, between 1 n 16 && b.length == 16 + 1024 * n + 768),
    (5, zeroAt b 5 11)] ++ (List.range (256 * n)).flatMap die ++ (List.range 768).map module_)

def tokensFault (b : List Byte) : Option Nat :=
  let cost (i : Nat) : Nat := fieldAt b i 1
  let top := ((List.range 5).map cost).foldl max 0
  firstFault ((List.range 5).map (fun i => (i, between 1 (cost i) 15)) ++ [(5, zeroAt b 5 11)] ++
    (List.range 768).map (fun m => (0x10 + m, budgetOf b m == 0 || decide (top ≤ budgetOf b m))) ++ [(0, b.length == 16 + 768)])

def ranksFault (b : List Byte) : Option Nat :=
  let ok (k : Nat) : Bool :=
    let r := fieldAt b k 1
    if k < 3 then decide (r ≤ 1) else if k < 6 then between 2 r 5 else if k < 9 then between 6 r 7 else between 2 r 7
  firstFault ((List.range 19).map (fun k => (k, ok k)) ++ [(19, zeroAt b 19 13), (0, b.length == 32)])

/-! ### Static Huffman tables (R180) -/

/-- The sum of 2^(15 - len) over the nonzero lengths. -/
def kraft (lens : List Nat) : Nat := (lens.map fun l => if l = 0 then 0 else 2 ^ (15 - l)).sum

def lensAt (b : List Byte) (off n : Nat) : List Nat := (List.range n).map fun i => fieldAt b (off + i) 1

def huffEntries (b : List Byte) (off : Nat) (ids : List Nat) : List (Nat × Bool) :=
  let id := fieldAt b off 1
  let hlit := fieldAt b (off + 2) 2
  let hdist := fieldAt b (off + 4) 1
  let ll := lensAt b (off + 8) 288
  let dl := lensAt b (off + 0x128) 32
  let lit (i : Nat) : Nat × Bool :=
    let l := ll.getD i 0
    (off + 8 + i, decide (l ≤ 15) && (decide (257 ≤ i) || l != 0) && (decide (i < hlit ∧ i < 286) || l == 0))
  let dist (i : Nat) : Nat × Bool :=
    let l := dl.getD i 0
    (off + 0x128 + i, decide (l ≤ 15) && (decide (i < hdist ∧ i < 30) || l == 0))
  [(off, decide (id ≤ 15) && !ids.contains id), (off + 1, zeroAt b (off + 1) 1), (off + 2, between 257 hlit 286),
    (off + 4, between 1 hdist 30), (off + 5, zeroAt b (off + 5) 3)] ++ (List.range 288).map lit ++
  [(off + 8, kraft ll == 32768)] ++ (List.range 32).map dist ++
  [(off + 0x128, kraft dl == 32768 || dl.filter (· != 0) == [1])]

def huffTables (b : List Byte) : Nat → Nat → List Nat → Option Nat
  | 0, _, _ => none
  | n + 1, off, ids =>
    match firstFault (huffEntries b off ids) with
    | some o => some o
    | none => huffTables b n (off + 328) (fieldAt b off 1 :: ids)

def huffFault (b : List Byte) : Option Nat :=
  let n := fieldAt b 0 2
  match firstFault [(0, between 1 n 16 && b.length == 8 + 328 * n), (2, zeroAt b 2 6)] with
  | some o => some o
  | none => huffTables b n 8 []

/-- The check of a kind's defining chapter: the body offset of the first faulty field (R419 check 4). -/
def templateFault (mesh : Bool) (kind : Nat) (b : List Byte) : Option Nat :=
  match kind with
  | 1 => layoutFault mesh b
  | 2 => scheduleFault b
  | 3 => tokensFault b
  | 4 => huffFault b
  | _ => ranksFault b

/-! ### Standard templates (R260, R420, R461, R462) -/

/-- The smallest number at or above `s` that shares no factor with `n`, within `fuel` steps. -/
def coprimeFrom (n : Nat) : Nat → Nat → Nat
  | 0, s => s
  | fuel + 1, s => if Nat.gcd s n = 1 then s else coprimeFrom n fuel (s + 1)

/-- The standard layout of N attached modules (R260). -/
def standardLayoutOf (ms : List Nat) (d p : Nat) : List Byte :=
  let n := ms.length
  let s := coprimeFrom n n (n / (d + p))
  let cells := (List.range n).flatMap fun r => (List.range (d + p)).flatMap fun j => le 2 ((r + j * s) % n) ++ le 1 0xFF ++ zeros 1
  le 1 0 ++ le 1 d ++ le 1 p ++ zeros 1 ++ le 2 n ++ le 2 n ++ le 4 (layoutBytes d p n n) ++ zeros 4 ++
    fit (8 * ((n + 3) / 4)) (ms.flatMap (le 2)) ++ cells

def standardLayout (ms : List Nat) : List Byte :=
  let n := ms.length
  let j := min 16 n
  let journal := fit 32 ((List.range j).flatMap fun i => le 2 (ms.getD (i * n / j) 0))
  let head (k : Nat) := le 2 k ++ le 2 j ++ zeros 4 ++ journal ++ zeros 8
  if 6 ≤ n then head 1 ++ standardLayoutOf ms (min 20 (n - 2)) 2
  else if n = 5 then head 1 ++ standardLayoutOf ms 4 1
  else head 0

def standardSchedule (ms : List Nat) : List Byte :=
  le 2 256 ++ le 2 160 ++ le 1 1 ++ zeros 11 ++ ((List.range 256).flatMap fun d => le 2 (d / 2 % 4) ++ le 2 4) ++
    (List.range 768).flatMap fun m => le 1 (if ms.contains m then 0 else 0xFF)

/-- `tokens m` is the module's token budget and `h` the heads that share it. -/
def standardTokens (ms : List Nat) (tokens : Nat → Nat) (h : Nat) : List Byte :=
  let budget (m : Nat) : Nat := if ms.contains m && decide (2 ≤ tokens m / h) then tokens m / h else 0
  le 1 1 ++ le 1 2 ++ le 1 1 ++ le 1 2 ++ le 1 1 ++ zeros 11 ++ (List.range 768).flatMap fun m => le 1 (budget m)

/-- Code length of a literal/length symbol of the standard table (R461). -/
def standardLit (i : Nat) : Nat :=
  if i = 9 || i = 10 || i = 13 || between 0x20 i 0x7E then 8
  else if i < 256 then 10
  else if i = 256 then 9
  else if i ≤ 264 then 5
  else if i ≤ 270 then 6
  else if i ≤ 285 then 7
  else 0

def standardHuffman : List Byte :=
  le 2 1 ++ zeros 6 ++ le 1 0 ++ zeros 1 ++ le 2 286 ++ le 1 30 ++ zeros 3 ++
    ((List.range 288).flatMap fun i => le 1 (standardLit i)) ++
    (List.range 32).flatMap fun i => le 1 (if i < 2 then 4 else if i < 30 then 5 else 0)

/-- Token budget of a module as its record names it (R298). -/
def FModule.tokenBudget (x : FModule) : Nat := fieldAt x.record 0x3C 1

/-- The standard template of a kind (R420). -/
def State.standardTemplate (s : State) (kind : Nat) : List Byte :=
  let ms := (s.flash.modules.filter fun x => x.2.state == .attached).map Prod.fst
  let h := if s.head.configuration = 2 then s.head.peers.length + 1 else 2
  match kind with
  | 1 => standardLayout ms
  | 2 => standardSchedule ms
  | 3 => standardTokens ms (fun m => (s.flash.modules.getD m {}).tokenBudget) h
  | 4 => standardHuffman
  | _ => fit 32 (standardRanks.flatMap (le 1))

end Sys2Proof.Machine
end

