-- ==== Sys2Proof/Machine/TemplateFamily.lean ====
section
/-! DEFINITION. Template banks and epochs, hods and self-test results: the packets of class 0x01 and the end of an old bank
(R22 to R26, R415, R419 to R421). -/

namespace Sys2Proof.Machine

def templateKinds : List Nat := [1, 2, 3, 4, 5]

/-- A template of the chip's own making (R420). -/
def State.generated (s : State) (kind : Nat) : Template :=
  let b := s.standardTemplate kind
  { body := b, digest := fit 32 (sha 1 b), source := 1 }

/-- The digest over the digests of the templates loaded, in increasing kind (R419). -/
def setDigest (bank : Tab Template) : List Byte := fit 32 (sha 1 (bank.vals.flatMap Template.digest))

/-- The next set: the kinds loaded, and the others carried over from the active bank (R24, R419). -/
def Templates.nextSet (t : Templates) : Tab Template :=
  templateKinds.foldl (fun b k =>
    match t.load.get? k, t.active.get? k with
    | some x, _ => b.set k x
    | none, some x => b.set k { x with source := 3 }
    | none, none => b) []

/-- A bit per kind in a bank. -/
def kindBits (bank : Tab Template) : Nat := (bank.keys.map fun k => 2 ^ (k - 1)).sum

/-- Stripes and segments open under an older epoch. -/
def State.oldStripes (s : State) : List Nat :=
  (s.stripe.stripes.filter fun x => x.2.state == .open && (s.segment x.2.segment).epoch != s.templates.epoch).map Prod.fst

def State.oldSegments (s : State) : List Nat :=
  (s.stripe.segments.filter fun g => g.2.state == .open && g.2.epoch != s.templates.epoch).map Prod.fst

/-- The bank switch alone: the load bank becomes active and the active bank drains (R24, R25). -/
def Templates.switched (t : Templates) (stamp : Nat) : Templates :=
  { epoch := t.epoch + 1, active := t.nextSet, load := [], draining := if t.epoch = 0 then none else some t.active,
    switchStamp := stamp }

/-- Switch the banks at a switch stamp: EV_TEMPLATE_EPOCH, every stripe open under the old epoch is closed at once and its
segment sealed, and B_drain is computed anew (R24, R25, R264, R266). -/
def State.switchEpoch (s : State) : State :=
  let kinds := kindBits s.templates.load
  let stamp := s.now
  let rank := s.rankOf 13
  let old := s
  let s := { s with now := s.now + 1, templates := s.templates.switched stamp }
  let restart (x : StripeDomain) : StripeDomain := if s.layout? x.layoutId = old.layout? x.layoutId then x else { x with cursor := 0 }
  let s := { s with stripe.domains := s.stripe.domains.mapVals restart }
  let s := s.raise Ev.templateEpoch (le 4 s.templates.epoch ++ le 8 stamp ++ le 1 kinds)
  let s := s.oldStripes.foldl (fun s n => s.completeStripe n rank true) s
  let s := s.oldSegments.foldl (fun s g => s.sealSegment g) s
  s.recomputeDrain

/-- There is no load bank for head software: the old bank drains, or epoch 0 is current (R419). -/
def Templates.bankBusy (t : Templates) : Bool := t.draining.isSome || t.epoch == 0

def bankBytes (bank : Tab Template) : Nat := (bank.vals.map fun t => t.body.length).sum

def bankLimit : Nat := 10485760

/-- TEMPLATE_LOAD (R23, R419). -/
def execTemplateLoad (op : PktOp) (s : State) : Result := packetRun 0x0100 op s fun p s =>
  let kind := p.f 0 1
  let body := p.buffer op
  let digest := fit 32 (sha 1 body)
  if s.templates.bankBusy then s.fail p St.templateBankBusy
  else if p.dataLen ≠ p.f 4 4 then s.fail p St.dataLength
  else if digest ≠ p.bytes 8 32 then s.fail p St.templateDigest
  else match templateFault s.mesh kind body with
  | some o => s.reply p St.templateInvalid o []
  | none =>
    let bank := s.templates.load.set kind { body := body, digest := digest, source := 2 }
    if bankLimit < bankBytes bank then s.fail p St.templateBankFull
    else ({ s with templates.load := bank }).replyOk p

/-- TEMPLATE_COMMIT (R24, R419). -/
def execTemplateCommit (op : PktOp) (s : State) : Result := packetRun 0x0101 op s fun p s =>
  if s.templates.bankBusy then s.fail p St.templateBankBusy
  else if s.templates.load.isEmpty then s.fail p St.loadBankEmpty
  else if p.f 0 4 ≠ s.templates.epoch + 1 then s.fail p St.epochMismatch
  else if p.bytes 8 32 ≠ setDigest s.templates.load then s.fail p St.setDigest
  else s.switchEpoch.replyOk p

/-- A compression job of a write began under an older epoch and has not ended (R22, R25). -/
def State.oldJobs (s : State) : Bool :=
  let old (j : Job) : Bool := match j with
    | .wanted e => e != s.templates.epoch
    | _ => false
  s.nvme.cmds.any fun c => (c.2.setts.any fun x => old x.2.job) || c.2.ashlars.any fun x => old x.2.job

/-- The last operation of the old epoch has ended: no schedule frame, no open stripe and no compression job of it is left
(R25). -/
def State.oldBankDrained (s : State) : Bool :=
  s.templates.draining.isSome && s.flash.frameEpoch == s.templates.epoch && s.oldStripes.isEmpty && !s.oldJobs

/-- TEMPLATE_BANK_DRAINED (R25): the bank becomes an empty load bank. -/
def execTemplateBankDrained (s : State) : Result :=
  onlyIf s.oldBankDrained s
    (({ s with templates.draining := none, templates.load := [] } : State).raise Ev.templateEpochRetired (le 4 (s.templates.epoch - 1)))

/-- TEMPLATE_DISCARD (R421). -/
def execTemplateDiscard (op : PktOp) (s : State) : Result := packetRun 0x0102 op s fun p s =>
  if s.templates.bankBusy then s.fail p St.templateBankBusy
  else ({ s with templates.load := [] }).replyOk p

/-- TEMPLATE_GENERATE (R420, R421). -/
def execTemplateGenerate (op : PktOp) (s : State) : Result := packetRun 0x0103 op s fun p s =>
  if s.templates.bankBusy then s.fail p St.templateBankBusy
  else
    let bank := (templateKinds.filter fun k => bit (p.f 0 1) (k - 1)).foldl (fun b k => b.set k (s.generated k)) s.templates.load
    ({ s with templates.load := bank }).reply p St.ok 0 (setDigest bank)

/-- The description of a bank (R421). -/
def bankRecord (epoch state : Nat) (bank : Tab Template) : List Byte :=
  let entry (k : Nat) : List Byte :=
    match bank.get? k with
    | some t => le 1 1 ++ le 1 t.source ++ zeros 2 ++ le 4 t.body.length ++ fit 32 t.digest
    | none => zeros 40
  le 4 epoch ++ le 1 state ++ zeros 3 ++ le 8 (bankBytes bank) ++ templateKinds.flatMap entry

/-- TEMPLATE_QUERY (R421). -/
def execTemplateQuery (op : PktOp) (s : State) : Result := packetRun 0x0104 op s fun p s =>
  let t := s.templates
  let data :=
    if p.f 0 1 = 0 then bankRecord t.epoch (if t.epoch = 0 then 0 else 2) t.active
    else match t.draining with
      | some old => bankRecord (t.epoch - 1) 3 old
      | none => if t.load.isEmpty then bankRecord 0 0 [] else bankRecord (t.epoch + 1) 1 t.load
  s.reply p St.ok 0 data

/-- HOD_STATUS (R421): tasks run to their end within a command, so no hod is seen running. -/
def execHodStatus (op : PktOp) (s : State) : Result := packetRun 0x0105 op s fun p s =>
  s.reply p St.ok 0 (s.mason.hods.flatMap fun h =>
    le 1 (if h.disabled then 2 else 0) ++ zeros 1 ++ le 2 h.urgent.length ++ le 2 h.background.length ++ zeros 2 ++
      le 8 h.tasks ++ le 8 h.steals ++ le 8 h.stolen)

/-- Disabled hods as a bitmap. -/
def State.disabledHods (s : State) : List Nat := (List.range 64).filter fun h => (s.hod h).disabled

/-- SELF_TEST_RESULT (R421). -/
def execSelfTestResult (op : PktOp) (s : State) : Result := packetRun 0x0106 op s fun p s =>
  let t := s.mason.test
  s.reply p St.ok 0 (le 4 t.run ++ le 4 t.failed ++ le 8 ((s.disabledHods.map fun h => 2 ^ h).sum) ++ le 16 t.engines ++
    le 24 t.lanes ++ le 2 t.channels ++ zeros 6)

/-- HOD_FIND_WORK (R413 to R415): hod `hod` takes or steals one task, urgent first, and runs it. -/
def execHodFindWork (hod : Nat) (s : State) : Result :=
  let found := match s.takeTask hod true with
    | some r => some r
    | none => s.takeTask hod false
  match found with
  | some (t, s') => onlyIf (decide (hod < 64) && !(s.hod hod).disabled) s (s'.runTask hod t).startWaiting
  | none => .next s

end Sys2Proof.Machine
end

