-- ==== Sys2Proof/Machine/BootFamily.lean ====
section
/-! DEFINITION. Start-up from the ROM to service: ROM stages, slot choice, reset cause, settings format, DDR5 training, self-test
and the first epoch, and the resets of class 6 (R367, R368, R371, R375, R392, R393, R398, R402 to R405, R417, R418, R437, R441 to
R446). -/

namespace Sys2Proof.Machine

/-! ### ROM stages 0 to 2 (R393) -/

/-- What the stamp counter is loaded with: the last checkpoint plus 2^35, else the highest stamp of a LOG record plus 2^35 (R30,
R393). -/
def State.stampBase (s : State) (lost : List Nat) : Nat :=
  match s.vault.current? lost 1 0 with
  | some r => fieldAt r.body 0 8 + 2 ^ 35
  | none => ((s.vault.records.filter fun r => !lost.contains r.seq).map LogRecord.stamp).foldl max 0 + 2 ^ 35

/-- Stamps are granted from here on; the events that waited are raised (R393, R458). -/
def State.loadStamps (lost : List Nat) (s : State) : State :=
  let base := s.stampBase lost
  let early := s.power.early
  let s := ({ s with now := base, run := { s.run with start := base, hoursFrom := base }, mason.lastBeat := base } : State).setPower
    { s.power with stamps := true, early := [] }
  early.foldl (fun s e => s.raise e.1 e.2) s

/-- EV_VAULT_READ_FAULT of each LOG record that cannot be read, which counts as absent (R396). -/
def State.logReadFaults (lost : List Nat) (s : State) : State :=
  let s := { s with mason.badLog := lost }
  s.vault.log.foldl (fun s b =>
    (b.records.zip (List.range 64)).foldl (fun s r =>
      if lost.contains r.1.seq then
        let k := sectorOf (logFirst + b.block) r.2 (s.freeNat % 4)
        s.freed.raiseAt (s.vault.sectorSite k) Ev.vaultReadFault (le 1 4 ++ le 2 (s.vault.phys (logFirst + b.block)) ++ le 1 r.2)
      else s) s) s

/-- The boot select of the straps as taken: EV_STRAP_INVALID where it is not taken as sampled (R55, R400). -/
def State.takeStraps (s : State) : State :=
  let v := s.power.straps.toNat % 4
  let mode := if v = 0 then 0 else if v = 2 then (if s.bootRec.level = 0 then 2 else 0) else 1
  let t := s.setPower { s.power with bootMode := mode }
  if v = 3 || (v = 2 && mode = 0) then t.raise Ev.strapInvalid (le 1 s.power.straps.toNat ++ le 1 mode) else t

/-- A lowering that a reset interrupted is completed, at once while the supply allows it (R399, R401). -/
def State.finishLowering (s : State) : State :=
  if s.bootRec.lowerPending = 0xFF then s
  else if s.vaultReady then s.completeLowering
  else { s with mason.lowering := true }

/-- The repair rows of a type-7 record. -/
def parseRows (b : List Byte) : List RepairRow :=
  (List.range (b.length / 8)).map fun i =>
    { rank := fieldAt b (8 * i) 1, bankGroup := fieldAt b (8 * i + 1) 1, bank := fieldAt b (8 * i + 2) 1,
      state := fieldAt b (8 * i + 3) 1, row := fieldAt b (8 * i + 4) 4 }

/-- Load counts of the key slots (R199, type 2). -/
def State.reloadKeys (lost : List Nat) (s : State) : State :=
  (List.range 64).foldl (fun s k => match s.vault.current? lost 2 k with
    | some r => { s with keys.slots := s.keys.slots.modify k fun x => { x with loadCount := fieldAt r.body 0 2 } }
    | none => s) s

/-- Progress records of formats and sanitizes (R154, type 3). -/
def State.reloadErases (lost : List Nat) (s : State) : State :=
  (List.range 16).foldl (fun s k => match s.vault.current? lost 3 k with
    | some r =>
      if fieldAt r.body 0 1 = 0 then s
      else { s with nvme.erases := s.nvme.erases.set k { s.parseErase r.body with stored := true } }
    | none => s) s

/-- Repair lists (R375, type 7). -/
def State.reloadRepairs (lost : List Nat) (s : State) : State :=
  (List.range 12).foldl (fun s c => match s.vault.current? lost 7 c with
    | some r => s.setDramChannel c { s.dramChannel c with repairs := parseRows r.body }
    | none => s) s

/-- Health counters (R155, type 4). -/
def State.reloadHealth (lost : List Nat) (s : State) : State :=
  match s.vault.current? lost 4 0 with
  | some r =>
    let h := r.health.getD headHealth []
    { s with nvme := { s.nvme with saved := r.health, powerCycles := h.getD 0 0, powerOnHours := h.getD 1 0,
                                   unsafeShutdowns := h.getD 2 0 } }
  | none => s

/-- The WSN sequencer resumes above the ceiling of the newest checkpoint (R28, R445). -/
def State.reloadWsn (lost : List Nat) (s : State) : State :=
  match s.vault.current? lost 1 0 with
  | some r => { s with wp.wsn := fieldAt r.body 24 8 }
  | none => s

/-- The kept records of the LOG are read (R397). -/
def State.reload (lost : List Nat) (s : State) : State :=
  ((((s.reloadKeys lost).reloadErases lost).reloadRepairs lost).reloadHealth lost).reloadWsn lost

/-- Stage 2: the endpoint answers once PCIE_PERST_L is high (R56, R393). -/
def State.enableEndpoint (s : State) : State :=
  let up := s.pcie.perstHigh && !s.power.clocksLost.getD 2 false
  { s with pcie.answers := up, pcie.linkUp := up }

/-! ### Stage 3: slot choice (R403 to R405) -/

/-- The checks of R404 over a slot: EV_IMAGE_REJECTED names the first that fails. -/
def State.tryImage (slot : Nat) (bad : List (Nat × Nat)) (s : State) : Bool × State :=
  match s.imageFault slot bad with
  | none => (true, s)
  | some (check, chunk) =>
    let l := imageBlock slot + 1 + chunk
    let fault := check == 6 && bad.contains (slot, chunk)
    let t := if fault then
        let k := s.freeNat % 256
        s.freed.raiseAt (s.vault.sectorSite (256 * l + k)) Ev.vaultReadFault (le 1 (slot + 2) ++ le 2 (s.vault.phys l) ++ le 1 (k / 4))
      else s
    (false, t.raise Ev.imageRejected (le 1 slot ++ le 1 check ++ le 2 chunk ++ le 4 (manifestVersion (s.image slot).manifest)))

def State.fallback (from_ to_ cause : Nat) (s : State) : State :=
  s.raise Ev.imageFallback (le 1 from_ ++ le 1 to_ ++ le 1 cause)

/-- Boot a slot: its sections are loaded (R393 stage 3). -/
def State.bootSlot (slot attempt : Nat) (s : State) : State :=
  { s with mason.boot := .chosen, mason.slot := slot, mason.attempt := attempt, direct.phase := 1 }

/-- Recovery boot (R405): cause 1 straps, 2 no bootable slot. -/
def State.recover (cause : Nat) (s : State) : State :=
  ({ s with mason.boot := .recovery, mason.slot := 0xFF, direct.phase := 0, direct.recoveryBoot := true } : State).raise
    Ev.recoveryBoot (le 1 cause)

/-- The slots tried when no pending slot boots: the active one, then the other if VALID (R403). -/
def BootRecord.candidates (b : BootRecord) : List Nat :=
  if b.active = 0xFF then [] else b.active :: (if b.slot (1 - b.active) = 4 then [1 - b.active] else [])

def State.bootFrom (bad : List (Nat × Nat)) : List Nat → State → State
  | [], s => s.recover 2
  | n :: rest, s =>
    let r := s.tryImage n bad
    if r.1 then
      (if r.2.bootRec.active = n then r.2 else r.2.writeBoot fun b => { b with active := n }).bootSlot n 0
    else ((r.2.writeBoot fun b => b.setSlot n 5).fallback n (rest.headD 0xFF) 3).bootFrom bad rest

/-- The active slot and the other one are tried. -/
def State.bootActive (bad : List (Nat × Nat)) (s : State) : State := s.bootFrom bad s.bootRec.candidates

/-- The pending slot on trial is checked (R403). -/
def State.tryPending (p : Nat) (bad : List (Nat × Nat)) (s : State) : State :=
  let r := s.tryImage p bad
  if r.1 then r.2.bootSlot p r.2.bootRec.attempts
  else
    let s := r.2.writeBoot fun b => { b.setSlot p 5 with pending := 0xFF }
    (s.fallback p (s.bootRec.candidates.headD 0xFF) 1).bootActive bad

/-- Slot choice (R403). A VALID slot that IMAGE_SELECT made pending goes on trial as a PENDING one does (R412). -/
def State.chooseSlot (bad : List (Nat × Nat)) (s : State) : State :=
  if s.power.bootMode = 1 && !s.bootRec.bootOnce then s.recover 1
  else
    let s := if s.bootRec.bootOnce then s.writeBoot fun b => { b with bootOnce := false } else s
    let p := s.bootRec.pending
    let st := s.bootRec.slot p
    if p = 0xFF then s.bootActive bad
    else if st = 2 || st = 4 then (s.writeBoot fun b => { b.setSlot p 3 with attempts := 1 }).tryPending p bad
    else if s.bootRec.attempts < 3 then (s.writeBoot fun b => { b with attempts := b.attempts + 1 }).tryPending p bad
    else
      let s := s.writeBoot fun b => { b.setSlot p 5 with pending := 0xFF }
      (s.fallback p (s.bootRec.candidates.headD 0xFF) 2).bootActive bad

/-- The ROM may start: internal reset has ended (R56). -/
def State.romMayStart (s : State) : Bool :=
  !s.power.internalReset && s.power.sampled && s.power.pwrGood && s.mason.boot == .none

/-- Stages 1 to 3 (R393). -/
def State.romStages (lost : List Nat) (bad weak : List (Nat × Nat)) (s : State) : State :=
  let s := (s.loadStamps lost).logReadFaults lost
  let s := weak.foldl (fun s w => s.vaultWeak w.1 w.2) s
  ((s.finishLowering.takeStraps.reload lost).enableEndpoint).chooseSlot bad

/-- BOOT_ROM (R393): `lost` are the LOG records, `bad` the chunks (slot, index) that cannot be read, `weak` the sectors of
the Vault in which 8 bits or more were corrected. -/
def execBootRom (lost : List Nat) (bad weak : List (Nat × Nat)) (s : State) : Result :=
  let t := { s with mason.starts := s.mason.starts + 1, mason.lastBeat := s.now }
  onlyIf s.romMayStart s
    (if Config.romDigestGood s.mason.starts then t.romStages lost bad weak
     else { t with mason.boot := .halted, pcie.linkUp := false, pcie.answers := false })

/-! ### The cause of the previous reset (R442 to R446) -/

/-- run_start_stamp of the previous run, from the newest checkpoint. -/
def State.previousRun (s : State) : Option Nat := (s.vault.current? s.mason.badLog 1 0).map fun r => fieldAt r.body 8 8

/-- The newest summary of the previous run (R442). -/
def State.previousSummary (s : State) : Option Summary :=
  match s.previousRun with
  | none => none
  | some start =>
    (s.validSummaries.filter fun x => decide (start < x.header.fatalStamp)).foldl (fun m x => match m with
      | some y => if y.header.seq < x.header.seq then some x else some y
      | none => some x) none

/-- The drain-outcome record of the previous run (R446). -/
def State.previousDrain (s : State) : Option LogRecord :=
  match s.previousRun, s.vault.current? s.mason.badLog 5 0 with
  | some start, some r => if fieldAt r.body 0 8 = start then some r else none
  | _, _ => none

/-- The newest checkpoint was written by the power-down sequence. -/
def State.poweredDown (s : State) : Bool :=
  ((s.vault.current? s.mason.badLog 1 0).map fun r => bit (fieldAt r.body 16 1) 0).getD false

/-- The reset cause (R442), the rows read in order. -/
def State.resetCause (s : State) : Nat :=
  match s.previousSummary with
  | some x => x.header.cause
  | none =>
    if s.power.tripSeen then 4
    else if s.poweredDown then 10
    else if s.previousDrain.isSome then 1
    else if s.power.brownoutSeen then 3
    else if s.run.powerOnReset then 2
    else 9

/-- Footing causes known before self-test (R447 causes 1 and 6). -/
def State.resetFooting (s : State) : List Nat :=
  (match s.previousSummary with
   | some x => if bit x.header.flags 0 then [1] else []
   | none => []) ++ (if 3 ≤ s.recentFatal then [6] else [])

/-- The previous run had staging: its last saved counters say so (log entry 50). -/
def State.hadStaging (s : State) : Bool :=
  match s.vault.current? s.mason.badLog 4 0 with
  | some r => (r.health.getD headHealth []).getD 3 0 == 1
  | none => false

/-- EV_DRAINED is posted from the drain-outcome record (R433). -/
def State.postDrained (s : State) : State :=
  match s.previousDrain with
  | some r => s.raise Ev.drained (le 8 (fieldAt r.body 16 8) ++ le 4 ((fieldAt r.body 24 8 - fieldAt r.body 8 8) / 1000))
  | none => s

/-- EV_RESET_CAUSE, the counts it moves and the sticky bits it clears (R442, R443, R155). -/
def State.reportCause (s : State) : State :=
  let cause := s.resetCause
  let foot := s.resetFooting
  let h := s.previousSummary.map Summary.header
  let params := le 1 cause ++ le 8 ((h.map DumpHeader.seq).getD 0) ++ le 8 ((h.map DumpHeader.fatalStamp).getD 0) ++
    le 2 ((h.map DumpHeader.fatalEvent).getD 0) ++ le 1 (foot.head?.getD 0)
  let had := s.hadStaging
  let unsafe_ := cause == 2 || cause == 3 || cause == 4
  let sev := if decide (5 ≤ cause) && decide (cause ≤ 8) then 2 else 1
  let s := s.raiseWith Ev.resetCause sev (Ev.island Ev.resetCause) 0 params
  let s := s.setPower { s.power with tripSeen := false, brownoutSeen := false, vbusFailSeen := false }
  let n := { s.nvme with
    unsafeShutdowns := s.nvme.unsafeShutdowns + boolNat unsafe_,
    powerCycles := s.nvme.powerCycles + boolNat s.run.powerOnReset,
    backupFailed := (cause == 2 || cause == 4) && had }
  { s with nvme := n, run := { s.run with lastCause := cause }, footing := { s.footing with startup := foot } }

/-! ### The field image (R393 stage 4, R398, R410, R442) -/

/-- The settings format of the running image (R398). -/
def State.runningFormat (s : State) : Nat := fieldAt (s.image s.mason.slot).manifest 0x14 2

/-- Why the calibration records are voided, none when they hold (R398). -/
def State.formatCause (s : State) : Option Nat :=
  match s.vault.format? s.mason.badLog with
  | none => some 3
  | some f => if f ≠ s.runningFormat then some 1 else if s.vault.resetSettings then some 2 else none

/-- The settings format is compared, and a new type-19 record voids the calibrations (R398). -/
def State.checkFormat (s : State) : State :=
  match s.formatCause with
  | none => s
  | some cause =>
    let old := (s.vault.format? s.mason.badLog).getD 0
    let new := s.runningFormat
    let s := (s.logRecord 19 0 (le 2 new)).updVault fun v => { v with resetSettings := false }
    (s.setPower { s.power with plans := [] }).raise Ev.settingsReset (le 2 old ++ le 2 new ++ le 1 cause)

/-- The stored phase plans (R44, type 17). -/
def State.loadPlans (s : State) : State :=
  (List.range 6).foldl (fun s b => match s.vault.calibration? s.mason.badLog 17 b with
    | some r =>
      let plan : PhasePlan := { vbusBand := fieldAt r.body 0 1, tjBand := fieldAt r.body 1 1, vaulted := r.stamp }
      if s.power.plans.has b then s else s.setPower { s.power with plans := s.power.plans.set b plan }
    | none => s) s

/-- The stored lane equaliser settings by the envelope they were found in (R95, R290, type 18). -/
def State.loadLanes (s : State) : State :=
  let get (s : State) (k : Nat) : Option (Nat × Nat) :=
    (s.vault.calibration? s.mason.badLog 18 k).map fun r => (fieldAt r.body 0 1, fieldAt r.body 1 1)
  let s := (List.range 40).foldl (fun s k => match get s k with
    | some e => s.updPort (k / 4) fun p => { p with envelope := p.envelope.set (k % 4) (some e) }
    | none => s) s
  (List.range 96).foldl (fun s l => match get s (48 + l) with
    | some e => s.updLink l fun k => { k with envelope := some e }
    | none => s) s

/-- Control passes to the field image (R393 stage 4): an open update takes channel 34, the cause is reported, the start-of-run
checkpoint is written, KEY_POLICY takes its level (R400), and rings are serviced. -/
def State.startImage (s : State) : State :=
  let s := if s.openSlot.isSome then { s with digest.taken34 := true } else s
  let s := (s.postDrained.reportCause).stampCheckpoint false
  let policy := if s.bootRec.level = 2 then s.keys.policy ||| 2 else s.keys.policy
  let s := { s with keys.policy := policy }
  let s := ({ s with direct.phase := 2, mason.boot := .running } : State).setPower { s.power with firmwareRunning := true }
  s.raise Ev.firmwareRunning (le 4 s.imageVersion ++ le 1 s.mason.slot ++ le 1 s.mason.attempt ++ le 4 Config.romVersion)

/-- A failure that is still present, VBUS_FAIL high or VBUS not back, starts its drain now (R458). Whether a VBUS_FAIL that went high
earlier is high still is a free value, since no command shows its fall (log entry 88). -/
def State.drainIfFailing (s : State) : State :=
  let s := s.setPower { s.power with vbusFail := s.power.vbusFail && Config.vbusFailHeld s.now }
  if s.power.vbusFail || s.power.brownout then s.supplyFails else s

/-- FIELD_IMAGE_START (R393, R398, R410, R442, R458). -/
def execFieldImageStart (s : State) : Result :=
  onlyIf (s.mason.boot == .chosen && s.runs) s (s.startImage.checkFormat.loadPlans.loadLanes).drainIfFailing

/-! ### DDR5 training (R367, R368, R371, R375, R437) -/

/-- A DIMM that R367 supports. -/
def dimmFits (d : DimmReport) : Bool :=
  d.supported && [4800, 5600, 6400].contains d.speed && [16, 24, 32].contains d.density && decide (1 ≤ d.ranks) &&
    decide (d.ranks ≤ 8) && [1, 2, 4].contains d.height && decide (2 ^ 34 ≤ d.capacity) && decide (d.capacity ≤ 2 ^ 38)

def sameGeometry (a b : DimmReport) : Bool :=
  a.capacity == b.capacity && a.ranks == b.ranks && a.height == b.height && a.density == b.density

/-- Exclusion reason of a DIMM, none when it trains (R368). The geometry compared with is that of the lowest channel whose SPD
passed. -/
def exclusion (dimms : List DimmReport) (d : DimmReport) : Option Nat :=
  let first := dimms.find? fun x => x.present && x.spdReadable && dimmFits x
  if !d.spdReadable then some 1
  else if !dimmFits d then some 2
  else if !((first.map (sameGeometry d)).getD true) then some 3
  else if !d.trains then some 4
  else none

/-- The lowest rated speed among the trained channels (R368). -/
def trainedSpeed (dimms : List DimmReport) : Nat :=
  ((dimms.filter fun d => d.present && (exclusion dimms d).isNone).map DimmReport.speed).foldl min 6400

/-- hPPR of the listed rows while the DIMM reports a spare for the row's bank group (R375). -/
def repairRows : List RepairRow → List Nat → List RepairRow
  | [], _ => []
  | r :: rs, spares =>
    if r.state ≠ 1 then r :: repairRows rs spares
    else if spares.contains r.bankGroup then { r with state := 2 } :: repairRows rs (spares.erase r.bankGroup)
    else { r with state := 3 } :: repairRows rs spares

/-- Train one channel (R371): steps 1 to 8. -/
def State.trainChannel (dimms : List DimmReport) (c : Nat) (s : State) : State :=
  let d := dimms.getD c { present := false }
  if !d.present then s
  else match exclusion dimms d with
  | some reason =>
    (s.setDramChannel c { s.dramChannel c with dimm := .excluded reason }).raiseFrom (dramIsland c) Ev.dimmExcluded (le 1 c ++ le 1 reason)
  | none =>
    let speed := trainedSpeed dimms
    let old := (s.dramChannel c).repairs
    let rows := repairRows old d.spares
    let s := s.setDramChannel c { s.dramChannel c with
      dimm := .trained, speed := speed, ranks := d.ranks, density := d.density, capacity := d.capacity, trainStamp := s.now,
      repairs := rows, dqsBaseline := d.oscillator }
    let s := s.logRecord 16 c (le 2 speed)
    let s := if rows == old then s else s.logRecord 7 c (rows.flatMap RepairRow.bytes)
    ((old.zip rows).filter fun x => x.1.state == 1 && x.2.state == 2).foldl (fun s x =>
      s.raiseFrom (dramIsland c) Ev.dramRowRepaired (le 1 c ++ le 1 x.2.rank ++ le 1 x.2.bankGroup ++ le 1 x.2.bank ++ le 4 x.2.row)) s

/-- A dump found in the region is validated (R437): its header's own checks, then the channels, then the state and the sections'
checks. -/
def State.validateDump (headerOk sectionsOk : Bool) (s : State) : State :=
  match s.dump.image with
  | none => s
  | some m =>
    if !headerOk || s.dump.wiped then { s with dump.image := none }
    else if m.header.channels ≠ s.trainedSet then s
    else
      let st := if m.header.state = 1 || !sectionsOk then 3 else 2
      let held := s.validSummaries.any fun x => x.header.seq == m.header.seq
      ({ s with dump := { s.dump with state := st, size := m.header.dumpSize, vaultSummary := held } } : State).raise Ev.dumpHeld
        (le 1 st ++ le 8 m.header.seq ++ le 8 m.header.dumpSize ++ le 1 (boolNat held))

def State.trainedCount (s : State) : Nat := (s.dram.channels.filter fun c => c.dimm == .trained).length

/-- DRAM_TRAINING (R367, R368, R371, R375, R437). -/
def execDramTraining (dimms : List DimmReport) (headerOk sectionsOk : Bool) (s : State) : Result :=
  let t := (List.range 12).foldl (fun s c => s.trainChannel dimms c) s
  let t := ({ t with dram.trained := true } : State).setPower { t.power with selfRefresh := false }
  let t := { t with dram.mapped := t.trainedSet }
  let t := t.raise Ev.dramTrained (le 2 t.trainedSet ++ le 8 t.dramBytes ++ le 2 (trainedSpeed dimms))
  let t := t.validateDump headerOk sectionsOk
  onlyIf (s.direct.phase == 2 && s.mason.boot == .running && s.fetching && !s.dram.trained) s
    (if t.trainedCount < 4 then t.raise Ev.dramInsufficient (le 1 t.trainedCount) else { t with direct.phase := 3 })

/-! ### Self-test (R417) -/

def State.failHod (h : Nat) (s : State) : State :=
  (s.updHod h fun x => { x with disabled := true }).raiseFrom (hodIsland h) Ev.hodDisabled (le 1 h)

/-- A metadata-cache way is disabled, at most 4 per set (R244, R417). -/
def State.failWay (w : Nat × Nat) (s : State) : State :=
  let ws := s.cacheWays w.1
  if disabledLimit ≤ (ws.filter CacheWay.disabled).length || (ws.getD w.2 {}).disabled then s
  else (s.setWays w.1 (ws.set w.2 { disabled := true })).raise Ev.mcacheWayDisabled (le 1 (w.1 % 8) ++ le 2 w.1 ++ le 1 w.2)

/-- A channel that fails its pattern is excluded; a dump held in DRAM becomes partial (R368, R417, R437). -/
def State.failChannel (c : Nat) (s : State) : State :=
  let s := (s.setDramChannel c { s.dramChannel c with dimm := .excluded 4 }).raiseFrom (dramIsland c) Ev.dimmExcluded (le 1 c ++ le 1 4)
  { s with dump.state := if s.dump.state = 2 then 3 else s.dump.state }

/-- Place of an engine in the bitmap of SELF_TEST_RESULT: the pools of arbiters 64 to 75 in order (R379, R421). -/
def engineBit (pool engine : Nat) : Nat :=
  if pool < 68 then 4 * (pool - 64) + engine
  else if pool < 72 then 16 + 8 * (pool - 68) + engine
  else if pool < 74 then 48 + 8 * (pool - 72) + engine
  else if pool = 74 then 64 + engine
  else 65 + engine

def State.failEngine (e : Nat × Nat) (s : State) : State := s.raiseFrom (poolIsland e.1) Ev.engineDisabled (le 1 e.1 ++ le 1 e.2)

/-- A set of bit numbers as a bitmap. -/
def bitmapOf (bs : List Nat) : Nat := bs.foldl (fun m b => m ||| 2 ^ b) 0

/-- SELF_TEST (R417): what failed of the hods, the metadata-cache ways (set, way), the other SRAM, the channels, the engines (pool,
engine) and the lanes. The number of tests is a free value. -/
def execSelfTest (hods : List Nat) (ways : List (Nat × Nat)) (sram : Bool) (channels : List Nat) (engines : List (Nat × Nat))
    (lanes : List Nat) (s : State) : Result :=
  let hods := (hods.filter fun h => decide (h < 64)).eraseDups
  let ways := (ways.filter fun w => decide (w.1 < 1536) && decide (w.2 < 16)).eraseDups
  let chans := (channels.filter fun c => decide (c < 12) && (s.dramChannel c).dimm == .trained).eraseDups
  let engines := (engines.filter fun e => decide (64 ≤ e.1) && decide (e.1 ≤ 75)).eraseDups
  let lanes := (lanes.filter fun l => decide (l < 144)).eraseDups
  let run := s.freeNat
  let failed := hods.length + ways.length + boolNat sram + chans.length + engines.length + lanes.length
  let t := hods.foldl (fun s h => s.failHod h) s.freed
  let t := ways.foldl (fun s w => s.failWay w) t
  let t := chans.foldl (fun s c => s.failChannel c) t
  let t := engines.foldl (fun s e => s.failEngine e) t
  let result : SelfTest :=
    { run := run, failed := failed, engines := bitmapOf (engines.map fun e => engineBit e.1 e.2), lanes := bitmapOf lanes,
      channels := bitmapOf chans }
  let foot := (if sram then [3] else []) ++ (if 16 < t.disabledHods.length then [4] else [])
  let t := { t with mason.test := result, footing.startup := t.footing.startup ++ foot, direct.phase := 4 }
  onlyIf (s.direct.phase == 3 && s.fetching) s
    (t.raise Ev.selfTest (le 4 run ++ le 4 failed ++ le 1 t.disabledHods.length ++ le 1 engines.length))

/-! ### From self-test to service (R418) -/

/-- Step 1: the staging log and the map area are reserved; the mirror areas are of the staging log's size (R160, R237, R331). -/
def State.reserve (s : State) : State :=
  let n := s.dramBytes
  { s with wp.logUnits := n / 64 / 65536 * 256, map.area := n / 8 / 2 ^ 30 * 2 ^ 30 }

/-- The LINK_CONFIG record of a link (type 8). -/
def State.linkRecord (s : State) (l : Nat) : Option (List Byte) := (s.vault.current? s.mason.badLog 8 l).map LogRecord.body

/-- Step 3: links are enabled from their records, or in Pair with none all 96 on plane 0. -/
def State.enableLinks (s : State) : State :=
  let none_ := s.head.configuration == 1 && (List.range 96).all fun l => (s.linkRecord l).isNone
  let on (l : Nat) (s : State) : State := if (s.link l).state = .disabled then s.train l else s
  let s := (List.range 96).foldl (fun s l => match s.linkRecord l with
    | some b =>
      if fieldAt b 0 1 = 1 then on l (s.updLink l fun k => { k with enable := true, plane := fieldAt b 1 1, invert := fieldAt b 2 1 })
      else s
    | none => if none_ then on l (s.updLink l fun k => { k with enable := true, plane := 0 }) else s) s
  { s with mason.serviceBy := some (s.tick + ticksOf (s.flash.config.detachMs * 1000000)) }

/-- Every enabled link reaches a module that is attached. -/
def State.allAttached (s : State) : Bool :=
  s.flash.links.all fun k => k.state == .disabled || k.state == .up && (s.module k.module).state == .attached

/-- Step 4: the standard templates become epoch 1; service begins, or footing mode with the lowest cause found (R26, R420,
R447). -/
def State.beginService (s : State) : State :=
  let bank := templateKinds.foldl (fun (b : Tab Template) k => b.set k (s.generated k)) []
  let s := ({ s with templates.load := bank } : State).switchEpoch
  let s := { s with direct.phase := 5, mason.serviceBy := none }
  match s.footing.startup with
  | [] => s
  | c :: cs => s.enterFooting (cs.foldl min c)

/-- STARTUP_SERVICE (R418): the next step of PHASE 4 that can be taken. -/
def execStartupService (s : State) : Result :=
  let t :=
    if s.wp.logUnits = 0 then s.reserve
    else if s.head.configuration = 0 then s
    else match s.mason.serviceBy with
      | none => s.enableLinks
      | some d => if s.expired d || s.allAttached then s.beginService else s
  onlyIf (s.direct.phase == 4 && s.fetching) s t

/-! ### Resets of class 6 (R392, R427, R441) -/

/-- The system island writes a header-only summary and resets the chip (R392, R441); a dump that runs ends where it stands
(R435). -/
def State.silentReset (cause loc : Nat) (s : State) : State :=
  let running := s.power.drain != .none || s.power.pdown != .none
  let f : FatalFault := { event := 0, region := 0, location := loc, stamp := s.now, params := zeros 32 }
  let h := s.dumpHeader 4 cause 6 f running
  let t := { s.granted.writeSummary { header := h } with mason.halted := true }
  if s.dump.stage != .none || !s.anyTrained then t.enterReset s.anyTrained else t.beginReset

/-- LOCKSTEP_MISCOMPARE (R392, R427): `memory` for an uncorrectable codeword of the core's SRAM; `loc` its location code. -/
def execLockstepMiscompare (memory : Bool) (loc : Nat) (s : State) : Result :=
  onlyIf (s.coreRuns && !s.power.selfRefreshing) s (s.silentReset (if memory then 7 else 6) loc)

/-- WATCHDOG_EXPIRY (R392): 100 ms without an advance of the heartbeat. A ROM that has halted is not watched. -/
def execWatchdogExpiry (s : State) : Result :=
  onlyIf (s.coreRuns && !s.power.selfRefreshing && decide (s.mason.lastBeat + 100000000 ≤ s.now)) s (s.silentReset 8 0)

end Sys2Proof.Machine
end

