-- ==== Sys2Proof/Machine/FaultFamily.lean ====
section
/-! DEFINITION. The rubble dump's sequence, the packets of class 0x0C and footing mode (R434, R435, R439 to R441, R447 to R453). -/

namespace Sys2Proof.Machine

/-! ### The rubble dump (R434, R435) -/

/-- The sections as the dump copies them: the error log, and the backlog followed by the newest posted events (R439). -/
def State.dumpImage (h : DumpHeader) (faults : List (Nat × Nat)) (failed : List Nat) (s : State) : DumpImage :=
  { header := h, errors := s.events.errors, events := (s.events.backlog ++ s.events.posted).take 1024, faults := faults,
    failed := failed }

/-- Ports, ring and links fall silent: the bypass closes with no LEAVE (R58, R434). -/
def State.silence (s : State) : State :=
  let down (k : Link) : Link := if k.state = .disabled then k else { k with state := .training }
  let s := ({ s with head.joined := false } : State).setBypass true
  { s with net.lports := s.net.lports.map fun x => { x with up := false }, flash.links := s.flash.links.map down }

/-- The fatal event's dump begins (R434): EV_DUMP_START, PHASE 9, DUMP_STATUS.STATE 1, the data path frozen, the header written
with state 1. A drain or the power-down sequence ends unfinished (R435). -/
def State.startDump (f : FatalFault) (s : State) : State :=
  let running := s.power.drain != .none || s.power.pdown != .none
  let h := s.dumpHeader 1 5 4 f running
  let s := s.raise Ev.dumpStart (le 2 f.event ++ le 1 4 ++ le 1 (boolNat s.alone))
  let s := (s.setPower { s.power with drain := .none, pdown := .none }).silence
  let image := s.dumpImage h [] []
  let d := { s.dump with stage := .copying, state := 1, vaultSummary := false, size := 0, image := some image, wiped := false }
  { s with direct.phase := 9, dump := d }

/-- RUBBLE_DUMP (R434): a fault of class 4 waits for its dump. -/
def execRubbleDump (s : State) : Result :=
  match s.dump.fault with
  | some f => onlyIf (s.dump.stage == .none && !s.power.internalReset) s (s.startDump f)
  | none => .next s

/-- The header rewritten at the end of the copy (R434, R438): state 2, or 3 when a section failed; a second fault sets flags [2]
(R435). -/
def DumpHeader.ended (h : DumpHeader) (failed : List Nat) (second : Bool) (stamp : Nat) : DumpHeader :=
  { h with state := if failed.isEmpty then 2 else 3, endStamp := stamp,
           flags := if second && !bit h.flags 2 then h.flags + 4 else h.flags }

/-- DUMP_SECTIONS_COPIED (R434, R435): `faults` are the uncorrected lines by section, `failed` the sections that failed. -/
def execDumpSectionsCopied (faults : List (Nat × Nat)) (failed : List Nat) (s : State) : Result :=
  match s.dump.image with
  | some m =>
    let h := m.header.ended failed s.dump.second s.now
    let image := s.granted.dumpImage h faults failed
    onlyIf (s.dump.stage == .copying && !s.power.internalReset) s
      { s.granted with dump := { s.dump with stage := .copied, state := h.state, size := h.dumpSize, image := some image } }
  | none => .next s

/-- VAULT_SUMMARY_WRITTEN (R434, R440): the summary is written, DUMP_STATUS says so, and the fatal reset follows. -/
def execVaultSummaryWritten (s : State) : Result :=
  match s.dump.image with
  | some m =>
    let t := s.writeSummary { header := m.header, image := some m }
    let done := s.canErase && s.canProgram
    let t := { t with dump := { t.dump with vaultSummary := done } }
    onlyIf (s.dump.stage == .copied && !s.power.internalReset && !s.power.selfRefreshing) s t.beginReset
  | none => .next s

/-! ### Packets of class 0x0C (R453) -/

/-- The newest valid summary's fatal stamp, 0 when there is none. -/
def State.lastFatalStamp (s : State) : Nat :=
  ((s.validSummaries.filter fun x => x.header.seq == s.lastSeq).map fun x => x.header.fatalStamp).foldl max 0

/-- FAULT_STATUS (R453). -/
def execFaultStatus (op : PktOp) (s : State) : Result := packetRun 0x0C00 op s fun p s =>
  let f := s.footing
  let n3 := (s.events.errors.filter fun r => r.severity == 3).length
  let seq := (s.heldDump.map fun m => m.header.seq).getD 0
  s.reply p St.ok 0 (le 1 s.run.lastCause ++ le 1 (if f.active then f.cause else 0) ++ le 1 (boolNat f.active) ++ zeros 1 ++
    le 4 s.events.errors.length ++ le 2 n3 ++ zeros 2 ++ le 8 s.events.dropped ++ le 8 seq ++ le 1 s.dump.state ++
    le 1 s.validSummaries.length ++ le 1 s.recentFatal ++ zeros 5 ++ le 8 s.lastFatalStamp ++ zeros 16)

/-- ERROR_LOG_READ (R429, R453). -/
def execErrorLogRead (op : PktOp) (s : State) : Result := packetRun 0x0C01 op s fun p s =>
  let rs := (s.events.errors.drop (p.f 0 2)).take (p.f 2 2)
  s.reply p St.ok rs.length (rs.flatMap ErrorRecord.bytes)

/-- ERROR_LOG_CLEAR (R430, R453): EV_ERROR_LOG_HIGH may be raised again once fewer than 2,048 records are left. -/
def execErrorLogClear (op : PktOp) (s : State) : Result := packetRun 0x0C02 op s fun p s =>
  let rs := s.events.errors.filter fun r => decide (p.f 0 8 < r.lastStamp) || s.events.waits r
  let high := s.events.highRaised && decide (2048 ≤ rs.length)
  ({ s with events := { s.events with errors := rs, highRaised := high } } : State).replyOk p

/-- DUMP_CLEAR (R453): the header reads zero from now on; the sections stay in the region. -/
def execDumpClear (op : PktOp) (s : State) : Result := packetRun 0x0C03 op s fun p s =>
  match s.heldDump with
  | none => s.fail p St.dumpNone
  | some m =>
    if m.header.seq ≠ p.f 0 8 then s.fail p St.dumpSeq
    else
      let s := { s with dump := { s.dump with state := 0, vaultSummary := false, size := 0, wiped := true } }
      (s.raise Ev.dumpCleared (le 8 m.header.seq)).replyOk p

/-- An entry of DUMP_SUMMARY_LIST (R453). -/
def State.summaryEntry (s : State) (slot : Nat) : List Byte :=
  match s.vault.summaries.get? slot with
  | some x =>
    let h := x.header
    if x.valid then
      le 1 1 ++ le 1 h.state ++ le 1 h.cause ++ le 1 h.fatalClass ++ zeros 4 ++ le 8 h.seq ++ le 8 h.fatalStamp ++ le 2 h.fatalEvent ++
        zeros 6
    else zeros 32
  | none => zeros 32

/-- DUMP_SUMMARY_LIST (R453). -/
def execDumpSummaryList (op : PktOp) (s : State) : Result := packetRun 0x0C04 op s fun p s =>
  s.reply p St.ok 0 ((List.range 64).flatMap s.summaryEntry)

/-- FOOTING_ENTER (R447, R448): in footing mode already, nothing changes. -/
def execFootingEnter (op : PktOp) (s : State) : Result := packetRun 0x0C05 op s fun p s =>
  if p.f 0 1 ≠ 0xA5 then s.failField p St.invalidField 0 else (s.enterFooting 5).replyOk p

/-- FOOTING_EXIT may be accepted (R451). -/
def State.footingMayEnd (s : State) : Bool :=
  match s.footing.cause with
  | 1 => s.dump.state == 0
  | 6 => s.dump.state == 0
  | 2 => decide (s.stripe.lost.length + 1024 ≤ lostTableSize)
  | 5 => true
  | _ => false

/-- Footing mode ends (R451): its work resumes, hosts are told, PHASE 5. A head that left the ring stays out of it. -/
def State.leaveFooting (s : State) : State :=
  let cause := s.footing.cause
  let s := { s with footing := { startup := s.footing.startup, left := s.footing.left }, direct.phase := 5 }
  (s.allNsChanged.healthCheck).raise Ev.footingLeft (le 1 cause)

/-- FOOTING_EXIT (R451). -/
def execFootingExit (op : PktOp) (s : State) : Result := packetRun 0x0C06 op s fun p s =>
  if !s.footing.active then s.fail p St.notFooting
  else if !s.footingMayEnd then s.fail p St.footingHolds
  else s.leaveFooting.replyOk p

/-- FAULT_INJECT (R453): armed for the next access of its target. -/
def execFaultInject (op : PktOp) (s : State) : Result := packetRun 0x0C07 op s fun p s =>
  if s.bootRec.level ≠ 0 && s.power.bootMode ≠ 2 then s.fail p St.injectRefused
  else ({ s with run := { s.run with inject := some (p.f 0 1, p.f 1 1) } } : State).replyOk p

end Sys2Proof.Machine
end

