-- ==== Sys2Proof/Machine/FlashFamily.lean ====
section
/-! DEFINITION. The packets of class 0x08 (R325). -/

namespace Sys2Proof.Machine

/-- FLASH_CONFIG (R325). -/
def execFlashConfig (op : PktOp) (s : State) : Result := packetRun 0x0800 op s fun p s =>
  ({ s with flash.config :=
      { ewThreshold := p.f 0 2, scrubDays := p.f 2 2, readLimit := p.f 4 4, suspendRank := p.f 8 1, maxSuspends := p.f 9 1,
        minRunUs := p.f 0xA 2, detachMs := p.f 0xC 2 } }).replyOk p

/-- LINK_CONFIG (R292, R325): a change of plane or inversion only while DISABLED; plane 0 in Pair. -/
def execLinkConfig (op : PktOp) (s : State) : Result := packetRun 0x0801 op s fun p s =>
  let l := p.f 0 1
  let k := s.link l
  let on := p.f 1 1 == 1
  if !s.mesh && p.f 2 1 ≠ 0 then s.failField p St.invalidField 2
  else if k.state ≠ .disabled && (k.plane ≠ p.f 2 1 || k.invert ≠ p.f 3 1) then s.fail p St.linkState
  else
    let s := s.updLink l fun k => { k with enable := on, plane := p.f 2 1, invert := p.f 3 1 }
    let s := s.logRecord 8 l (le 1 (boolNat on) ++ le 1 (p.f 2 1) ++ le 1 (p.f 3 1))
    let s := if on && k.state = .disabled then s.train l
      else if !on && k.state ≠ .disabled then
        let s := if k.state = .up then
            (s.updLink l fun k => { k with downSince := s.tick }).raiseFrom (linkIsland l) Ev.plinthLinkDown (le 1 l ++ le 1 4) else s
        s.updLink l fun k => { k with state := .disabled }
      else s
    s.replyOk p

def LinkState.code : LinkState → Nat
  | .disabled => 0
  | .training => 1
  | .hello => 2
  | .up => 3

/-- LINK_STATUS (R325): the state's code is its place in R292 (log entry 22). -/
def execLinkStatus (op : PktOp) (s : State) : Result := packetRun 0x0802 op s fun p s =>
  let l := p.f 0 1
  let k := s.link l
  let env := match k.envelope with
    | some e => e.1 * 16 + e.2
    | none => 0
  let data := le 1 k.state.code ++ le 1 env ++ le 2 k.module ++ zeros 4 ++ le 8 k.session ++ k.counters.flatMap (le 8)
  let s := if p.f 1 1 = 1 then s.updLink l fun k => { k with counters := List.replicate 6 0 } else s
  s.reply p St.ok 0 data

def ModState.code : ModState → Nat
  | .detached => 0
  | .attached => 1
  | .retiring => 2

def failedDies (x : FModule) : Nat := x.dies.foldl (fun m d => if d.2.failed then m + 2 ^ d.1 else m) 0

/-- MODULE_QUERY (R325). -/
def execModuleQuery (op : PktOp) (s : State) : Result := packetRun 0x0803 op s fun p s =>
  let x := s.module (p.f 0 2)
  if !x.ever then s.fail p St.moduleUnknown
  else s.reply p St.ok 168 (fit 128 x.record ++ le 1 x.state.code ++ zeros 7 ++ le 32 (failedDies x))

/-- BLOCK_QUERY (R325): the records are read from the bridge now. -/
def execBlockQuery (op : PktOp) (s : State) : Result := packetRun 0x0804 op s fun p s =>
  let m := p.f 0 2
  let x := s.module m
  if !x.ever then s.fail p St.moduleUnknown
  else if !x.diePresent (p.f 2 1) then s.fail p St.dieUnknown
  else
    (s.await p).issue { id := 0, module := m, opcode := 11, die := p.f 2 1, addr := bgAddr m (p.f 2 1) (p.f 4 2),
                        count := p.f 6 2, use := .query p.acc }

/-- A signed level step as one byte. -/
def signedByte (v : Int) : List Byte := [BitVec.ofInt 8 v]

/-- READ_LEVEL_QUERY (R319, R325). -/
def execReadLevelQuery (op : PktOp) (s : State) : Result := packetRun 0x0805 op s fun p s =>
  let x := s.module (p.f 0 2)
  let d := x.die (p.f 2 1)
  let entry (e : ReadLevel) : List Byte := le 1 (boolNat e.valid) ++ le 1 e.band ++ fit 15 (e.offsets.flatMap signedByte) ++ [0]
  if !x.ever then s.fail p St.moduleUnknown
  else if !x.diePresent (p.f 2 1) then s.fail p St.dieUnknown
  else s.reply p St.ok 0 (d.levels.flatMap entry)

/-- SCHEDULE_STATUS (R325). -/
def execScheduleStatus (op : PktOp) (s : State) : Result := packetRun 0x0806 op s fun p s =>
  let m := p.f 0 2
  let x := s.module m
  let waiting := (s.flash.starts.filter fun y => y.module == m && y.deferred).length
  if !x.ever then s.fail p St.moduleUnknown
  else s.reply p St.ok 0 (le 1 (budgetOf (bodyOf s.flashBank kindTokens) m) ++ zeros 7 ++ le 8 x.admitted ++ le 4 waiting ++
    le 4 x.longest ++ le 8 x.refusals)

/-- FLASH_COUNTERS (R325). -/
def execFlashCounters (op : PktOp) (s : State) : Result := packetRun 0x0807 op s fun p s =>
  let data := fit 192 (s.flash.counters.flatMap (le 8))
  (if p.f 0 1 = 1 then { s with flash.counters := List.replicate 20 0 } else s).reply p St.ok 0 data

end Sys2Proof.Machine
end

