-- ==== Sys2Proof/Machine/HeadFamily.lean ====
section
/-! DEFINITION. The commands of the heads and the ring: configuration, peers, ring frames, ownership packets (R328, R329,
R339 to R346, R364). -/

namespace Sys2Proof.Machine

/-! ### Configuration and peers (R328, R329) -/

/-- HEAD_CONFIG (R328, R364). -/
def execHeadConfig (op : PktOp) (s : State) : Result := packetRun 0x0900 op s fun p s =>
  if s.head.configuration ≠ 0 then s.fail p St.headConfigured
  else
    let or (v d : Nat) : Nat := if v = 0 then d else v
    let delay := p.f 12 4
    let h : Head :=
      { s.head with configuration := p.f 0 1, headId := p.f 2 2, hbInterval := or (p.f 4 2) 1024, hbMisses := or (p.f 6 1) 8,
                    mirrorRetries := or (p.f 7 1) 3, ackTicks := or (p.f 8 4) 15625,
                    takeoverDelay := if delay = 0xFFFFFFFF then 4 else delay }
    ({ s with head := h }).replyOk p

/-- Every other packet of class 0x09 needs HEAD_CONFIG first (R328). -/
def State.configured (p : Packet) (f : State → State) (s : State) : State :=
  if s.head.configuration = 0 then s.fail p St.headNotConfigured else f s

/-- PEER_TABLE (R329, R364). -/
def execPeerTable (op : PktOp) (s : State) : Result := packetRun 0x0901 op s fun p s =>
  let n := p.f 0 1
  let b := p.buffer op
  let es := (List.range n).map fun i => slice b (48 * i) 48
  let ids := es.map fun e => fieldAt e 0 2
  let kept (h : Nat) : Bool := ids.contains h
  let live (h : Nat) : Bool := [0, 1, 2, 3].any fun l => (s.peerConn h l).isSome
  let entry (e : List Byte) : Nat × Peer :=
    let h := fieldAt e 0 2
    (h, { s.peer h with ip4 := [slice e 4 4, slice e 8 4], ip6 := [slice e 16 16, slice e 32 16] })
  if s.head.configuration = 1 && n ≠ 1 then s.failField p St.outOfRange 0
  else if ids.any (fun h => h = 0 || 16 < h) || ids.eraseDups.length ≠ n then s.fail p St.outOfRange
  else if ids.contains s.head.headId || s.head.peers.any (fun x => !kept x.1 && live x.1) then s.fail p St.peerUnknown
  else
    let t : Tab Peer := es.foldl (fun (t : Tab Peer) e => t.set (entry e).1 (entry e).2) []
    ({ s with head.peers := t }).replyOk p

/-- A mirror binding with a head exists in either direction (R329). -/
def State.bindingWith (s : State) (h : Nat) : Bool :=
  (s.mirror.peer == h && (s.mirror.bound || s.mirror.state != .none)) || (s.areaOf h).isSome

/-- PEER_CONNECT_RETRY (R105, R125, R329, R355): the lower head ID connects; the primary path lies on the plane (low + high)
mod 2. -/
def execPeerConnectRetry (head lane : Nat) (s : State) : Result :=
  let own := s.head.headId
  let plane := (own + head) % 2
  let up (n : Nat) : Bool := (s.lport (32 + n)).up
  let pl := if up plane then plane else 1 - plane
  let busy := s.net.conns.any fun c => c.2.use == .peer head lane && (c.2.state == .ready || c.2.state == .connecting)
  let x := s.peer head
  let v6 := ((x.ip4.getD pl []).all (· == 0))
  let ip := if v6 then x.ip6.getD pl [] else x.ip4.getD pl []
  let dscp := fieldAt (s.subRecord (32 + pl)) 0x22 1 % 64
  let ok := s.head.configuration != 0 && s.head.peers.has head && decide (own < head) && decide (lane < 4) && up pl && !busy &&
    decide (x.retryAt ≤ s.tick) && (lane == 0 || s.bindingWith head) && !(s.footing.active && !s.footing.readService)
  dataIf ok s (s.activeConnect (.peer head lane) (32 + pl) (some (33 - pl)) ip (lanePcp lane) dscp (le 1 lane))

/-! ### Joining and leaving (R344) -/

/-- RING_JOIN (R344, R354); a head that left the ring on entering footing mode joins only after a reset (R451). -/
def execRingJoin (op : PktOp) (s : State) : Result := packetRun 0x0902 op s fun p s => s.configured p (fun s =>
  if s.draining then s.fail p St.busy
  else if s.head.joined || s.footing.left then s.fail p St.ringState
  else
    let due := s.tick + s.head.hbInterval
    let s := if s.mayOpenBypass then s.setBypass false else s
    let s := { s with head.joined := true, head.ringSeq := 0, head.beatAt := due,
                      head.peers := s.head.peers.mapVals fun x => { x with asked := false } }
    let s := s.ringSend 2 (le 1 s.head.configuration)
    let s := s.raise Ev.ringJoined (le 2 s.head.headId)
    (s.askResync.tryBind).replyOk p)

/-- RING_LEAVE (R344). -/
def execRingLeave (op : PktOp) (s : State) : Result := packetRun 0x0903 op s fun p s => s.configured p (fun s =>
  if !s.head.joined then s.fail p St.ringState
  else if !s.ownedDomains.isEmpty then s.fail p St.domainState
  else s.leaveRing.replyOk p)

/-- HEARTBEAT_INTERVAL (R343, R344): one frame in each direction. -/
def execHeartbeatInterval (s : State) : Result :=
  let q := s.head.ringSeq
  let n := (s.head.beats + 1) % 2 ^ 32
  let st := if s.power.drain != .none || s.power.pdown != .none then 2 else 1
  let peer := if s.mirror.state = .live then s.mirror.peer else 0
  let body := fit 48 (le 1 st ++ zeros 1 ++ le 2 peer ++ le 4 n ++ le 32 (domainBits s.ownedDomains) ++ le 8 s.wp.wsn)
  let next := s.head.beatAt + s.head.hbInterval
  let t := { s with head.ringSeq := q + 2, head.beats := n, head.beatAt := next }
  dataIf (s.head.joined && decide (s.head.beatAt ≤ s.tick)) s
    (t.emitAll [.ring 0 1 s.head.headId 16 (q + 1) body, .ring 1 1 s.head.headId 16 (q + 2) body])

/-! ### Frames received (R341 to R346) -/

/-- Note the owners that a heartbeat's bitmap names, for domains of unknown owner. -/
def State.noteOwners (h owned : Nat) (s : State) : State :=
  (List.range 256).foldl (fun s d =>
    if bit owned d && (s.domain d).owner = 0 && (s.domain d).state = .none then
      s.updDomain d fun x => { x with owner := h, released := false }
    else s) s

/-- One expiry of a heartbeat wait: a miss, the next deadline, and what the misses now say (R345, R346). -/
def State.missBeat (h d : Nat) (s : State) : State :=
  let due := (s.peer h).deadline.getD d 0
  ((s.updPeer h fun p => { p with misses := p.misses.modify d fun m => min 255 (m + 1),
                                  deadline := p.deadline.set d (due + s.head.hbInterval) }).checkDirection d).checkFailed h

/-- The expiries of a heartbeat wait that came before a heartbeat of this tick (R31): the misses beyond those that fail the head
change nothing. -/
def State.missedBeats (h d : Nat) : Nat → State → State
  | 0, s => s
  | n + 1, s =>
    let p := s.peer h
    if p.state = 1 && s.expired (p.deadline.getD d 0) then (s.missBeat h d).missedBeats h d n else s

/-- A HEARTBEAT of an active head counts in its direction: no misses, the wait from this tick (R345). -/
def State.beatCounts (h d : Nat) (s : State) : State :=
  if (s.peer h).state ≠ 1 then s
  else
    let due := s.tick + 2 * s.head.hbInterval
    let s := s.updPeer h fun p => { p with misses := p.misses.set d 0, deadline := p.deadline.set d due, lastBeat := s.tick }
    { s with head.lostDir := if bit s.head.lostDir d then s.head.lostDir - 2 ^ d else s.head.lostDir, head.isolated := false }

/-- HEARTBEAT (R343, R345). A head first heard by its HEARTBEAT has both waits from that tick. -/
def execHeartbeat (frame : RingFrame) (s : State) : Result :=
  ringRun 1 frame s (fun s => (s.missedBeats frame.origin frame.direction 256).beatCounts frame.origin frame.direction) fun s =>
  let h := frame.origin
  let s := s.missedBeats h frame.direction 256
  let p := s.peer h
  if p.state = 2 || p.state = 3 then s
  else
    let b := frame.body
    let d := frame.direction
    let due := s.tick + 2 * s.head.hbInterval
    let owned := fieldAt b 8 32
    let high := fieldAt b 40 8
    let p := if p.state = 1 then p else { p with misses := [0, 0], deadline := [due, due] }
    let put (_ : Peer) : Peer :=
      { p with state := 1, owned := owned, highWsn := high, seenWsn := max p.seenWsn high, mirrorPeer := fieldAt b 2 2, claimed := [] }
    let s := (((s.updPeer h put).beatCounts h d).noteOwners h owned).askResync
    if s.mesh || s.mirror.retryAt = 0 then s.tryBind else s

/-- HEARTBEAT_MISS_EXPIRY (R345, R346). -/
def execHeartbeatMissExpiry (head direction : Nat) (s : State) : Result :=
  let p := s.peer head
  dataIf (s.head.joined && s.head.peers.has head && p.state == 1 && decide (direction < 2) && s.expired (p.deadline.getD direction 0)) s
    (s.missBeat head direction)

/-- JOIN (R343): its origin is an active head. -/
def execJoin (frame : RingFrame) (s : State) : Result := ringRun 2 frame s id fun s =>
  let h := frame.origin
  let due := s.tick + 2 * s.head.hbInterval
  let put (p : Peer) : Peer := { p with state := 1, misses := [0, 0], deadline := [due, due], owned := 0, claimed := [], mirrorPeer := 0 }
  let s := s.updPeer h put
  let forget (x : Domain) : Domain :=
    { x with intent := if x.intent = h then 0 else x.intent, owner := if x.owner = h then 0 else x.owner }
  let s := { s with domains := s.domains.mapVals forget, mirror.refused := s.mirror.refused.filter (· != h) }
  (s.raise Ev.headJoined (le 2 h)).askResync

/-- LEAVE (R344): left, or failed when its last heartbeat named a domain. -/
def execLeave (frame : RingFrame) (s : State) : Result := ringRun 3 frame s id fun s =>
  let h := frame.origin
  let p := s.peer h
  if p.state ≠ 1 then s
  else if p.owned ≠ 0 then s.declareFailed h 4
  else
    let forget (x : Domain) : Domain := if x.intent = h then { x with intent := 0 } else x
    (({ s with domains := s.domains.mapVals forget }).updPeer h fun p => { p with state := 3 }).peerGone h

/-- CLAIM_INTENT (R340, R343). -/
def execClaimIntent (frame : RingFrame) (s : State) : Result := ringRun 4 frame s id fun s =>
  s.updDomain (fieldAt frame.body 0 1) fun x => { x with intent := frame.origin }

/-- CLAIM_DONE (R338, R341): the epoch is known; a domain this head owns is taken from it, and one it has claimed and not yet taken up
when the claim is higher. -/
def execClaimDone (frame : RingFrame) (s : State) : Result := ringRun 5 frame s id fun s =>
  let d := fieldAt frame.body 0 1
  let c := fieldAt frame.body 8 8
  let h := frame.origin
  let won := (s.domain d).state == .acquiring && decide (0 < s.claimOf d) && decide (s.claimOf d < c)
  let s := if s.owns d || won then s.takeDomain d c else s
  let s := s.updDomain d fun x =>
    { x with epoch := max x.epoch (c / 65536), owner := h, released := false, intent := if x.intent = h then 0 else x.intent, lastClaim := c }
  s.updPeer h fun p => { p with claimed := if p.claimed.contains d then p.claimed else p.claimed ++ [d] }

/-- RELEASE (R338, R340). -/
def execRelease (frame : RingFrame) (s : State) : Result := ringRun 6 frame s id fun s =>
  let d := fieldAt frame.body 0 1
  let c := fieldAt frame.body 8 8
  let h := frame.origin
  let s := s.updDomain d fun x =>
    { x with epoch := max x.epoch (c / 65536), owner := if x.owner = h then 0 else x.owner, released := true,
             intent := if x.intent = h then 0 else x.intent, lastClaim := c }
  s.updPeer h fun p => { p with seenWsn := max p.seenWsn (fieldAt frame.body 16 8) }

/-- FAILED (R346). -/
def execFailed (frame : RingFrame) (s : State) : Result := ringRun 7 frame s id fun s =>
  let h := fieldAt frame.body 0 2
  if h = s.head.headId || !s.head.peers.has h then s else s.declareFailed h 2

/-! ### Ownership packets (R339, R340, R346, R364) -/

/-- DOMAIN_ACQUIRE (R339, R340, R449): DOMAIN_ASSIGN with action 1. -/
def execDomainAcquire (op : PktOp) (s : State) : Result := packetRun 0x0904 op s fun p s => s.configured p (fun s =>
  let d := p.f 0 1
  let x := s.domain d
  let act := s.activeHeads
  if p.f 1 1 ≠ 1 then s
  else if s.footing.active && !s.footing.readService then s.fail p St.footing
  else if x.state ≠ .none || (act.contains x.owner && !x.released) || act.contains x.intent then s.fail p St.domainState
  else (s.replyOk p).acquire d none)

/-- Fetched commands of a domain that have no completion yet (R146). -/
def State.domainBusy (s : State) (d : Nat) : Bool := s.nvme.cmds.any fun c => c.2.domain == d && decide (c.2.stage < 9)

/-- Records of a domain that have not been applied (R340 step 3). -/
def State.domainStaged (s : State) (d : Nat) : Bool := s.staged.any fun r => r.domain == d && !r.applied && !r.dropped

/-- Steps 5 and 6 of a release (R340). -/
def State.finishRelease (d : Nat) (s : State) : State :=
  let c := s.claimOf d
  let w := s.wp.wsn
  let s := s.ringSend 6 (le 1 d ++ zeros 7 ++ le 8 c ++ le 8 w)
  let s := (s.dropKeys d).closeSessions d
  let s := s.updDomain d fun x =>
    { x with state := .none, claim := 0, owner := 0, released := true, releaseAcc := none, checkpointing := false, lastClaim := c }
  let drop (r : Staged) : Staged := if r.domain = d then { r with dropped := true } else r
  let s := (((({ s with wp.log := s.wp.log.map drop }).setAna d 3).dropWaiting d).forgetDomain d).releaseStaging
  s.raise Ev.domainReleased (le 1 d ++ le 8 c ++ le 8 w)

/-- DOMAIN_RELEASE (R340): DOMAIN_ASSIGN with action 2. The packet is replied to at once; run again with its accept stamp,
the command takes the release on: once no command and no unapplied record is left the checkpoint, then RELEASE. -/
def execDomainRelease (op : PktOp) (s : State) : Result :=
  match s.domains.find? fun x => x.2.releaseAcc == some op.acc with
  | some (d, x) =>
    if x.state ≠ .releasing then .next (s.updDomain d fun x => { x with releaseAcc := none, checkpointing := false })
    else if s.domainBusy d then .next s
    else if s.domainStaged d then .next (s.closeDomain d (s.rankOf 11))
    else if !x.checkpointing then
      .next ((s.updDomain d fun x => { x with checkpointing := true }).updSdom d fun y => { y with checkpointWanted := true })
    else dataIf (!(s.sdom d).checkpointWanted) s (s.finishRelease d)
  | none => packetRun 0x0904 op s fun p s => s.configured p (fun s =>
      let d := p.f 0 1
      if p.f 1 1 ≠ 2 then s
      else if (s.domain d).state ≠ .owned then s.fail p St.domainState
      else
        let s := s.updDomain d fun x => { x with state := .releasing, releaseAcc := some p.acc, checkpointing := false }
        let s := (((s.setAna d 15).endFlushes d).closeDomain d (s.rankOf 11))
        s.replyOk p)

/-- Replay records of a domain that have still to be applied (R364). -/
def State.replayLeft (s : State) (d : Nat) : Nat :=
  (s.wp.log.filter fun r => r.domain == d && r.replayed && !r.applied && !r.dropped).length + (s.domain d).mirrorLeft

/-- DOMAIN_QUERY (R364). -/
def execDomainQuery (op : PktOp) (s : State) : Result := packetRun 0x0905 op s fun p s => s.configured p (fun s =>
  let d := p.f 0 1
  let x := s.domain d
  s.reply p St.ok 32 (le 1 d ++ le 1 x.state.code ++ le 2 x.owner ++ zeros 4 ++ le 8 x.claim ++
    le 8 (max x.highWsn (s.wp.applied.getD d 0)) ++ le 8 (s.replayLeft d)))

/-- HEAD_STATUS (R364). -/
def execHeadStatus (op : PktOp) (s : State) : Result := packetRun 0x0906 op s fun p s =>
  let m := s.mirror
  let st := match m.state with
    | .none => 0
    | .resilvering => 1
    | .live => 2
  let areas := (m.areas.filter fun a => a.bound.isSome).length
  let entry (x : Nat × Peer) : List Byte :=
    le 2 x.1 ++ le 1 x.2.state ++ le 1 (x.2.misses.getD 0 0) ++ le 1 (x.2.misses.getD 1 0) ++ zeros 3 ++ le 8 x.2.lastBeat
  s.reply p St.ok 288 (fit 288 (le 1 (boolNat s.head.joined) ++ le 1 s.head.lostDir ++ le 2 m.peer ++ le 1 st ++ le 1 areas ++ zeros 26 ++
    s.head.peers.flatMap entry))

/-- FAILOVER_FORCE (R346, R364). -/
def execFailoverForce (op : PktOp) (s : State) : Result := packetRun 0x0907 op s fun p s => s.configured p (fun s =>
  let h := p.f 0 2
  if h = s.head.headId || !s.head.peers.has h then s.fail p St.peerUnknown
  else (s.declareFailed h 3).replyOk p)

end Sys2Proof.Machine
end

