-- ==== Sys2Proof/Machine/KeyFamily.lean ====
section
/-! DEFINITION. The commands of the key slots and the cipher engine (R199 to R212). -/

namespace Sys2Proof.Machine

/-- The statuses of KEY_LOAD before the key is read (R200, R201, R212, R213). -/
def State.keyLoadRefusal (s : State) (p : Packet) : Option (Nat × Nat) :=
  let wrapped := p.f 1 1 == 1
  let kind := p.f 3 1
  if s.noCipher && (wrapped || decide (kind ≤ 3)) then some (St.cipherAbsent, 0)
  else if 0 < (s.keySlot (p.f 0 1)).nsRefs then some (St.keyInUse, 0)
  else if !wrapped && bit s.keys.policy 0 then some (St.clearLoadLocked, 0)
  else none

/-- KEY_LOAD (R199 to R202). -/
def execKeyLoad (op : PktOp) (s : State) : Result := packetRun 0x0510 op s fun p s =>
  match s.keyLoadRefusal p with
  | some (st, res) => s.reply p st res []
  | none =>
    let k := p.f 0 1
    let kind := p.f 3 1
    let attr := p.f 4 1
    let len := p.f 5 1
    let rec_ := p.buffer op
    if p.f 1 1 = 0 then (s.placeKey k kind attr 1 1 (slice rec_ 0 len)).replyOk p
    else
      let kek := s.keySlot (p.f 2 1)
      let aad := slice rec_ 0 0x20
      let iv := slice rec_ 8 12
      let cipher := slice rec_ 0x20 len
      if fieldAt rec_ 0 1 ≠ 1 || fieldAt rec_ 1 1 ≠ kind || fieldAt rec_ 2 1 ≠ attr || fieldAt rec_ 3 1 ≠ len then
        s.fail p St.invalidField
      else if kek.kind ≠ 3 then s.fail p St.keyUsage
      else if fit 16 (gcmTag kek.key iv aad cipher) ≠ slice rec_ (0x20 + len) 16 then s.fail p St.keyUnwrap
      else (s.placeKey k kind attr 2 1 (fit len (gcmDec kek.key iv cipher))).replyOk p

/-- KEY_GENERATE (R204). -/
def execKeyGenerate (op : PktOp) (s : State) : Result := packetRun 0x0511 op s fun p s =>
  let k := p.f 0 1
  let kind := p.f 1 1
  let len := p.f 3 1
  if s.noCipher && decide (kind ≤ 3) then s.fail p St.cipherAbsent
  else if 0 < (s.keySlot k).nsRefs then s.fail p St.keyInUse
  else if s.keys.entropyFailed then s.fail p St.entropy
  else ((s.placeKey k kind (p.f 2 1) 3 2 (s.random len)).freed).replyOk p

/-- KEY_DERIVE (R205). -/
def execKeyDerive (op : PktOp) (s : State) : Result := packetRun 0x0512 op s fun p s =>
  let k := p.f 0 1
  let kind := p.f 1 1
  let len := p.f 3 1
  let root := p.f 4 1 == 0xFE
  let kdk := s.keySlot (p.f 4 1)
  if s.noCipher && decide (kind ≤ 3) then s.fail p St.cipherAbsent
  else if 0 < (s.keySlot k).nsRefs then s.fail p St.keyInUse
  else if !root && kdk.kind != 6 then s.fail p St.keyUsage
  else
    let key := fit len (kdf (if root then Config.rootKey else kdk.key) (p.bytes 8 (p.f 5 1))
      (if root then Config.serial else []) len)
    (s.placeKey k kind (p.f 2 1) 4 3 key).replyOk p

/-- The 32 bytes of additional data of a wrapped record (R202). -/
def wrapHeader (kind attr len : Nat) (iv : List Byte) : List Byte :=
  le 1 1 ++ le 1 kind ++ le 1 attr ++ le 1 len ++ zeros 4 ++ fit 12 iv ++ zeros 12

/-- KEY_EXPORT (R203). -/
def execKeyExport (op : PktOp) (s : State) : Result := packetRun 0x0513 op s fun p s =>
  let v := s.keySlot (p.f 0 1)
  let kek := s.keySlot (p.f 1 1)
  if s.noCipher then s.fail p St.cipherAbsent
  else if bit s.keys.policy 1 then s.fail p St.clearLoadLocked
  else if v.kind = 0 || !bit v.attributes 0 || kek.kind != 3 then s.fail p St.keyUsage
  else if p.dataLen < 48 + v.key.length then s.fail p St.dataLength
  else match s.formIv (p.f 1 1) with
  | none => s.fail p St.ivExhausted
  | some iv =>
    let aad := wrapHeader v.kind v.attributes v.key.length iv
    let cipher := fit v.key.length (gcmEnc kek.key iv v.key)
    let rec_ := aad ++ cipher ++ fit 16 (gcmTag kek.key iv aad cipher)
    (s.countIv (p.f 1 1)).reply p St.ok 0 rec_

/-- KEY_DESTROY (R199, R200). -/
def execKeyDestroy (op : PktOp) (s : State) : Result := packetRun 0x0514 op s fun p s =>
  let k := p.f 0 1
  if 0 < (s.keySlot k).nsRefs then s.fail p St.keyInUse else (s.emptyKey k).replyOk p

/-- KEY_QUERY (R206, R213). -/
def execKeyQuery (op : PktOp) (s : State) : Result := packetRun 0x0515 op s fun p s =>
  let v := s.keySlot (p.f 0 1)
  s.reply p St.ok 0
    (le 1 v.kind ++ le 1 v.attributes ++ le 1 v.origin ++ le 1 v.key.length ++ le 4 v.nsRefs ++ le 4 v.gen ++
      le 2 v.loadCount ++ zeros 2 ++ checkValue v.key ++ le 8 v.changed)

/-- KEY_POLICY (R201): bits are set, never cleared. -/
def execKeyPolicy (op : PktOp) (s : State) : Result := packetRun 0x0516 op s fun p s =>
  ({ s with keys.policy := s.keys.policy ||| p.f 0 1 }).replyOk p

/-- The next multiple of 8 at or after `n`. -/
def align8 (n : Nat) : Nat := (n + 7) / 8 * 8

/-- GCM_JOB (R210, R211). -/
def execGcmJob (op : PktOp) (s : State) : Result := packetRun 0x0520 op s fun p s =>
  let k := p.f 0 1
  let v := s.keySlot k
  let enc := p.f 1 1 == 0
  let aadLen := p.f 4 4
  let textLen := p.f 8 4
  let outOff := align8 (aadLen + textLen) + (if enc then 0 else 16)
  let outLen := textLen + (if enc then 28 else 0)
  let buf := p.buffer op
  let aad := slice buf 0 aadLen
  let text := slice buf aadLen textLen
  if s.noCipher then s.fail p St.cipherAbsent
  else if v.kind ≠ 2 then s.fail p St.keyUsage
  else if p.dataLen < outOff + outLen then s.fail p St.dataLength
  else if enc then
    match (if p.f 2 1 = 1 then some (p.bytes 16 12) else s.formIv k) with
    | none => s.fail p St.ivExhausted
    | some iv =>
      let cipher := fit textLen (gcmEnc v.key iv text)
      let s := if p.f 2 1 = 1 then s else s.countIv k
      s.replyAt p St.ok outLen outOff (cipher ++ fit 16 (gcmTag v.key iv aad cipher) ++ iv)
  else
    let iv := p.bytes 16 12
    if fit 16 (gcmTag v.key iv aad text) ≠ slice buf (aadLen + textLen) 16 then s.fail p St.gcmTag
    else s.replyAt p St.ok outLen outOff (fit textLen (gcmDec v.key iv text))

/-- ENTROPY_TEST_FAIL (R204): `test` is 1 repetition count, 2 adaptive proportion. -/
def execEntropyTestFail (test : Nat) (s : State) : Result :=
  dataIf (test == 1 || test == 2) s
    (({ s with keys.entropyFailed := true }).raiseFrom 17 Ev.entropyFault (le 1 test))

/-- ENTROPY_TEST_PASS (R204). -/
def execEntropyTestPass (s : State) : Result := .next { s with keys.entropyFailed := false }

end Sys2Proof.Machine
end

