-- ==== Sys2Proof/Machine/MapFamily.lean ====
section
/-! DEFINITION. The packets of class 0x06 (R230 to R234, R246 to R248). -/

namespace Sys2Proof.Machine

/-- MAP_CONFIG (R248). -/
def execMapConfig (op : PktOp) (s : State) : Result := packetRun 0x0600 op s fun p s =>
  ({ s with map.mergeAge := p.f 0 4, map.writebackAge := p.f 4 2 }).replyOk p

/-- The namespace of a layer packet, owned by this head. -/
def State.onNs (p : Packet) (f : Nat → Namespace → State → State) (s : State) : State :=
  match s.ns? (p.f 0 4) with
  | none => s.fail p St.nsUnknown
  | some n => s.ownerOnly p n.domain (f (p.f 0 4) n)

/-- Place a layer record of a packet at the staging log head; with a new layer its ID is taken now (R216, R226). The stripes
that hold earlier records of the namespace are closed at once (R230). -/
def State.stageLayer (p : Packet) (nsid op target : Nat) (n : Namespace) (s : State) : State :=
  let id := (s.mdom n.domain).nextLayer
  let s := s.updMdom n.domain fun m => { m with nextLayer := m.nextLayer + 1 }
  let s := (s.await p).closeStream n.domain 0 (s.classRank n.cls 2)
  s.stageMap n.domain nsid (s.rankOf 13) [{ ashlar := id, op := op, target := target }] (some p.acc)

/-- SNAP_CREATE (R230). -/
def execSnapCreate (op : PktOp) (s : State) : Result := packetRun 0x0601 op s fun p s =>
  s.onNs p (fun nsid n s =>
    if layerLimit ≤ s.layersToCome then s.fail p St.limitExceeded
    else s.stageLayer p nsid 9 n.layer n) 

/-- A LAYER_DELETE of a layer is staged and not applied. -/
def State.deleteStaged (s : State) (d id : Nat) : Bool :=
  s.staged.any fun r => !r.applied && !r.dropped && r.domain == d && r.deltas.any fun x => x.op == 11 && x.target == id

/-- SNAP_DELETE (R234). -/
def execSnapDelete (op : PktOp) (s : State) : Result := packetRun 0x0602 op s fun p s =>
  let d := p.f 0 1
  let id := p.f 4 4
  s.ownerOnly p d (fun s =>
    match s.layer? d id with
    | none => s.fail p St.layerUnknown
    | some l =>
      if l.kind = 1 then s.fail p St.layerKind
      else if l.kind = 3 || bit l.flags 1 || s.deleteStaged d id then s.fail p St.layerBusy
      else (s.await p).stageMap d 0 (s.rankOf 13) [{ ashlar := 0, op := 11, target := id }] (some p.acc))

/-- A head layer holds no entry of type 1, 2 or 4, in the map or in staging (R231). -/
def State.layerEmpty (s : State) (nsid : Nat) (l : Layer) : Bool :=
  let bare (q : Nat) : Bool := match s.page? q with
    | none => true
    | some x =>
      let b := x.body.getD []
      if x.kind = 1 then (List.range 256).all fun i => let t := fieldAt (rawEntry b i) 9 1 % 8; t == 0 || t == 3
      else if x.kind = 2 then (List.range 256).all fun i => fieldAt (rawEntry b i) 9 1 % 8 == 0
      else true
  (s.layerPages l).all bare &&
    !(s.staged.any fun r => !r.applied && !r.dropped && r.nsid == nsid && r.deltas.any fun d => decide (d.op ≤ 5) || d.op == 7)

/-- CLONE_ATTACH (R231). -/
def execCloneAttach (op : PktOp) (s : State) : Result := packetRun 0x0603 op s fun p s =>
  s.onNs p (fun nsid n s =>
    match s.layer? n.domain (p.f 4 4), s.layer? n.domain n.layer with
    | none, _ => s.fail p St.layerUnknown
    | some y, head =>
      let l := head.getD { kind := 1, levels := 1, nsid := nsid, createStamp := 0, nsze := 0 }
      let absent := if l.root = 0 then [] else s.absentPages 7 l.root
      if y.kind ≠ 2 then s.fail p St.layerKind
      else if y.lbaf ≠ n.lbaf || y.keySlot ≠ n.keySlot || n.nsze < y.nsze then s.fail p St.cloneMismatch
      else if !absent.isEmpty then s.fetchPages absent (s.rankOf 13)
      else if !s.layerEmpty nsid l then s.fail p St.cloneMismatch
      else if layerLimit ≤ s.layersToCome then s.fail p St.limitExceeded
      else s.stageLayer p nsid 10 (p.f 4 4) n) 

/-- SNAP_ROLLBACK (R232). -/
def execSnapRollback (op : PktOp) (s : State) : Result := packetRun 0x0604 op s fun p s =>
  s.onNs p (fun nsid n s =>
    match s.layer? n.domain (p.f 4 4) with
    | none => s.fail p St.layerUnknown
    | some y =>
      if y.kind ≠ 2 || y.nsid ≠ nsid then s.fail p St.layerKind
      else s.stageLayer p nsid 15 (p.f 4 4) n)

/-- LAYER_QUERY (R248). -/
def execLayerQuery (op : PktOp) (s : State) : Result := packetRun 0x0605 op s fun p s =>
  let d := p.f 0 1
  match s.layer? d (p.f 4 4) with
  | none => s.fail p St.layerUnknown
  | some l =>
    let absent := if l.root = 0 then [] else s.absentPages 7 l.root
    if !absent.isEmpty then s.fetchPages absent (s.rankOf 13)
    else s.reply p St.ok 0 (l.record (p.f 4 4) ++ le 8 (s.layerUsed l) ++ le 8 (s.layerPages l).length)

/-- LAYER_LIST (R248). -/
def execLayerList (op : PktOp) (s : State) : Result := packetRun 0x0606 op s fun p s =>
  let d := p.f 0 1
  let ls := (s.map.layers.filter fun l => l.1 / 2 ^ 32 == d && decide (p.f 4 4 ≤ l.1 % 2 ^ 32)).take (p.dataLen / 64)
  s.reply p St.ok ls.length (ls.flatMap fun l => l.2.record (l.1 % 2 ^ 32))

/-- MPNs of an ashlar's path, from the root down to its leaf (log entry 45). -/
def State.pathPages (s : State) (a : Nat) : Nat → Nat → List Nat
  | 0, p => [p]
  | k + 1, p => p :: (if p = 0 then [] else s.pathPages a k (childOf ((s.pageBody p).getD []) (a / 256 ^ (k + 1) % 256)))

/-- MAP_LOOKUP (R248): no staging check. -/
def execMapLookup (op : PktOp) (s : State) : Result := packetRun 0x0607 op s fun p s =>
  let d := p.f 0 1
  let a := p.f 8 8
  match s.layer? d (p.f 4 4) with
  | none => s.fail p St.layerUnknown
  | some l =>
    let s := s.touchPath d (p.f 4 4) a 0 (s.rankOf 13)
    let needs := s.leafNeeds l a
    if !needs.isEmpty then s.fetchPages needs (s.rankOf 13)
    else
      let path := if 256 ^ l.levels ≤ a then [] else s.pathPages a (l.levels - 1) l.root
      let leaf := s.leafOf l a
      let e := if leaf = 0 then zeros 16 else rawEntry ((s.pageBody leaf).getD []) (a % 256)
      let table := if fieldAt e 9 1 % 8 = 3 then slice ((s.pageBody (splitPage e)).getD []) (256 * splitSlot e) 256 else zeros 256
      s.reply p St.ok 0 (fit 40 (path.flatMap (le 8)) ++ e ++ table)

/-- MAP_CHECK (R247). -/
def execMapCheck (op : PktOp) (s : State) : Result := packetRun 0x0608 op s fun p s =>
  let d := p.f 0 1
  s.ownerOnly p d (fun s =>
    if (s.mdom d).checking.isSome then s.fail p St.checkRunning
    else ((s.updMdom d fun x => { x with checking := some (bit (p.f 1 1) 0) }).startJob 0x27 (s.rankOf 17) s.map.pages.length).replyOk p)

/-- MAP_STATUS (R248). -/
def execMapStatus (op : PktOp) (s : State) : Result := packetRun 0x0609 op s fun p s =>
  let count (f : Page → Bool) : Nat := (s.map.pages.filter fun x => f x.2).length
  let ways (f : CacheWay → Bool) : Nat := (s.map.sets.map fun x => (x.2.filter f).length).sum
  s.reply p St.ok 0 (le 8 s.map.area ++ le 8 s.pageCapacity ++ le 8 s.map.pages.length ++ le 8 s.map.reservedEntries ++
    le 8 (count fun x => x.body.isSome) ++ le 8 (count fun x => x.dirty.isSome) ++ le 8 (count fun x => decide (0 < x.pins)) ++
    le 8 (count fun x => decide (3 ≤ x.kind) && decide (x.kind ≤ 6)) ++ le 8 s.layerLoad ++ le 8 (ways fun w => w.valid != 0) ++
    le 8 (ways fun w => w.disabled) ++ le 8 s.map.spoil.length)

/-- MAP_COUNTERS (R248). -/
def execMapCounters (op : PktOp) (s : State) : Result := packetRun 0x060A op s fun p s =>
  let data := fit 96 (s.map.counters.flatMap (le 8))
  (if p.f 0 1 = 1 then { s with map.counters := List.replicate 12 0 } else s).reply p St.ok 0 data

/-- ASHLAR_RECHECK (R246). -/
def execAshlarRecheck (op : PktOp) (s : State) : Result := packetRun 0x060B op s fun p s =>
  s.onNs p (fun nsid n s =>
    if ashlarCount n.nsze n.lbaf ≤ p.f 8 8 then s.failField p St.outOfRange 8
    else (s.queueRecheck nsid (p.f 8 8)).replyOk p)

end Sys2Proof.Machine
end

