-- ==== Sys2Proof/Machine/MirrorFamily.lean ====
section
/-! DEFINITION. Mirroring to the peer and for other heads, resynchronisation, and the takeover of a failed head's domains (R331
to R337, R348 to R354). -/

namespace Sys2Proof.Machine

/-! ### As mirror peer (R331, R333, R335) -/

/-- Answer a message with MIRROR_ACK on its own connection (R333). -/
def State.mirrorAck (h lane : Nat) (m : PeerMsg) (status : Nat) (s : State) : State :=
  (s.sendMessage h lane 2 m.wsn (le 8 m.seq ++ le 1 status ++ zeros 7)).2

/-- Free the units of an area from the tail last reported up to the sender's tail, past the end of the log where it has
wrapped (R335). -/
def State.freeTail (i tailUnit tailWsn : Nat) (s : State) : State :=
  s.updArea i fun a =>
    let old := a.tailUnit
    let freed (u : Nat) : Bool :=
      if old ≤ tailUnit then decide (old ≤ u) && decide (u < tailUnit) else decide (old ≤ u) || decide (u < tailUnit)
    { a with records := a.records.keep fun _ r => !freed r.1, mem := a.mem.keep fun u _ => !freed u, tailUnit := tailUnit,
             tailWsn := tailWsn }

/-- MIRROR_NOTE (R333). -/
def execMirrorNote (conn : Nat) (s : State) : Result := peerRun conn 1 s fun h lane m s =>
  match s.areaOf h with
  | none => s.mirrorAck h lane m 2
  | some i =>
    if (s.area i).records.has m.wsn then s.mirrorAck h lane m 0
    else
      let unit := fieldAt m.body 0 4
      let units := fieldAt m.body 4 4
      let b := s.readRegion i (256 * unit) (256 * units)
      let good := fieldAt b 8 8 = m.wsn && fieldAt b 4 4 = units && fieldAt m.body 8 4 = (crc32c b).toNat
      let s := if good then
          (s.updArea i fun a => { a with records := a.records.set m.wsn (unit, units, fieldAt m.body 12 1) }).updPeer h
            fun p => { p with seenWsn := max p.seenWsn m.wsn }
        else s
      (s.freeTail i (fieldAt m.body 16 4) (fieldAt m.body 24 8)).mirrorAck h lane m (if good then 0 else 1)

/-- Bytes an area's journal mirror holds. -/
def Area.journalBytes (a : Area) : Nat := (a.journal.map fun x => (x.2.map fun f => 64 * f.2.length).sum).sum

/-- JOURNAL_MIRROR (R333, R335): records of a domain before its newest mirrored CHECKPOINT are discarded. -/
def execJournalMirror (conn : Nat) (s : State) : Result := peerRun conn 3 s fun h lane m s =>
  match s.areaOf h with
  | none => s.mirrorAck h lane m 2
  | some i =>
    let a := s.area i
    let d := fieldAt m.body 0 1
    let n := fieldAt m.body 1 1
    let q := fieldAt m.body 8 8
    let rs := (List.range n).map fun k => slice m.body (16 + 64 * k) 64
    let old := a.journal.getD d []
    if old.any fun f => f.1 == q then s.mirrorAck h lane m 0
    else if s.wp.logUnits * 64 < a.journalBytes + 64 * n then s.mirrorAck h lane m 3
    else
      let marks := (rs.filterMap parseRecord).filterMap fun r => match r.body with
        | .checkpoint _ _ fs => some fs
        | _ => none
      let low := marks.foldl max 0
      let new := (old ++ [(q, rs)]).filter fun f => decide (low ≤ f.1)
      (s.updArea i fun a => { a with journal := a.journal.set d new }).mirrorAck h lane m 0

/-- PROGRESS_MIRROR (R154, R333). -/
def execProgressMirror (conn : Nat) (s : State) : Result := peerRun conn 4 s fun h lane m s =>
  if (s.areaOf h).isNone then s.mirrorAck h lane m 2
  else
    let k := fieldAt m.body 0 1 * 2 ^ 32 + fieldAt m.body 4 4
    ({ s with mirror.progress := s.mirror.progress.set k (fit 64 m.body) }).mirrorAck h lane m 0

/-- TAIL (R335). -/
def execTail (conn : Nat) (s : State) : Result := peerRun conn 5 s fun h _ m s =>
  match s.areaOf h with
  | none => s
  | some i => s.freeTail i (fieldAt m.body 0 4) m.wsn

/-- The stamps of the last second. -/
def recentStamps (now : Nat) (l : List Nat) : List Nat := l.filter fun t => decide (now < t + 1000000000)

/-- The lowest FREE area whose region would not take a generation value that it has had within 1 s (R119, R331). -/
def State.freeArea? (s : State) : Option Nat :=
  (List.range s.mirror.areas.length).find? fun i =>
    (s.mirror.areas.getD i {}).bound.isNone && decide ((recentStamps s.now (s.net.regions.getD i {}).reused).length < 255)

/-- MIRROR_BIND (R331): the lowest FREE area; a sender that has one already is bound anew, unless its takeover runs. -/
def execMirrorBind (conn : Nat) (s : State) : Result := peerRun conn 6 s fun h _ m s =>
  let answer (status key va : Nat) (s : State) : State := (s.sendMessage h 0 7 0 (le 1 status ++ zeros 3 ++ le 4 key ++ le 8 va)).2
  let s := match s.areaOf h with
    | some i => if s.takingOver h then s else s.freeArea i
    | none => s
  let units := fieldAt m.body 4 4
  if fieldAt m.body 0 1 ≠ 1 then answer 0 0 0 s
  else match s.freeArea? with
  | none => answer 2 0 0 s
  | some i =>
    let old := s.net.regions.getD i {}
    if s.wp.logUnits < units then answer 4 0 0 s
    else
      let g := (old.gen + 1) % 256
      let recent := s.now :: recentStamps s.now old.reused
      let r : Region :=
        { live := true, gen := g, base := i * 2 ^ 40, len := 256 * units, canWrite := true, domain := 1 + h, reused := recent }
      let s := { s with net.regions := s.net.regions.set i r }
      answer 0 (256 * i + g) (i * 2 ^ 40) (s.updArea i fun _ => { bound := some h, units := units })

/-- RESYNC_QUERY (R354): the area of the asker is freed once its replay has ended; the highest WSN seen is reported. -/
def execResyncQuery (conn : Nat) (s : State) : Result := peerRun conn 8 s fun h _ _ s =>
  let s := match s.areaOf h with
    | some i => if s.takingOver h then s else s.freeArea i
    | none => s
  let p := s.peer h
  (s.sendMessage h 0 9 (max p.seenWsn p.highWsn) (le 1 (boolNat (s.areaOf h).isSome) ++ zeros 7)).2

/-! ### As owner (R334, R335, R337, R354) -/

/-- A settled message. -/
def State.mirrorHeld (w : MirrorMsg) (s : State) : State :=
  let s := { s with mirror.waits := s.mirror.waits.filter fun x => x != w }
  match w.what with
  | .record n =>
    let s := { s with mirror.resilver := s.mirror.resilver.filter (· != n) }
    ((s.updRecord n fun r => { r with unmirrored := false }).settleWrites.releaseStaging).settleSync
  | .journal d q =>
    let s := { s with mirror.resilverJournal := s.mirror.resilverJournal.filter fun x => x != (d, q) }
    let clear (f : JFrame) : JFrame := if f.seq = q then { f with unmirrored := [] } else f
    (s.updJournal d fun j => { j with flight := j.flight.map clear }).makeDurable d (s.journal d).flight.length
  | .progress _ => s

/-- A rank of the work a lane carries (R329). -/
def laneRank (lane : Nat) : Nat := [3, 0, 2, 6].getD lane 3

/-- Send the content of a message again, on the connection it went over. -/
def State.mirrorAgain (w : MirrorMsg) (sends : Nat) (s : State) : State :=
  let s := { s with mirror.waits := s.mirror.waits.filter fun x => x != w }
  let n := s.mirror.waits.length
  let s := match w.what with
    | .record q => match s.record? q with
      | some r => s.mirrorRecord { r with rank := laneRank w.lane }
      | none => s
    | .journal d q => match ((s.journal d).kept ++ (s.journal d).flight).find? fun (f : JFrame) => f.seq == q with
      | some f => s.mirrorJournal d (laneRank w.lane) f
      | none => { s with mirror.resilverJournal := s.mirror.resilverJournal.filter fun x => x != (d, q) }
    | .progress k => match s.nvme.erases.get? k with
      | some e => s.mirrorProgress k e
      | none => s
  let old := s.mirror.waits.take n
  let new := (s.mirror.waits.drop n).map fun (x : MirrorMsg) => { x with sends := sends }
  { s with mirror.waits := old ++ new }

/-- A send has failed: again, or after mirror_retries failed sends the peer is lost (R334). -/
def State.mirrorFailed (w : MirrorMsg) (s : State) : State :=
  if s.head.mirrorRetries ≤ w.sends then s.loseMirror 1 else s.mirrorAgain w (w.sends + 1)

/-- The owned domain with the largest journal window. -/
def State.widestJournal (s : State) : Option Nat :=
  s.ownedDomains.foldl (fun (best : Option Nat) d => match best with
    | none => some d
    | some b => if (s.journal b).window < (s.journal d).window then some d else some b) none

/-- MIRROR_ACK (R334): one that comes when nothing of its seq waits is ignored. One that comes after
its deadline tick finds the record sent again under another seq, or the peer lost, first, and is then such a one (R31). -/
def execMirrorAck (conn : Nat) (s : State) : Result := peerRun conn 2 s fun h lane m s =>
  let q := fieldAt m.body 0 8
  let st := fieldAt m.body 8 1
  if (s.mirror.state = .none) || s.mirror.peer ≠ h then s
  else match s.mirror.waits.find? fun w => w.seq == q && w.lane == lane with
  | none => s
  | some w =>
    if s.expired w.deadline then s.mirrorFailed w
    else if st = 0 then s.mirrorHeld w
    else if st = 1 then s.mirrorFailed w
    else if st = 3 then
      let s := match s.widestJournal with
        | some d => s.updSdom d fun x => { x with checkpointWanted := true }
        | none => s
      s.mirrorAgain w w.sends
    else s.loseMirror 1

/-- MIRROR_ACK_EXPIRY (R31, R334). -/
def execMirrorAckExpiry (lane seq : Nat) (s : State) : Result :=
  match s.mirror.waits.find? fun w => w.seq == seq && w.lane == lane with
  | none => .next s
  | some w => dataIf (s.expired w.deadline) s (s.mirrorFailed w)

/-- TAIL_INTERVAL (R335): 10 ms after the last report, the tail having moved. -/
def execTailInterval (s : State) : Result :=
  let u := s.tailUnit
  let x := s.sendMessage s.mirror.peer 0 5 s.tailWsn (le 4 u ++ zeros 4)
  let t := { x.2 with mirror.tailSent := u, mirror.tailTick := s.tick }
  dataIf (s.mirror.state != .none && u != s.mirror.tailSent && decide (s.mirror.tailTick + ticksOf 10000000 ≤ s.tick)) s t

/-- BIND_REPLY (R331, R337): bound, re-silvering starts once the mirror connections are READY; refused, the next candidate is
tried. -/
def execBindReply (conn : Nat) (s : State) : Result := peerRun conn 7 s fun h _ m s =>
  if s.mirror.candidate ≠ some h then s
  else if fieldAt m.body 0 1 = 0 then
    let mir : Mirror := { s.mirror with candidate := none, refused := [], bound := true, peer := h, key := fieldAt m.body 4 4,
                                        va := fieldAt m.body 8 8, lostRaised := false }
    let s := { s with mirror := mir }
    if s.lanesReady h then s.startResilver else s
  else ({ s with mirror.candidate := none, mirror.refused := s.mirror.refused ++ [h] }).tryBind

/-- MIRROR_BIND_RETRY (R337): every 1 s in Pair, while the partner is active; a refusal is asked again. -/
def execMirrorBindRetry (s : State) : Result :=
  let due := s.tick + ticksOf 1000000000
  let t := ({ s with mirror.retryAt := due, mirror.refused := [] }).tryBind
  dataIf (!s.mesh && s.mirror.state == .none && !s.mirror.bound && s.mirror.candidate.isNone && decide (s.mirror.retryAt ≤ s.tick) &&
    !s.activeHeads.isEmpty) s t

/-- RESILVER_COMPLETE (R16, R337): the bound peer's re-silvering starts when its connections have become READY; once nothing of
it is left to acknowledge the peer is live, and writes fetched before stay at step 12. -/
def execResilverComplete (s : State) : Result :=
  let m := s.mirror
  let late (c : Cmd) : Cmd := if c.writes then { c with late := true } else c
  let live := ({ s with mirror.state := .live, nvme.cmds := s.nvme.cmds.mapVals late }).raise Ev.mirrorLive (le 2 m.peer ++ le 8 m.resilvered)
  if m.bound && m.state == .none then dataIf (s.lanesReady m.peer) s s.startResilver
  else dataIf (m.state == .resilvering && m.resilver.isEmpty && m.resilverJournal.isEmpty) s live

/-- RESYNC_REPLY (R28, R354): WSNs go on above what was seen; a reset has put them at the newest wsn_ceiling. -/
def execResyncReply (conn : Nat) (s : State) : Result := peerRun conn 9 s fun _ _ m s =>
  let top := max ((s.mirror.resync).getD 0) m.wsn
  let next := max s.wp.wsn m.wsn
  ({ s with mirror.resync := some top, wp.wsn := next }).ceilingCheck.tryBind

/-! ### Takeover (R348 to R353) -/

/-- TAKEOVER_DELAY_EXPIRY (R348): the claims held are probed at the lowest-numbered attached module; with nothing to probe the
acquisitions start. -/
def execTakeoverDelayExpiry (head : Nat) (s : State) : Result :=
  match s.heads.takeovers.find? fun t => t.failed == head && !t.probed with
  | none => .next s
  | some t =>
    let own := s.ownedDomains
    let mark (ps : List Nat) (x : Takeover) : Takeover := if x.failed = head then { x with probed := true, probes := ps } else x
    let u := match s.attachedModules with
      | [] => ({ s with heads.takeovers := s.heads.takeovers.map (mark []) }).probeAnswer 256 false
      | m :: ms =>
        let low := ms.foldl min m
        let u := { s with heads.takeovers := s.heads.takeovers.map (mark own) }
        if own.isEmpty then u.probeAnswer 256 false
        else own.foldl (fun u d => u.presentClaim low d (u.claimOf d) (.probe d)) u
    dataIf (decide (t.deadline ≤ s.tick) && !s.footing.active) s u

/-- A mirror record has been applied by the journal replay, or has been placed (R352): its WSN is in a kind-7 record of a closed
stripe, lies below the newest checkpoint, or is that of a replayed record in staging. -/
def State.mirrorApplied (s : State) (d w : Nat) : Bool :=
  decide (w < (s.journal d).checkpointLow) || (s.wp.log.any fun r => r.replayed && r.domain == d && r.wsn == w) || s.stripe.extents.any fun e => e.2.kind == 7 && e.2.wsn == w && e.1 / 2 ^ 56 == d

/-- Place one mirror record of a failed head, its WSN and claim kept (R352). -/
def State.replayMirror (i d : Nat) (rec_ : Nat × Nat × Nat × Nat) (s : State) : State :=
  let b := s.readRegion i (256 * rec_.2.1) (256 * rec_.2.2.1)
  let r := { parseStaged b (s.domain d).lastClaim with replayed := true, rank := s.rankOf 4 }
  let refs := (r.deltas.filter fun x => x.op == 3 || x.op == 4).map Delta.target
  let s := refs.foldl (fun s p => s.updExtent p fun e => { e with pending := e.pending + 1 }) s
  (s.stageRecord r true).2

/-- The staged data stays within the limit when a mirror record of some units is placed (R50). -/
def State.replayRoom (s : State) (units : Nat) : Bool :=
  decide (s.wp.occupancy + s.wp.reserved + 4181 + units ≤ s.wp.limit)

/-- Place mirror records in increasing WSN while there is room: how many were, and whether all (R50, R352). -/
def State.replayRecords (i d : Nat) : List (Nat × Nat × Nat × Nat) → Nat → State → Nat × Bool × State
  | [], n, s => (n, true, s)
  | r :: rs, n, s => if s.replayRoom r.2.2.1 then (s.replayMirror i d r).replayRecords i d rs (n + 1) else (n, false, s)

/-- MIRROR_REPLAY (R352): in increasing WSN; a record marked not held is skipped, and the takeover is unmirrored (R374). What the
staging limit leaves no room for waits for a later run (R50). -/
def execMirrorReplay (domain : Nat) (s : State) : Result :=
  let x := s.domain domain
  match x.takeover.bind s.liveArea with
  | none => .next s
  | some i =>
    let all := (s.area i).records.filter fun r => r.2.2.2 == domain
    let rs := all.filter fun r => !s.mirrorApplied domain r.1 && !(s.area i).lost.contains r.1
    let x3 := s.replayRecords i domain rs 0
    let t := x3.2.2
    let gone := all.any fun r => !s.mirrorApplied domain r.1 && (s.area i).lost.contains r.1
    let h := x.takeover.getD 0
    let t := if gone && x3.2.1 then t.raise Ev.takeoverUnmirrored (le 1 domain ++ le 2 h ++ le 8 (s.domain domain).highWsn ++ le 8 (s.peer h).highWsn)
      else t
    let t := t.closeDomain domain (t.rankOf 4)
    let t := t.updDomain domain fun x => { x with mirrorDone := x3.2.1, mirrorLeft := rs.length - x3.1 }
    let add (y : Takeover) : Takeover := if some y.failed = x.takeover then { y with replayed := y.replayed + x3.1 } else y
    let t := { t with heads.takeovers := t.heads.takeovers.map add }
    dataIf (x.state == .acquiring && x.journalDone && !x.mirrorDone) s (t.startJob 0x16 (s.rankOf 13) x3.1)

/-- The replay of a taken domain has ended, or its claim was not won (R352). -/
def State.replayEnded (s : State) (h d : Nat) : Bool :=
  let x := s.domain d
  !(x.state == .acquiring && x.takeover == some h) ||
    (x.journalDone && (x.mirrorDone || (s.liveArea h).isNone) && !s.domainStaged d)

/-- TAKEOVER_DONE (R349, R352). -/
def execTakeoverDone (head : Nat) (s : State) : Result :=
  match s.heads.takeovers.find? fun t => t.failed == head with
  | none => .next s
  | some t =>
    let mine := t.domains.filter fun d => (s.domain d).state == .acquiring && (s.domain d).takeover == some head
    let u := mine.foldl (fun u d => u.finishAcquire d) s
    let u := match u.liveArea head with
      | some i => u.freeArea i
      | none => u
    let u := { u with heads.takeovers := u.heads.takeovers.filter fun y => y.failed != head }
    let u := u.raise Ev.takeoverDone (le 2 head ++ le 4 t.replayed ++ le 4 ((s.now - t.since) / 1000000))
    dataIf (t.started && t.domains.all (s.replayEnded head)) s u

end Sys2Proof.Machine
end

