-- ==== Sys2Proof/Machine/PowerFamily.lean ====
section
/-! DEFINITION. The commands of supply, drain, islands, clocks, reset, sideband and the power packets (R39 to R65, R446, R458,
R460). -/

namespace Sys2Proof.Machine

/-! ### Supply (R39, R40, R56) -/

/-- POWER_ON (R39, R53, R56): VBUS rises through 8.7 V. -/
def execPowerOn (vbus : Nat) (s : State) : Result :=
  let t := s.cleared true
  onlyIf (!s.power.standbyRail && decide (8700 ≤ vbus)) s ((t.setPower { t.power with standbyRail := true }).measured vbus).wakeAll

/-- CORE_RAILS_IN_REGULATION (R56): once the ramp limiter has brought every rail up, PWR_GOOD rises; with RESET_L already high it
counts as rising 1 ms later. -/
def execCoreRailsInRegulation (s : State) : Result :=
  let auto := if s.power.resetL then some (s.tick + ticksOf 1000000) else none
  onlyIf (s.power.standbyRail && !s.power.standby && !s.power.coreRails && s.rampsDone) s
    (s.setPower { s.power with coreRails := true, pwrGood := true, autoAt := auto })

/-- AUTO_RESET_RELEASE (R56). -/
def execAutoResetRelease (straps : BitVec 6) (s : State) : Result :=
  match s.power.autoAt with
  | some t => onlyIf (s.expired t && s.power.internalReset) s (s.release straps)
  | none => .next s

/-- VBUS_LOW (R40): raised once. -/
def execVbusLow (vbus : Nat) (s : State) : Result :=
  onlyIf (s.power.standbyRail && s.power.lowArmed && decide (vbus < 9000)) s
    (((s.setPower { s.power with lowArmed := false }).measured vbus).raiseEarly Ev.vbusLow (le 2 vbus))

/-- VBUS_RISE_ABOVE_9V5 (R40). -/
def execVbusRiseAbove9v5 (vbus : Nat) (s : State) : Result :=
  onlyIf (s.power.standbyRail && decide (9500 < vbus)) s ((s.setPower { s.power with lowArmed := true }).measured vbus)

/-- BROWNOUT (R39, R48, R62, R458): each fall through 8.0 V blocks new pulses, and starts a drain where one may start. -/
def execBrownout (vbus : Nat) (s : State) : Result :=
  onlyIf (s.power.standbyRail && decide (vbus < 8000)) s
    ((((s.setPower { s.power with brownout := true, brownoutSeen := true }).measured vbus).raiseEarly Ev.brownout (le 2 vbus)).supplyFails)

/-- BROWNOUT_RELEASE (R39). -/
def execBrownoutRelease (vbus : Nat) (s : State) : Result :=
  onlyIf (s.power.brownout && decide (8500 ≤ vbus)) s
    ((List.range 96).foldl (fun s l => s.flushLink l) ((s.setPower { s.power with brownout := false }).measured vbus))

/-- VBUS_STOP (R39): every rail turns off, PWR_GOOD goes low and the bypass closes. -/
def execVbusStop (vbus : Nat) (s : State) : Result :=
  let t := (s.setBypass true).cleared true
  onlyIf (s.power.standbyRail && decide (vbus < 7000)) s ((t.measured vbus).tapRelease)

/-- VBUS_FAIL (R45, R46, R48, R458): each high level of 2 us is a failure. -/
def execVbusFail (s : State) : Result :=
  let t := s.setPower { s.power with vbusFail := true }
  onlyIf s.power.standbyRail s
    (if s.power.pdown = .none then t.supplyFails else t.raise Ev.vbusFail (le 8 s.stagedBytes))

/-- DRAIN_QUIESCE_END (R46, R47, R334): at least 20 us after the drain began. -/
def execDrainQuiesceEnd (s : State) : Result :=
  let t := ((List.range 34).filter fun l => (s.lport l).up).foldl (fun s l => s.linkDown l) s
  let t := { t with pcie.linkUp := false }
  let t := (t.setPower { t.power with held := t.power.held.set 2 true, drain := .draining }).loseMirror 5
  onlyIf (s.power.drain == .quiesce && decide (s.power.drainStart + 20000 ≤ s.now)) s (t.sleepAllBut drainIslands).closeStaged

/-- DRAINED_STATE_ENTER (R46, R47, R446). -/
def execDrainedStateEnter (s : State) : Result := onlyIf (s.power.drain == .draining && s.drainSettled) s s.enterDrained

/-! ### Phase plans (R44) -/

/-- LOAD_BAND_CROSSING (R44): the plan of the new band is taken, and re-derived when it does not fit. -/
def execLoadBandCrossing (band : Nat) (s : State) : Result :=
  onlyIf (s.power.coreRails && decide (band < 6) && band != s.power.loadBand) s
    ((s.setPower { s.power with loadBand := band, rederiving := !s.planFits band }).measured s.power.vbus)

/-- PHASE_PLAN_REDERIVED (R44): the stored envelope of a band without a plan is a free value. -/
def execPhasePlanRederived (s : State) : Result :=
  let b := s.power.loadBand
  let none_ : PhasePlan := { vbusBand := s.freeNat, tjBand := s.freeNat }
  let old := s.power.plans.getD b none_
  let t := if s.power.plans.has b then s else s.freed
  let plan : PhasePlan := { vbusBand := s.vbusBand, tjBand := s.tjBand, vaulted := old.vaulted, fresh := true }
  let t := t.setPower { s.power with plans := s.power.plans.set b plan, rederiving := false }
  onlyIf s.power.rederiving s (t.raiseEarly Ev.pwrPlanEnvelope
    (le 1 b ++ le 1 old.vbusBand ++ le 1 old.tjBand ++ le 1 s.vbusBand ++ le 1 s.tjBand))

/-! ### Islands (R42, R43, R65) -/

/-- ISLAND_WAKE_ADMIT (R42): the oldest request, once the weights in ramp allow it. -/
def execIslandWakeAdmit (s : State) : Result :=
  match s.power.wakeQueue with
  | [] => .next s
  | w :: rest =>
    onlyIf (decide (s.rampWeight + Config.weight w.1 ≤ Config.rampLimit)) s
      ((s.setPower { s.power with wakeQueue := rest }).setIsland w.1 (.ramp false))

/-- ISLAND_RAMP_END (R42, R43). -/
def execIslandRampEnd (island : Nat) (s : State) : Result :=
  match s.island island with
  | .ramp back => .next ((s.setIsland island (if back then .asleep else .awake)).settleIsland island)
  | _ => .next s

/-- ISLAND_POWER (R42, R43, R65): the reply waits for the ramps and sleeps it started. -/
def execIslandPower (op : PktOp) (s : State) : Result := packetRun 0x0020 op s fun p s =>
  let wake := p.f 8 1 == 1
  let mask := (List.range 37).filter fun i => bit (p.f 0 8) i
  if !wake && !(mask.all s.maySleep) then s.fail p St.busy
  else
    let t := mask.foldl (fun s i => if wake then s.wakeIsland i else s.sleepIsland i) s
    let left := mask.filter fun i => t.island i != (if wake then Island.awake else .asleep)
    if left.isEmpty then t.replyOk p
    else (t.setPower { t.power with islandWaits := t.power.islandWaits ++ [{ acc := p.acc, left := left }] }).await p

/-! ### Power packets (R50, R57, R65) -/

/-- The power record (R65). -/
def State.powerRecord (s : State) : List Byte :=
  let p := s.power
  let plan (b : Nat) : List Byte := match p.plans.get? b with
    | some x => le 1 1 ++ le 1 x.vbusBand ++ le 1 x.tjBand ++ zeros 1
    | none => zeros 4
  le 2 p.vbus ++ le 2 p.ibus ++ le 2 p.pbus ++ le 2 (s.tjMax % 65536).toNat ++ le 1 p.loadBand ++ zeros 3 ++ le 4 p.bDrain ++
    le 8 p.stagingLimit ++ le 8 s.stagedBytes ++ (List.range 6).flatMap plan ++ zeros 8

/-- POWER_STATUS (R65). -/
def execPowerStatus (op : PktOp) (s : State) : Result := packetRun 0x0021 op s fun p s => s.reply p St.ok 64 s.powerRecord

/-- HOLDUP_CONFIG (R50, R65, R160). -/
def execHoldupConfig (op : PktOp) (s : State) : Result := packetRun 0x0022 op s fun p s =>
  let n := p.f 0 8
  if 256 * s.wp.logUnits < n then s.failField p St.outOfRange 0
  else
    let s := { s.setPower { s.power with stagingLimit := n } with wp.limit := n / 256 }
    ((s.stagingLevel.stagingClose.placeHeld.healthCheck).considerWrites 1).replyOk p

/-- CHIP_POWER_DOWN (R57): command fetch stops; the reply comes at the end. -/
def execChipPowerDown (op : PktOp) (s : State) : Result := packetRun 0x0023 op s fun p s =>
  if s.draining then s.fail p St.busy
  else
    (s.setPower { s.power with pdown := .settling, pdownAcc := p.acc, pdownDeadline := s.tick + ticksOf 50000000 }).await p

/-- No fetched read, write or Flush is left without completion: a write whose completion is posted counts no more (R57). -/
def State.commandsSettled (s : State) : Bool := s.nvme.cmds.vals.all fun c => c.torn || 9 ≤ c.stage && c.writes

/-- POWER_DOWN_COMMANDS_SETTLED (R57): what is left is dropped without completion, and staging is closed into stripes. -/
def execPowerDownCommandsSettled (s : State) : Result :=
  let t := s.dropUnstaged.dropAdmin
  let t := { t with nvme.cmds := t.nvme.cmds.mapVals fun c => { c with torn := true } }
  onlyIf (s.power.pdown == .settling && s.runs && (s.commandsSettled || s.expired s.power.pdownDeadline)) s
    (t.setPower { t.power with pdown := .draining }).closeStaged

/-- POWER_DOWN_DRAIN_DONE (R57, R460). -/
def execPowerDownDrainDone (s : State) : Result :=
  let t := (s.stampCheckpoint true).replyTo s.power.pdownAcc St.ok 0 []
  onlyIf (s.power.pdown == .draining && s.runs && s.drainSettled) s (t.leaveRing.enterStandby s.anyTrained false)

/-- CHIP_RESET (R65, R405): in recovery boot after an UPDATE_CLOSE the next start is a normal boot. -/
def execChipReset (op : PktOp) (s : State) : Result := packetRun 0x0024 op s fun p s =>
  let s := if s.direct.recoveryBoot && s.mason.closedUpdate then s.writeBoot fun b => { b with bootOnce := true } else s
  (s.setPower { s.power with swResetAt := some (s.tick + ticksOf 1000000) }).replyOk p

/-! ### Reset (R53 to R56, R460) -/

/-- SOFTWARE_RESET_EXPIRY (R47, R53). -/
def execSoftwareResetExpiry (s : State) : Result :=
  match s.power.swResetAt with
  | some t => onlyIf (s.expired t) s ((s.setPower { s.power with swResetAt := none }).takeReset 1)
  | none => .next s

/-- RESET_PIN_ASSERT (R47, R54, R58, R460): RESET_L falls, and the bypass closes whatever holds the reset. -/
def execResetPinAssert (s : State) : Result :=
  let t := (s.setPower { s.power with resetL := false, autoAt := none }).setBypass true
  let wakes := s.power.standby && !(s.power.tripped && decide (1600 ≤ s.tjMax))
  onlyIf s.power.resetL s
    (if wakes then t.leaveStandby else if s.power.coreRails then t.takeReset 0 else t)

/-- INTERNAL_RESET_BEGIN (R54). -/
def execInternalResetBegin (s : State) : Result := onlyIf s.power.selfRefreshing s (s.enterReset true)

/-- RESET_PIN_RELEASE (R54 to R56): RESET_L rises, or internal reset ends after its minimum. -/
def execResetPinRelease (straps : BitVec 6) (s : State) : Result :=
  let t := (s.setPower { s.power with resetL := true }).tapRelease
  .next (if s.power.internalReset && s.power.pwrGood && s.power.autoAt.isNone then t.release straps
    else if s.mayOpenBypass && s.head.joined then t.setBypass false else t)

/-- PCIE_PERST_L_RISE (R56): the endpoint leaves reset once its ROM stage has enabled it. -/
def execPciePerstLRise (s : State) : Result :=
  let up := s.coreRuns && !s.power.clocksLost.getD 2 false && s.power.drain == .none
  onlyIf (!s.pcie.perstHigh) s { s with pcie.perstHigh := true, pcie.answers := up, pcie.linkUp := up }

/-! ### Clocks (R52) -/

def State.setClock (clock : Nat) (lost : Bool) (s : State) : State :=
  s.setPower { s.power with clocksLost := s.power.clocksLost.set clock lost }

/-- What the loss of a clock brings down (R52). -/
def State.clockDown (clock : Nat) (s : State) : State :=
  if clock = 0 then ((List.range 16).filter fun l => (s.lport l).up).foldl (fun s l => s.linkDown l) s
  else if clock = 1 then (((List.range 18).map (16 + ·)).filter fun l => (s.lport l).up).foldl (fun s l => s.linkDown l) s
  else if clock = 2 then
    if !s.pcie.linkUp then s
    else if s.power.drain == .quiesce || s.power.drain == .draining then
      ({ s with pcie.linkUp := false } : State).setPower { s.power with held := s.power.held.set 2 true }
    else ({ s with pcie.linkUp := false } : State).pcieReset
  else if clock = 3 then
    let s := ((List.range 96).filter fun l => (s.link l).state == .up).foldl (fun s l => s.linkLost l 1) s
    let s := ((List.range 96).filter fun l => (s.link l).state == .hello).foldl (fun s l => s.train l) s
    (s.flash.modules.keys).foldl (fun s m => s.detach m 1) s
  else s

/-- CLOCK_LOSS (R52). -/
def execClockLoss (clock : Nat) (s : State) : Result :=
  let t := s.setClock clock true
  let t := if s.runs then t.clockDown clock else t
  onlyIf (s.power.standbyRail && decide (clock < 5) && !s.power.clocksLost.getD clock false) s (t.raiseEarly Ev.clockLoss (le 1 clock))

/-- CLOCK_RESTORED (R52): ports and links train again by their own commands; the PCIe link does at once. -/
def execClockRestored (clock : Nat) (s : State) : Result :=
  let t := s.setClock clock false
  let pcie := clock == 2 && s.pcie.perstHigh && s.coreRuns && s.power.drain == .none
  let t := if pcie then { t with pcie.linkUp := true, pcie.answers := true } else t
  onlyIf (decide (clock < 5) && s.power.clocksLost.getD clock false) s
    (if clock = 4 then t.raiseEarly Ev.clockRestored (le 1 clock) else t)

/-! ### Sideband (R60 to R64) -/

def State.setTemp (sensor : Nat) (temp : W16) (s : State) : State :=
  s.setPower { s.power with temps := s.power.temps.set sensor temp }

/-- THERMAL_ALERT_ASSERT (R63): SMB_TJ_MAX reaches SMB_THERM_SET. -/
def execThermalAlertAssert (sensor : Nat) (temp : W16) (s : State) : Result :=
  let t := s.setTemp sensor temp
  let u := (t.setPower { t.power with thermAlert := true }).raiseEarly Ev.thermalAlert (le 2 (t.tjMax % 65536).toNat ++ le 1 sensor)
  onlyIf (s.power.standbyRail && decide (sensor < 18) && !s.power.thermAlert && decide (s.power.thermSet.toInt ≤ t.tjMax)) s u.healthCheck

/-- THERMAL_ALERT_RELEASE (R63): SMB_TJ_MAX falls below the threshold minus the hysteresis. -/
def execThermalAlertRelease (temps : List W16) (s : State) : Result :=
  let t := s.setPower { s.power with temps := temps, thermAlert := false }
  onlyIf (s.power.thermAlert && temps.length == 18 && decide (t.tjMax < s.power.thermSet.toInt - 16 * s.power.thermHyst.toNat)) s
    t.healthCheck

/-- THERMAL_TRIP (R63): 112 degrees at a sensor; every rail but standby turns off and no drain is run. -/
def execThermalTrip (sensor : Nat) (temp : W16) (s : State) : Result :=
  onlyIf (s.power.standbyRail && decide (sensor < 18) && !s.power.tripped && decide (1792 ≤ temp.toInt)) s
    ((s.setTemp sensor temp).enterStandby false true)

/-- SMB_STATUS_CLEAR (R62). -/
def execSmbStatusClear (value : Byte) (s : State) : Result :=
  let p := s.power
  onlyIf p.standbyRail s (s.setPower { p with
    vbusFailSeen := p.vbusFailSeen && !value.getLsbD 2, brownoutSeen := p.brownoutSeen && !value.getLsbD 3,
    tripSeen := p.tripSeen && !value.getLsbD 5 })

/-- SMB_REGISTER_WRITE (R61). -/
def execSmbRegisterWrite (code : Nat) (value : W16) (s : State) : Result := onlyIf s.power.standbyRail s (s.smbWrite code value)

/-- TAP_INSTRUCTION (R64): no instruction while TRST_L is low, which keeps the TAP in reset. -/
def execTapInstruction (ir : Option Byte) (shiftIn : List Bool) (s : State) : Result :=
  onlyIf s.power.standbyRail s (match ir with
    | some i => s.tapShift i shiftIn
    | none => s.tapReset)

end Sys2Proof.Machine
end

