-- ==== Sys2Proof/Machine/ReduceFamily.lean ====
section
/-! DEFINITION. The packets of class 0x04 (R162, R184, R185). -/

namespace Sys2Proof.Machine

/-- Settings of a domain as the newest packet asked for them. -/
def State.askedSettings (s : State) (d : Nat) : ReduceDomain :=
  match (s.wp.settings.filter fun x => x.2.1 == d).getLast? with
  | some x => x.2.2
  | none => s.reduceOf d

/-- Make settings durable: a DOMAIN_SETTINGS record; the reply is written when it is durable (R184). -/
def State.askSettings (p : Packet) (d : Nat) (r : ReduceDomain) (s : State) : State :=
  let s := { s.await p with wp.settings := s.wp.settings ++ [(p.acc, d, r)] }
  s.journalWrite d (s.rankOf 13) (.domainSettings r.level r.mode r.table r.flags r.bucketLog2) 0

/-- REDUCE_CONFIG (R184). -/
def execReduceConfig (op : PktOp) (s : State) : Result := packetRun 0x0400 op s fun p s =>
  let d := p.f 0 1
  s.ownerOnly p d (fun s =>
    if p.f 2 1 = 1 && (s.huffTable? (p.f 3 1)).isNone then s.fail p St.tableAbsent
    else s.askSettings p d { s.askedSettings d with level := p.f 1 1, mode := p.f 2 1, table := p.f 3 1, flags := p.f 4 1 })

/-- The index of a domain holds an entry in a page that is in DRAM. -/
def State.indexHolds (s : State) (d : Nat) : Bool :=
  s.wp.index.any fun x => x.1 / 2 ^ 40 == d && match x.2.body with
    | none => false
    | some b => b.any (· != 0)

/-- Index pages of a domain that are not in DRAM. -/
def State.indexAbsent (s : State) (d : Nat) : List Nat :=
  (s.wp.index.filter fun x => x.1 / 2 ^ 40 == d && x.2.body.isNone && !x.2.rebuilding).map fun x => x.1 % 2 ^ 40

/-- INDEX_CONFIG (R184): a change reads in the pages that are not in DRAM before it finds the index empty. -/
def execIndexConfig (op : PktOp) (s : State) : Result := packetRun 0x0401 op s fun p s =>
  let d := p.f 0 1
  let b := p.f 1 1
  s.ownerOnly p d (fun s =>
    let change := b ≠ (s.askedSettings d).bucketLog2
    if change && s.indexHolds d then s.fail p St.indexNotEmpty
    else if change && !(s.indexAbsent d).isEmpty then (s.indexAbsent d).foldl (fun s q => s.fetchIndex d q (s.rankOf 13)) s
    else s.askSettings p d { s.askedSettings d with bucketLog2 := b })

/-- COMP_JOB (R177, R178, R184): what the reply carries is written from out_offset on. -/
def execCompJob (op : PktOp) (s : State) : Result := packetRun 0x0402 op s fun p s =>
  let input := slice (p.buffer op) 0 (p.f 0 4)
  let table := s.huffTable? (p.f 0xA 1)
  let out := deflate (p.f 8 1) (p.f 9 1) (if p.f 9 1 = 1 then table.getD [] else []) (bit (p.f 0xB 1) 0) input
  if p.f 9 1 = 1 && table.isNone then s.fail p St.tableAbsent
  else if p.dataLen - p.f 4 4 < out.length then s.fail p St.outputSpace
  else s.replyAt p St.ok (out.length + (crc32 input).toNat * 2 ^ 32) (p.f 4 4) out

/-- DECOMP_JOB (R179, R184): the output stands from out_offset on. -/
def execDecompJob (op : PktOp) (s : State) : Result := packetRun 0x0403 op s fun p s =>
  let input := slice (p.buffer op) 0 (p.f 0 4)
  match inflate input with
    | .error at_ => s.reply p St.deflateInvalid at_ []
    | .ok out =>
      if p.dataLen - p.f 4 4 < out.length then s.fail p St.outputSpace
      else s.replyAt p St.ok (out.length + (crc32 out).toNat * 2 ^ 32) (p.f 4 4) out

/-- REDUCE_STATUS (R184). -/
def execReduceStatus (op : PktOp) (s : State) : Result := packetRun 0x0404 op s fun p s =>
  let ws := s.nvme.cmds.filter fun x => x.2.waits
  let per (r : Nat) : Nat := (ws.filter fun x => x.2.rank == r).length
  let longest := ws.foldl (fun m x => max m ((s.tick - x.2.since) * 64 / 1000)) 0
  s.reply p St.ok 0 (le 8 s.wp.limit ++ le 8 s.wp.occupancy ++ le 8 s.wp.reserved ++ le 4 (ingestSlots - s.wp.slotsUsed) ++
    le 4 s.wp.classASlots ++ ((List.range 8).flatMap fun r => le 2 (per r)) ++ le 8 longest)

/-- REDUCE_COUNTERS (R185): the last word holds two counters of 32 bits. -/
def execReduceCounters (op : PktOp) (s : State) : Result := packetRun 0x0405 op s fun p s =>
  let c := s.wp.counters
  let data := (c.take 15).flatMap (le 8) ++ le 4 (min (c.getD 15 0) (2 ^ 32 - 1)) ++ le 4 (min (c.getD 16 0) (2 ^ 32 - 1))
  (if p.f 0 1 = 1 then { s with wp.counters := List.replicate 17 0 } else s).reply p St.ok 0 data

/-- INDEX_QUERY (R184): the page is read in when it is not cached. -/
def execIndexQuery (op : PktOp) (s : State) : Result := packetRun 0x0406 op s fun p s =>
  let d := p.f 0 1
  let fp := p.bytes 4 32
  let bucket := bucketOf (s.reduceOf d).bucketLog2 fp
  let page := s.indexPage d (bucket / 8)
  let answer (b : List Byte) : State :=
    let es := ((List.range 16).map fun i => entryOf b bucket i).filter fun e => ixForm e != 0 && ixTag e == tagOf fp
    let some_ := es.take ((p.dataLen - 8) / 32)
    s.reply p St.ok es.length (le 8 bucket ++ if es.isEmpty then zeros 32 else some_.flatten)
  match page.body with
  | some b => answer b
  | none =>
    if page.rebuilding then answer (zeros 4096)
    else s.fetchIndex d (bucket / 8) (s.rankOf 13)

/-- REDUCE_CONFIG_CHIP (R162, R184). -/
def execReduceConfigChip (op : PktOp) (s : State) : Result := packetRun 0x0407 op s fun p s =>
  let m := p.f 4 4
  ({ s with wp.classASlots := p.f 0 2, wp.cacheMib := if m = 0 then s.wp.cacheMib else m }).trimIndex.replyOk p

end Sys2Proof.Machine
end

