-- ==== Sys2Proof/Machine/ReplFamily.lean ====
section
/-! DEFINITION. Replication: the session packets, deltas at source and target, synchronous writes (R356 to R364). -/

namespace Sys2Proof.Machine

/-! ### Receiving messages of a session (R330, R356, R362) -/

/-- Take the front message of a session. -/
def State.sessionFront (s : State) (i : Nat) : Option (List Byte) :=
  let x := s.session i
  match x.conn with
  | some c => (s.conn c).inbox.head?
  | none => x.rxq.head?

def State.sessionPop (i : Nat) (s : State) : State :=
  match (s.session i).conn with
  | some c => s.updConn c fun c => { c with inbox := c.inbox.tail, inboxAt := c.inboxAt.drop 1 }
  | none => s.updSession i fun x => { x with rxq := x.rxq.tail }

/-- Kinds a role receives (R359). -/
def replKinds (role : Nat) : List Nat := if role ≤ 2 then [0x22, 0x25, 0x27] else [0x20, 0x21, 0x23, 0x24, 0x26]

/-- Run the front message of a session when it is of a kind; one that fails its checks is discarded and counted (R330). The
effect says whether the message has been used: one that has to wait stays. -/
def replRun (i kind : Nat) (s : State) (effect : PeerMsg → State → Bool × State) : Result :=
  let x := s.session i
  match s.sessionFront i with
  | none => .next s
  | some b =>
    if x.role = 0 then .next s
    else
      let t := s.sessionPop i
      let bad : State := { t with heads.discarded := t.heads.discarded + 1 }
      match parseMessage (x.tag % 65536) 0 (if x.conn.isSome then x.rxSeq else 0) b with
      | none => .next bad
      | some m =>
        if !(replKinds x.role).contains m.kind then .next bad
        else if m.kind ≠ kind then .next s
        else
          let y := effect m s
          if !y.1 then .next y.2
          else .next ((y.2.sessionPop i).updSession i fun x => { x with rxSeq := if x.conn.isSome then m.seq + 1 else x.rxSeq })

/-! ### The delta between two snapshots (R357, R358) -/

/-- The 16 bytes of an ashlar's entry in a layer, zeros where no leaf is. -/
def State.entryBytes (s : State) (l : Option Layer) (a : Nat) : List Byte :=
  match l with
  | none => zeros 16
  | some l => match s.pageBody (s.leafOf l a) with
    | some b => rawEntry b (a % 256)
    | none => zeros 16

/-- The sett entries of a split ashlar, or none when it is coarse. -/
def State.splitBytes? (s : State) (e : List Byte) : Option (List (List Byte)) :=
  if fieldAt e 9 1 % 8 = 3 then
    let b := (s.pageBody (splitPage e)).getD (zeros 4096)
    some ((List.range 16).map fun x => rawEntry b (16 * splitSlot e + x))
  else none

/-- The records of one ashlar: nothing when its entries are equal byte for byte. -/
def State.ashlarDelta (s : State) (a : Nat) (old new : List Byte) : List DeltaRec :=
  let mask (op m : Nat) : List DeltaRec := if m = 0 then [] else [{ ashlar := a, op := op, mask := m }]
  match s.splitBytes? old, s.splitBytes? new with
  | o, none =>
    if o.isNone && old = new then []
    else
      let e := parseEntry new
      if e.typ = 1 then [s.extentRec a 0 e.pxa true true 0]
      else mask (if e.typ = 2 then 2 else if e.typ = 4 then 3 else 1) 0xFFFF
  | o, some ns =>
    let diff := ns.zipIdx.filter fun x => match o with
      | some os => os.getD x.2 [] != x.1
      | none => true
    let es := diff.map fun x => (x.2, parseEntry x.1)
    let bits_ (typs : List Nat) : Nat := ((es.filter fun x => typs.contains x.2.typ).map fun x => 2 ^ x.1).sum
    mask 1 (bits_ [0]) ++ mask 2 (bits_ [2]) ++ mask 3 (bits_ [3, 4, 5, 6, 7]) ++
      (es.filter fun x => x.2.typ == 1).map fun x => s.extentRec a x.1 x.2.pxa false x.2.whole x.2.src

/-- The delta from a base layer, none for a full send, to a new one. -/
def State.deltaRecords (s : State) (base : Option Layer) (new : Layer) : List DeltaRec :=
  (List.range (ashlarCount new.nsze new.lbaf)).flatMap fun a => s.ashlarDelta a (s.entryBytes base a) (s.entryBytes (some new) a)

/-- Bytes of the namespace that records cover. -/
def coveredBytes (rs : List DeltaRec) : Nat :=
  (rs.map fun r => if r.op = 4 || r.op = 6 then 65536 else if r.op = 5 || r.op = 7 then 4096 else 4096 * bitsSet r.mask).sum

/-! ### Session packets (R356, R357, R361, R362, R364) -/

def State.onSession (p : Packet) (f : Nat → Session → State → State) (s : State) : State := s.configured p (fun s =>
  let i := p.f 0 1
  let x := s.session i
  if x.role = 0 then s.fail p St.sessionUnknown
  else
    let d := ((s.ns? x.nsid).map Namespace.domain).getD 256
    s.ownerOnly p d (f i x))

/-- The snapshot of a namespace with a label. -/
def State.snapOf (s : State) (nsid d : Nat) (label : List Byte) : Option Nat :=
  (s.map.layers.find? fun l => l.1 / 2 ^ 32 == d && l.2.kind == 2 && l.2.nsid == nsid && l.2.label == label).map fun l => l.1 % 2 ^ 32

/-- REPL_OPEN (R356, R360, R363, R364). A target opened where its domain came by a takeover may find a partly applied delta, and rolls back
first (R361, log entry 43). -/
def execReplOpen (op : PktOp) (s : State) : Result := packetRun 0x0910 op s fun p s => s.configured p (fun s =>
  let i := p.f 0 1
  let role := p.f 1 1
  let mode := p.f 2 1
  let flags := p.f 3 1
  let nsid := p.f 4 4
  let tag := p.f 8 8
  let port := p.f 16 1
  let slot := p.f 17 1
  let label := p.bytes 40 16
  match s.ns? nsid with
  | none => s.fail p St.nsUnknown
  | some n =>
    s.ownerOnly p n.domain (fun s =>
      let common := if label.all (· == 0) then some 0 else s.snapOf nsid n.domain label
      if s.power.islands.getD 31 .asleep ≠ .awake then s.fail p St.replAsleep
      else if (s.session i).role ≠ 0 then s.fail p St.sessionState
      else if mode = 1 && (role ≠ 1 || classOf n.cls = 1) then s.fail p St.sessionState
      else if bit flags 0 && s.noCipher then s.fail p St.cipherAbsent
      else if bit flags 0 && (s.keySlot slot).kind ≠ 2 then s.fail p St.keyUsage
      else match common with
      | none => s.fail p St.replBase
      | some c =>
        let ip := p.bytes 24 16
        let conn := if role = 1 then s.freeContext else none
        let x : Session :=
          { role := role, mode := mode, flags := flags, nsid := nsid, tag := tag, port := port, keySlot := slot, timeout := p.f 20 4,
            ip := ip, state := 1, common := c, baseLabel := label, conn := conn,
            dirty := decide (3 ≤ role) && (s.domain n.domain).tookOver }
        let s := { s with heads.sessions := s.heads.sessions.set i x }
        let s := if c = 0 then s else s.replFlag n.domain c true
        let b := s.subRecord port
        let s := if role = 1 then
            s.activeConnect (.repl i) port none ip (fieldAt b 0x23 1 % 8) (fieldAt b 0x22 1 % 64) (le 2 0x5250 ++ le 8 tag)
          else s
        s.replyOk p))

/-- Roll a target's head layer back to its base, or unmap the namespace when the delta was its first (R361). -/
def State.rollTarget (i : Nat) (s : State) : State :=
  let x := s.session i
  match s.ns? x.nsid with
  | none => s
  | some n =>
    if !x.dirty || x.role < 3 || s.footing.active then s
    else
      let s := s.updSession i fun x => { x with dirty := false, wanted := [], offers := [] }
      if x.common = 0 then
        s.stageMap n.domain x.nsid (s.rankOf 16) (runDeltas 6 0 (16 * ashlarCount n.nsze n.lbaf)) none
      else
        let id := (s.mdom n.domain).nextLayer
        let s := s.updMdom n.domain fun m => { m with nextLayer := m.nextLayer + 1 }
        s.stageMap n.domain x.nsid (s.rankOf 16) [{ ashlar := id, op := 15, target := x.common }] none

/-- REPL_CLOSE (R357, R361). -/
def execReplClose (op : PktOp) (s : State) : Result := packetRun 0x0911 op s fun p s =>
  s.onSession p (fun i x s =>
    let s := if x.sync.isEmpty then s else s.breakSync i
    let s := (s.rollTarget i).clearReplFlags i
    let s := { s with heads.sessions := s.heads.sessions.del i }
    let s := match x.conn with
      | some c => if (s.conn c).state = ConnState.connecting then s.freeConn c else s.disconnect c
      | none => s
    s.replyOk p)

/-- A direct session's connection is READY. -/
def State.replReady (s : State) (x : Session) : Bool := match x.conn with
  | some c => (s.conn c).state == .ready
  | none => false

/-- REPL_SEND (R357 to R359): the pages of both layers are read in first; then DELTA_BEGIN and the first OFFERS go. -/
def execReplSend (op : PktOp) (s : State) : Result := packetRun 0x0912 op s fun p s =>
  s.onSession p (fun i x s =>
    let d := ((s.ns? x.nsid).map Namespace.domain).getD 0
    let b := p.f 4 4
    let n := p.f 8 4
    if 2 < x.role || !(x.state = 1 || (x.state = 3 && x.role = 1 && s.replReady x)) then s.fail p St.sessionState
    else if b ≠ x.common then s.fail p St.replBase
    else match s.layer? d n with
    | none => s.fail p St.layerUnknown
    | some l =>
      if l.kind ≠ 2 || l.nsid ≠ x.nsid then s.fail p St.layerKind
      else
        let base := if b = 0 then none else s.layer? d b
        let roots := l.root :: (base.map Layer.root).toList
        let absent := roots.flatMap fun r => if r = 0 then [] else s.absentPages 7 r
        if !absent.isEmpty then s.fetchPages absent (s.rankOf 16)
        else
          let rs := s.deltaRecords base l
          let put (y : Session) : Session :=
            { y with state := 2, sending := n, records := rs, offers := y.offers.keep fun q _ => y.sync.has q, unanswered := 0,
                     ended := false, delta := [0, 0, 0] }
          let s := ((s.replyOk p).replFlag d n true).updSession i fun y => replStat 4 (coveredBytes rs) (put y)
          let old := (base.map Layer.label).getD (zeros 16)
          (s.replSend i 0x20 0 0 (fit 16 old ++ fit 16 l.label ++ le 8 l.nsze ++ le 1 (s.reduceOf d).bucketLog2 ++ zeros 7)).pumpDelta i)

/-- REPL_STATUS (R364). -/
def execReplStatus (op : PktOp) (s : State) : Result := packetRun 0x0913 op s fun p s =>
  s.onSession p (fun _ x s =>
    s.reply p St.ok 64 (fit 64 (le 1 x.role ++ le 1 x.state ++ zeros 2 ++ le 4 x.common ++ x.counts.flatMap (le 8))))

/-- Cut back-to-back messages: those complete, with the numbers they must bear; none when a number is repeated or missing
(R362). -/
def cutMessages : Nat → Nat → List Byte → Option (List (List Byte))
  | 0, _, _ => some []
  | fuel + 1, seq, b =>
    if b.length < 32 then some []
    else
      let n := 32 + fieldAt b 0x18 4
      if fieldAt b 8 8 ≠ seq then none
      else match cutMessages fuel (seq + 1) (b.drop n) with
      | none => none
      | some ms => some (b.take n :: ms)

/-- The messages of a list that fit a room, from the front. -/
def fitMessages : Nat → List (List Byte) → List (List Byte)
  | _, [] => []
  | room, m :: ms => if m.length ≤ room then m :: fitMessages (room - m.length) ms else []

/-- REPL_PUMP (R362). -/
def execReplPump (op : PktOp) (s : State) : Result := packetRun 0x0914 op s fun p s =>
  s.onSession p (fun i x s =>
    let n := p.f 4 4
    let off := p.f 8 4
    if x.role ≠ 2 && x.role ≠ 4 then s.fail p St.sessionState
    else if x.state = 3 then s.fail p St.sessionState
    else match cutMessages (n / 32 + 1) x.rxSeq ((p.buffer op).take n) with
    | none => (s.failSession i 4 0).replyOk p
    | some ms =>
      let out := fitMessages (p.dataLen - off) x.txq
      let k := out.length
      let b := out.flatten
      let s := s.updSession i fun x => { x with rxq := x.rxq ++ ms, rxSeq := x.rxSeq + ms.length, txq := x.txq.drop k }
      s.replyAt p St.ok b.length off b)

/-! ### At the source (R359 to R361, R363) -/

/-- Read and send the extents a target needs of a message's records (R360). -/
def State.readNeeds (i seq need : Nat) (s : State) : State :=
  let rs := (s.session i).offers.getD seq []
  let want := rs.zipIdx.filter fun r => bit need r.2 && r.1.stores
  let n := want.length
  let s := s.updSession i fun x => replStat 2 n x
  want.foldl (fun s r => s.readUnits (.repl i seq r.2) (s.rankOf 16) r.1.pxa r.1.units) s

/-- NEEDS (R359, R360). -/
def execNeeds (session : Nat) (s : State) : Result := replRun session 0x22 s fun m s =>
  let q := fieldAt m.body 0 8
  if !(s.session session).offers.has q || (s.session session).unanswered = 0 then (true, s)
  else
    let s := s.updSession session fun x => { x with unanswered := x.unanswered - 1 }
    (true, (s.readNeeds session q (fieldAt m.body 8 8)).offersDone session q)

/-- DELTA_DONE (R361). -/
def execDeltaDone (session : Nat) (s : State) : Result := replRun session 0x25 s fun m s =>
  let x := s.session session
  let st := fieldAt m.body 0 1
  let d := ((s.ns? x.nsid).map Namespace.domain).getD 0
  if x.state ≠ 2 then (true, s)
  else if st = 0 then
    let s := (s.replFlag d x.common false).replFlag d x.sending true
    let s := s.updSession session fun x => { x with common := x.sending, sending := 0, state := 1, records := [], unanswered := 0 }
    (true, s.raise Ev.replDeltaDone (le 1 session ++ le 4 x.sending ++ le 8 (x.delta.getD 2 0)))
  else (true, s.failSession session 2 st)

/-- SYNC_ACK (R363): extents needed are sent and the write goes on waiting; status 0 ends the wait of the oldest SYNC_WRITE of
its WSN. One that comes after the deadline tick finds the synchronous service broken first (R31). -/
def execSyncAck (session : Nat) (s : State) : Result := replRun session 0x27 s fun m s =>
  match (s.session session).sync.find? fun e => e.2.2.1 == m.wsn with
  | none => (true, s)
  | some (q, k, _, due) =>
    if s.expired due then (true, s.breakSync session)
    else
    let need := fieldAt m.body 8 8
    if need ≠ 0 then (true, s.readNeeds session q need)
    else if fieldAt m.body 0 1 ≠ 0 then (true, s)
    else
      let s := s.updSession session fun x => { x with sync := x.sync.del q, offers := x.offers.del q }
      if (s.session session).sync.any fun e => e.2.1 == k then (true, s)
      else (true, (s.updNCmd k fun c => { c with syncWait := false }).settleWrites)

/-- SYNC_TIMEOUT_EXPIRY (R31, R363). -/
def execSyncTimeoutExpiry (session seq : Nat) (s : State) : Result :=
  match (s.session session).sync.get? seq with
  | none => .next s
  | some (_, _, due) => dataIf (s.expired due) s (s.breakSync session)

/-! ### At the target (R359 to R361, R363) -/

/-- End the delta of a target with a status other than 0. -/
def State.abortDelta (i status : Nat) (s : State) : State :=
  (s.updSession i fun x => { x with ended := true, state := 1, offers := [], wanted := [] }).replSend i 0x25 0 0
    (le 1 status ++ zeros 3 ++ le 4 0)

/-- A target's delta is under way. -/
def Session.receiving (x : Session) : Bool := decide (3 ≤ x.role) && x.state == 2 && !x.ended

/-- DELTA_BEGIN (R359, R361): an unfinished delta is rolled back first; the base must be the common layer. -/
def execDeltaBegin (session : Nat) (s : State) : Result := replRun session 0x20 s fun m s =>
  let s := s.rollTarget session
  let x := s.session session
  match s.ns? x.nsid with
  | none => (true, s)
  | some n =>
    let base := slice m.body 0 16
    let mine := if x.common = 0 then zeros 16 else ((s.layer? n.domain x.common).map Layer.label).getD (zeros 16)
    let put (x : Session) : Session :=
      { x with state := 2, ended := false, sending := 0, baseLabel := base, newLabel := slice m.body 16 16, bucketLog2 := fieldAt m.body 40 1,
               offers := [], wanted := [] }
    let s := s.updSession session put
    if base ≠ mine then (true, s.abortDelta session 1)
    else if n.nsze < fieldAt m.body 32 8 then (true, s.abortDelta session 3)
    else (true, s)

/-- A place in staging for one record of a target (R161): its units and 6 page table entries. -/
def State.targetRoom (s : State) (records units : Nat) : Bool :=
  s.wsnFree && s.wp.waiting.isEmpty && decide (s.wp.occupancy + s.wp.reserved + 4181 + 10 * records + units ≤ s.wp.limit)

/-- Stage a record of a target at rank 7 (R360). -/
def State.stageTarget (i : Nat) (kind : Nat) (ds : List Delta) (fps extents : List (List Byte)) (s : State) : Nat × State :=
  let x := s.session i
  let n := s.ns? x.nsid
  let d := (n.map Namespace.domain).getD 0
  let lbaf := (n.map Namespace.lbaf).getD 0
  let a := (ds.head?.map Delta.ashlar).getD 0
  let refs := (ds.filter fun x => x.op == 3 || x.op == 4).map Delta.target
  let s := refs.foldl (fun s p => s.updExtent p fun e => { e with pending := e.pending + 1 }) s
  let s := { s with map.reservedEntries := s.map.reservedEntries + 6 }
  let r : Staged :=
    { wsn := 0, kind := kind, flags := 0, units := 0, unit := 0, fetch := 0, stage := 0, nsid := x.nsid, domain := d,
      keySlot := (n.map Namespace.keySlot).getD 0xFF, deltas := ds, fps := fps, extents := extents, slba := a * lbasPerAshlar lbaf,
      nlb := lbasPerAshlar lbaf, claim := s.claimOf d, rank := s.rankOf 16, pages := 6 }
  s.stageRecord { r with units := r.metaUnits + (extents.map List.length).sum / 256 } false

/-- How an offer stands in the target index (R170, R359): the page to read first, a miss, or a hit. -/
inductive OfferLook where
  | absent (page : Nat)
  | miss
  | hit (bucket : Nat) (entry : List Byte)
deriving DecidableEq, Repr

def State.offerLook (s : State) (i : Nat) (r : DeltaRec) : OfferLook :=
  let x := s.session i
  let n := s.ns? x.nsid
  let d := (n.map Namespace.domain).getD 0
  let key := (n.map Namespace.keySlot).getD 0xFF
  let c := s.reduceOf d
  let b := c.bucketLog2
  if !r.offer || b = 0 || !bit c.flags 0 || x.bucketLog2 < b then .miss
  else
    let bucket := r.bucket % 2 ^ b
    let page := s.indexPage d (bucket / 8)
    match page.body with
    | none => if page.rebuilding || page.pxa = 0 || bit c.flags 2 then .miss else .absent (bucket / 8)
    | some body =>
      let good (e : List Byte) : Bool :=
        (if r.op = 4 then ixForm e == 2 else ixForm e == 1 || ixForm e == 3) && ixTag e == r.tag && ixKey e == key &&
          decide (ixRefs e < 0xFFFFFFFF)
      match findSlot body bucket good with
      | some k => .hit bucket (entryOf body bucket k)
      | none => .miss

/-- Read index pages that offers need. -/
def State.readIndexPages (i : Nat) (ps : List Nat) (s : State) : State :=
  let d := ((s.ns? (s.session i).nsid).map Namespace.domain).getD 0
  ps.eraseDups.foldl (fun s p => s.fetchIndex d p (s.rankOf 16)) s

/-- Stage a record that needs no extent from the source: setts unmapped, zero or lost, or an offer that hit (R358, R359). -/
def State.stagePlain (i : Nat) (r : DeltaRec) (s : State) : Option (Nat × State) :=
  if r.op = 1 then some (s.stageTarget i 2 [{ ashlar := r.ashlar, op := 6, mask := r.mask }] [] [])
  else if r.op = 2 then some (s.stageTarget i 2 [{ ashlar := r.ashlar, op := 5, mask := r.mask }] [] [])
  else if r.op = 3 then some (s.stageTarget i 2 [{ ashlar := r.ashlar, op := 16, mask := r.mask }] [] [])
  else match s.offerLook i r with
  | .hit bucket e =>
    let fp := le 8 bucket ++ r.tag ++ zeros 8
    let d : Delta := { ashlar := r.ashlar, op := if r.op = 4 then 3 else 4, sett := r.sett, action := 2, raw := ixRaw e, units := ixUnits e,
                       target := s.resolvePxa (ixPxa e), src := if ixForm e = 3 then ixSett e else 0xFF }
    some (s.stageTarget i 1 [d] [fp] [])
  | _ => none

/-- Fingerprint of a sett, and of an ashlar over its setts' (R167, R168). -/
def settFp (b : List Byte) : List Byte := sha 1 b
def ashlarFps (b : List Byte) : List (List Byte) := (List.range 16).map fun k => settFp (slice b (4096 * k) 4096)

/-- Stage a record with the extent received for it: it must decompress to its size and, for an offer, fingerprint to its
bucket and tag (R179, R360): the bucket bits are those the source's DELTA_BEGIN gave, or as many as the bucket has before one (log entry
164). -/
def State.stageExtent (i : Nat) (r : DeltaRec) (b : List Byte) (s : State) : Option (Nat × State) :=
  let x := s.session i
  let n := s.ns? x.nsid
  let d := (n.map Namespace.domain).getD 0
  let key := (n.map Namespace.keySlot).getD 0xFF
  let coarse := r.op = 4 || r.op = 6
  let inner := !coarse && bit r.flags 1
  match expand (bit r.flags 0) (coarse || inner) b with
  | none => none
  | some plain =>
    let content := if inner then slice plain (4096 * r.src) 4096 else plain
    let fps := if coarse then ashlarFps content else []
    let fp := if coarse then sha 1 fps.flatten else settFp content
    let width := if x.bucketLog2 = 0 then Nat.log2 r.bucket + 1 else x.bucketLog2
    if r.offer && (fieldAt fp 0 8 % 2 ^ width ≠ r.bucket || tagOf fp ≠ r.tag) then none
    else
      let stored := if inner then s.stored (s.reduceOf d) s.templates.active key content else (bit r.flags 0, b.length, s.encrypt key b)
      let index := r.offer && (s.reduceOf d).bucketLog2 ≠ 0 && bit (s.reduceOf d).flags 0
      let zero (k : Nat) : Bool := allZero (slice content (4096 * k) 4096)
      let slots := if !index then [] else if coarse then fp :: (fps.zipIdx.map fun f => if zero f.2 then zeros 32 else f.1) else [fp]
      let delta : Delta :=
        { ashlar := r.ashlar, op := if coarse then 1 else 2, sett := r.sett, action := if index then 1 else 3, raw := stored.1,
          units := stored.2.2.length / 256, target := 0, clen := stored.2.1 }
      some (s.stageTarget i 1 [delta] slots [stored.2.2])

/-- The namespace a target writes can be written: its key is there (R207). -/
def State.targetKey (s : State) (i : Nat) : Bool :=
  (s.dataKey (((s.ns? (s.session i).nsid).map Namespace.keySlot).getD 0xFF)).isSome

/-- Take the records of an OFFERS or SYNC_WRITE that need no extent; the answer names the WSNs placed and the records that
need one. -/
def State.takeRecords (i : Nat) (rs : List DeltaRec) (s : State) : List Nat × List Nat × State :=
  rs.zipIdx.foldl (fun (acc : List Nat × List Nat × State) r =>
    match acc.2.2.stagePlain i r.1 with
    | some y => (acc.1 ++ [y.1], acc.2.1, y.2)
    | none => (acc.1, acc.2.1 ++ [r.2], acc.2.2)) ([], [], s)

def needBits (ks : List Nat) : Nat := (ks.map fun k => 2 ^ k).sum

/-- Index pages to be read before offers can be looked up. -/
def State.absentIndex (s : State) (i : Nat) (rs : List DeltaRec) : List Nat := rs.filterMap fun r => match s.offerLook i r with
  | .absent p => some p
  | _ => none

/-- OFFERS (R359): looked up and answered with NEEDS. Without room in staging, or before an index page has been read, it
waits. -/
def execOffers (session : Nat) (s : State) : Result := replRun session 0x21 s fun m s =>
  let n := fieldAt m.body 0 2
  let rs := (List.range n).map fun k => parseDeltaRec (slice m.body (8 + 48 * k) 48)
  let absent := s.absentIndex session rs
  if !(s.session session).receiving then (true, s)
  else if !s.targetKey session then (true, s.abortDelta session 4)
  else if s.pagesFree < 6 * n then (true, s.abortDelta session 3)
  else if !s.targetRoom n 0 then (false, s)
  else if !absent.isEmpty then (false, s.readIndexPages session absent)
  else
    let y := s.takeRecords session rs
    let put (x : Session) : Session :=
      if y.2.1.isEmpty then { x with dirty := true }
      else { x with dirty := true, offers := x.offers.set m.seq rs, wanted := x.wanted.set m.seq y.2.1 }
    (true, ((y.2.2.updSession session put).replSend session 0x22 0 0 (le 8 m.seq ++ le 8 (needBits y.2.1))))

/-- The plain bytes of an extent as received, none when its tag fails (R210, R360). -/
def State.openWire (s : State) (i : Nat) (wire : Bool) (b : List Byte) : Option (List Byte) :=
  let n := fieldAt b 12 4
  let text := slice b 16 n
  if !wire then some text
  else
    let key := (s.keySlot (s.session i).keySlot).key
    let iv := slice b (16 + n) 12
    let lead := b.take 16
    if fit 16 (gcmTag key iv lead text) = slice b (28 + n) 16 then some (fit n (gcmDec key iv text)) else none

/-- EXTENT (R360, R363). -/
def execExtent (session : Nat) (s : State) : Result := replRun session 0x23 s fun m s =>
  let q := fieldAt m.body 0 8
  let k := fieldAt m.body 8 1
  let x := s.session session
  match x.wanted.get? q, (x.offers.getD q [])[k]? with
  | some ks, some r =>
    if !ks.contains k then (true, s)
    else if !s.targetRoom 1 (fieldAt m.body 12 4 / 256 + 1) then (false, s)
    else
      match (s.openWire session (bit m.flags 0) m.body).bind fun b => s.stageExtent session r b with
      | none => if x.syncIn.has q then (true, s.replSend session 0x27 (((x.syncIn.get? q).map Prod.fst).getD 0) 0 (le 1 1 ++ zeros 15))
        else (true, s.abortDelta session 2)
      | some y =>
        let left := ks.filter (· != k)
        let put (x : Session) : Session :=
          { x with wanted := if left.isEmpty then x.wanted.del q else x.wanted.set q left,
                   offers := if left.isEmpty then x.offers.del q else x.offers,
                   syncIn := x.syncIn.upd q fun e => (e.1, e.2.1 ++ [y.1], e.2.2 - 1) }
        (true, (y.2.updSession session put).settleSync)
  | _, _ => (true, s)

/-- DELTA_END (R361): every record has been placed, so the labelled snapshot is frozen; a rollback of the namespace is applied
first. -/
def execDeltaEnd (session : Nat) (s : State) : Result := replRun session 0x24 s fun _ s =>
  let x := s.session session
  let rolling := s.staged.any fun r => !r.applied && !r.dropped && r.nsid == x.nsid && r.deltas.any fun d => d.op == 15
  match s.ns? x.nsid with
  | none => (true, s)
  | some n =>
    if !x.receiving then (true, s)
    else if x.wanted.any fun w => !x.syncIn.has w.1 then (true, s.abortDelta session 4)
    else if layerLimit ≤ s.layersToCome then (true, s.abortDelta session 3)
    else if rolling then (false, s)
    else
      let id := (s.mdom n.domain).nextLayer
      let s := s.updMdom n.domain fun m => { m with nextLayer := m.nextLayer + 1 }
      let s := s.closeStream n.domain 0 (s.rankOf 16)
      let s := s.stageMap n.domain x.nsid (s.rankOf 16) [{ ashlar := id, op := 9, target := n.layer }] none
      (true, s.updSession session fun x => { x with ended := true, sending := n.layer })

/-- The extents that follow the records of a SYNC_WRITE, for its data records in order; none when they do not end with the
body. -/
def cutExtents (wire : Bool) : List DeltaRec → List Byte → Option (List (List Byte))
  | [], b => if b.isEmpty then some [] else none
  | r :: rs, b =>
    if r.op ≠ 6 && r.op ≠ 7 then cutExtents wire rs b
    else
      let n := 16 + fieldAt b 12 4 + (if wire then 28 else 0)
      if b.length < n then none
      else (cutExtents wire rs (b.drop n)).map fun es => b.take n :: es

/-- The records and extents of a SYNC_WRITE: the least number of records that leaves exactly their extents (log entry 40). -/
def parseSync (wire : Bool) (b : List Byte) : Option (List DeltaRec × List (List Byte)) :=
  (List.range 65).findSome? fun n =>
    let rs := (List.range n).map fun k => parseDeltaRec (slice b (48 * k) 48)
    if b.length < 48 * n then none else (cutExtents wire rs (b.drop (48 * n))).map fun es => (rs, es)

/-- SYNC_WRITE (R363): applied as a write, and acknowledged at the ack point of its records. -/
def execSyncWrite (session : Nat) (s : State) : Result := replRun session 0x26 s fun m s =>
  let refuse (s : State) : State := s.replSend session 0x27 m.wsn 0 (le 1 1 ++ zeros 15)
  match parseSync (bit m.flags 0) m.body with
  | none => (true, refuse s)
  | some (rs, es) =>
    let absent := s.absentIndex session rs
    let units := (es.map fun e => e.length / 256 + 1).sum
    if !s.targetKey session || s.pagesFree < 6 * rs.length then (true, refuse s)
    else if !s.targetRoom rs.length units then (false, s)
    else if !absent.isEmpty then (false, s.readIndexPages session absent)
    else
      let y := s.takeRecords session rs
      let data := y.2.1.filter fun k => ((rs[k]?).map fun r => !r.offer).getD false
      let need := y.2.1.filter fun k => !data.contains k
      let z := (data.zip es).foldl (fun (acc : Bool × List Nat × State) e =>
        match (acc.2.2.openWire session (bit m.flags 0) e.2).bind fun b => acc.2.2.stageExtent session (rs.getD e.1 { ashlar := 0, op := 0 }) b with
        | some w => (acc.1, acc.2.1 ++ [w.1], w.2)
        | none => (false, acc.2.1, acc.2.2)) (true, y.1, y.2.2)
      if !z.1 then (true, refuse z.2.2)
      else
        let put (x : Session) : Session :=
          { x with syncIn := x.syncIn.set m.seq (m.wsn, z.2.1, need.length),
                   offers := if need.isEmpty then x.offers else x.offers.set m.seq rs,
                   wanted := if need.isEmpty then x.wanted else x.wanted.set m.seq need }
        let t := z.2.2.updSession session put
        (true, if need.isEmpty then t.settleSync else t.replSend session 0x27 m.wsn 0 (zeros 8 ++ le 8 (needBits need)))

end Sys2Proof.Machine
end

