-- ==== Sys2Proof/Machine/StripeFamily.lean ====
section
/-! DEFINITION. The packets of class 0x07 (R283, R285, R287). -/

namespace Sys2Proof.Machine

/-- STRIPE_CONFIG (R287). -/
def execStripeConfig (op : PktOp) (s : State) : Result := packetRun 0x0700 op s fun p s =>
  let d := p.f 0 1
  s.ownerOnly p d (fun s =>
    if (s.layout? (p.f 1 1)).isNone then s.fail p St.layoutAbsent
    else
      let s := s.updSdom d fun x =>
        { x with layoutId := p.f 1 1, closeAge := p.f 2 2, gcStart := p.f 4 2, gcStop := p.f 6 2, gcReserve := p.f 8 2,
                 journalWindow := p.f 0xA 2, freeCeiling := p.f 0xC 4 }
      s.replyOk p)

/-- REBUILD_CONFIG (R281, R287). -/
def execRebuildConfig (op : PktOp) (s : State) : Result := packetRun 0x0701 op s fun p s =>
  let b : Rebuild := { s.stripe.rebuild with floor := p.f 0 4, gateMax := p.f 4 2 }
  ({ s with stripe.rebuild := b }).replyOk p

/-- STRIPE_QUERY (R287). -/
def execStripeQuery (op : PktOp) (s : State) : Result := packetRun 0x0702 op s fun p s =>
  let n := p.f 0 1 * 2 ^ 32 + p.f 4 4
  s.ownerOnly p (p.f 0 1) (fun s =>
    if s.stripe.stripes.has n then s.reply p St.ok 0 (s.stripeRecord n) else s.fail p St.stripeUnknown)

/-- SEGMENT_QUERY (R287). -/
def execSegmentQuery (op : PktOp) (s : State) : Result := packetRun 0x0703 op s fun p s =>
  let g := p.f 0 4
  s.ownerOnly p (segmentDomain g) (fun s =>
    if s.stripe.segments.has g then s.reply p St.ok 0 (s.segmentRecord g) else s.fail p St.segmentUnknown)

/-- REBUILD_STATUS (R287). -/
def execRebuildStatus (op : PktOp) (s : State) : Result := packetRun 0x0704 op s fun p s =>
  let b := s.stripe.rebuild
  let qs := s.stripe.segments.filter fun g => g.2.toRebuild
  let at_ (m : Nat) : Nat := (qs.filter fun g => g.2.parity - g.2.missing.length == m).length
  let row := match b.current with
    | some g => (s.segment g).rebuildRow
    | none => 0
  s.reply p St.ok 0 ((List.range 4).flatMap (fun m => le 4 (at_ m)) ++ le 8 b.done ++ le 8 b.cells ++ le 8 b.bytes ++ le 8 b.gateUs ++
    le 8 b.lost ++ le 4 (b.current.getD 0) ++ le 2 row ++ zeros 2)

/-- LOST_LIST (R283, R287). -/
def execLostList (op : PktOp) (s : State) : Result := packetRun 0x0705 op s fun p s =>
  s.ownerOnly p (p.f 0 1) (fun s =>
    let es := ((s.lostOf (p.f 0 1)).drop (p.f 4 4)).take (p.dataLen / 16)
    s.reply p St.ok es.length
      (es.flatMap fun e => e.2.record e.1))

/-- A page-table, ledger or forwarding entry still names a stripe, other than one marked lost (R283). -/
def State.stripeNamed (s : State) (n : Nat) : Bool :=
  (s.map.pages.any fun x => x.2.pxa != 0 && pxaStripe x.2.pxa == n && !x.2.lost) ||
  (s.stripe.extents.any fun e => pxaStripe e.1 == n && decide (0 < e.2.mapCount + e.2.pending)) ||
  (s.stripe.forward.any fun f => pxaStripe f.1 == n || pxaStripe f.2 == n)

/-- LOST_CLEAR (R283). -/
def execLostClear (op : PktOp) (s : State) : Result := packetRun 0x0706 op s fun p s =>
  let n := p.f 0 1 * 2 ^ 32 + p.f 4 4
  s.ownerOnly p (p.f 0 1) (fun s =>
    match s.stripe.lost.get? n with
    | none => s.fail p St.stripeUnknown
    | some e =>
      if !e.swept || s.stripeNamed n then s.fail p St.lostInUse
      else (s.journalWrite (p.f 0 1) (s.rankOf 13) (.lostClear n) 0).replyOk p)

/-- GC_CONTROL (R276, R287). -/
def execGcControl (op : PktOp) (s : State) : Result := packetRun 0x0707 op s fun p s =>
  let d := p.f 0 1
  let g := p.f 4 4
  let x := s.segment g
  s.ownerOnly p d (fun s =>
    if p.f 1 1 ≠ 2 then (s.updSdom d fun y => { y with gcSuspended := p.f 1 1 == 1 }).replyOk p
    else if !s.stripe.segments.has g || segmentDomain g ≠ d then s.fail p St.segmentUnknown
    else if x.state == .rebuilding || x.state == .evacuating || x.state == .erasing then s.fail p St.segmentBusy
    else (s.queueVictim g (s.rankOf 14)).replyOk p)

/-- MODULE_RETIRE (R285). -/
def execModuleRetire (op : PktOp) (s : State) : Result := packetRun 0x0708 op s fun p s =>
  let m := p.f 0 2
  let x := s.module m
  if x.state = .detached then s.fail p St.moduleState
  else if p.f 2 1 = 1 then
    (((s.updModule m fun x => { x with state := .retiring }).emptyPools m).checkRetired m).replyOk p
  else if x.state ≠ .retiring then s.fail p St.moduleState
  else (s.updModule m fun x => { x with state := .attached, retired := false }).replyOk p

/-- JOURNAL_STATUS (R287). -/
def execJournalStatus (op : PktOp) (s : State) : Result := packetRun 0x0709 op s fun p s =>
  let d := p.f 0 1
  let j := s.journal d
  s.ownerOnly p d (fun s =>
    s.reply p St.ok 0 (fit 6 (j.trio.flatMap (le 2)) ++ le 1 (boolNat j.degraded) ++ zeros 1 ++ le 8 j.seq ++ le 8 j.checkpointSeq ++
      le 8 j.checkpointLow ++ le 8 j.window ++ le 8 (windowBytes (s.sdom d))))

/-- STRIPE_COUNTERS (R287): the last of them counts the forwarding entries live now. -/
def execStripeCounters (op : PktOp) (s : State) : Result := packetRun 0x070A op s fun p s =>
  let data := (s.stripe.counters.take 11).flatMap (le 8) ++ le 8 s.stripe.forward.length
  (if p.f 0 1 = 1 then { s with stripe.counters := List.replicate 12 0 } else s).reply p St.ok 0 data

end Sys2Proof.Machine
end

