-- ==== Sys2Proof/Machine/TransportFamily.lean ====
section
/-! DEFINITION. The commands of the RC transport (R99, R109 to R124). -/

namespace Sys2Proof.Machine

/-- A packet arrives on a logical port that is link up; others are not for the command. -/
def rcRun (p : RcPacket) (fits : Bool) (s : State) : Result :=
  dataIf (fits && (s.lport p.lport).up && s.lportEnabled p.lport) s (s.rcReceive p)

/-- The packet is a request: everything but responses and acknowledgements. -/
def isRequestPacket (p : RcPacket) : Bool := decide (p.op < 32) && !(decide (13 ≤ p.op) && decide (p.op ≤ 18))

/-- RC_REQUEST_RECEIVE (R111). -/
def execRcRequestReceive (pkt : RcPacket) (s : State) : Result := rcRun pkt (isRequestPacket pkt) s

/-- RC_ACK_RECEIVE (R114). -/
def execRcAckReceive (pkt : RcPacket) (s : State) : Result := rcRun pkt (pkt.op == 17 && pkt.aeth == .ack) s

/-- RC_SEQ_NAK_RECEIVE (R114). -/
def execRcSeqNakReceive (pkt : RcPacket) (s : State) : Result := rcRun pkt (pkt.op == 17 && pkt.aeth == .seqNak) s

/-- RC_RNR_NAK_RECEIVE (R115). -/
def execRcRnrNakReceive (pkt : RcPacket) (s : State) : Result :=
  rcRun pkt (pkt.op == 17 && match pkt.aeth with
    | .rnr _ => true
    | _ => false) s

/-- RC_ERROR_NAK_RECEIVE (R104, R114). -/
def execRcErrorNakReceive (pkt : RcPacket) (s : State) : Result :=
  rcRun pkt (pkt.op == 17 && (pkt.aeth == .invalidRequest || pkt.aeth == .remoteAccess || pkt.aeth == .remoteOperational)) s

/-- RDMA_READ_RESPONSE_RECEIVE (R114, R120). -/
def execRdmaReadResponseReceive (pkt : RcPacket) (s : State) : Result := rcRun pkt (decide (13 ≤ pkt.op) && decide (pkt.op ≤ 16)) s

/-- CONTEXT_FETCH_COMPLETE (R106, R123): the held packets are processed in order, then those that could not start their fetch. -/
def execContextFetchComplete (conn : Nat) (s : State) : Result :=
  let held := (s.conn conn).held
  let t := (s.updConn conn fun c => { c with held := [] }).makeResident conn
  let t := held.foldl (fun t p =>
    if (t.conn conn).state = .free || (t.conn conn).gen ≠ qpnGen p.qpn then t.netCount 7 1 else t.rcResident conn p) t
  let t := (List.range 34).foldl (fun t lp => (t.rcResume lp (t.lport lp).rxq.length).flowCheck lp) t
  dataIf (!held.isEmpty) s t

/-- ACK_COALESCE_EXPIRY (R112). -/
def execAckCoalesceExpiry (conn : Nat) (s : State) : Result :=
  let c := s.conn conn
  dataIf (c.state == .ready && match c.ackDue with
    | some t => decide (t ≤ s.now)
    | none => false) s (s.sendAck conn)

/-- RNR_TIMER_EXPIRY (R115). -/
def execRnrTimerExpiry (conn : Nat) (s : State) : Result :=
  let c := s.conn conn
  let t := ((s.updConn conn fun c => { c with rnrUntil := none }).resendFrom conn c.rnrPsn).pump conn
  dataIf (c.state == .ready && match c.rnrUntil with
    | some d => s.expired d
    | none => false) s t

/-- RETRANSMIT_TIMER_EXPIRY (R113). -/
def execRetransmitTimerExpiry (conn : Nat) (s : State) : Result :=
  dataIf (s.ackLate conn) s (s.ackExpiry conn)

/-! ### ECN rate control (R110) -/

/-- A rate within min_rate and the line rate. -/
def State.boundRate (s : State) (c : Conn) (r : Nat) : Nat := min (s.lineRate c.lport) (max r s.net.config.minRate)

/-- CNP_RECEIVE (R99, R110): at most one each cnp_interval is acted on. The rate is kept in whole Mbit/s and alpha in units of 2^-16,
both rounded down, and the bytes of the byte counter are those of payloads, where R110 gives no rounding and does not say what a sent
byte is (DESIGN CHOICE, log entry 137). -/
def execCnpReceive (lport : Nat) (cnp : CnpPacket) (s : State) : Result :=
  let i := qpnIndex cnp.qpn
  let c := s.conn i
  let g := s.net.config.alphaGain
  let due := match c.cnpAt with
    | some t => decide (t + 1000 * s.net.config.cnpInterval ≤ s.now)
    | none => true
  let cut : Conn :=
    { c with target := c.rate, rate := s.boundRate c (c.rate - c.rate * c.alpha / 131072),
             alpha := (65536 - g) * c.alpha / 65536 + g, step := 0, rateAt := s.now, sentBytes := 0, alphaAt := s.now,
             cnpAt := some s.now }
  let t0 := (s.portCount lport 0 1).portCount lport 1 (s.frameBytes lport c.ip 16 0)
  let t := t0.portCount lport 26 1
  let t :=
    if !cnp.icrcOk then t0.portCount lport 27 1
    else if !cnp.pkeyOk then t0.portCount lport 28 1
    else if c.state = .free || c.gen ≠ qpnGen cnp.qpn then t.netCount 7 1
    else if c.state ≠ .ready || !bit s.net.config.ecnEnable 0 || !due then t
    else t.updConn i fun _ => cut
  dataIf ((s.lport lport).up && s.lportEnabled lport) s t

/-- RATE_TIMER_EXPIRY (R110): the rate timer has run out, or byte_counter bytes have been sent; each starts over by itself, both only on
a CNP. -/
def execRateTimerExpiry (conn : Nat) (s : State) : Result :=
  let c := s.conn conn
  let f := s.net.config
  let step := min (c.step + 1) 255
  let target := c.target + (if 10 < step then f.haiRate else if 5 < step then f.aiRate else 0)
  let timer := decide (c.rateAt + 1000 * f.rateTimer ≤ s.now)
  let up : Conn :=
    { c with step := step, target := target, rate := s.boundRate c ((c.rate + target) / 2),
             rateAt := if timer then s.now else c.rateAt,
             sentBytes := if timer then c.sentBytes else c.sentBytes - 1024 * f.byteCounter }
  dataIf (c.state == .ready && bit f.ecnEnable 0 && (timer || decide (1024 * f.byteCounter ≤ c.sentBytes))) s
    (s.updConn conn fun _ => up)

/-- ALPHA_TIMER_EXPIRY (R110). -/
def execAlphaTimerExpiry (conn : Nat) (s : State) : Result :=
  let c := s.conn conn
  let f := s.net.config
  let down : Conn := { c with alpha := (65536 - f.alphaGain) * c.alpha / 65536, alphaAt := s.now }
  dataIf (c.state == .ready && bit f.ecnEnable 0 && decide (c.alphaAt + 1000 * f.alphaTimer ≤ s.now)) s (s.updConn conn fun _ => down)

end Sys2Proof.Machine
end

