-- ==== Sys2Proof/Machine/Dispatch.lean ====
section
/-! DEFINITION. The dispatch of commands to their meanings, one arm per constructor of Instr. -/

namespace Sys2Proof.Machine

def exec (i : Instr) (s : State) : Host.Outcome State Fault Refusal :=
  match i with
  | .powerOn vbus => Sys2Proof.Machine.execPowerOn vbus s
  | .coreRailsInRegulation => Sys2Proof.Machine.execCoreRailsInRegulation s
  | .autoResetRelease straps => Sys2Proof.Machine.execAutoResetRelease straps s
  | .vbusLow vbus => Sys2Proof.Machine.execVbusLow vbus s
  | .brownout vbus => Sys2Proof.Machine.execBrownout vbus s
  | .brownoutRelease vbus => Sys2Proof.Machine.execBrownoutRelease vbus s
  | .vbusStop vbus => Sys2Proof.Machine.execVbusStop vbus s
  | .vbusFail => Sys2Proof.Machine.execVbusFail s
  | .drainQuiesceEnd => Sys2Proof.Machine.execDrainQuiesceEnd s
  | .drainedStateEnter => Sys2Proof.Machine.execDrainedStateEnter s
  | .loadBandCrossing band => Sys2Proof.Machine.execLoadBandCrossing band s
  | .phasePlanRederived => Sys2Proof.Machine.execPhasePlanRederived s
  | .islandWakeAdmit => Sys2Proof.Machine.execIslandWakeAdmit s
  | .islandRampEnd island => Sys2Proof.Machine.execIslandRampEnd island s
  | .clockLoss clock => Sys2Proof.Machine.execClockLoss clock s
  | .clockRestored clock => Sys2Proof.Machine.execClockRestored clock s
  | .resetPinAssert => Sys2Proof.Machine.execResetPinAssert s
  | .internalResetBegin => Sys2Proof.Machine.execInternalResetBegin s
  | .resetPinRelease straps => Sys2Proof.Machine.execResetPinRelease straps s
  | .pcieReset kind => Sys2Proof.Machine.execPcieReset kind s
  | .busMasterOrDStateChange bme d0 => Sys2Proof.Machine.execBusMasterOrDStateChange bme d0 s
  | .thermalAlertAssert sensor temp => Sys2Proof.Machine.execThermalAlertAssert sensor temp s
  | .thermalAlertRelease temps => Sys2Proof.Machine.execThermalAlertRelease temps s
  | .thermalTrip sensor temp => Sys2Proof.Machine.execThermalTrip sensor temp s
  | .smbStatusClear value => Sys2Proof.Machine.execSmbStatusClear value s
  | .smbRegisterWrite code value => Sys2Proof.Machine.execSmbRegisterWrite code value s
  | .tapInstruction ir shiftIn => Sys2Proof.Machine.execTapInstruction ir shiftIn s
  | .islandPower op => Sys2Proof.Machine.execIslandPower op s
  | .powerStatus op => Sys2Proof.Machine.execPowerStatus op s
  | .holdupConfig op => Sys2Proof.Machine.execHoldupConfig op s
  | .chipPowerDown op => Sys2Proof.Machine.execChipPowerDown op s
  | .powerDownCommandsSettled => Sys2Proof.Machine.execPowerDownCommandsSettled s
  | .powerDownDrainDone => Sys2Proof.Machine.execPowerDownDrainDone s
  | .chipReset op => Sys2Proof.Machine.execChipReset op s
  | .softwareResetExpiry => Sys2Proof.Machine.execSoftwareResetExpiry s
  | .stampCheckpointInterval failure => Sys2Proof.Machine.execStampCheckpointInterval failure s
  | .sqTailDb n v => Sys2Proof.Machine.execSqTailDb n v s
  | .rqHeadDb n v => Sys2Proof.Machine.execRqHeadDb n v s
  | .evqHeadDb v => Sys2Proof.Machine.execEvqHeadDb v s
  | .ringEnable n v => Sys2Proof.Machine.execRingEnable n v s
  | .ringStop n v => Sys2Proof.Machine.execRingStop n v s
  | .ringStopDrained n => Sys2Proof.Machine.execRingStopDrained n s
  | .evqEnable v => Sys2Proof.Machine.execEvqEnable v s
  | .evqDisable v => Sys2Proof.Machine.execEvqDisable v s
  | .registerWrite bar off size v => Sys2Proof.Machine.execRegisterWrite bar off size v s
  | .packetFetch slot => Sys2Proof.Machine.execPacketFetch slot s
  | .replyWriteRefused n => Sys2Proof.Machine.execReplyWriteRefused n s
  | .eventPost => Sys2Proof.Machine.execEventPost s
  | .eventWriteRefused => Sys2Proof.Machine.execEventWriteRefused s
  | .nop op => Sys2Proof.Machine.execNop op s
  | .chipIdentify op => Sys2Proof.Machine.execChipIdentify op s
  | .stampRead op => Sys2Proof.Machine.execStampRead op s
  | .eventConfig op => Sys2Proof.Machine.execEventConfig op s
  | .eventCounts op => Sys2Proof.Machine.execEventCounts op s
  | .stampLoRead => Sys2Proof.Machine.execStampLoRead s
  | .dumpWindowBaseWrite v => Sys2Proof.Machine.execDumpWindowBaseWrite v s
  | .ksPrioWrite a v => Sys2Proof.Machine.execKsPrioWrite a v s
  | .dgLwDataWrite c v => Sys2Proof.Machine.execDgLwDataWrite c v s
  | .dgLwCtrlWrite c v => Sys2Proof.Machine.execDgLwCtrlWrite c v s
  | .portLinkUp lport => Sys2Proof.Machine.execPortLinkUp lport s
  | .portLinkDown lport => Sys2Proof.Machine.execPortLinkDown lport s
  | .serdesEnvelopeCrossing port lane => Sys2Proof.Machine.execSerdesEnvelopeCrossing port lane s
  | .frameReceive lport frame => Sys2Proof.Machine.execFrameReceive lport frame s
  | .pfcFrameReceive lport enabled quanta => Sys2Proof.Machine.execPfcFrameReceive lport enabled quanta s
  | .pfcPauseExpiry lport prio => Sys2Proof.Machine.execPfcPauseExpiry lport prio s
  | .pfcPauseLongExpiry lport prio => Sys2Proof.Machine.execPfcPauseLongExpiry lport prio s
  | .cmReqReceive req => Sys2Proof.Machine.execCmReqReceive req s
  | .cmRepReceive conn rep psn mtu => Sys2Proof.Machine.execCmRepReceive conn rep psn mtu s
  | .cmRtuReceive conn => Sys2Proof.Machine.execCmRtuReceive conn s
  | .cmRejReceive conn => Sys2Proof.Machine.execCmRejReceive conn s
  | .cmRetryExpiry conn => Sys2Proof.Machine.execCmRetryExpiry conn s
  | .cmDreqReceive conn => Sys2Proof.Machine.execCmDreqReceive conn s
  | .cmDrepReceive conn => Sys2Proof.Machine.execCmDrepReceive conn s
  | .dreqRetryExpiry conn => Sys2Proof.Machine.execDreqRetryExpiry conn s
  | .timewaitExpiry conn => Sys2Proof.Machine.execTimewaitExpiry conn s
  | .rcRequestReceive pkt => Sys2Proof.Machine.execRcRequestReceive pkt s
  | .ackCoalesceExpiry conn => Sys2Proof.Machine.execAckCoalesceExpiry conn s
  | .rcAckReceive pkt => Sys2Proof.Machine.execRcAckReceive pkt s
  | .rcSeqNakReceive pkt => Sys2Proof.Machine.execRcSeqNakReceive pkt s
  | .rcRnrNakReceive pkt => Sys2Proof.Machine.execRcRnrNakReceive pkt s
  | .rcErrorNakReceive pkt => Sys2Proof.Machine.execRcErrorNakReceive pkt s
  | .rnrTimerExpiry conn => Sys2Proof.Machine.execRnrTimerExpiry conn s
  | .rdmaReadResponseReceive pkt => Sys2Proof.Machine.execRdmaReadResponseReceive pkt s
  | .retransmitTimerExpiry conn => Sys2Proof.Machine.execRetransmitTimerExpiry conn s
  | .cnpReceive lport cnp => Sys2Proof.Machine.execCnpReceive lport cnp s
  | .rateTimerExpiry conn => Sys2Proof.Machine.execRateTimerExpiry conn s
  | .alphaTimerExpiry conn => Sys2Proof.Machine.execAlphaTimerExpiry conn s
  | .contextFetchComplete conn => Sys2Proof.Machine.execContextFetchComplete conn s
  | .portConfig op => Sys2Proof.Machine.execPortConfig op s
  | .transportConfig op => Sys2Proof.Machine.execTransportConfig op s
  | .connQuery op => Sys2Proof.Machine.execConnQuery op s
  | .connPin op => Sys2Proof.Machine.execConnPin op s
  | .portStatus op => Sys2Proof.Machine.execPortStatus op s
  | .portCounters op => Sys2Proof.Machine.execPortCounters op s
  | .ctrlFrameSend op => Sys2Proof.Machine.execCtrlFrameSend op s
  | .ctrlFrameRecv op => Sys2Proof.Machine.execCtrlFrameRecv op s
  | .transportCounters op => Sys2Proof.Machine.execTransportCounters op s
  | .connDisconnect op => Sys2Proof.Machine.execConnDisconnect op s
  | .fabricsConnect conn => Sys2Proof.Machine.execFabricsConnect conn s
  | .propertySet conn => Sys2Proof.Machine.execPropertySet conn s
  | .shutdownComplete cntlid => Sys2Proof.Machine.execShutdownComplete cntlid s
  | .propertyGet conn => Sys2Proof.Machine.execPropertyGet conn s
  | .getLogPage conn => Sys2Proof.Machine.execGetLogPage conn s
  | .nvmeIdentify conn => Sys2Proof.Machine.execNvmeIdentify conn s
  | .abort conn => Sys2Proof.Machine.execAbort conn s
  | .setFeatures conn => Sys2Proof.Machine.execSetFeatures conn s
  | .getFeatures conn => Sys2Proof.Machine.execGetFeatures conn s
  | .asyncEventRequest conn => Sys2Proof.Machine.execAsyncEventRequest conn s
  | .keepAlive conn => Sys2Proof.Machine.execKeepAlive conn s
  | .keepAliveExpiry cntlid => Sys2Proof.Machine.execKeepAliveExpiry cntlid s
  | .formatNvm conn => Sys2Proof.Machine.execFormatNvm conn s
  | .sanitizeBlockErase conn => Sys2Proof.Machine.execSanitizeBlockErase conn s
  | .sanitizeCryptoErase conn => Sys2Proof.Machine.execSanitizeCryptoErase conn s
  | .sanitizeExitFailure conn => Sys2Proof.Machine.execSanitizeExitFailure conn s
  | .eraseOperationStep index => Sys2Proof.Machine.execEraseOperationStep index s
  | .eraseOperationEnd index => Sys2Proof.Machine.execEraseOperationEnd index s
  | .nvmeFlush conn => Sys2Proof.Machine.execNvmeFlush conn s
  | .flushComplete cmd => Sys2Proof.Machine.execFlushComplete cmd s
  | .nvmeWrite conn => Sys2Proof.Machine.execNvmeWrite conn s
  | .nvmeRead conn => Sys2Proof.Machine.execNvmeRead conn s
  | .writeZeroes conn => Sys2Proof.Machine.execWriteZeroes conn s
  | .datasetManagement conn => Sys2Proof.Machine.execDatasetManagement conn s
  | .subsysConfig op => Sys2Proof.Machine.execSubsysConfig op s
  | .subsysDelete op => Sys2Proof.Machine.execSubsysDelete op s
  | .subsysHosts op => Sys2Proof.Machine.execSubsysHosts op s
  | .nsCreate op => Sys2Proof.Machine.execNsCreate op s
  | .nsDelete op => Sys2Proof.Machine.execNsDelete op s
  | .nsResize op => Sys2Proof.Machine.execNsResize op s
  | .nsSetClass op => Sys2Proof.Machine.execNsSetClass op s
  | .nsQuery op => Sys2Proof.Machine.execNsQuery op s
  | .ctrlQuery op => Sys2Proof.Machine.execCtrlQuery op s
  | .ctrlTeardown op => Sys2Proof.Machine.execCtrlTeardown op s
  | .healthSet op => Sys2Proof.Machine.execHealthSet op s
  | .eraseStart op => Sys2Proof.Machine.execEraseStart op s
  | .eraseStatus op => Sys2Proof.Machine.execEraseStatus op s
  | .discLogSet op => Sys2Proof.Machine.execDiscLogSet op s
  | .writeAdmit => Sys2Proof.Machine.execWriteAdmit s
  | .writeStalledExpiry rank => Sys2Proof.Machine.execWriteStalledExpiry rank s
  | .mergeReadIssue cmd sett => Sys2Proof.Machine.execMergeReadIssue cmd sett s
  | .indexLookup cmd unit ashlar => Sys2Proof.Machine.execIndexLookup cmd unit ashlar s
  | .byteCompareVerify cmd unit ashlar => Sys2Proof.Machine.execByteCompareVerify cmd unit ashlar s
  | .compressionJobEnd cmd unit ashlar => Sys2Proof.Machine.execCompressionJobEnd cmd unit ashlar s
  | .stagingPlace cmd => Sys2Proof.Machine.execStagingPlace cmd s
  | .indexPageRebuild domain page => Sys2Proof.Machine.execIndexPageRebuild domain page s
  | .reduceConfig op => Sys2Proof.Machine.execReduceConfig op s
  | .indexConfig op => Sys2Proof.Machine.execIndexConfig op s
  | .compJob op => Sys2Proof.Machine.execCompJob op s
  | .decompJob op => Sys2Proof.Machine.execDecompJob op s
  | .reduceStatus op => Sys2Proof.Machine.execReduceStatus op s
  | .reduceCounters op => Sys2Proof.Machine.execReduceCounters op s
  | .indexQuery op => Sys2Proof.Machine.execIndexQuery op s
  | .reduceConfigChip op => Sys2Proof.Machine.execReduceConfigChip op s
  | .dgStart op => Sys2Proof.Machine.execDgStart op s
  | .dgUpdate op => Sys2Proof.Machine.execDgUpdate op s
  | .dgFinish op => Sys2Proof.Machine.execDgFinish op s
  | .dgSuspend op => Sys2Proof.Machine.execDgSuspend op s
  | .dgResume op => Sys2Proof.Machine.execDgResume op s
  | .dgAbandon op => Sys2Proof.Machine.execDgAbandon op s
  | .dgStatus op => Sys2Proof.Machine.execDgStatus op s
  | .dgQueueDeadlineExpiry acc => Sys2Proof.Machine.execDgQueueDeadlineExpiry acc s
  | .keyLoad op => Sys2Proof.Machine.execKeyLoad op s
  | .keyGenerate op => Sys2Proof.Machine.execKeyGenerate op s
  | .keyDerive op => Sys2Proof.Machine.execKeyDerive op s
  | .keyExport op => Sys2Proof.Machine.execKeyExport op s
  | .keyDestroy op => Sys2Proof.Machine.execKeyDestroy op s
  | .keyQuery op => Sys2Proof.Machine.execKeyQuery op s
  | .keyPolicy op => Sys2Proof.Machine.execKeyPolicy op s
  | .gcmJob op => Sys2Proof.Machine.execGcmJob op s
  | .entropyTestFail test => Sys2Proof.Machine.execEntropyTestFail test s
  | .mapPageReadComplete page => Sys2Proof.Machine.execMapPageReadComplete page s
  | .mapApplyRecord wsn => Sys2Proof.Machine.execMapApplyRecord wsn s
  | .coldMergeSweep nsid ashlar => Sys2Proof.Machine.execColdMergeSweep nsid ashlar s
  | .writebackAgeExpiry page => Sys2Proof.Machine.execWritebackAgeExpiry page s
  | .mapPageEvict => Sys2Proof.Machine.execMapPageEvict s
  | .spoilDrainAck seq => Sys2Proof.Machine.execSpoilDrainAck seq s
  | .mapPinComplete nsid => Sys2Proof.Machine.execMapPinComplete nsid s
  | .lostSweep stripe => Sys2Proof.Machine.execLostSweep stripe s
  | .layerReleaseEnd domain layer => Sys2Proof.Machine.execLayerReleaseEnd domain layer s
  | .mapConfig op => Sys2Proof.Machine.execMapConfig op s
  | .snapCreate op => Sys2Proof.Machine.execSnapCreate op s
  | .snapDelete op => Sys2Proof.Machine.execSnapDelete op s
  | .cloneAttach op => Sys2Proof.Machine.execCloneAttach op s
  | .snapRollback op => Sys2Proof.Machine.execSnapRollback op s
  | .layerQuery op => Sys2Proof.Machine.execLayerQuery op s
  | .layerList op => Sys2Proof.Machine.execLayerList op s
  | .mapLookup op => Sys2Proof.Machine.execMapLookup op s
  | .mapCheck op => Sys2Proof.Machine.execMapCheck op s
  | .mapCheckEnd domain => Sys2Proof.Machine.execMapCheckEnd domain s
  | .mapStatus op => Sys2Proof.Machine.execMapStatus op s
  | .mapCounters op => Sys2Proof.Machine.execMapCounters op s
  | .ashlarRecheck op => Sys2Proof.Machine.execAshlarRecheck op s
  | .ashlarRecheckRun nsid ashlar => Sys2Proof.Machine.execAshlarRecheckRun nsid ashlar s
  | .segmentOpen domain stream => Sys2Proof.Machine.execSegmentOpen domain stream s
  | .freePoolReplenish domain => Sys2Proof.Machine.execFreePoolReplenish domain s
  | .stripeProgramsDone stripe => Sys2Proof.Machine.execStripeProgramsDone stripe s
  | .closeAgeExpiry stripe => Sys2Proof.Machine.execCloseAgeExpiry stripe s
  | .journalFrameSend domain => Sys2Proof.Machine.execJournalFrameSend domain s
  | .journalRecordDurable domain => Sys2Proof.Machine.execJournalRecordDurable domain s
  | .journalDegraded domain => Sys2Proof.Machine.execJournalDegraded domain s
  | .journalRepairEnd domain => Sys2Proof.Machine.execJournalRepairEnd domain s
  | .journalCheckpoint domain => Sys2Proof.Machine.execJournalCheckpoint domain s
  | .journalReplay domain image => Sys2Proof.Machine.execJournalReplay domain image s
  | .gcVictimStart domain => Sys2Proof.Machine.execGcVictimStart domain s
  | .gcSegmentErase segment => Sys2Proof.Machine.execGcSegmentErase segment s
  | .rebuildStart module => Sys2Proof.Machine.execRebuildStart module s
  | .rebuildRow segment => Sys2Proof.Machine.execRebuildRow segment s
  | .rebuildFloorWindowEnd => Sys2Proof.Machine.execRebuildFloorWindowEnd s
  | .floorGateOpen => Sys2Proof.Machine.execFloorGateOpen s
  | .stripeConfig op => Sys2Proof.Machine.execStripeConfig op s
  | .rebuildConfig op => Sys2Proof.Machine.execRebuildConfig op s
  | .stripeQuery op => Sys2Proof.Machine.execStripeQuery op s
  | .segmentQuery op => Sys2Proof.Machine.execSegmentQuery op s
  | .rebuildStatus op => Sys2Proof.Machine.execRebuildStatus op s
  | .lostList op => Sys2Proof.Machine.execLostList op s
  | .lostClear op => Sys2Proof.Machine.execLostClear op s
  | .gcControl op => Sys2Proof.Machine.execGcControl op s
  | .moduleRetire op => Sys2Proof.Machine.execModuleRetire op s
  | .journalStatus op => Sys2Proof.Machine.execJournalStatus op s
  | .stripeCounters op => Sys2Proof.Machine.execStripeCounters op s
  | .plinthLinkTrained link => Sys2Proof.Machine.execPlinthLinkTrained link s
  | .helloInterval link => Sys2Proof.Machine.execHelloInterval link s
  | .plinthHelloAnswer link module credits session => Sys2Proof.Machine.execPlinthHelloAnswer link module credits session s
  | .plinthLinkLoss link cause => Sys2Proof.Machine.execPlinthLinkLoss link cause s
  | .plinthSilenceExpiry link => Sys2Proof.Machine.execPlinthSilenceExpiry link s
  | .keepaliveInterval link => Sys2Proof.Machine.execKeepaliveInterval link s
  | .creditInterval link => Sys2Proof.Machine.execCreditInterval link s
  | .plinthCreditReceive link keepalive value => Sys2Proof.Machine.execPlinthCreditReceive link keepalive value s
  | .readIssue module die => Sys2Proof.Machine.execReadIssue module die s
  | .scheduleFrameStart => Sys2Proof.Machine.execScheduleFrameStart s
  | .slotStart module slot => Sys2Proof.Machine.execSlotStart module slot s
  | .suspendTrigger module die => Sys2Proof.Machine.execSuspendTrigger module die s
  | .suspendAgeExpiry module die => Sys2Proof.Machine.execSuspendAgeExpiry module die s
  | .plinthReadData link module cmdId attempt index bytes => Sys2Proof.Machine.execPlinthReadData link module cmdId attempt index bytes s
  | .plinthReadResponse r => Sys2Proof.Machine.execPlinthReadResponse r s
  | .plinthProgramResponse r => Sys2Proof.Machine.execPlinthProgramResponse r s
  | .plinthEraseResponse r => Sys2Proof.Machine.execPlinthEraseResponse r s
  | .plinthJournalAppendResponse r => Sys2Proof.Machine.execPlinthJournalAppendResponse r s
  | .plinthClaimPresentResponse r => Sys2Proof.Machine.execPlinthClaimPresentResponse r s
  | .plinthBlockCommandResponse r => Sys2Proof.Machine.execPlinthBlockCommandResponse r s
  | .plinthSuspendResponse r => Sys2Proof.Machine.execPlinthSuspendResponse r s
  | .plinthInfoResponse r data => Sys2Proof.Machine.execPlinthInfoResponse r data s
  | .plinthResponseExpiry module cmdId => Sys2Proof.Machine.execPlinthResponseExpiry module cmdId s
  | .restartScan target => Sys2Proof.Machine.execRestartScan target s
  | .moduleAttach module => Sys2Proof.Machine.execModuleAttach module s
  | .moduleDetach module cause => Sys2Proof.Machine.execModuleDetach module cause s
  | .linksDownReadExpiry module => Sys2Proof.Machine.execLinksDownReadExpiry module s
  | .plinthEnvelopeCrossing link tjBand loadBand => Sys2Proof.Machine.execPlinthEnvelopeCrossing link tjBand loadBand s
  | .flashScrubVisit => Sys2Proof.Machine.execFlashScrubVisit s
  | .flashConfig op => Sys2Proof.Machine.execFlashConfig op s
  | .linkConfig op => Sys2Proof.Machine.execLinkConfig op s
  | .linkStatus op => Sys2Proof.Machine.execLinkStatus op s
  | .moduleQuery op => Sys2Proof.Machine.execModuleQuery op s
  | .blockQuery op => Sys2Proof.Machine.execBlockQuery op s
  | .readLevelQuery op => Sys2Proof.Machine.execReadLevelQuery op s
  | .scheduleStatus op => Sys2Proof.Machine.execScheduleStatus op s
  | .flashCounters op => Sys2Proof.Machine.execFlashCounters op s
  | .headConfig op => Sys2Proof.Machine.execHeadConfig op s
  | .peerTable op => Sys2Proof.Machine.execPeerTable op s
  | .peerConnectRetry head lane => Sys2Proof.Machine.execPeerConnectRetry head lane s
  | .ringJoin op => Sys2Proof.Machine.execRingJoin op s
  | .ringLeave op => Sys2Proof.Machine.execRingLeave op s
  | .domainAcquire op => Sys2Proof.Machine.execDomainAcquire op s
  | .domainRelease op => Sys2Proof.Machine.execDomainRelease op s
  | .domainQuery op => Sys2Proof.Machine.execDomainQuery op s
  | .headStatus op => Sys2Proof.Machine.execHeadStatus op s
  | .failoverForce op => Sys2Proof.Machine.execFailoverForce op s
  | .heartbeatInterval => Sys2Proof.Machine.execHeartbeatInterval s
  | .heartbeat frame => Sys2Proof.Machine.execHeartbeat frame s
  | .heartbeatMissExpiry head direction => Sys2Proof.Machine.execHeartbeatMissExpiry head direction s
  | .join frame => Sys2Proof.Machine.execJoin frame s
  | .leave frame => Sys2Proof.Machine.execLeave frame s
  | .claimIntent frame => Sys2Proof.Machine.execClaimIntent frame s
  | .claimDone frame => Sys2Proof.Machine.execClaimDone frame s
  | .release frame => Sys2Proof.Machine.execRelease frame s
  | .failed frame => Sys2Proof.Machine.execFailed frame s
  | .takeoverDelayExpiry head => Sys2Proof.Machine.execTakeoverDelayExpiry head s
  | .mirrorReplay domain => Sys2Proof.Machine.execMirrorReplay domain s
  | .takeoverDone head => Sys2Proof.Machine.execTakeoverDone head s
  | .mirrorNote conn => Sys2Proof.Machine.execMirrorNote conn s
  | .mirrorAck conn => Sys2Proof.Machine.execMirrorAck conn s
  | .mirrorAckExpiry lane seq => Sys2Proof.Machine.execMirrorAckExpiry lane seq s
  | .journalMirror conn => Sys2Proof.Machine.execJournalMirror conn s
  | .progressMirror conn => Sys2Proof.Machine.execProgressMirror conn s
  | .tail conn => Sys2Proof.Machine.execTail conn s
  | .tailInterval => Sys2Proof.Machine.execTailInterval s
  | .mirrorBind conn => Sys2Proof.Machine.execMirrorBind conn s
  | .bindReply conn => Sys2Proof.Machine.execBindReply conn s
  | .mirrorBindRetry => Sys2Proof.Machine.execMirrorBindRetry s
  | .resilverComplete => Sys2Proof.Machine.execResilverComplete s
  | .resyncQuery conn => Sys2Proof.Machine.execResyncQuery conn s
  | .resyncReply conn => Sys2Proof.Machine.execResyncReply conn s
  | .replOpen op => Sys2Proof.Machine.execReplOpen op s
  | .replClose op => Sys2Proof.Machine.execReplClose op s
  | .replSend op => Sys2Proof.Machine.execReplSend op s
  | .replStatus op => Sys2Proof.Machine.execReplStatus op s
  | .replPump op => Sys2Proof.Machine.execReplPump op s
  | .deltaBegin session => Sys2Proof.Machine.execDeltaBegin session s
  | .offers session => Sys2Proof.Machine.execOffers session s
  | .needs session => Sys2Proof.Machine.execNeeds session s
  | .extent session => Sys2Proof.Machine.execExtent session s
  | .deltaEnd session => Sys2Proof.Machine.execDeltaEnd session s
  | .deltaDone session => Sys2Proof.Machine.execDeltaDone session s
  | .syncWrite session => Sys2Proof.Machine.execSyncWrite session s
  | .syncAck session => Sys2Proof.Machine.execSyncAck session s
  | .syncTimeoutExpiry session seq => Sys2Proof.Machine.execSyncTimeoutExpiry session seq s
  | .dramTraining dimms headerOk sectionsOk => Sys2Proof.Machine.execDramTraining dimms headerOk sectionsOk s
  | .dqsOscillatorCheck channel oscillator drift => Sys2Proof.Machine.execDqsOscillatorCheck channel oscillator drift s
  | .dramPatrolScrub channel lines hits => Sys2Proof.Machine.execDramPatrolScrub channel lines hits s
  | .sramSweep island hits metadata => Sys2Proof.Machine.execSramSweep island hits metadata s
  | .jointFlitRefused joint symbols first => Sys2Proof.Machine.execJointFlitRefused joint symbols first s
  | .arbiterContest a arrivals => Sys2Proof.Machine.execArbiterContest a arrivals s
  | .ksStarvationExpiry a rank => Sys2Proof.Machine.execKsStarvationExpiry a rank s
  | .dramConfig op => Sys2Proof.Machine.execDramConfig op s
  | .dramStatus op => Sys2Proof.Machine.execDramStatus op s
  | .dramRepairList op => Sys2Proof.Machine.execDramRepairList op s
  | .latencyConfig op => Sys2Proof.Machine.execLatencyConfig op s
  | .latencyStatus op => Sys2Proof.Machine.execLatencyStatus op s
  | .ksWatchRead op => Sys2Proof.Machine.execKsWatchRead op s
  | .fabricCounters op => Sys2Proof.Machine.execFabricCounters op s
  | .bootRom lost bad weak => Sys2Proof.Machine.execBootRom lost bad weak s
  | .lockstepMiscompare memory loc => Sys2Proof.Machine.execLockstepMiscompare memory loc s
  | .watchdogExpiry => Sys2Proof.Machine.execWatchdogExpiry s
  | .fieldImageStart => Sys2Proof.Machine.execFieldImageStart s
  | .selfTest hods ways sram channels engines lanes => Sys2Proof.Machine.execSelfTest hods ways sram channels engines lanes s
  | .startupService => Sys2Proof.Machine.execStartupService s
  | .hodFindWork hod => Sys2Proof.Machine.execHodFindWork hod s
  | .vaultWeakBlockCopy => Sys2Proof.Machine.execVaultWeakBlockCopy s
  | .logBlockReclaim => Sys2Proof.Machine.execLogBlockReclaim s
  | .vaultLoweringComplete => Sys2Proof.Machine.execVaultLoweringComplete s
  | .templateLoad op => Sys2Proof.Machine.execTemplateLoad op s
  | .templateCommit op => Sys2Proof.Machine.execTemplateCommit op s
  | .templateBankDrained => Sys2Proof.Machine.execTemplateBankDrained s
  | .templateDiscard op => Sys2Proof.Machine.execTemplateDiscard op s
  | .templateGenerate op => Sys2Proof.Machine.execTemplateGenerate op s
  | .templateQuery op => Sys2Proof.Machine.execTemplateQuery op s
  | .hodStatus op => Sys2Proof.Machine.execHodStatus op s
  | .selfTestResult op => Sys2Proof.Machine.execSelfTestResult op s
  | .vaultStatus op => Sys2Proof.Machine.execVaultStatus op s
  | .vaultRead op bad weak => Sys2Proof.Machine.execVaultRead op bad weak s
  | .vaultProtectRaise op => Sys2Proof.Machine.execVaultProtectRaise op s
  | .vaultProtectLower op => Sys2Proof.Machine.execVaultProtectLower op s
  | .updateOpen op => Sys2Proof.Machine.execUpdateOpen op s
  | .updateChunk op failure => Sys2Proof.Machine.execUpdateChunk op failure s
  | .updateStatus op => Sys2Proof.Machine.execUpdateStatus op s
  | .updateClose op => Sys2Proof.Machine.execUpdateClose op s
  | .updateAbort op => Sys2Proof.Machine.execUpdateAbort op s
  | .imageConfirm op => Sys2Proof.Machine.execImageConfirm op s
  | .imageSelect op => Sys2Proof.Machine.execImageSelect op s
  | .settingsReset op => Sys2Proof.Machine.execSettingsReset op s
  | .rubbleDump => Sys2Proof.Machine.execRubbleDump s
  | .dumpSectionsCopied faults failed => Sys2Proof.Machine.execDumpSectionsCopied faults failed s
  | .vaultSummaryWritten => Sys2Proof.Machine.execVaultSummaryWritten s
  | .faultStatus op => Sys2Proof.Machine.execFaultStatus op s
  | .errorLogRead op => Sys2Proof.Machine.execErrorLogRead op s
  | .errorLogClear op => Sys2Proof.Machine.execErrorLogClear op s
  | .dumpClear op => Sys2Proof.Machine.execDumpClear op s
  | .dumpSummaryList op => Sys2Proof.Machine.execDumpSummaryList op s
  | .footingEnter op => Sys2Proof.Machine.execFootingEnter op s
  | .footingExit op => Sys2Proof.Machine.execFootingExit op s
  | .faultInject op => Sys2Proof.Machine.execFaultInject op s
  | .anattExpiry domain => Sys2Proof.Machine.execAnattExpiry domain s
  | .lastWordWaitExpiry c => Sys2Proof.Machine.execLastWordWaitExpiry c s
  | .entropyTestPass => Sys2Proof.Machine.execEntropyTestPass s
  | .chipStateHeartbeatTick => Sys2Proof.Machine.execChipStateHeartbeatTick s
  | .msixIntervalExpiry vec => Sys2Proof.Machine.execMsixIntervalExpiry vec s
  | .vbusRiseAbove9v5 vbus => Sys2Proof.Machine.execVbusRiseAbove9v5 vbus s
  | .pciePerstLRise => Sys2Proof.Machine.execPciePerstLRise s

end Sys2Proof.Machine
end

