-- ==== Sys2Proof/Safety.lean ====
section
/-! DEFINITION. The safe runs of the block, its invariant, and the words the statements use for a packet that runs. -/

namespace Sys2Proof.Machine

/-- The bounds the spec gives the event backlog (R88) and the error log (R429). -/
abbrev State.Inv (s : State) : Prop := s.events.backlog.length ≤ backlogLimit ∧ s.events.errors.length ≤ errorLogSize

/-- A step is safe when it answers a next state: the block has no fault and refuses no command. -/
def safeStep (s : State) : Prop := ∃ t, step s = .next t

/-- The packet `p` is the one that a command names, it may take effect (R84, R85), the chip finds no internal fault, and its
data buffer, when it has one, can be read and written (R67). -/
abbrev State.takes (s : State) (op : PktOp) (opcode : Nat) (p : Packet) : Prop :=
  s.ready op opcode = some p ∧ op.internal = none ∧ (p.dataLen = 0 ∨ (op.dma && s.dma) = true)

/-- An admin or Fabrics capsule that fits a command is at the front of the admin queue connection `conn` of controller `c`, which
may run it: a discovery controller takes few (R132, R138, R144). -/
abbrev State.takesAdmin (s : State) (conn : Nat) (fits : List Byte → Bool) (cap : List Byte) (c : Nat) (x : Controller) : Prop :=
  s.frontCapsule conn = some cap ∧ s.ctrlOf conn = some c ∧ s.ctrl? c = some x ∧ fits cap = true ∧ s.qidOf conn = 0 ∧
    (x.subsys.isSome = true ∨ discoveryStatus cap = none)

/-- The capsule has been taken from the queue and its fetch stamp granted (R144). -/
def State.taken (s : State) (conn : Nat) : State := s.granted.popCapsule conn

/-- An I/O capsule of an opcode is at the front of the I/O queue connection `conn` of controller `c` of subsystem `sub`, it passes the checks of
R144, and the key of its namespace is present where it moves data or merges part of a sett (R207). -/
abbrev State.takesIo (s : State) (conn opcode : Nat) (cap : List Byte) (c sub : Nat) : Prop :=
  s.frontCapsule conn = some cap ∧ s.ctrlOf conn = some c ∧ sqOpcode cap = opcode ∧ s.qidOf conn ≠ 0 ∧
    (s.ctrl? c).bind Controller.subsys = some sub ∧ (s.taken conn).ioCheck conn sub cap = none ∧
      ((opcode = 1 ∨ opcode = 2 ∨
          (opcode = 8 ∧ partSett cap ((((s.taken conn).ns? (sqNsid cap)).map Namespace.lbaf).getD 0) = true)) →
        ((s.taken conn).dataKey ((((s.taken conn).ns? (sqNsid cap)).map Namespace.keySlot).getD 0xFF)).isSome = true)

/-- The message `m` of a kind, in the bytes `b`, is at the front of the peer connection `conn` of a lane to head `h`, and passes its checks
(R330); `rest` are the messages behind it. -/
abbrev State.takesPeer (s : State) (conn kind h lane : Nat) (m : PeerMsg) (b : List Byte) (rest : List (List Byte)) : Prop :=
  (s.conn conn).use = .peer h lane ∧ (s.conn conn).state = .ready ∧ m.kind = kind ∧ mirrorKinds.contains kind = true ∧
    (s.conn conn).inbox = b :: rest ∧ parseMessage h s.head.headId (s.conn conn).rxSeq b = some m

/-- The message has been taken from the connection, whose next number is one more (R330). -/
def State.peerTaken (s : State) (conn : Nat) (m : PeerMsg) (rest : List (List Byte)) : State :=
  (s.updConn conn fun c => { c with inbox := rest, inboxAt := c.inboxAt.drop 1 }).updConn conn fun c => { c with rxSeq := m.seq + 1 }

/-- The message `m` of a kind, in the bytes `b`, is at the front of session `i`, and passes its checks (R330). -/
abbrev State.takesRepl (s : State) (i kind : Nat) (m : PeerMsg) (b : List Byte) : Prop :=
  (s.session i).role ≠ 0 ∧ m.kind = kind ∧ (replKinds (s.session i).role).contains kind = true ∧
    s.sessionFront i = some b ∧
      parseMessage ((s.session i).tag % 65536) 0 (if (s.session i).conn.isSome then (s.session i).rxSeq else 0) b = some m

/-- The message has been used: it is off the session's queue, and a connection's next number is one more (R330). -/
def State.replTaken (i : Nat) (m : PeerMsg) (s : State) : State :=
  (s.sessionPop i).updSession i fun x => { x with rxSeq := if x.conn.isSome then m.seq + 1 else x.rxSeq }

/-- A packet names the open session `i`, whose namespace's domain this head owns, and the head is configured (R328, R356). -/
abbrev State.takesSession (s : State) (op : PktOp) (opcode : Nat) (p : Packet) (i : Nat) : Prop :=
  s.takes op opcode p ∧ s.head.configuration ≠ 0 ∧ p.f 0 1 = i ∧ (s.session i).role ≠ 0 ∧
    s.owns (((s.ns? (s.session i).nsid).map Namespace.domain).getD 256) = true

/-- A response answers, in time, the outstanding command `c` of one of the opcodes, and is no fencing, short transfer or failed die
(R31, R299). -/
abbrev State.takesAnswer (s : State) (r : PlResponse) (opcodes : List Nat) (c : PlCmd) : Prop :=
  (s.heard r.link 1).cmd? r.module r.cmdId = some c ∧ (s.heard r.link 1).overdue c = false ∧ opcodes.contains c.opcode = true ∧ r.status ≠ 1 ∧ r.status ≠ 3 ∧ r.status ≠ 9

/-- The frame counts as good, the die's temperature band is noted and the command is off the list (R292, R299, R319). -/
def State.answered (s : State) (r : PlResponse) (c : PlCmd) : State :=
  (((s.heard r.link 1).updModule r.module fun x => { x with exhausted := 0 }).updDie r.module c.die fun x =>
    { x with tempBand := tempBandOf r.dieTemp }).dropCmd r.module r.cmdId

/-- A ring frame of a type is the first copy of its number from a head of the peer table, and passes its CRC (R343). -/
abbrev State.takesRing (s : State) (typ : Nat) (f : RingFrame) : Prop :=
  s.head.joined = true ∧ f.typ = typ ∧ f.direction < 2 ∧ f.crcOk = true ∧ f.origin ≠ s.head.headId ∧ s.head.peers.has f.origin = true ∧
    (s.peer f.origin).seqs.contains f.seq = false

/-- The frame has been forwarded while it has ttl left, and its number is noted (R343). -/
def State.ringTaken (s : State) (f : RingFrame) : State :=
  (if 2 ≤ f.ttl then s.emit (.ring f.direction f.typ f.origin (f.ttl - 1) f.seq f.body) else s).updPeer f.origin fun p =>
    { p with seqs := if f.typ = 2 && (s.peer f.origin).state ≠ 1 then [f.seq] else f.seq :: p.seqs }

/-- What a list of messages sent adds to the output record: `os`, newest first. -/
def State.sent (s t : State) (os : List Out) : Prop := t.out = os ++ s.out

end Sys2Proof.Machine
end

