-- ==== Sys2Proof/Certificates/Slice0/Obligations.lean ====
section
/-! DEFINITION. The statements for the provers: what each command does where it completes, the rules of the shared operations, and
what every step keeps. -/

open Sys2Proof Sys2Proof.Machine

/-- Where its condition on the supply holds, each of the commands POWER_ON, CORE_RAILS_IN_REGULATION,
AUTO_RESET_RELEASE, VBUS_LOW, VBUS_RISE_ABOVE_9V5, BROWNOUT, BROWNOUT_RELEASE, VBUS_STOP and VBUS_FAIL answers the
next state named: the standby rail up with internal reset and the bypass held, PWR_GOOD risen, internal reset ended,
the warning raised and disarmed, armed again, the brown-out in force, lifted, every rail off, and a drain begun where
one may be. The wait of an event until stamps are granted is the model's (raiseEarly), and so is every island awake at
the release (log entry 46). (R39, R40, R46, R48, R56, R458) -/
def Obligations.SupplyCommandsAct : Prop :=
  (∀ (s : State) (vbus : Nat), s.power.standbyRail = false → 8700 ≤ vbus →
    ∃ t, exec (.powerOn vbus) s = .next t ∧ t.power.standbyRail = true ∧ t.power.vbus = vbus ∧ t.power.internalReset = true ∧
      t.power.bypassClosed = true ∧ t.power.coreRails = false ∧ t.mason.vault = s.mason.vault) ∧
  (∀ s : State, s.power.standbyRail = true → s.power.standby = false → s.power.coreRails = false → s.rampsDone = true →
    exec .coreRailsInRegulation s = .next { s with power := { s.power with
      coreRails := true, pwrGood := true, autoAt := if s.power.resetL then some (s.tick + ticksOf 1000000) else none } }) ∧
  (∀ (s : State) (straps : BitVec 6) (d : Nat), s.power.autoAt = some d → d < s.tick → s.power.internalReset = true →
    ∃ t, exec (.autoResetRelease straps) s = .next t ∧ t.power.internalReset = false ∧ t.power.straps = straps ∧
      t.power.sampled = true ∧ t.power.autoAt = none ∧ t.mason = s.mason ∧ t.pcie = s.pcie) ∧
  (∀ (s : State) (vbus : Nat), s.power.standbyRail = true → s.power.lowArmed = true → vbus < 9000 →
    exec (.vbusLow vbus) s =
      .next (({ s with power := { s.power with lowArmed := false } }.measured vbus).raiseEarly Ev.vbusLow (le 2 vbus))) ∧
  (∀ (s : State) (vbus : Nat), s.power.standbyRail = true → 9500 < vbus →
    exec (.vbusRiseAbove9v5 vbus) s = .next ({ s with power := { s.power with lowArmed := true } }.measured vbus)) ∧
  (∀ (s : State) (vbus : Nat), s.power.standbyRail = true → vbus < 8000 →
    exec (.brownout vbus) s =
      .next (({ s with power := { s.power with brownout := true, brownoutSeen := true } }.measured vbus).raiseEarly
        Ev.brownout (le 2 vbus)).supplyFails) ∧
  (∀ (s : State) (vbus : Nat), s.power.brownout = true → 8500 ≤ vbus →
    exec (.brownoutRelease vbus) s = .next ((List.range 96).foldl (fun t l => t.flushLink l)
      ({ s with power := { s.power with brownout := false } }.measured vbus))) ∧
  (∀ (s : State) (vbus : Nat), ∃ t : State, s.measured vbus = t ∧ t.power.vbus = vbus ∧ t.power.ibus < 2 ^ 16 ∧ t.power.pbus < 2 ^ 16 ∧
    { t with power := { t.power with vbus := s.power.vbus, ibus := s.power.ibus, pbus := s.power.pbus } } = s) ∧
  (∀ (s : State) (vbus : Nat), s.power.standbyRail = true → vbus < 7000 →
    ∃ t, exec (.vbusStop vbus) s = .next t ∧ t.power.standbyRail = false ∧ t.power.coreRails = false ∧ t.power.pwrGood = false ∧
      t.power.bypassClosed = true ∧ t.power.vbus = vbus ∧ t.mason.vault = s.mason.vault) ∧
  (∀ s : State, s.power.standbyRail = true → s.power.pdown = .none →
    exec .vbusFail s = .next { s with power := { s.power with vbusFail := true } }.supplyFails)

/-- In a state where a drain may start (the field image runs, no drain, power-down sequence, dump or reset under way)
a failing supply raises EV_VBUS_FAIL with the bytes in staging and is in the quiesce stage of the drain, the sticky
VBUS_FAIL bit set, CHIP_STATE.PHASE 7 and S recorded as those bytes, and then drops the commands that staging does not
hold; where no drain may start nothing changes. The command VBUS_FAIL with no power-down sequence ends in the first.
(R46, R48, R457, R458) -/
def Obligations.DrainBeginsOnSupplyFailure : Prop :=
  (∀ s : State, s.mayDrain = true →
    ∃ u : State, s.supplyFails = u.dropUnstaged.dropAdmin ∧ u.power.drain = .quiesce ∧ u.power.drainBytes = 256 * s.wp.occupancy ∧
      u.power.drainStart = s.now ∧ u.power.vbusFailSeen = true ∧ u.direct.phase = 7 ∧
      u.events = (s.raise Ev.vbusFail (le 8 (256 * s.wp.occupancy))).events) ∧
  (∀ s : State, s.mayDrain = false → s.supplyFails = s) ∧
  (∀ s : State, s.power.standbyRail = true → s.mayDrain = true →
    ∃ t u : State, exec .vbusFail s = .next t ∧ t = u.dropUnstaged.dropAdmin ∧ u.power.drain = .quiesce ∧
      u.power.drainBytes = 256 * s.wp.occupancy ∧ u.direct.phase = 7)

/-- DRAIN_QUIESCE_END at least 20 us after the drain began leaves the drain in its second stage with the PCIe link
down (the model's functions name what else it does), DRAINED_STATE_ENTER enters the drained state once staging and
journal have settled, LOAD_BAND_CROSSING takes the band and asks for a new plan when the stored one does not fit,
PHASE_PLAN_REDERIVED ends the re-derivation, ISLAND_WAKE_ADMIT starts the ramp of the oldest request when the weights
allow it, and ISLAND_RAMP_END ends a ramp asleep if a sleep came meanwhile, else awake. (R42, R43, R44, R46, R47) -/
def Obligations.DrainIslandsAndPlans : Prop :=
  (∀ s : State, s.power.drain = .quiesce → s.power.drainStart + 20000 ≤ s.now →
    ∃ t u : State, exec .drainQuiesceEnd s = .next t ∧ t = ((State.loseMirror 5 u).sleepAllBut drainIslands).closeStaged ∧ u.power.drain = .draining ∧ u.pcie.linkUp = false) ∧
  (∀ s : State, s.power.drain = .draining → s.drainSettled = true → exec .drainedStateEnter s = .next s.enterDrained) ∧
  (∀ (s : State) (band : Nat), s.power.coreRails = true → band < 6 → band ≠ s.power.loadBand →
    exec (.loadBandCrossing band) s =
      .next ({ s with power := { s.power with loadBand := band, rederiving := !s.planFits band } }.measured s.power.vbus)) ∧
  (∀ s : State, s.power.rederiving = true → s.power.plans.has s.power.loadBand = true → s.power.stamps = false →
    ∃ t, exec .phasePlanRederived s = .next t ∧ t.power.rederiving = false ∧ t.power.loadBand = s.power.loadBand ∧
      (t.power.plans.get? s.power.loadBand).map (fun p => (p.vbusBand, p.tjBand)) = some (s.vbusBand, s.tjBand)) ∧
  (∀ (s : State) (w : Nat × Nat) (rest : List (Nat × Nat)), s.power.wakeQueue = w :: rest → s.runs = true →
    exec .islandWakeAdmit s = .next (if s.rampWeight + Config.weight w.1 ≤ Config.rampLimit then
      { s with power := { s.power with wakeQueue := rest, islands := s.power.islands.set w.1 (.ramp false) } } else s)) ∧
  (∀ (s : State) (i : Nat) (back : Bool), s.island i = .ramp back → s.runs = true →
    exec (.islandRampEnd i) s = .next ((s.setIsland i (if back then .asleep else .awake)).settleIsland i))

/-- A packet that may run: ISLAND_POWER with no island in its mask replies ST_OK at once; POWER_STATUS replies its
record with result 64; HOLDUP_CONFIG takes a limit within the staging log, and answers ST_OUT_OF_RANGE at field 0
above it; CHIP_POWER_DOWN with no drain starts the sequence with its 50 ms bound and waits; CHIP_RESET schedules a
software reset 1 ms later and replies ST_OK. POWER_DOWN_COMMANDS_SETTLED moves the sequence to its drain, and
POWER_DOWN_DRAIN_DONE replies, leaves the ring and enters standby. (R42, R43, R50, R57, R65, R405, R460) -/
def Obligations.PowerPacketsAct : Prop :=
  (∀ (s : State) (op : PktOp) (p : Packet), s.takes op 0x0020 p → p.f 8 1 = 1 → p.f 0 8 % 2 ^ 37 = 0 →
    exec (.islandPower op) s = .next (s.replyOk p)) ∧
  (∀ (s : State) (op : PktOp) (p : Packet), s.takes op 0x0021 p → exec (.powerStatus op) s = .next (s.reply p St.ok 64 s.powerRecord)) ∧
  (∀ (s : State) (op : PktOp) (p : Packet), s.takes op 0x0022 p → p.f 0 8 ≤ 256 * s.wp.logUnits →
    ∃ t : State, exec (.holdupConfig op) s = .next (State.replyOk p t) ∧
      t = (({ s with power := { s.power with stagingLimit := p.f 0 8 }, wp.limit := p.f 0 8 / 256 } : State).stagingLevel.stagingClose.placeHeld.healthCheck).considerWrites 1) ∧
  (∀ (s : State) (op : PktOp) (p : Packet), s.takes op 0x0022 p → 256 * s.wp.logUnits < p.f 0 8 →
    exec (.holdupConfig op) s = .next (s.failField p St.outOfRange 0)) ∧
  (∀ (s : State) (op : PktOp) (p : Packet), s.takes op 0x0023 p → s.draining = false →
    exec (.chipPowerDown op) s = .next (State.await p { s with power := { s.power with
      pdown := .settling, pdownAcc := p.acc, pdownDeadline := s.tick + ticksOf 50000000 } })) ∧
  (∀ s : State, s.power.pdown = .settling → s.runs = true → (s.commandsSettled = true ∨ s.power.pdownDeadline < s.tick) →
    ∃ t u : State, exec .powerDownCommandsSettled s = .next t ∧ t = u.closeStaged ∧ u.power.pdown = .draining) ∧
  (∀ s : State, s.power.pdown = .draining → s.runs = true → s.drainSettled = true →
    ∃ t, exec .powerDownDrainDone s = .next t ∧ t.power.standby = true ∧ t.power.coreRails = false ∧ t.power.pwrGood = false ∧
      t.power.internalReset = true ∧ t.power.tripped = false) ∧
  (∀ (s : State) (op : PktOp) (p : Packet), s.takes op 0x0024 p → s.direct.recoveryBoot = false →
    exec (.chipReset op) s =
      .next (State.replyOk p { s with power := { s.power with swResetAt := some (s.tick + ticksOf 1000000) } }))

/-- SOFTWARE_RESET_EXPIRY takes a software reset once its tick has ended; RESET_PIN_ASSERT with the core rails up
takes a pin reset; INTERNAL_RESET_BEGIN enters internal reset with the DIMMs in self-refresh, keeping the Vault;
RESET_PIN_RELEASE ends internal reset with PWR_GOOD high and samples the straps; PCIE_PERST_L_RISE raises the pin;
CLOCK_LOSS marks a clock lost and CLOCK_RESTORED marks it running; PCIE_RESET outside a drain and internal reset takes
the PCIe reset, during a drain it is held; BUS_MASTER_OR_D_STATE_CHANGE stores both bits and lets held replies go when
DMA becomes possible. (R47, R52, R53, R54, R55, R56, R74, R460) -/
def Obligations.ResetClockCommandsAct : Prop :=
  (∀ (s : State) (d : Nat), s.power.swResetAt = some d → d < s.tick →
    exec .softwareResetExpiry s = .next (State.takeReset 1 { s with power := { s.power with swResetAt := none } })) ∧
  (∀ s : State, s.power.resetL = true → s.power.standby = false → s.power.coreRails = true →
    exec .resetPinAssert s = .next (State.takeReset 0 ({ s with power := { s.power with resetL := false, autoAt := none } }.setBypass true))) ∧
  (∀ s : State, s.power.selfRefreshing = true →
    ∃ t, exec .internalResetBegin s = .next t ∧ t.power.internalReset = true ∧ t.power.selfRefresh = true ∧
      t.power.bypassClosed = true ∧ t.mason.vault = s.mason.vault ∧ t.dump.image = s.dump.image) ∧
  (∀ (s : State) (straps : BitVec 6), s.power.internalReset = true → s.power.pwrGood = true → s.power.autoAt = none →
    ∃ t, exec (.resetPinRelease straps) s = .next t ∧ t.power.resetL = true ∧ t.power.internalReset = false ∧ t.power.straps = straps ∧
      t.power.sampled = true) ∧
  (∀ s : State, s.pcie.perstHigh = false → ∃ t, exec .pciePerstLRise s = .next t ∧ t.pcie.perstHigh = true ∧
    (s.coreRuns = true → s.power.clocksLost.getD 2 false = false → s.power.drain = .none → t.pcie.linkUp = true ∧ t.pcie.answers = true) ∧
    (s.coreRuns = false → t.pcie.linkUp = false) ∧ t.pcie.rings = s.pcie.rings ∧ t.power = s.power) ∧
  (∀ (s : State) (clock : Nat), s.power.standbyRail = true → clock < 5 → s.power.clocksLost.getD clock false = false → s.runs = false →
    exec (.clockLoss clock) s =
      .next ({ s with power := { s.power with clocksLost := s.power.clocksLost.set clock true } }.raiseEarly Ev.clockLoss (le 1 clock))) ∧
  (∀ (s : State) (clock : Nat), clock < 2 ∨ clock = 3 → s.power.clocksLost.getD clock false = true →
    exec (.clockRestored clock) s = .next { s with power := { s.power with clocksLost := s.power.clocksLost.set clock false } }) ∧
  (∀ s : State, s.power.internalReset = false → s.power.drain = .none → exec (.pcieReset .linkDown) s = .next s.pcieReset) ∧
  (∀ s : State, s.power.drain = .quiesce ∨ s.power.drain = .draining →
    exec (.pcieReset .linkDown) s = .next { s with power := { s.power with held := s.power.held.set 2 true } }) ∧
  (∀ (s : State) (bme d0 : Bool), s.dma = true ∨ (bme && d0 && s.pcie.linkUp) = false →
    exec (.busMasterOrDStateChange bme d0) s = .next { s with pcie := { s.pcie with bme := bme, d0 := d0 } }) ∧
  (∀ s : State, s.dma = false → s.pcie.linkUp = true →
    exec (.busMasterOrDStateChange true true) s = .next (State.resumeDma { s with pcie := { s.pcie with bme := true, d0 := true } }))

/-- THERMAL_ALERT_ASSERT sets the alert when the hottest sensor reaches the threshold, THERMAL_ALERT_RELEASE clears it
below the threshold less the hysteresis, THERMAL_TRIP at 112 degrees enters standby with the trip bits set,
SMB_STATUS_CLEAR clears exactly the sticky bits 2, 3 and 5 written with one, SMB_REGISTER_WRITE stores each writable
register, and leaves the state alone for a read-only code, and TAP_INSTRUCTION shifts the register the instruction
selects. That a value outside the range of SMB_THERM_SET is not stored is the model's choice (log entry 48). (R60,
R61, R62, R63, R64) -/
def Obligations.ThermalAndSidebandCommandsAct : Prop :=
  (∀ (s : State) (sensor : Nat) (temp : W16), s.power.standbyRail = true → sensor < 18 → s.power.thermAlert = false →
      s.power.thermSet.toInt ≤ (s.setTemp sensor temp).tjMax →
    ∃ t u : State, exec (.thermalAlertAssert sensor temp) s = .next t ∧ t = u.healthCheck ∧
      u = ({ s.setTemp sensor temp with power := { (s.setTemp sensor temp).power with thermAlert := true } }.raiseEarly Ev.thermalAlert
        (le 2 ((s.setTemp sensor temp).tjMax % 65536).toNat ++ le 1 sensor))) ∧
  (∀ (s : State) (temps : List W16), s.power.thermAlert = true → temps.length = 18 →
      State.tjMax { s with power := { s.power with temps := temps, thermAlert := false } } < s.power.thermSet.toInt - 16 * s.power.thermHyst.toNat →
    exec (.thermalAlertRelease temps) s = .next (State.healthCheck { s with power := { s.power with temps := temps, thermAlert := false } })) ∧
  (∀ (s : State) (sensor : Nat) (temp : W16), s.power.standbyRail = true → sensor < 18 → s.power.tripped = false → 1792 ≤ temp.toInt →
    ∃ t, exec (.thermalTrip sensor temp) s = .next t ∧ t.power.standby = true ∧ t.power.tripped = true ∧ t.power.tripSeen = true ∧
      t.power.coreRails = false ∧ t.power.standbyRail = true ∧ t.power.drain = .none) ∧
  (∀ (s : State) (v : Byte), s.power.standbyRail = true →
    exec (.smbStatusClear v) s = .next { s with power := { s.power with
      vbusFailSeen := s.power.vbusFailSeen && !v.getLsbD 2, brownoutSeen := s.power.brownoutSeen && !v.getLsbD 3,
      tripSeen := s.power.tripSeen && !v.getLsbD 5 } }) ∧
  (∀ (s : State) (v : W16), s.power.standbyRail = true →
    exec (.smbRegisterWrite 0x03 v) s = .next { s with power := { s.power with alertMask := v.setWidth 8 } } ∧
    exec (.smbRegisterWrite 0x05 v) s = .next { s with power := { s.power with tjSel := v.setWidth 8 } } ∧
    (960 ≤ v.toNat → v.toNat ≤ 1680 → exec (.smbRegisterWrite 0x0A v) s = .next { s with power := { s.power with thermSet := v } }) ∧
    (1 ≤ v.toNat → v.toNat ≤ 20 →
      exec (.smbRegisterWrite 0x0B v) s = .next { s with power := { s.power with thermHyst := v.setWidth 8 } }) ∧
    exec (.smbRegisterWrite 0x02 v) s = .next s) ∧
  (∀ (s : State) (ir : Byte) (shiftIn : List Bool), s.power.standbyRail = true → (s.power.resetL = true ∨ s.power.pwrGood = false) →
      s.power.tapDriven = none →
    exec (.tapInstruction (some ir) shiftIn) s = .next { s with
      free := s.free + 1,
      power := { s.power with
        tapIr := ir,
        tapData := if (tapOf ir).boundary then (s.tapCapture (tapOf ir) ++ shiftIn).drop shiftIn.length else s.power.tapData },
      out := .tap ((s.tapCapture (tapOf ir) ++ shiftIn).take shiftIn.length) :: s.out }) ∧
  (∀ (s : State) (shiftIn : List Bool), s.power.standbyRail = true →
    exec (.tapInstruction none shiftIn) s = .next { s with power := { s.power with tapIr := Config.tapCode 1, tapDriven := none } })

/-- On an ENABLED ring pair SQn_TAIL_DB stores a tail that lies in the ring and does not pass the chip's head and
faults the ring with cause 4 otherwise, RQn_HEAD_DB likewise for an index in the ring, a disabled pair with a valid
configuration is started, an invalid one faults with cause 1, ENABLE 0 stops an enabled pair, a stopping pair with
nothing left becomes DISABLED, a fetch takes one slot of the ring whose turn it is, a refused reply write faults the
ring with cause 3, and the end of a vector's interval sends a message that was held back. (R67, R68, R70, R71, R72,
R73, R76) -/
def Obligations.RingCommandsAct : Prop :=
  (∀ (s : State) (n : Nat) (v : W32), n < 16 → (s.ring n).state = .enabled → (s.ring n).tailOk (v.toNat % 65536) = true →
    exec (.sqTailDb n v) s = .next (s.setRing n { s.ring n with sqTail := v.toNat % 65536 })) ∧
  (∀ (s : State) (n : Nat) (v : W32), n < 16 → (s.ring n).state = .enabled → (s.ring n).tailOk (v.toNat % 65536) = false →
    exec (.sqTailDb n v) s = .next (s.ringFault n 4)) ∧
  (∀ (s : State) (n : Nat) (v : W32), n < 16 → (s.ring n).state = .enabled →
    exec (.rqHeadDb n v) s = .next (if v.toNat % 65536 < 2 ^ (s.ring n).sizeLog2 then
      s.setRing n { s.ring n with rqHead := v.toNat % 65536 } else s.ringFault n 4)) ∧
  (∀ (s : State) (n : Nat) (v : W32), n < 16 → (s.ring n).state ≠ .enabled →
    exec (.sqTailDb n v) s = .next s ∧ exec (.rqHeadDb n v) s = .next s) ∧
  (∀ (s : State) (n : Nat) (v : W32), n < 16 → bit v.toNat 0 = true → (s.ring n).state = .disabled →
    exec (.ringEnable n v) s = .next (if ((s.ring n).configured v.toNat).valid = true then
      s.setRing n ((s.ring n).configured v.toNat).start
      else (s.setRing n ((s.ring n).configured v.toNat)).ringFault n 1)) ∧
  (∀ (s : State) (n : Nat) (v : W32), n < 16 → bit v.toNat 0 = false → (s.ring n).state = .enabled →
    exec (.ringStop n v) s = .next (s.setRing n { (s.ring n).configured v.toNat with state := .stopping })) ∧
  (∀ (s : State) (n : Nat), n < 16 → (s.ring n).inProgress = [] → (s.ring n).held = [] → (s.ring n).state = .stopping →
    exec (.ringStopDrained n) s = .next (s.setRing n { s.ring n with state := .disabled, faultCause := 0 })) ∧
  (∀ (s : State) (n : Nat) (slot : SlotRead), s.turn = some n → s.dma = true → s.ringsServiced = true →
    exec (.packetFetch slot) s = .next (s.fetchSlot n slot)) ∧
  (∀ (s : State) (n : Nat), n < 16 → (s.ring n).state = .enabled → (s.ring n).refused = false → 0 < (s.ring n).unreleased →
    exec (.replyWriteRefused n) s = .next ((s.setRing n (s.ring n).refuse).ringFault n 3)) ∧
  (∀ (s : State) (v : Nat), v < 32 → (s.pcie.vectors.getD v {}).interval = true → (s.pcie.vectors.getD v {}).again = true →
      s.dma = true →
    exec (.msixIntervalExpiry v) s = .next (State.notify v { s with
      pcie.vectors := s.pcie.vectors.set v { s.pcie.vectors.getD v {} with interval := false, again := false } })) ∧
  (∀ (s : State) (v : Nat), v < 32 → (s.pcie.vectors.getD v {}).interval = true → s.dma = false →
    exec (.msixIntervalExpiry v) s = .next { s with
      pcie.vectors := s.pcie.vectors.set v { s.pcie.vectors.getD v {} with interval := false } }) ∧
  (∀ (s : State) (v : Nat), v < 32 → (s.pcie.vectors.getD v {}).interval = true → (s.pcie.vectors.getD v {}).again = false →
    exec (.msixIntervalExpiry v) s = .next { s with
      pcie.vectors := s.pcie.vectors.set v { s.pcie.vectors.getD v {} with interval := false, again := false } })

/-- EVQ_ENABLE starts a disabled event ring whose configuration is valid and faults it with cause 1 otherwise;
EVQ_DISABLE ends it in DISABLED; EVQ_HEAD_DB on an enabled ring stores an index in the ring and faults it with cause 4
otherwise, and does nothing on a ring that is not enabled; EVENT_POST takes the oldest event off the backlog and sends
it with the losses since the last; EVENT_WRITE_REFUSED faults the ring with cause 3 and leaves the backlog. (R67, R74,
R76, R87, R88, R457) -/
def Obligations.EventRingCommandsAct : Prop :=
  (∀ (s : State) (v : W32), bit v.toNat 0 = true → s.pcie.evq.state = .disabled →
      6 ≤ bits v.toNat 8 4 → bits v.toNat 8 4 ≤ 16 → s.pcie.evq.base.toNat % 4096 = 0 → s.pcie.evq.base ≠ 0 →
    exec (.evqEnable v) s = .next { s with pcie.evq := { s.pcie.evq with
      vector := bits v.toNat 23 16, irqEn := bit v.toNat 24, enable := true, sizeLog2 := bits v.toNat 8 4,
      state := .enabled, faultCause := 0, tail := 0, phase := true, head := 0 } }) ∧
  (∀ (s : State) (v : W32), bit v.toNat 0 = true → s.pcie.evq.state = .disabled → bits v.toNat 8 4 < 6 →
    ∃ t u : State, exec (.evqEnable v) s = .next t ∧ t = State.evqFault 1 u ∧ u.events = s.events) ∧
  (∀ (s : State) (v : W32), bit v.toNat 0 = false →
    ∃ t, exec (.evqDisable v) s = .next t ∧ t.pcie.evq.state = .disabled ∧ t.pcie.evq.faultCause = 0 ∧ t.pcie.evq.enable = false ∧
      t.events = s.events ∧ t.pcie.rings = s.pcie.rings ∧ t.out = s.out) ∧
  (∀ (s : State) (v : W32), s.pcie.evq.state = .enabled →
    exec (.evqHeadDb v) s = .next (if v.toNat % 65536 < 2 ^ s.pcie.evq.sizeLog2 then
      { s with pcie.evq := { s.pcie.evq with head := v.toNat % 65536 } } else s.evqFault 4)) ∧
  (∀ (s : State) (v : W32), s.pcie.evq.state ≠ .enabled → exec (.evqHeadDb v) s = .next s) ∧
  (∀ (s : State) (e : Event) (rest : List Event), s.postable = true → s.events.backlog = e :: rest → s.pcie.evq.irqEn = false →
    ∃ t, exec .eventPost s = .next t ∧ t.events.backlog = rest ∧ t.events.lostSince = 0 ∧
      t.out = .event s.pcie.evq.tail s.pcie.evq.phase s.events.lostSince e :: s.out ∧
      t.pcie.evq.tail = (if s.pcie.evq.tail + 1 = 2 ^ s.pcie.evq.sizeLog2 then 0 else s.pcie.evq.tail + 1) ∧
      t.pcie.evq.phase = (if s.pcie.evq.tail + 1 = 2 ^ s.pcie.evq.sizeLog2 then !s.pcie.evq.phase else s.pcie.evq.phase)) ∧
  (∀ s : State, s.postable = true → exec .eventWriteRefused s = .next (s.evqFault 3))

/-- NOP replies ST_OK and nothing else; CHIP_IDENTIFY replies the identity with result 256; STAMP_READ replies the
stamp counter; EVENT_CONFIG with one entry sets the posting of that code; EVENT_COUNTS replies the counters asked for;
a read of STAMP_LO gives the low half and latches the upper; DUMP_WINDOW_BASE keeps bits 63 to 28; a 32-bit write of
SCRATCH is stored and a write of BAR2 is ignored; the heartbeat counts once a millisecond while the core runs. (R53,
R86, R89, R90, R91, R11, R13) -/
def Obligations.CommonPacketsAct : Prop :=
  (∀ (s : State) (op : PktOp) (p : Packet), s.takes op 0x0000 p → exec (.nop op) s = .next (s.replyOk p)) ∧
  (∀ (s : State) (op : PktOp) (p : Packet), s.takes op 0x0001 p → exec (.chipIdentify op) s = .next (s.reply p St.ok 256 s.identity)) ∧
  (∀ (s : State) (op : PktOp) (p : Packet), s.takes op 0x0002 p → exec (.stampRead op) s = .next (s.reply p St.ok s.now [])) ∧
  (∀ (s : State) (op : PktOp) (p : Packet), s.takes op 0x0003 p → p.f 0 2 = 1 →
    exec (.eventConfig op) s = .next (State.replyOk p { s with
      events := { s.events with masked := setMask s.events.masked (p.f 4 2) (p.f 6 1) } })) ∧
  (∀ (s : State) (op : PktOp) (p : Packet), s.takes op 0x0004 p →
    exec (.eventCounts op) s = .next (s.reply p St.ok (8 * p.f 2 2)
      ((List.range (p.f 2 2)).flatMap fun i => le 8 (s.events.counters.getD (p.f 0 2 + i) 0)))) ∧
  (∀ s : State, exec .stampLoRead s = .next { s with
    direct.stampHi := BitVec.ofNat 32 (s.now / 2 ^ 32), out := .readData (s.now % 2 ^ 32) :: s.out }) ∧
  (∀ (s : State) (v : W64), exec (.dumpWindowBaseWrite v) s = .next { s with
    direct.dumpWindowBase := BitVec.ofNat 64 (v.toNat / 2 ^ 28 * 2 ^ 28) }) ∧
  (∀ (s : State) (v : W64), exec (.registerWrite 1 0x18 4 v) s = .next { s with direct.scratch := v.setWidth 32 }) ∧
  (∀ (s : State) (off size : Nat) (v : W64), exec (.registerWrite 2 off size v) s = .next s) ∧
  (∀ s : State, s.coreRuns = true → s.mason.lastBeat + 1000000 ≤ s.now →
    exec .chipStateHeartbeatTick s = .next { s with direct.heartbeat := s.direct.heartbeat + 1, mason.lastBeat := s.now })

/-- KS_PRIO_WRITE stores the register with ranks 0 and 1 enabled, reserved bits zero and PROMOTE_TO at least 2; a
contest with no competitor keeps every request, and one with a winner grants it and takes it off the waiting list; a
request of rank 2 to 7 that has waited watch_ticks raises EV_KS_STARVATION once; a flit with one symbol in error is
corrected and counted, one refused for the first time is replayed, and the failure of its third copy is fatal; write
DQ is re-centred for a drift above 16; the packets store and report what their tables list. The stores that the model
keeps for a joint's copies are its own (R378 fixes only the count). (R90, R371, R375, R376, R378, R380, R381, R383,
R384, R388, R389) -/
def Obligations.FabricCommandsAct : Prop :=
  (∀ (s : State) (a : Nat) (v : W32), a < 130 →
    exec (.ksPrioWrite a v) s = .next { s with direct.ksPrio := s.direct.ksPrio.set a (BitVec.ofNat 32 (ksPrioStored v.toNat)) }) ∧
  (∀ (s : State) (a : Nat) (arrivals : List KsRequest), a < 130 →
      bestOf (s.competing a ((s.arbiters.getD a {}).waiting ++ arrivals)) = none →
    exec (.arbiterContest a arrivals) s = .next { s with
      arbiters := s.arbiters.set a { s.arbiters.getD a {} with waiting := (s.arbiters.getD a {}).waiting ++ arrivals } }) ∧
  (∀ (s : State) (a e : Nat) (arrivals : List KsRequest) (r : KsRequest), a < 130 →
      bestOf (s.competing a ((s.arbiters.getD a {}).waiting ++ arrivals)) = some (e, r) →
    ∃ t, exec (.arbiterContest a arrivals) s = .next t ∧ t.out = .grant a r.requester e :: s.out ∧
      (∀ x, x ≠ a → t.arbiters.getD x {} = s.arbiters.getD x {}) ∧ t.direct = s.direct ∧
      (a < s.arbiters.length → (t.arbiters.getD a {}).waiting = ((s.arbiters.getD a {}).waiting ++ arrivals).erase r)) ∧
  (∀ (s : State) (a rank t : Nat), a < 130 → 2 ≤ rank → rank < 8 →
      oldestTick ((s.arbiters.getD a {}).waiting.filter fun r => r.rank == rank) = some t →
      ((s.arbiters.getD a {}).watch.getD rank {}).raised = false → s.dram.watchTicks ≤ s.tick - t →
    ∃ u, exec (.ksStarvationExpiry a rank) s = .next (State.raise Ev.ksStarvation (le 1 a ++ le 1 rank ++ le 8 (s.tick - t)) u) ∧
      u.events = s.events ∧ u.direct = s.direct ∧ u.dram = s.dram) ∧
  (∀ (s : State) (joint : Nat) (first : Bool), joint < 148 → (recent s.now hourNs (s.dram.jointHits.getD joint [])).length < 1000 →
    ∃ t, exec (.jointFlitRefused joint 1 first) s = .next t ∧ t.dram.flitsCorrected = s.dram.flitsCorrected + 1 ∧
      t.events = s.events ∧ t.out = s.out) ∧
  (∀ (s : State) (joint symbols : Nat), joint < 148 → 2 ≤ symbols →
    ∃ t, exec (.jointFlitRefused joint symbols true) s =
        .next (State.raiseWith Ev.jointReplay 1 63 (location 0 63 joint 0 0 0 3) (le 1 joint ++ le 1 1) t) ∧
      t.dram.replays = s.dram.replays + 1 ∧ t.dram.fatalReplays = s.dram.fatalReplays ∧ t.events = s.events) ∧
  (∀ (s : State) (joint symbols : Nat), joint < 148 → 2 ≤ symbols → 2 ≤ s.dram.jointCopies.getD joint 0 →
    ∃ t, exec (.jointFlitRefused joint symbols false) s =
        .next (State.fatal (location 0 63 joint 0 0 0 3) Ev.jointFatal 0 (le 1 joint ++ le 1 2) t) ∧
      t.dram.fatalReplays = s.dram.fatalReplays + 1) ∧
  (∀ (s : State) (c osc drift : Nat), c < 12 → (s.dramChannel c).dimm = .trained → 16 < drift →
    exec (.dqsOscillatorCheck c osc drift) s = .next (s.setDramChannel c { s.dramChannel c with dqsBaseline := osc })) ∧
  (∀ (s : State) (op : PktOp) (p : Packet), s.takes op 0x0A00 p →
    exec (.dramConfig op) s =
      .next (State.replyOk p { s with dram.scrubHours := p.f 0 2, dram.dramEw := p.f 4 4, dram.watchTicks := p.f 8 8 })) ∧
  (∀ (s : State) (op : PktOp) (p : Packet), s.takes op 0x0A01 p → p.f 1 1 = 0 → (s.dramChannel (p.f 0 1)).dimm ≠ .empty →
    ∃ data, exec (.dramStatus op) s = .next (s.reply p St.ok 0 data)) ∧
  (∀ (s : State) (op : PktOp) (p : Packet), s.takes op 0x0A02 p → p.f 1 1 = 1 → (s.dramChannel (p.f 0 1)).dimm ≠ .empty →
    ∃ t u : State, exec (.dramRepairList op) s = .next t ∧
      u = s.setDramChannel (p.f 0 1) { s.dramChannel (p.f 0 1) with
        repairs := (s.dramChannel (p.f 0 1)).repairs.filter fun r => r.state != 1 } ∧
      t = (u.logRecord 7 (p.f 0 1) (((s.dramChannel (p.f 0 1)).repairs.filter fun r => r.state != 1).flatMap RepairRow.bytes)).reply
        p St.ok 0 (fit 512 (((s.dramChannel (p.f 0 1)).repairs.filter fun r => r.state != 1).flatMap RepairRow.bytes))) ∧
  (∀ (s : State) (op : PktOp) (p : Packet), s.takes op 0x0A03 p →
    exec (.latencyConfig op) s = .next (State.replyOk p { s with latency.guard := p.f 0 1 == 1 })) ∧
  (∀ (s : State) (op : PktOp) (p : Packet), s.takes op 0x0A04 p →
    exec (.latencyStatus op) s = .next (State.reply p St.ok 0
      (le 8 s.latency.reads ++ le 8 s.latency.outside ++ s.latency.conditions.flatMap (le 8) ++ le 8 s.latency.longest ++ zeros 8)
      (if p.f 0 1 = 1 then { s with latency := { guard := s.latency.guard } } else s))) ∧
  (∀ (s : State) (op : PktOp) (p : Packet), s.takes op 0x0A05 p → p.f 0 1 < 130 → p.f 1 1 = 0 →
    exec (.ksWatchRead op) s = .next (s.reply p St.ok 0
      (((s.arbiters.getD (p.f 0 1) {}).watch.drop 2).flatMap fun w => le 8 w.longest ++ le 8 w.overs))) ∧
  (∀ (s : State) (op : PktOp) (p : Packet), s.takes op 0x0A05 p → 130 ≤ p.f 0 1 →
    exec (.ksWatchRead op) s = .next (s.fail p St.arbiterUnknown)) ∧
  (∀ (s : State) (op : PktOp) (p : Packet), s.takes op 0x0A06 p →
    ∃ t, exec (.fabricCounters op) s = .next (State.reply p St.ok 0 (le 8 s.dram.flitsCorrected ++ le 8 s.dram.replays ++
        le 8 s.dram.fatalReplays ++ le 8 s.dram.sramCorrected ++ le 8 s.dram.sramSweeps ++ le 8 s.dram.mcacheSweeps ++ zeros 16) t) ∧
      (p.f 0 1 ≠ 1 → t = s) ∧ (p.f 0 1 = 1 → t.dram.flitsCorrected = 0 ∧ t.dram.replays = 0 ∧ t.dram.fatalReplays = 0))

/-- DG_START whose key slot fits its mode asks for a channel; DG_UPDATE on a live channel that is not in LAST_WORD
appends its data and replies the bytes absorbed; DG_FINISH on an OWNED general channel waits 2 us for the last word;
DG_SUSPEND takes the first free record, replies its handle and frees the channel; DG_RESUME of a saved state asks for
a channel; DG_ABANDON without force replies ST_OK and frees the channel; DG_STATUS reports; a last-word data write is
stored; a control write ends the message; a queue deadline answers ST_BUSY_OWNED and a last-word wait answers
ST_NO_LAST_WORD, the channel OWNED still. (R189, R191, R192, R193, R194, R195, R196, R197, R213) -/
def Obligations.DigestCommandsAct : Prop :=
  (∀ (s : State) (op : PktOp) (p : Packet), s.takes op 0x0500 p → s.hmacKeyOk p = true →
    exec (.dgStart op) s = .next (s.requestChannel (p.f 0 1) p)) ∧
  (∀ (s : State) (op : PktOp) (p : Packet) (c : Nat), s.takes op 0x0501 p → s.live (p.f 0 4) = some c → 32 ≤ c → c ≠ 34 → p.f 0 1 ≠ 34 →
      (s.chan c).state ≠ .lastWord →
    exec (.dgUpdate op) s = .next (State.reply p St.ok ((s.chan c).msg.bytes.length + (p.buffer op).length) []
      (s.setChan c { s.chan c with msg := { (s.chan c).msg with bytes := (s.chan c).msg.bytes ++ p.buffer op } }))) ∧
  (∀ (s : State) (op : PktOp) (p : Packet) (c : Nat), s.takes op 0x0502 p → s.live (p.f 0 4) = some c → general c = true → p.f 0 1 ≠ 34 →
      (s.chan c).state = .owned → (s.chan c).msg.mode % 2 = 0 → digestLen (s.chan c).msg.algorithm ≤ p.dataLen → p.f 4 1 = 0 →
    exec (.dgFinish op) s = .next (State.await p (s.setChan c { s.chan c with finish := some (p.acc, s.tick + ticksOf 2000) }))) ∧
  (∀ (s : State) (op : PktOp) (p : Packet) (c i : Nat), s.takes op 0x0503 p → s.live (p.f 0 4) = some c → general c = true → p.f 0 1 ≠ 34 →
      (s.chan c).state ≠ .lastWord →
      (List.range 1024).find? (fun i => (s.digest.records.getD i {}).saved.isNone) = some i →
    exec (.dgSuspend op) s = .next (State.freeChannel c (State.reply p St.ok (i + (((s.digest.records.getD i {}).gen + 1) % 2 ^ 20) * 2 ^ 12) []
      (s.setSaveSlot false i { gen := ((s.digest.records.getD i {}).gen + 1) % 2 ^ 20, saved := some (s.chan c).msg })))) ∧
  (∀ (s : State) (op : PktOp) (p : Packet), s.takes op 0x0504 p → (s.saved (p.f 0 4)).isSome = true →
    exec (.dgResume op) s = .next (s.requestChannel (p.f 4 1) p)) ∧
  (∀ (s : State) (op : PktOp) (p : Packet) (c : Nat), s.takes op 0x0505 p → bit (p.f 4 1) 0 = false → p.f 0 1 ≠ 34 →
      s.live (p.f 0 4) = some c →
    exec (.dgAbandon op) s = .next (State.freeChannel c (s.replyOk p))) ∧
  (∀ (s : State) (op : PktOp) (p : Packet), s.takes op 0x0506 p → p.f 0 1 ≠ 34 ∨ s.digest.taken34 = false →
    exec (.dgStatus op) s = .next (s.reply p St.ok 0 (
      le 1 (s.chan (p.f 0 1)).state.code ++ le 1 (s.chan (p.f 0 1)).msg.algorithm ++ le 1 (s.chan (p.f 0 1)).msg.mode ++
      le 1 (s.chan (p.f 0 1)).msg.keySlot ++ le 1 (s.chan (p.f 0 1)).waiters.length ++ zeros 3 ++
      le 8 (s.chan (p.f 0 1)).msg.declared ++ le 8 (s.chan (p.f 0 1)).msg.bytes.length ++ le 8 (s.chan (p.f 0 1)).msg.owner))) ∧
  (∀ (s : State) (op : PktOp) (p : Packet), s.takes op 0x0506 p → p.f 0 1 = 34 → s.digest.taken34 = true →
    exec (.dgStatus op) s = .next (s.fail p St.busyOwned)) ∧
  (∀ (s : State) (c : Nat) (v : W64), s.runs = true → c < 32 →
    exec (.dgLwDataWrite c v) s = .next (s.setChan c { s.chan c with lwData := le 8 v.toNat })) ∧
  (∀ (s : State) (c : Nat) (v : W32), s.runs = true → c < 32 → ((s.chan c).finish.map fun f => decide (s.tick ≤ f.2)) ≠ some false →
    exec (.dgLwCtrlWrite c v) s = .next (s.lastWord c (v.toNat % 16))) ∧
  (∀ (s : State) (acc : Nat) (w : Waiter), s.digest.waiter? acc = some w → s.runs = true → w.deadline < s.tick →
    exec (.dgQueueDeadlineExpiry acc) s =
      .next (State.replyTo acc St.busyOwned 0 [] { s with digest := s.digest.dropWaiter acc })) ∧
  (∀ (s : State) (c acc d : Nat), (s.chan c).finish = some (acc, d) → s.runs = true → c < 32 → d < s.tick →
    exec (.lastWordWaitExpiry c) s =
      .next (State.replyTo acc St.noLastWord 0 [] (s.setChan c { s.chan c with finish := none })))

/-- While the data path runs: PORT_LINK_UP on an enabled port that is down, its clock running and no drain, brings the
port up (the clause's case is a port whose lanes all have stored settings; a lane without is trained first);
PORT_LINK_DOWN takes an up port down; a crossing of the envelope stores the new one and raises EV_SERDES_ENVELOPE; a
frame on an up port is classified; a frame whose FCS is bad is counted and dropped; a PFC frame acts on the port; an
expired pause is cleared and transmission resumes; a pause of 100 ms raises EV_PFC_PAUSED_LONG once. (R52, R95, R96,
R97, R106, R108, R116) -/
def Obligations.PortCommandsAct : Prop :=
  (∀ (s : State) (l : Nat), s.runs = true → l < 34 → s.lportEnabled l = true → (s.lport l).up = false →
      s.power.clocksLost.getD (if l < 16 then 0 else 1) false = false → s.power.drain = .none → 
      (lanesOf (s.eth (physOf l)).mode (subOf l)).all (fun k => ((s.eth (physOf l)).envelope.getD k none).isSome) = true →
    ∃ t : State, exec (.portLinkUp l) s = .next
        (((t.net.conns.filter fun x => x.2.state == .ready && !(t.lport x.2.lport).up && x.2.other == some l).map Prod.fst).foldl
          (fun u i => u.changePath i) t) ∧
      t = ((s.updLport l fun x => { x with up := true }).raiseFrom (3 + physOf l / 2) Ev.portUp
        (le 1 l ++ le 1 (s.eth (physOf l)).mode)).pumpPort l) ∧
  (∀ (s : State) (l : Nat), s.runs = true → l < 34 → (s.lport l).up = true → exec (.portLinkDown l) s = .next (s.linkDown l)) ∧
  (∀ (s : State) (port lane : Nat) (e : Nat × Nat), s.runs = true → port < 10 → (s.eth port).envelope.getD lane none = some e →
      e ≠ (s.tjBand, s.power.loadBand) →
      ((List.range 4).filter fun k => (lanesOf (s.eth port).mode k).contains lane).any
        (fun k => (s.lport ((if port < 8 then 4 * port else 24 + port) + k)).up) = true →
    exec (.serdesEnvelopeCrossing port lane) s = .next (State.raiseFrom (3 + port / 2) Ev.serdesEnvelope
      (le 1 port ++ le 1 lane ++ le 1 e.1 ++ le 1 e.2 ++ le 1 s.tjBand ++ le 1 s.power.loadBand)
      ((s.updPort port fun x => { x with envelope := x.envelope.set lane (some (s.tjBand, s.power.loadBand)) }).logRecord 18
        (4 * port + lane) (le 1 s.tjBand ++ le 1 s.power.loadBand)))) ∧
  (∀ (s : State) (l : Nat) (f : EthFrame), s.runs = true → l < 34 → (s.lport l).up = true →
    exec (.frameReceive l f) s = .next (s.frameReceive l f)) ∧
  (∀ (s : State) (l : Nat) (f : EthFrame), f.fcsOk = false →
    s.frameReceive l f = (((s.portCount l 0 1).portCount l 1 f.bytes.length).portCount l 2 1)) ∧
  (∀ (s : State) (l enabled : Nat) (quanta : List Nat), s.runs = true → l < 34 → (s.lport l).up = true →
    exec (.pfcFrameReceive l enabled quanta) s = .next (((s.portCount l 0 1).portCount l 1 60).pfcReceive l enabled quanta)) ∧
  (∀ (s : State) (l prio d : Nat), s.runs = true → (s.lport l).pause.getD prio none = some d → d < s.tick →
    ∃ t : State, exec (.pfcPauseExpiry l prio) s = .next (t.pumpPort l) ∧
      t = s.updLport l fun x => { x with
        pause := x.pause.set prio none, pausedAt := x.pausedAt.set prio none,
        longRaised := if bit x.longRaised prio then x.longRaised - 2 ^ prio else x.longRaised }) ∧
  (∀ (s : State) (l prio d : Nat), s.runs = true → l < 34 → bit (s.lport l).longRaised prio = false →
      (s.lport l).pausedAt.getD prio none = some d → d + ticksOf 100000000 < s.tick →
    exec (.pfcPauseLongExpiry l prio) s = .next (State.raiseFrom (3 + physOf l / 2) Ev.pfcPausedLong (le 1 l ++ le 1 prio)
      (s.updLport l fun x => { x with longRaised := x.longRaised + 2 ^ prio })))

/-- PORT_CONFIG that changes no enabled sub-port and clears none stores the record and replies ST_OK, a port whose
island is not awake answers ST_PORT_ASLEEP; TRANSPORT_CONFIG stores the thirteen fields; CONN_QUERY, CONN_PIN and
CONN_DISCONNECT act on the live context a QPN names and answer ST_CONN_UNKNOWN for any other; PORT_STATUS and the
counter reads report, with the counters cleared on request; CTRL_FRAME_SEND sends on an up port and answers
ST_LINK_DOWN else; CTRL_FRAME_RECV takes the oldest queued frame. (R98, R103, R104, R124, R126, R127) -/
def Obligations.PortPacketsAct : Prop :=
  (∀ (s : State) (op : PktOp) (p : Packet), s.takes op 0x0200 p → s.power.islands.getD (portIsland (p.f 0 1)) .awake = .awake →
      (s.eth (p.f 0 1)).enableMask = 0 →
    exec (.portConfig op) s = .next (State.replyOk p (s.updPort (p.f 0 1) fun _ => { s.eth (p.f 0 1) with
      mode := p.f 1 1, enableMask := p.f 2 1, txInvert := p.f 3 1, rxInvert := p.f 4 1,
      sub := (List.range 4).map fun k => p.bytes (8 + 48 * k) 48 }))) ∧
  (∀ (s : State) (op : PktOp) (p : Packet), s.takes op 0x0200 p → s.power.islands.getD (portIsland (p.f 0 1)) .awake ≠ .awake →
    exec (.portConfig op) s = .next (s.fail p St.portAsleep)) ∧
  (∀ (s : State) (op : PktOp) (p : Packet), s.takes op 0x0201 p →
    exec (.transportConfig op) s = .next (State.replyOk p { s with net.config := {
      timeoutK := p.f 0 1, retryCnt := p.f 1 1, rnrRetry := p.f 2 1, rnrTimer := p.f 3 1, cnpInterval := p.f 4 2, alphaGain := p.f 6 2,
      rateTimer := p.f 8 2, alphaTimer := p.f 0xA 2, byteCounter := p.f 0xC 4, aiRate := p.f 0x10 4, haiRate := p.f 0x14 4,
      minRate := p.f 0x18 4, ecnEnable := p.f 0x1C 1 } })) ∧
  (∀ (s : State) (op : PktOp) (p : Packet) (i : Nat), s.takes op 0x0202 p → s.connOfQpn (p.f 0 4) = some i →
    exec (.connQuery op) s = .next (s.reply p St.ok 64 ((s.conn i).record i))) ∧
  (∀ (s : State) (op : PktOp) (p : Packet), s.takes op 0x0202 p → s.connOfQpn (p.f 0 4) = none →
    exec (.connQuery op) s = .next (s.fail p St.connUnknown)) ∧
  (∀ (s : State) (op : PktOp) (p : Packet) (i : Nat), s.takes op 0x0203 p → s.connOfQpn (p.f 0 4) = some i → p.f 4 1 = 0 →
    exec (.connPin op) s = .next (State.replyOk p (s.updConn i fun c => { c with pinned := false }))) ∧
  (∀ (s : State) (op : PktOp) (p : Packet) (i : Nat), s.takes op 0x0203 p → s.connOfQpn (p.f 0 4) = some i → p.f 4 1 = 1 →
      (s.conn i).pinned = false → (s.net.conns.filter fun x => x.2.pinned).length < 16384 →
      ((s.net.conns.filter fun x => x.2.pinned).filter fun x => contextSet x.1 == contextSet i).length < 8 →
    exec (.connPin op) s = .next (State.replyOk p ((s.makeResident i).updConn i fun c => { c with pinned := true }))) ∧
  (∀ (s : State) (op : PktOp) (p : Packet), s.takes op 0x0204 p → ∃ data, exec (.portStatus op) s = .next (s.reply p St.ok 32 data)) ∧
  (∀ (s : State) (op : PktOp) (p : Packet), s.takes op 0x0205 p →
    exec (.portCounters op) s = .next (State.reply p St.ok 0 (fit 256 ((s.lport (p.f 0 1)).counters.flatMap (le 8)))
      (if p.f 1 1 = 1 then s.updLport (p.f 0 1) fun x => { x with counters := List.replicate 32 0 } else s))) ∧
  (∀ (s : State) (op : PktOp) (p : Packet), s.takes op 0x0206 p → (s.lport (p.f 0 1)).up = true →
    exec (.ctrlFrameSend op) s = .next (State.replyOk p (s.sendFrame (p.f 0 1) (p.f 1 1) (p.buffer op)))) ∧
  (∀ (s : State) (op : PktOp) (p : Packet), s.takes op 0x0206 p → (s.lport (p.f 0 1)).up = false →
    exec (.ctrlFrameSend op) s = .next (s.fail p St.linkDown)) ∧
  (∀ (s : State) (op : PktOp) (p : Packet) (b : List Byte) (bs : List (List Byte)), s.takes op 0x0207 p → (s.lport (p.f 0 1)).ctrl = b :: bs →
    exec (.ctrlFrameRecv op) s = .next (State.reply p St.ok b.length b (s.updLport (p.f 0 1) fun x => { x with ctrl := bs }))) ∧
  (∀ (s : State) (op : PktOp) (p : Packet), s.takes op 0x0208 p →
    exec (.transportCounters op) s = .next (State.reply p St.ok 0 (fit 128 (s.net.counters.flatMap (le 8)))
      (if p.f 0 1 = 1 then { s with net.counters := List.replicate 16 0 } else s))) ∧
  (∀ (s : State) (op : PktOp) (p : Packet) (i : Nat), s.takes op 0x0209 p → s.connOfQpn (p.f 0 4) = some i →
      (s.conn i).state = .ready ∨ (s.conn i).state = .error →
    exec (.connDisconnect op) s = .next (State.replyOk p (s.endConn i))) ∧
  (∀ (s : State) (op : PktOp) (p : Packet) (i : Nat), s.takes op 0x0209 p → s.connOfQpn (p.f 0 4) = some i →
      (s.conn i).state ≠ .ready → (s.conn i).state ≠ .error →
    exec (.connDisconnect op) s = .next (s.fail p St.connState))

/-- While the data path runs: a REQ repeated while its context is CONNECTING has its REP sent again; REP on an active
CONNECTING context is answered with RTU and the context becomes READY with the peer's QPN and PSN; RTU readies a
passive one; REJ ends the attempt; a retry timer sends REQ or REP again with one retry less, or ends the attempt with
none left; DREQ is answered with DREP and TIMEWAIT; DREP ends in TIMEWAIT; a DREQ retry likewise; the end of TIMEWAIT
frees the context with its generation advanced from 7 back to 1; a completed context fetch makes the context resident
and processes its held packets in order. (R101, R102, R103, R105, R123) -/
def Obligations.ConnectionManagementAct : Prop :=
  (∀ (s t : State) (q : CmReq), t = s.cmArrives q.lport q.srcIp → s.runs = true → (s.lport q.lport).up = true →
      s.portAddress q.lport q.dstIp = true → t.net.mra = [] →
      (t.net.conns.find? fun x =>
        x.2.state == .connecting && !x.2.active && x.2.remoteQpn == q.qpn && x.2.ip == q.srcIp && x.2.port == q.lport) = none →
      t.recentCount + t.connecting < establishRate →
    exec (.cmReqReceive q) s = .next (t.serveReq q)) ∧
  (∀ (s : State) (i qpn psn mtu : Nat) (mac : List Byte), s.runs = true → (s.conn i).state = .connecting → (s.conn i).active = true →
      ((s.cmAnswer i).conn i).state = .connecting →
    ∃ t u : State, exec (.cmRepReceive i ⟨qpn, mac⟩ psn mtu) s = .next t ∧ t = (u.becomeReady i).serveWaiting ∧
      u = (((s.cmAnswer i).updConn i fun c => { c with
        remoteQpn := qpn, epsn := psn % 2 ^ 24, pmtu := min c.pmtu (s.pathMtu c.port mtu), mac := mac }).connCm i "RTU" 0 [])) ∧
  (∀ (s : State) (i : Nat), s.runs = true → (s.conn i).state = .connecting → (s.conn i).active = false →
      ((s.cmAnswer i).conn i).state = .connecting →
    exec (.cmRtuReceive i) s = .next ((s.cmAnswer i).becomeReady i).serveWaiting) ∧
  (∀ (s : State) (i : Nat), s.cmExpired (s.conn i) = false →
    (s.conn i).cmDeadline = ((s.cmArrives (s.conn i).lport (s.conn i).ip).conn i).cmDeadline →
    s.cmAnswer i = s.cmArrives (s.conn i).lport (s.conn i).ip) ∧
  (∀ (s : State) (i : Nat), s.runs = true → (s.conn i).state = .connecting →
    exec (.cmRejReceive i) s = .next ((s.cmArrives (s.conn i).lport (s.conn i).ip).connectFailed i)) ∧
  (∀ (s : State) (i d : Nat), s.runs = true → (s.conn i).state = .connecting → (s.conn i).cmDeadline = some d → d < s.tick →
      (s.conn i).cmRetries ≠ 0 →
    exec (.cmRetryExpiry i) s = .next (State.serveWaiting (State.connCm i (if (s.conn i).active then "REQ" else "REP")
      (s.conn i).nextPsn (s.conn i).private_
      (s.updConn i fun c => { c with cmRetries := c.cmRetries - 1, cmDeadline := some (s.tick + c.cmTimeout) })))) ∧
  (∀ (s : State) (i d : Nat), s.runs = true → (s.conn i).state = .connecting → (s.conn i).cmDeadline = some d → d < s.tick →
      (s.conn i).cmRetries = 0 →
    exec (.cmRetryExpiry i) s = .next (s.connectFailed i).serveWaiting) ∧
  (∀ (s : State) (i : Nat), (s.conn i).state = .ready →
    exec (.cmDreqReceive i) s = .next ((((s.cmArrives (s.conn i).lport (s.conn i).ip).timewait i).connCm i "DREP" 0 []).leftReady i 1)) ∧
  (∀ (s : State) (i : Nat), s.runs = true → (s.conn i).state = .disconnecting → exec (.cmDrepReceive i) s =
      .next ((s.cmArrives (s.conn i).lport (s.conn i).ip).timewait i)) ∧
  (∀ (s : State) (i : Nat), s.runs = true → (s.conn i).state = .disconnecting → s.cmExpired (s.conn i) = true → (s.conn i).cmRetries = 0 →
    exec (.dreqRetryExpiry i) s = .next (s.timewait i)) ∧
  (∀ (s : State) (i : Nat), s.runs = true → (s.conn i).state = .timewait → s.cmExpired (s.conn i) = true →
    exec (.timewaitExpiry i) s = .next { s with
      net.conns := (if (s.conn i).gen = 7 then s.net.conns.del i else if (s.conn i).gen + 1 = 1 then s.net.conns.del i
        else s.net.conns.set i { gen := (s.conn i).gen + 1 }) }) ∧
  (∀ (s : State) (i : Nat) (p : RcPacket) (ps : List RcPacket), s.runs = true → (s.conn i).held = p :: ps →
    exec (.contextFetchComplete i) s = .next ((List.range 34).foldl (fun t lp => (t.rcResume lp (t.lport lp).rxq.length).flowCheck lp)
      ((p :: ps).foldl (fun t p =>
        if (t.conn i).state = .free || (t.conn i).gen ≠ qpnGen p.qpn then t.netCount 7 1 else t.rcResident i p)
        ((s.updConn i fun c => { c with held := [] }).makeResident i))))

/-- A request, an acknowledgement, a NAK, an error NAK, an RNR NAK or a read response that arrives on an enabled port
that is up is processed by the receive rules; a coalesced acknowledgement is sent when due; the RNR timer sends again
from the PSN refused; the retransmit timer counts and sends again with one retry less, or ends the connection in error
with none left; a CNP for a READY context with ECN on cuts the rate; the rate timer raises it and the alpha timer
lowers alpha. (R99, R104, R110, R111, R112, R113, R114, R115, R120) -/
def Obligations.ReliableTransportAct : Prop :=
  (∀ (s : State) (k : RcPacket), s.runs = true → (s.lport k.lport).up = true → s.lportEnabled k.lport = true →
    (k.op < 13 → exec (.rcRequestReceive k) s = .next (s.rcReceive k)) ∧
    (k.op = 17 → k.aeth = .ack → exec (.rcAckReceive k) s = .next (s.rcReceive k)) ∧
    (k.op = 17 → k.aeth = .seqNak → exec (.rcSeqNakReceive k) s = .next (s.rcReceive k)) ∧
    (k.op = 17 → (∃ n, k.aeth = .rnr n) → exec (.rcRnrNakReceive k) s = .next (s.rcReceive k)) ∧
    (k.op = 17 → k.aeth = .remoteAccess → exec (.rcErrorNakReceive k) s = .next (s.rcReceive k)) ∧
    (13 ≤ k.op → k.op ≤ 16 → exec (.rdmaReadResponseReceive k) s = .next (s.rcReceive k))) ∧
  (∀ (s : State) (i d : Nat), s.runs = true → (s.conn i).state = .ready → (s.conn i).ackDue = some d → d ≤ s.now →
    exec (.ackCoalesceExpiry i) s = .next (s.sendAck i)) ∧
  (∀ (s : State) (i d : Nat), s.runs = true → (s.conn i).state = .ready → (s.conn i).rnrUntil = some d → d < s.tick →
    exec (.rnrTimerExpiry i) s =
      .next (((s.updConn i fun c => { c with rnrUntil := none }).resendFrom i (s.conn i).rnrPsn).pump i)) ∧
  (∀ (s : State) (i d : Nat), s.runs = true → (s.conn i).state = .ready → (s.conn i).sent ≠ [] → (s.conn i).deadline = some d → d < s.tick →
    ∃ u : State, exec (.retransmitTimerExpiry i) s = .next (if (s.conn i).retries = 0 then (s.netCount 5 1).connError i 1
        else if s.canSend (s.conn i) then u else u.updConn i fun c => { c with resendTimed := true }) ∧
      u = ((s.netCount 5 1).updConn i fun c => { c with
        retries := (s.conn i).retries - 1, nakSeen := [], deadline := some (s.tick + (s.conn i).period) }).resendFrom i (s.conn i).oldest) ∧
  (∀ (s : State) (l q : Nat), s.runs = true → (s.lport l).up = true → s.lportEnabled l = true → (s.conn (qpnIndex q)).state = .ready →
      (s.conn (qpnIndex q)).gen = qpnGen q → bit s.net.config.ecnEnable 0 = true → (s.conn (qpnIndex q)).cnpAt = none →
    exec (.cnpReceive l ⟨q, true, true⟩) s = .next ((((s.portCount l 0 1).portCount l 1 (s.frameBytes l (s.conn (qpnIndex q)).ip 16 0)).portCount l 26 1).updConn (qpnIndex q) fun _ => { s.conn (qpnIndex q) with
      target := (s.conn (qpnIndex q)).rate,
      rate := s.boundRate (s.conn (qpnIndex q)) ((s.conn (qpnIndex q)).rate - (s.conn (qpnIndex q)).rate * (s.conn (qpnIndex q)).alpha / 131072),
      alpha := (65536 - s.net.config.alphaGain) * (s.conn (qpnIndex q)).alpha / 65536 + s.net.config.alphaGain,
      step := 0, rateAt := s.now, sentBytes := 0, alphaAt := s.now, cnpAt := some s.now })) ∧
  (∀ (s : State) (i : Nat), s.runs = true → (s.conn i).state = .ready → bit s.net.config.ecnEnable 0 = true →
      1024 * s.net.config.byteCounter ≤ (s.conn i).sentBytes →
    ∃ t, exec (.rateTimerExpiry i) s = .next (s.updConn i fun _ => t) ∧ t.step = min ((s.conn i).step + 1) 255 ∧
      (s.now < (s.conn i).rateAt + 1000 * s.net.config.rateTimer →
        t.rateAt = (s.conn i).rateAt ∧ t.sentBytes = (s.conn i).sentBytes - 1024 * s.net.config.byteCounter) ∧
      ((s.conn i).rateAt + 1000 * s.net.config.rateTimer ≤ s.now → t.rateAt = s.now ∧ t.sentBytes = (s.conn i).sentBytes) ∧ t.rate = s.boundRate (s.conn i) (((s.conn i).rate + t.target) / 2) ∧
      t.target = (s.conn i).target + (if 10 < t.step then s.net.config.haiRate else if 5 < t.step then s.net.config.aiRate else 0)) ∧
  (∀ (s : State) (i : Nat), s.runs = true → (s.conn i).state = .ready → bit s.net.config.ecnEnable 0 = true →
      (s.conn i).alphaAt + 1000 * s.net.config.alphaTimer ≤ s.now →
    exec (.alphaTimerExpiry i) s = .next (s.updConn i fun _ => { s.conn i with
      alpha := (65536 - s.net.config.alphaGain) * (s.conn i).alpha / 65536, alphaAt := s.now }))

/-- FABRICS_CONNECT with in-capsule data is taken and its 1,024 data bytes checked; with a keyed descriptor the data
is read from the host first. PROPERTY_SET of CC with no reserved bit writes CC and completes; PROPERTY_GET of an
offset with a property returns it in dword 0; SHUTDOWN_COMPLETE with no awaited write tears the I/O queues down and
sets SHST 2. ABORT completes with dword 0 bit 0 set; KEEP_ALIVE completes; the first four ASYNC_EVENT_REQUESTs are
held; KEEP_ALIVE_EXPIRY past the deadline raises EV_KATO_EXPIRED and ends the controller. (R132, R133, R134, R136,
R138, R149) -/
def Obligations.FabricsCommandsAct : Prop :=
  (∀ (s : State) (conn q n : Nat) (cap : List Byte) (rest : List (List Byte)), (s.conn conn).use = .nvme q n → (s.conn conn).inbox = cap :: rest →
      (s.conn conn).state = .ready → s.ctrlOf conn = none → sqOpcode cap = 0x7F → fcType cap = 1 →
      ((s.conn conn).sent.any (fun r => r.use == .connectData) || (s.conn conn).waiting.any (fun w => w.2 == .connectData)) = false →
      s.fetching = true → sglId cap = 0x01 → sglLen cap = 1024 → 64 + sglAddr cap + 1024 ≤ cap.length →
    exec (.fabricsConnect conn) s = .next (s.granted.connect conn (slice cap (64 + sglAddr cap) 1024))) ∧
  (∀ (s : State) (conn q n : Nat) (cap : List Byte) (rest : List (List Byte)), (s.conn conn).use = .nvme q n → (s.conn conn).inbox = cap :: rest →
      (s.conn conn).state = .ready → s.ctrlOf conn = none → sqOpcode cap = 0x7F → fcType cap = 1 →
      ((s.conn conn).sent.any (fun r => r.use == .connectData) || (s.conn conn).waiting.any (fun w => w.2 == .connectData)) = false →
      s.fetching = true → (sglId cap = 0x40 ∨ sglId cap = 0x4F) → sglLen cap = 1024 →
    exec (.fabricsConnect conn) s = .next (s.granted.post conn (.read (sglAddr cap) (sglKey cap) 1024) .connectData)) ∧
  (∀ (s : State) (conn : Nat) (cap : List Byte) (c : Nat) (x : Controller), s.takesAdmin conn (isFabrics 0) cap c x → fieldAt cap 44 4 = 0x14 →
      fieldAt cap 48 4 &&& (0xFFFFFFFF ^^^ ccMask) = 0 →
    exec (.propertySet conn) s = .next (((s.taken conn).writeCc c (fieldAt cap 48 4)).complete conn (sqCid cap) 0 0 (sglInv cap))) ∧
  (∀ (s : State) (conn : Nat) (cap : List Byte) (c v : Nat) (x : Controller), s.takesAdmin conn (isFabrics 4) cap c x →
      x.property (fieldAt cap 44 4) = some v →
    exec (.propertyGet conn) s = .next ((s.taken conn).complete conn (sqCid cap) 0 v (sglInv cap))) ∧
  (∀ (x : Controller), x.property 0 = some 0x201E0103FF ∧ x.property 0x08 = some 0x00020000 ∧ x.property 0x14 = some x.cc ∧
    x.property 0x1C = some (boolNat x.rdy + 2 * boolNat x.cfs + 4 * x.shst)) ∧
  (∀ (s : State) (c : Nat) (x : Controller), s.runs = true → s.ctrl? c = some x → x.shst = 1 → s.shutdownLeft x = [] →
    exec (.shutdownComplete c) s = .next ((s.tearIoQueues c).updCtrl c fun x => { x with shst := 2, shutdown := [] })) ∧
  (∀ (s : State) (conn : Nat) (cap : List Byte) (c : Nat) (x : Controller), s.takesAdmin conn (isAdmin 0x08) cap c x →
    exec (.abort conn) s = .next ((s.taken conn).complete conn (sqCid cap) 0 1 (sglInv cap))) ∧
  (∀ (s : State) (conn : Nat) (cap : List Byte) (c : Nat) (x : Controller), s.takesAdmin conn (isAdmin 0x18) cap c x →
    exec (.keepAlive conn) s = .next ((s.taken conn).complete conn (sqCid cap) 0 0 (sglInv cap))) ∧
  (∀ (s : State) (conn : Nat) (cap : List Byte) (c : Nat) (x : Controller), s.takesAdmin conn (isAdmin 0x0C) cap c x → x.aers.length < 4 →
    exec (.asyncEventRequest conn) s = .next ((s.taken conn).updCtrl c fun x => { x with aers := x.aers ++ [(sqCid cap, sglInv cap)] })) ∧
  (∀ (s : State) (c : Nat) (x : Controller), s.runs = true → s.ctrl? c = some x → x.deadline < s.tick →
    exec (.keepAliveExpiry c) s = .next ((s.raise Ev.katoExpired (le 2 c ++ le 4 x.katoMs)).endController c 2))

/-- A Get Log Page of a supported page, at an offset in it that is a multiple of 4, under a keyed descriptor of its
length returns that part of the page, and with RAE 0 ends the hold on further events of the log, which for log 04h is
emptied. Identify returns the structure that CNS names. Set Features stores the feature and completes with its status,
and the composite temperature is judged when its threshold was set. Get Features returns the value in dword 0, and the
Host Identifier as data. (R137, R139, R140, R141, R142, R144) -/
def Obligations.NvmeAdminDataAct : Prop :=
  (∀ (s : State) (conn : Nat) (cap b : List Byte) (c : Nat) (x : Controller), s.takesAdmin conn (isAdmin 0x02) cap c x →
      (s.taken conn).logPage x cap = .ok b → logOffset cap % 4 = 0 → logOffset cap ≤ b.length → logLength cap ≤ 1048576 →
      (sglId cap = 0x40 ∨ sglId cap = 0x4F) → sglLen cap = logLength cap →
    exec (.getLogPage conn) s = .next (State.adminData conn cap (slice b (logOffset cap) (logLength cap))
      (if bit (cdw cap 10) 15 then s.taken conn else (s.taken conn).updCtrl c fun x =>
        { x with masked := x.masked.filter (· != cdw cap 10 % 256)
                 changed := if cdw cap 10 % 256 = 4 then [] else x.changed }))) ∧
  (∀ (s : State) (conn : Nat) (cap b : List Byte) (c : Nat) (x : Controller), s.takesAdmin conn (isAdmin 0x06) cap c x →
      (cdw cap 10 % 256 = 0 → ∀ n, s.ns? (sqNsid cap) = some n → s.nuseNeeds n = []) →
      (s.taken conn).identify c x cap = .ok b →
    exec (.nvmeIdentify conn) s = .next ((s.taken conn).freed.adminData conn cap b)) ∧
  (∀ (s : State) (conn : Nat) (cap : List Byte) (c : Nat) (x y : Controller) (v : Nat), s.takesAdmin conn (isAdmin 0x09) cap c x →
      x.setFeature cap = (0, v, y) →
    exec (.setFeatures conn) s = .next (if cdw cap 10 % 256 = 4
      then (((s.taken conn).updCtrl c fun _ => y).complete conn (sqCid cap) 0 v (sglInv cap)).healthCheck
      else ((s.taken conn).updCtrl c fun _ => y).complete conn (sqCid cap) 0 v (sglInv cap))) ∧
  (∀ (x : Controller) (cap : List Byte), bit (cdw cap 10) 31 = false → cdw cap 10 % 256 = 7 → x.granted = none → x.opened = false →
    ∃ y : Controller, x.setFeature cap = (0, min (cdw cap 11 % 65536) 1023 + min (cdw cap 11 / 65536 % 65536) 1023 * 65536, y) ∧
      y.granted = some (min (cdw cap 11 % 65536) 1023, min (cdw cap 11 / 65536 % 65536) 1023)) ∧
  (∀ (s : State) (conn : Nat) (cap : List Byte) (c v : Nat) (x : Controller), s.takesAdmin conn (isAdmin 0x0A) cap c x →
      cdw cap 10 % 256 ≠ 0x81 → x.getFeature cap = some v →
    exec (.getFeatures conn) s = .next ((s.taken conn).complete conn (sqCid cap) 0 v (sglInv cap))) ∧
  (∀ (s : State) (conn : Nat) (cap : List Byte) (c : Nat) (x : Controller), s.takesAdmin conn (isAdmin 0x0A) cap c x →
      cdw cap 10 % 256 = 0x81 →
    exec (.getFeatures conn) s = .next ((s.taken conn).adminData conn cap (fit 16 x.hostId))) ∧
  (∀ (s : State) (conn : Nat) (cap data : List Byte), (sglId cap = 0x40 ∨ sglId cap = 0x4F) → sglLen cap = data.length →
    s.adminData conn cap data =
      (s.post conn (.write (sglAddr cap) (sglKey cap) data) .none).complete conn (sqCid cap) 0 0 (sglInv cap))

/-- FORMAT_NVM of an owned, accessible namespace with nothing else in its way starts an operation in the first free
slot, whose end completes the command. SANITIZE_BLOCK_ERASE and SANITIZE_CRYPTO_ERASE that pass the checks record the
operation on every namespace of the subsystem and complete at once. SANITIZE_EXIT_FAILURE after a failed sanitize
forgets the failed operation, clears the failure and completes. A running operation that can continue takes the next
step of its phase; it ends when its third phase is over, and fails with EV_ERASE_FAILED when it cannot continue.
(R130, R151, R152, R153, R154, R200) -/
def Obligations.EraseCommandsAct : Prop :=
  (∀ (s : State) (conn : Nat) (cap : List Byte) (c k : Nat) (x : Controller) (n : Namespace), s.takesAdmin conn (isAdmin 0x80) cap c x →
      s.ns? (sqNsid cap) = some n → x.subsys = some n.subsys → s.owns n.domain = true → s.eraseAbsent [sqNsid cap] = [] →
      s.nvme.ana.getD n.domain 3 ≠ 3 → s.nvme.ana.getD n.domain 3 ≠ 15 → s.sanitizeRunning n.subsys = false →
      s.nvme.erases.any (fun e => e.2.kind == 1 && e.2.target == sqNsid cap && e.2.state == 1) = false → s.footing.active = false →
      (s.taken conn).formatStatus n (sqNsid cap) (cdw cap 10 % 16) (bits (cdw cap 10) 7 5) (bits (cdw cap 10) 11 9) = none →
      s.eraseSlot = some k →
    exec (.formatNvm conn) s = .next ((s.taken conn).startErase k 1 (bits (cdw cap 10) 11 9) (sqNsid cap) (cdw cap 10)
      (cdw cap 10 % 16 + 16 * bits (cdw cap 10) 7 5) n.tag [sqNsid cap] (some (conn, sqCid cap)) (sglInv cap))) ∧
  (∀ (s : State) (conn : Nat) (cap : List Byte) (c k sub : Nat) (x : Controller), s.takesAdmin conn (fun cap => sqOpcode cap == 0x84 && cdw cap 10 % 8 == 2) cap c x →
      x.subsys = some sub → s.sanitizeStatus sub 2 true = none → s.eraseSlot = some k → s.eraseAbsent (s.nsOf sub) = [] →
    exec (.sanitizeBlockErase conn) s = .next (((s.taken conn).startErase k 2 2 sub (cdw cap 10) 0 0 (s.nsOf sub) none none).complete conn (sqCid cap) 0 0 (sglInv cap))) ∧
  (∀ (s : State) (conn : Nat) (cap : List Byte) (c k sub : Nat) (x : Controller), s.takesAdmin conn (fun cap => sqOpcode cap == 0x84 && cdw cap 10 % 8 == 4) cap c x →
      x.subsys = some sub → s.sanitizeStatus sub 4 true = none → s.eraseSlot = some k →
    exec (.sanitizeCryptoErase conn) s = .next (((s.taken conn).startErase k 2 4 sub (cdw cap 10) 0 0 (s.nsOf sub) none none).complete conn (sqCid cap) 0 0 (sglInv cap))) ∧
  (∀ (s : State) (conn : Nat) (cap : List Byte) (c sub : Nat) (x : Controller), s.takesAdmin conn (fun cap => sqOpcode cap == 0x84 && cdw cap 10 % 8 != 2 && cdw cap 10 % 8 != 4) cap c x →
      x.subsys = some sub → cdw cap 10 % 8 = 1 → s.sanitizeRunning sub = false → (s.subsys sub).sstat = 3 →
    exec (.sanitizeExitFailure conn) s =
      .next ((((s.taken conn).forgetErase 2 sub).updSubsys sub fun u => { u with sstat := 0 }).complete conn (sqCid cap) 0 0 (sglInv cap))) ∧
  (∀ (s : State) (i : Nat) (e : EraseOp), s.erasing i = some e → s.runs = true → s.eraseBroken e = false → e.phase < 3 →
    exec (.eraseOperationStep i) s = .next (s.eraseStep i e)) ∧
  (∀ (s : State) (i : Nat) (e : EraseOp), s.erasing i = some e → s.runs = true → s.eraseBroken e = false → s.erasePurged e = true →
    exec (.eraseOperationEnd i) s = .next (s.endErase i e)) ∧
  (∀ (s : State) (i : Nat) (e : EraseOp), s.erasing i = some e → s.eraseBroken e = true →
    exec (.eraseOperationEnd i) s = .next (s.failErase i e)) ∧
  (∀ (s : State) (k : Nat) (e : EraseOp), e.phase = 1 → e.done ≠ 0 → min e.unmapUnits ((e.done / 1024 + 1) * 1024) ≠ e.unmapUnits →
    s.eraseStep k e = (s.unmapRun e.nsids e.done (min e.unmapUnits ((e.done / 1024 + 1) * 1024))).recordErase k
      { e with done := min e.unmapUnits ((e.done / 1024 + 1) * 1024) })

/-- An I/O capsule that passes the checks of R144 is taken under its fetch stamp. A Flush of a namespace or of all
namespaces awaits the earlier-fetched writes, has their stripes closed, and completes once none is awaited. A Write
and a Write Zeroes enter with the slots and staging units they need and the first waiting write is considered for
admission; one that still waits is counted. A Read is advanced unless the floor gate holds its class. Dataset
Management has its ranges read from the host; when they have arrived, it completes at once without AD, and with AD it
waits for admission. (R138, R144, R147, R161, R167, R281) -/
def Obligations.IoCommandsAct : Prop :=
  (∀ (s : State) (conn : Nat) (cap : List Byte) (c sub : Nat) (n : Namespace), s.takesIo conn 0 cap c sub → s.ns? (sqNsid cap) = some n →
      sqNsid cap ≠ 0xFFFFFFFF →
    exec (.nvmeFlush conn) s = .next (State.completeFlush s.now (State.closeAwaited ((s.taken conn).flushAwaits [sqNsid cap] s.now)
      (s.classRank n.cls 2) ((s.taken conn).addCmd s.now
        { (s.taken conn).freshCmd .flush conn c s.now cap n (s.classRank n.cls 2) with
          await := (s.taken conn).flushAwaits [sqNsid cap] s.now })))) ∧
  (∀ (s : State) (conn : Nat) (cap : List Byte) (c sub : Nat), s.takesIo conn 0 cap c sub → sqNsid cap = 0xFFFFFFFF →
    ∃ x : Cmd, x.kind = .flush ∧ x.conn = conn ∧ x.cid = sqCid cap ∧ x.await = (s.taken conn).flushAwaits ((s.taken conn).nsOf sub) s.now ∧
      exec (.nvmeFlush conn) s = .next (State.completeFlush s.now (State.closeAwaited x.await ((s.taken conn).flushRank x.await)
        ((s.taken conn).addCmd s.now x)))) ∧
  (∀ (s : State) (k : Nat) (c : Cmd), s.cmdOf? k = some c → c.kind = .flush → s.stillAwaited c = [] → c.torn = false →
    exec (.flushComplete k) s = .next (({ s with nvme.cmds := s.nvme.cmds.del k } : State).complete c.conn c.cid 0 0 (sglInv c.capsule))) ∧
  (∀ (s : State) (conn : Nat) (cap : List Byte) (c sub : Nat) (n : Namespace), s.takesIo conn 1 cap c sub → s.ns? (sqNsid cap) = some n →
    ∃ (x : Cmd) (t : State), x.kind = .write ∧ x.slba = sqSlba cap ∧ x.nlb = sqNlb cap + 1 ∧ x.cid = sqCid cap ∧
      x.slots = (settRun n.lbaf x.slba x.nlb).2 + 1 - (settRun n.lbaf x.slba x.nlb).1 ∧ x.need = needUnits x.slots (x.ashlarSpan n.lbaf) ∧
      t = ((s.taken conn).addCmd s.now x).considerWrites 1 ∧
      exec (.nvmeWrite conn) s = .next (if ((t.cmdOf? s.now).map Cmd.waits).getD false then t.wpCount 15 1 else t)) ∧
  (∀ (s : State) (conn : Nat) (cap : List Byte) (c sub : Nat) (n : Namespace), s.takesIo conn 2 cap c sub → s.ns? (sqNsid cap) = some n →
    ∃ (x : Cmd) (t : State), x.kind = .read ∧ x.slba = sqSlba cap ∧ x.nlb = sqNlb cap + 1 ∧ x.cid = sqCid cap ∧ x.rank = s.classRank n.cls 0 ∧
      t = (s.taken conn).addCmd s.now x ∧
      exec (.nvmeRead conn) s = .next (if s.stripe.rebuild.gate.isSome && classOf n.cls ≠ 1 then t else t.advanceRead s.now)) ∧
  (∀ (s : State) (conn : Nat) (cap : List Byte) (c sub : Nat) (n : Namespace), s.takesIo conn 8 cap c sub → s.ns? (sqNsid cap) = some n →
    ∃ (x : Cmd) (t : State), x.kind = .zeroes ∧ x.slba = sqSlba cap ∧ x.nlb = sqNlb cap + 1 ∧ x.cid = sqCid cap ∧
      x.slots = (partialSetts n.lbaf x.slba x.nlb).length ∧ x.need = needUnits x.slots (x.ashlarSpan n.lbaf) ∧
      t = ((s.taken conn).addCmd s.now x).considerWrites 1 ∧
      exec (.writeZeroes conn) s = .next (if ((t.cmdOf? s.now).map Cmd.waits).getD false then t.wpCount 15 1 else t)) ∧
  (∀ (s : State) (conn : Nat) (cap : List Byte) (c sub : Nat) (n : Namespace), s.takesIo conn 9 cap c sub → s.ns? (sqNsid cap) = some n →
    ∃ x : Cmd, x.kind = .dealloc ∧ x.cid = sqCid cap ∧ x.nsid = sqNsid cap ∧
      exec (.datasetManagement conn) s = .next (((s.taken conn).addCmd s.now x).post conn
        (.read (sglAddr cap) (sglKey cap) (sglLen cap)) (.writeData s.now))) ∧
  (∀ (s : State) (k : Nat) (b : List Byte) (c : Cmd) (n : Namespace), s.cmdOf? k = some c → s.ns? c.nsid = some n → bit (cdw c.capsule 11) 2 = false →
      ((List.range (b.length / 16)).map fun i => (fieldAt b (16 * i + 8) 8, fieldAt b (16 * i + 4) 4)).any (fun r => decide (n.nsze < r.1 + r.2)) = false →
    s.rangesArrived k b = s.failCmd k 0)

/-- WRITE_ADMIT considers the first waiting write. WRITE_STALLED_EXPIRY raises EV_WRITE_STALLED once per rank with the
wait in ms. MERGE_READ_ISSUE starts the merge of a part-covered sett that no earlier write touches. INDEX_LOOKUP with
no index, or with its bucket's page cached, settles the look-up: unindexed, a miss, or a hit on the first good entry.
BYTE_COMPARE_VERIFY counts the comparison and takes the hit only on equal bytes. COMPRESSION_JOB_END keeps the stored
form and counts bytes in and out. STAGING_PLACE places a reduced write; INDEX_PAGE_REBUILD reads map pages in first.
(R28, R161, R162, R165, R166, R170, R171, R174, R175, R176, R178, R182) -/
def Obligations.WritePathCommandsAct : Prop :=
  (∀ s : State, s.runs = true → s.power.drain = .none → exec .writeAdmit s = .next (s.considerWrites 1)) ∧
  (∀ s : State, s.nextWrite = none → s.considerWrites 1 = s) ∧
  (∀ (s : State) (k : Nat) (c : Cmd), s.nextWrite = some (k, c) → s.considerWrites 1 = if s.admissible c then s.admit_ k else s) ∧
  (∀ (s : State) (rank : Nat) (x : Nat × Cmd) (l : List (Nat × Cmd)), s.runs = true → rank < 8 → bit s.wp.stalled rank = false →
      s.nvme.cmds.filter (fun x => x.2.waits && x.2.rank == rank && s.expired (x.2.since + ticksOf 100000000)) = x :: l →
    exec (.writeStalledExpiry rank) s = .next (({ s with wp.stalled := s.wp.stalled + 2 ^ rank } : State).raise Ev.writeStalled
      (le 1 rank ++ le 4 ((s.tick - x.2.since) * 64 / 1000000)))) ∧
  (∀ (s : State) (k x : Nat) (c : Cmd) (w : SettWork), s.runs = true → s.cmdOf? k = some c → c.setts.get? x = some w → c.fetched = true →
      c.stage = 3 → w.partial_ = true → w.merged = false → w.issued = false → s.mergeClear k c x = true →
    exec (.mergeReadIssue k x) s = .next (s.startMerge k x)) ∧
  (∀ (s : State) (k u : Nat) (a : Bool) (c : Cmd), s.runs = true → s.cmdOf? k = some c → c.stage = 4 → c.lookOf u a = .wanted →
      (s.reduceOf c.domain).bucketLog2 = 0 →
    exec (.indexLookup k u a) s = .next (((s.updNCmd k fun c => c.setLook u a .unindexed).wpCount 8 1).decide_ k).trimIndex) ∧
  (∀ (s : State) (k u : Nat) (a : Bool) (c : Cmd) (b : Nat) (body : List Byte), s.runs = true → s.cmdOf? k = some c → c.stage = 4 →
      c.lookOf u a = .wanted → b = bucketOf (s.reduceOf c.domain).bucketLog2 (c.fpOf u a) → (s.reduceOf c.domain).bucketLog2 ≠ 0 →
      (s.indexPage c.domain (b / 8)).rebuilding = false → (s.indexPage c.domain (b / 8)).body = some body →
      (∀ i < 16, ¬ (ixTag (entryOf body b i) = tagOf (c.fpOf u a) ∧ ixForm (entryOf body b i) ≠ 0)) →
    exec (.indexLookup k u a) s = .next (((s.updNCmd k fun c => c.setLook u a .miss).wpCount 5 1).decide_ k).trimIndex) ∧
  (∀ (s : State) (k u : Nat) (a : Bool) (c : Cmd) (b i : Nat) (body : List Byte), s.runs = true → s.cmdOf? k = some c → c.stage = 4 →
      c.lookOf u a = .wanted → b = bucketOf (s.reduceOf c.domain).bucketLog2 (c.fpOf u a) → (s.reduceOf c.domain).bucketLog2 ≠ 0 →
      (s.indexPage c.domain (b / 8)).rebuilding = false → (s.indexPage c.domain (b / 8)).body = some body →
      findSlot body b (fun e => (if a then ixForm e == 2 else ixForm e == 1 || ixForm e == 3) && ixTag e == tagOf (c.fpOf u a) &&
        ixKey e == ((s.ns? c.nsid).map Namespace.keySlot).getD 0xFF && decide (ixRefs e < 0xFFFFFFFF)) = some i →
      s.moving (s.resolvePxa (ixPxa (entryOf body b i))) = false →
    exec (.indexLookup k u a) s = .next (s.lookHit k u a c b i (entryOf body b i)).trimIndex) ∧
  (∀ (s : State) (k u : Nat) (a : Bool) (c : Cmd) (bucket slot j : Nat) (e there : List Byte) (job : ReadJob), s.runs = true → s.cmdOf? k = some c →
      c.lookOf u a = .verify bucket slot e →
      s.flash.jobs.find? (fun j => j.2.use == .verify k u a (ixRaw e) (ixForm e != 1) (ixSett e)) = some (j, job) →
      job.done = true → job.result = some there →
    exec (.byteCompareVerify k u a) s = .next (State.trimIndex (State.decide_ k (
      if (if a then there else settIn (ixForm e != 1) (ixSett e) there) = c.unitData u a
      then (((({ s with flash.jobs := s.flash.jobs.del j } : State).wpCount 9 1).updNCmd k fun c => c.setLook u a (.hit bucket slot e)).wpCount
        (if a then 3 else 4) 1)
      else (((((({ s with flash.jobs := s.flash.jobs.del j } : State).wpCount 9 1).dropHold c.domain bucket slot).updNCmd k fun c =>
        c.setLook u a .unindexed).wpCount 10 1).raise Ev.dedupCollision (le 1 c.domain ++ le 8 bucket ++ le 1 slot)))))) ∧
  (∀ (s : State) (k u e : Nat) (c : Cmd) (w : SettWork), s.cmdOf? k = some c → c.setts.get? u = some w → w.job = .wanted e →
    ∃ (raw : Bool) (clen : Nat) (b : List Byte) (t : State),
      (raw, clen, b) = s.stored c.reduce (s.bankAt e) (((s.ns? c.nsid).map Namespace.keySlot).getD 0xFF) (fit 4096 w.data) ∧
      t = (((s.updNCmd k fun c => { c with setts := c.setts.upd u fun w => { w with job := .done raw clen b } }).wpCount 12 4096).wpCount 13
        b.length).wpCount 14 (boolNat raw) ∧
      exec (.compressionJobEnd k u false) s = .next (if c.reduce.tableMissing (s.bankAt e) then t.wpCount 16 1 else t)) ∧
  (∀ (s : State) (k : Nat) (c : Cmd), s.cmdOf? k = some c → c.writes = true → c.wsn = 0 → c.reduced = true →
      s.placeClear k c = true → s.wsnFree = true → s.power.drain = .none →
    exec (.stagingPlace k) s = .next ((((s.placeWrite k).syncWrite k).ceilingCheck).considerWrites 64).trimIndex) ∧
  (∀ (s : State) (d page : Nat), s.runs = true → (s.indexPage d page).rebuilding = true → s.owns d = true → (s.indexPage d page).queued = [] →
      (∀ x ∈ s.entryPages d, x.2.body.isSome = true) →
    exec (.indexPageRebuild d page) s = .next ((s.updIndexPage d page fun p =>
        { p with body := some (rebuildBody (s.indexEntries d page)).1, dirty := true, rebuilding := false, queued := [] }).raise
      Ev.indexPageRebuilt (le 1 d ++ le 8 page ++ le 4 (rebuildBody (s.indexEntries d page)).2))) ∧
  (∀ (s : State) (d page : Nat), s.runs = true → (s.indexPage d page).rebuilding = true → s.owns d = true →
      (s.entryPages d).any (fun x => x.2.body.isNone) = true →
    exec (.indexPageRebuild d page) s = .next (s.fetchPages (((s.entryPages d).filter fun x => x.2.body.isNone).map Prod.fst) (s.rankOf 17)))

/-- SUBSYS_CONFIG makes or changes a subsystem and keeps the hosts, health and counters of one that exists;
SUBSYS_DELETE removes an unused one; SUBSYS_HOSTS stores its host NQNs. NS_CREATE and NS_RESIZE within every limit
store the definition, on the owner with its head layer; NS_DELETE removes it and ends its key reference on a head
without the map; NS_SET_CLASS stores the class. NS_QUERY and CTRL_QUERY answer the stored record; CTRL_TEARDOWN ends
the controller with cause 4. HEALTH_SET sets and clears warning bits and then judges health; DISC_LOG_SET stores the
entries and advances GENCTR. (R19, R20, R130, R142, R155, R157, R200, R217, R239) -/
def Obligations.NvmeConfigPacketsAct : Prop :=
  (∀ (s : State) (op : PktOp) (p : Packet) (u : Subsystem), s.takes op 0x0300 p → s.nvme.subsystems.get? (p.f 0 2) = some u →
      (u.nqn = p.bytes 4 256 ∨ s.nvme.controllers.any (fun c => c.2.subsys == some (p.f 0 2)) = false) →
    exec (.subsysConfig op) s = .next (({ s with nvme.subsystems := s.nvme.subsystems.set (p.f 0 2) { u with
                                             flags := p.f 2 2
                                             nqn := p.bytes 4 256
                                             sn := p.bytes 260 20
                                             mn := p.bytes 280 40
                                             fr := p.bytes 320 8 } } : State).replyOk p)) ∧
  (∀ (s : State) (op : PktOp) (p : Packet), s.takes op 0x0300 p → s.nvme.subsystems.get? (p.f 0 2) = none →
    exec (.subsysConfig op) s = .next ((({ s with nvme.subsystems := s.nvme.subsystems.set (p.f 0 2) {
                                             stats := s.nvme.saved.getD (p.f 0 2) (List.replicate 6 0)
                                             flags := p.f 2 2
                                             nqn := p.bytes 4 256
                                             sn := p.bytes 260 20
                                             mn := p.bytes 280 40
                                             fr := p.bytes 320 8 } } : State).recallErase 2 (p.f 0 2)).replyOk p)) ∧
  (∀ (s : State) (op : PktOp) (p : Packet) (u : Subsystem), s.takes op 0x0301 p → s.nvme.subsystems.get? (p.f 0 2) = some u →
      s.nsOf (p.f 0 2) = [] → s.nvme.controllers.any (fun c => c.2.subsys == some (p.f 0 2)) = false →
    exec (.subsysDelete op) s = .next ((({ s with nvme.subsystems := s.nvme.subsystems.del (p.f 0 2) } : State).forgetErase 2 (p.f 0 2)).replyOk p)) ∧
  (∀ (s : State) (op : PktOp) (p : Packet) (u : Subsystem), s.takes op 0x0302 p → s.nvme.subsystems.get? (p.f 0 2) = some u →
    exec (.subsysHosts op) s = .next ((s.updSubsys (p.f 0 2) fun u =>
      { u with hosts := (List.range (p.f 2 2)).map fun i => slice (p.buffer op) (256 * i) 256 }).replyOk p)) ∧
  (∀ (s : State) (op : PktOp) (p : Packet) (n : Namespace), s.takes op 0x0303 p →
      n = { subsys := p.f 4 2, domain := p.f 6 1, cls := p.f 7 1, nsze := p.f 8 8, lbaf := p.f 0x10 1, pi := p.f 0x11 1,
            tag := p.f 0x12 2, keySlot := p.f 0x14 1, nguid := p.bytes 0x18 16, eui := p.bytes 0x28 8 } →
      s.ns? (p.f 0 4) = none → s.nvme.subsystems.has n.subsys = true →
      (n.keySlot = 0xFF ∨ (s.noCipher = false ∧ (s.keySlot n.keySlot).kind = 1)) →
      (s.owns n.domain = false ∨ s.nsBytes + n.nsze * dataSize n.lbaf ≤ nsBytesLimit) →
    exec (.nsCreate op) s = .next (((if s.owns n.domain
        then ((({ s with nvme.namespaces := s.nvme.namespaces.set (p.f 0 4) n } : State).recallErase 1 (p.f 0 4)).refKey n.keySlot true).giveLayer (p.f 0 4)
        else (({ s with nvme.namespaces := s.nvme.namespaces.set (p.f 0 4) n } : State).recallErase 1 (p.f 0 4)).refKey n.keySlot true).startPinning (p.f 0 4)).replyOk p)) ∧
  (∀ (s : State) (op : PktOp) (p : Packet) (n : Namespace) (u : State), s.takes op 0x0304 p → s.ns? (p.f 0 4) = some n → s.nsErasing (p.f 0 4) n = false →
      u = s.forgetErase 1 (p.f 0 4) →
    ∃ t : State, exec (.nsDelete op) s = .next (t.pruneGhosts.replyOk p) ∧ (u.owns n.domain = false →
      t.nvme.namespaces = (u.nvme.namespaces.del (p.f 0 4)).set (u.ghostId (p.f 0 4)) { n with subsys := 65536 })) ∧
  (∀ (s : State) (op : PktOp) (p : Packet) (n : Namespace), s.takes op 0x0305 p → s.ns? (p.f 0 4) = some n → n.nsze ≤ p.f 8 8 →
      p.f 8 8 % lbasPerSett n.lbaf = 0 → s.nsBytes + (p.f 8 8 - n.nsze) * dataSize n.lbaf ≤ nsBytesLimit → s.layer? n.domain n.layer = none →
    exec (.nsResize op) s = .next ((({ s with nvme.namespaces := s.nvme.namespaces.set (p.f 0 4) { n with nsze := p.f 8 8 } } : State).nsChanged
      (p.f 0 4) n.subsys).replyOk p)) ∧
  (∀ (s : State) (op : PktOp) (p : Packet) (n : Namespace) (l : Layer), s.takes op 0x0305 p → s.ns? (p.f 0 4) = some n → n.nsze ≤ p.f 8 8 →
      p.f 8 8 % lbasPerSett n.lbaf = 0 → s.nsBytes + (p.f 8 8 - n.nsze) * dataSize n.lbaf ≤ nsBytesLimit → s.layer? n.domain n.layer = some l →
    exec (.nsResize op) s = .next ((((({ s with nvme.namespaces := s.nvme.namespaces.set (p.f 0 4) { n with nsze := p.f 8 8 } } : State).updLayer
      n.domain n.layer fun l => { l with nsze := p.f 8 8 }).growLayer n.domain n.layer
        (levelsFor (ashlarCount (p.f 8 8) n.lbaf) - l.levels)).nsChanged (p.f 0 4) n.subsys).replyOk p)) ∧
  (∀ (s : State) (op : PktOp) (p : Packet) (n : Namespace), s.takes op 0x0306 p → s.ns? (p.f 0 4) = some n → p.f 4 1 ≠ 1 → n.cls ≠ 1 →
    exec (.nsSetClass op) s =
      .next (({ s with nvme.namespaces := s.nvme.namespaces.set (p.f 0 4) { n with cls := p.f 4 1 } } : State).replyOk p)) ∧
  (∀ (s : State) (op : PktOp) (p : Packet) (n : Namespace), s.takes op 0x0307 p → s.ns? (p.f 0 4) = some n → s.nuseNeeds n = [] →
    exec (.nsQuery op) s = .next (s.freed.reply p St.ok 0 (fit 64 (n.record (p.f 0 4) ++ le 8 (s.nuse n) ++
      le 1 (s.nvme.ana.getD n.domain 3) ++ le 1 (s.eraseStateOf (p.f 0 4) n))))) ∧
  (∀ (s : State) (op : PktOp) (p : Packet) (x : Controller) (n : Nat), s.takes op 0x0308 p → s.ctrl? (p.f 0 2) = some x → x.subsys = some n →
    exec (.ctrlQuery op) s = .next (s.freed.reply p St.ok 0 (fit 512 (le 2 n ++ fit 256 x.host ++ le 4 x.katoMs ++ le 2 x.queues.length ++
      le 1 x.lport ++ le 1 (boolNat x.wce))))) ∧
  (∀ (s : State) (op : PktOp) (p : Packet) (x : Controller), s.takes op 0x0309 p → s.ctrl? (p.f 0 2) = some x →
    exec (.ctrlTeardown op) s = .next ((s.endController (p.f 0 2) 4).replyOk p)) ∧
  (∀ (s : State) (op : PktOp) (p : Packet), s.takes op 0x030A p → p.f 0 2 < 1024 → s.nvme.subsystems.has (p.f 0 2) = true →
      bit (p.f 3 1) 4 = false →
    exec (.healthSet op) s = .next ((s.updSubsys (p.f 0 2) fun u =>
      { u with
        warnings := (u.warnings ||| p.f 2 1) &&& (0xFF ^^^ p.f 3 1)
        spare := p.f 4 1
        threshold := p.f 5 1
        used := p.f 6 1 }).healthCheck.replyOk p)) ∧
  (∀ (s : State) (op : PktOp) (p : Packet), s.takes op 0x030D p →
    exec (.discLogSet op) s = .next (({ s with
      nvme.discovery := s.nvme.discovery.set (p.f 0 1) ((List.range (p.f 2 2)).map fun i => slice (p.buffer op) (1024 * i) 1024),
      nvme.genctr := s.nvme.genctr + 1 } : State).replyOk p))

/-- ERASE_START of a format or a sanitize that may run starts it in the first free slot; ERASE_STATUS answers the
recorded operation, or zeros. REDUCE_CONFIG and INDEX_CONFIG on the owner make the new settings durable before the
reply. COMP_JOB answers the compressed bytes and the length and CRC-32 of its input; DECOMP_JOB answers the
decompressed bytes with their length and CRC-32, or the offset of the fault. REDUCE_STATUS and INDEX_QUERY answer what
they describe; REDUCE_COUNTERS answers the counters and clears them when asked; REDUCE_CONFIG_CHIP stores the slots of
class A and the cache size. (R151, R152, R154, R157, R162, R177, R178, R179, R184, R185) -/
def Obligations.EraseAndReducePacketsAct : Prop :=
  (∀ (s : State) (op : PktOp) (p : Packet) (n : Namespace) (k : Nat), s.takes op 0x030B p → p.f 0 1 = 1 → s.ns? (p.f 4 4) = some n →
      s.owns n.domain = true → s.nsErasing (p.f 4 4) n = false → s.formatStatus n (p.f 4 4) n.lbaf n.pi (p.f 1 1) = none →
      s.eraseSlot = some k → s.eraseAbsent [p.f 4 4] = [] → (p.f 1 1 = 2 → s.keys.entropyFailed = false) →
    exec (.eraseStart op) s = .next ((s.startErase k 1 (p.f 1 1) (p.f 4 4) 0 (n.lbaf + 16 * n.pi) n.tag [p.f 4 4] none none).replyOk p)) ∧
  (∀ (s : State) (op : PktOp) (p : Packet) (k : Nat), s.takes op 0x030B p → p.f 0 1 ≠ 1 → s.nvme.subsystems.has (p.f 4 4) = true →
      ((s.nsOf (p.f 4 4)).all fun n => s.owns (((s.ns? n).map Namespace.domain).getD 256)) = true → s.sanitizeRunning (p.f 4 4) = false →
      (p.f 1 1 = 2 ∨ (p.f 1 1 = 4 ∧ s.cryptoAllowed (p.f 4 4) = true)) → s.eraseSlot = some k → s.eraseAbsent (s.nsOf (p.f 4 4)) = [] →
      (p.f 1 1 = 4 → s.keys.entropyFailed = false) →
    exec (.eraseStart op) s = .next ((s.startErase k 2 (p.f 1 1) (p.f 4 4) 0 0 0 (s.nsOf (p.f 4 4)) none none).replyOk p)) ∧
  (∀ (s : State) (op : PktOp) (p : Packet), s.takes op 0x030C p →
    exec (.eraseStatus op) s = .next (s.reply p St.ok 0 (((s.nvme.erases.get? (p.f 0 1)).map EraseOp.bytes).getD (zeros 64)))) ∧
  (∀ (s : State) (op : PktOp) (p : Packet), s.takes op 0x0400 p → s.owns (p.f 0 1) = true →
      (p.f 2 1 = 1 → (s.huffTable? (p.f 3 1)).isSome = true) →
    exec (.reduceConfig op) s = .next (s.askSettings p (p.f 0 1) { s.askedSettings (p.f 0 1) with
      level := p.f 1 1
      mode := p.f 2 1
      table := p.f 3 1
      flags := p.f 4 1 })) ∧
  (∀ (s : State) (op : PktOp) (p : Packet), s.takes op 0x0401 p → s.owns (p.f 0 1) = true → (p.f 1 1 = 0 ∨ (16 ≤ p.f 1 1 ∧ p.f 1 1 ≤ 36)) →
      (p.f 1 1 = (s.askedSettings (p.f 0 1)).bucketLog2 ∨ (s.indexHolds (p.f 0 1) = false ∧ s.indexAbsent (p.f 0 1) = [])) →
    exec (.indexConfig op) s = .next (s.askSettings p (p.f 0 1) { s.askedSettings (p.f 0 1) with bucketLog2 := p.f 1 1 })) ∧
  (∀ (s : State) (p : Packet) (d : Nat) (r : ReduceDomain),
    s.askSettings p d r = ({ s.await p with wp.settings := s.wp.settings ++ [(p.acc, d, r)] } : State).journalWrite d (s.rankOf 13)
      (.domainSettings r.level r.mode r.table r.flags r.bucketLog2) 0) ∧
  (∀ (s : State) (op : PktOp) (p : Packet) (out : List Byte), s.takes op 0x0402 p → p.f 9 1 ≠ 1 →
      out = deflate (p.f 8 1) (p.f 9 1) [] (bit (p.f 0xB 1) 0) (slice (p.buffer op) 0 (p.f 0 4)) → out.length ≤ p.dataLen - p.f 4 4 →
    exec (.compJob op) s = .next (s.replyAt p St.ok (out.length + (crc32 (slice (p.buffer op) 0 (p.f 0 4))).toNat * 2 ^ 32) (p.f 4 4) out)) ∧
  (∀ (s : State) (op : PktOp) (p : Packet) (t : List Byte), s.takes op 0x0402 p → p.f 9 1 = 1 →
      s.huffTable? (p.f 0xA 1) = some t →
    exec (.compJob op) s = .next (
      if p.dataLen - p.f 4 4 < (deflate (p.f 8 1) 1 t (bit (p.f 0xB 1) 0) (slice (p.buffer op) 0 (p.f 0 4))).length then s.fail p St.outputSpace
      else s.replyAt p St.ok ((deflate (p.f 8 1) 1 t (bit (p.f 0xB 1) 0) (slice (p.buffer op) 0 (p.f 0 4))).length +
        (crc32 (slice (p.buffer op) 0 (p.f 0 4))).toNat * 2 ^ 32) (p.f 4 4) (deflate (p.f 8 1) 1 t (bit (p.f 0xB 1) 0) (slice (p.buffer op) 0 (p.f 0 4))))) ∧
  (∀ (s : State) (op : PktOp) (p : Packet) (out : List Byte), s.takes op 0x0403 p →
      inflate (slice (p.buffer op) 0 (p.f 0 4)) = .ok out → out.length ≤ p.dataLen - p.f 4 4 →
    exec (.decompJob op) s = .next (s.replyAt p St.ok (out.length + (crc32 out).toNat * 2 ^ 32) (p.f 4 4) out)) ∧
  (∀ (s : State) (op : PktOp) (p : Packet), s.takes op 0x0404 p →
    exec (.reduceStatus op) s = .next (s.reply p St.ok 0 (le 8 s.wp.limit ++ le 8 s.wp.occupancy ++ le 8 s.wp.reserved ++
      le 4 (ingestSlots - s.wp.slotsUsed) ++ le 4 s.wp.classASlots ++
      ((List.range 8).flatMap fun r => le 2 ((s.nvme.cmds.filter fun x => x.2.waits).filter fun x => x.2.rank == r).length) ++
      le 8 ((s.nvme.cmds.filter fun x => x.2.waits).foldl (fun m x => max m ((s.tick - x.2.since) * 64 / 1000)) 0)))) ∧
  (∀ (s : State) (op : PktOp) (p : Packet), s.takes op 0x0405 p → p.f 0 1 ≠ 1 →
    exec (.reduceCounters op) s = .next (s.reply p St.ok 0 ((s.wp.counters.take 15).flatMap (le 8) ++
      le 4 (min (s.wp.counters.getD 15 0) (2 ^ 32 - 1)) ++ le 4 (min (s.wp.counters.getD 16 0) (2 ^ 32 - 1))))) ∧
  (∀ (s : State) (op : PktOp) (p : Packet), s.takes op 0x0405 p → p.f 0 1 = 1 →
    exec (.reduceCounters op) s = .next (({ s with wp.counters := List.replicate 17 0 } : State).reply p St.ok 0
      ((s.wp.counters.take 15).flatMap (le 8) ++
      le 4 (min (s.wp.counters.getD 15 0) (2 ^ 32 - 1)) ++ le 4 (min (s.wp.counters.getD 16 0) (2 ^ 32 - 1))))) ∧
  (∀ (s : State) (op : PktOp) (p : Packet) (bucket : Nat) (body : List Byte) (es : List (List Byte)), s.takes op 0x0406 p →
      bucket = bucketOf (s.reduceOf (p.f 0 1)).bucketLog2 (p.bytes 4 32) → (s.indexPage (p.f 0 1) (bucket / 8)).body = some body →
      es = (((List.range 16).map fun i => entryOf body bucket i).filter fun e => ixForm e != 0 && ixTag e == tagOf (p.bytes 4 32)) →
    exec (.indexQuery op) s = .next (s.reply p St.ok es.length (le 8 bucket ++
      if es.isEmpty then zeros 32 else (es.take ((p.dataLen - 8) / 32)).flatten))) ∧
  (∀ (s : State) (op : PktOp) (p : Packet), s.takes op 0x0407 p → (p.f 4 4 = 0 ∨ (64 ≤ p.f 4 4 ∧ p.f 4 4 ≤ 262144)) →
    exec (.reduceConfigChip op) s = .next (({ s with
      wp.classASlots := p.f 0 2,
      wp.cacheMib := if p.f 4 4 = 0 then s.wp.cacheMib else p.f 4 4 } : State).trimIndex.replyOk p))

/-- A clear KEY_LOAD that passes the checks places the first key_len bytes of the buffer; a wrapped one places the
decrypted key when its tag is right, else ST_KEY_UNWRAP. KEY_GENERATE places random bytes (free values), KEY_DERIVE
the KDF output over the named key. KEY_EXPORT answers header, ciphertext and tag under the next IV of the wrapping key
and counts it. KEY_DESTROY empties a slot no namespace uses; KEY_QUERY answers the record without the key; KEY_POLICY
only sets bits. GCM_JOB encrypts, or decrypts when the tag is right. A failed entropy test stops random keys until a
pass. (R188, R199, R200, R201, R202, R203, R204, R205, R206, R210, R211, R213) -/
def Obligations.KeyCommandsAct : Prop :=
  (∀ (s : State) (op : PktOp) (p : Packet), s.takes op 0x0510 p → s.keyLoadRefusal p = none → p.f 1 1 = 0 →
    exec (.keyLoad op) s = .next ((s.placeKey (p.f 0 1) (p.f 3 1) (p.f 4 1) 1 1 (slice (p.buffer op) 0 (p.f 5 1))).replyOk p)) ∧
  (∀ (s : State) (op : PktOp) (p : Packet) (kek : KeySlot) (rec_ : List Byte) (len : Nat), s.takes op 0x0510 p → s.keyLoadRefusal p = none →
      p.f 1 1 ≠ 0 → kek = s.keySlot (p.f 2 1) → rec_ = p.buffer op → len = p.f 5 1 → fieldAt rec_ 0 1 = 1 → fieldAt rec_ 1 1 = p.f 3 1 →
      fieldAt rec_ 2 1 = p.f 4 1 → fieldAt rec_ 3 1 = len → kek.kind = 3 →
    exec (.keyLoad op) s = .next (
      if fit 16 (gcmTag kek.key (slice rec_ 8 12) (slice rec_ 0 0x20) (slice rec_ 0x20 len)) = slice rec_ (0x20 + len) 16
      then (s.placeKey (p.f 0 1) (p.f 3 1) (p.f 4 1) 2 1 (fit len (gcmDec kek.key (slice rec_ 8 12) (slice rec_ 0x20 len)))).replyOk p
      else s.fail p St.keyUnwrap)) ∧
  (∀ (s : State) (op : PktOp) (p : Packet), s.takes op 0x0511 p → (s.noCipher = false ∨ 3 < p.f 1 1) → keyLenOk (p.f 1 1) (p.f 3 1) = true →
      (s.keySlot (p.f 0 1)).nsRefs = 0 → s.keys.entropyFailed = false →
    exec (.keyGenerate op) s = .next (((s.placeKey (p.f 0 1) (p.f 1 1) (p.f 2 1) 3 2 (s.random (p.f 3 1))).freed).replyOk p)) ∧
  (∀ (s : State) (op : PktOp) (p : Packet), s.takes op 0x0512 p → (s.noCipher = false ∨ 3 < p.f 1 1) → keyLenOk (p.f 1 1) (p.f 3 1) = true →
      (s.keySlot (p.f 0 1)).nsRefs = 0 → p.f 4 1 ≠ 0xFE → (s.keySlot (p.f 4 1)).kind = 6 →
    exec (.keyDerive op) s = .next ((s.placeKey (p.f 0 1) (p.f 1 1) (p.f 2 1) 4 3
      (fit (p.f 3 1) (kdf (s.keySlot (p.f 4 1)).key (p.bytes 8 (p.f 5 1)) [] (p.f 3 1)))).replyOk p)) ∧
  (∀ (s : State) (op : PktOp) (p : Packet), s.takes op 0x0512 p → (s.noCipher = false ∨ 3 < p.f 1 1) → keyLenOk (p.f 1 1) (p.f 3 1) = true →
      (s.keySlot (p.f 0 1)).nsRefs = 0 → p.f 4 1 = 0xFE →
    exec (.keyDerive op) s = .next ((s.placeKey (p.f 0 1) (p.f 1 1) (p.f 2 1) 4 3
      (fit (p.f 3 1) (kdf Config.rootKey (p.bytes 8 (p.f 5 1)) Config.serial (p.f 3 1)))).replyOk p)) ∧
  (∀ (s : State) (op : PktOp) (p : Packet) (v kek : KeySlot) (iv aad cipher : List Byte), s.takes op 0x0513 p → v = s.keySlot (p.f 0 1) →
      kek = s.keySlot (p.f 1 1) → s.noCipher = false → bit s.keys.policy 1 = false → v.kind ≠ 0 → bit v.attributes 0 = true → kek.kind = 3 →
      48 + v.key.length ≤ p.dataLen → s.formIv (p.f 1 1) = some iv → aad = wrapHeader v.kind v.attributes v.key.length iv →
      cipher = fit v.key.length (gcmEnc kek.key iv v.key) →
    exec (.keyExport op) s = .next ((s.countIv (p.f 1 1)).reply p St.ok 0 (aad ++ cipher ++ fit 16 (gcmTag kek.key iv aad cipher)))) ∧
  (∀ (s : State) (op : PktOp) (p : Packet), s.takes op 0x0514 p → (s.keySlot (p.f 0 1)).nsRefs = 0 →
    exec (.keyDestroy op) s = .next ((s.emptyKey (p.f 0 1)).replyOk p)) ∧
  (∀ (s : State) (op : PktOp) (p : Packet) (v : KeySlot), s.takes op 0x0515 p → v = s.keySlot (p.f 0 1) →
    exec (.keyQuery op) s = .next (s.reply p St.ok 0 (le 1 v.kind ++ le 1 v.attributes ++ le 1 v.origin ++ le 1 v.key.length ++
      le 4 v.nsRefs ++ le 4 v.gen ++ le 2 v.loadCount ++ zeros 2 ++ checkValue v.key ++ le 8 v.changed))) ∧
  (∀ (s : State) (op : PktOp) (p : Packet), s.takes op 0x0516 p →
    exec (.keyPolicy op) s = .next (({ s with keys.policy := s.keys.policy ||| p.f 0 1 } : State).replyOk p)) ∧
  (∀ (s : State) (op : PktOp) (p : Packet) (v : KeySlot) (iv text aad cipher : List Byte), s.takes op 0x0520 p → v = s.keySlot (p.f 0 1) →
      s.noCipher = false → p.f 1 1 = 0 → v.kind = 2 → align8 (p.f 4 4 + p.f 8 4) + p.f 8 4 + 28 ≤ p.dataLen → p.f 2 1 ≠ 1 →
      s.formIv (p.f 0 1) = some iv → aad = slice (p.buffer op) 0 (p.f 4 4) → text = slice (p.buffer op) (p.f 4 4) (p.f 8 4) →
      cipher = fit (p.f 8 4) (gcmEnc v.key iv text) →
    exec (.gcmJob op) s = .next ((s.countIv (p.f 0 1)).replyAt p St.ok (p.f 8 4 + 28) (align8 (p.f 4 4 + p.f 8 4)) (cipher ++ fit 16 (gcmTag v.key iv aad cipher) ++ iv))) ∧
  (∀ (s : State) (op : PktOp) (p : Packet) (v : KeySlot) (iv text aad cipher : List Byte), s.takes op 0x0520 p → v = s.keySlot (p.f 0 1) →
      s.noCipher = false → p.f 1 1 = 0 → v.kind = 2 → align8 (p.f 4 4 + p.f 8 4) + p.f 8 4 + 28 ≤ p.dataLen → p.f 2 1 = 1 →
      iv = p.bytes 16 12 → aad = slice (p.buffer op) 0 (p.f 4 4) → text = slice (p.buffer op) (p.f 4 4) (p.f 8 4) →
      cipher = fit (p.f 8 4) (gcmEnc v.key iv text) →
    exec (.gcmJob op) s = .next (s.replyAt p St.ok (p.f 8 4 + 28) (align8 (p.f 4 4 + p.f 8 4)) (cipher ++ fit 16 (gcmTag v.key iv aad cipher) ++ iv))) ∧
  (∀ (s : State) (op : PktOp) (p : Packet) (v : KeySlot) (text aad : List Byte), s.takes op 0x0520 p → v = s.keySlot (p.f 0 1) →
      s.noCipher = false → p.f 1 1 ≠ 0 → v.kind = 2 → align8 (p.f 4 4 + p.f 8 4) + 16 + p.f 8 4 ≤ p.dataLen → p.f 2 1 ≠ 0 →
      aad = slice (p.buffer op) 0 (p.f 4 4) → text = slice (p.buffer op) (p.f 4 4) (p.f 8 4) →
    exec (.gcmJob op) s = .next (
      if fit 16 (gcmTag v.key (p.bytes 16 12) aad text) = slice (p.buffer op) (p.f 4 4 + p.f 8 4) 16
      then s.replyAt p St.ok (p.f 8 4) (align8 (p.f 4 4 + p.f 8 4) + 16) (fit (p.f 8 4) (gcmDec v.key (p.bytes 16 12) text)) else s.fail p St.gcmTag)) ∧
  (∀ (s : State) (test : Nat), s.runs = true → (test = 1 ∨ test = 2) →
    exec (.entropyTestFail test) s = .next (({ s with keys.entropyFailed := true } : State).raiseFrom 17 Ev.entropyFault (le 1 test))) ∧
  (∀ s : State, exec .entropyTestPass s = .next { s with keys.entropyFailed := false })

/-- A map page whose read has ended arrives, and waiting reads go on. The oldest record of the log that may be applied
is applied once the pages it needs are resident, which are read in first. A cold ashlar whose merge has been read is
merged. A page dirty for longer than the write-back age is written back. At a full map area the second-chance victim,
clean and stored in flash, leaves DRAM. A spoil acknowledgement frees its entry. Pinning a namespace whose pages are
resident raises EV_MAP_PINNED; a lost stripe no entry names any more ends its sweep; a deleted layer releases its
pages and raises EV_SNAP_DELETED; a check of resident pages ends; a queued re-check without its layer ends. (R227,
R228, R234, R236, R237, R239, R240, R244, R245, R246, R247, R262) -/
def Obligations.MapEngineCommandsAct : Prop :=
  (∀ (s : State) (page j : Nat) (x : ReadJob) (g : Page), s.runs = true → s.pageJob page = some (j, x) → s.page? page = some g → x.done = true →
    exec (.mapPageReadComplete page) s = .next (s.pageArrives page j x g).resumeReads) ∧
  (∀ (s : State) (w : Nat) (r : Staged), s.runs = true → s.record? w = some r → s.mayApply r = true → r.deltas.flatMap (s.deltaNeeds r) = [] → s.indexNeeds r = [] →
    exec (.mapApplyRecord w) s = .next (s.applyRecord r)) ∧
  (∀ (s : State) (nsid a key : Nat) (n : Namespace) (l : Layer) (m : ColdMerge), s.runs = true → s.ns? nsid = some n →
      s.layer? n.domain n.layer = some l → 0 < s.map.mergeAge → s.owns n.domain = true → s.footing.active = false → s.power.drain = .none →
      s.coldOf nsid a = some (key, m) →
    exec (.coldMergeSweep nsid a) s = .next (s.coldFinish nsid a key m n)) ∧
  (∀ (s : State) (nsid a : Nat) (n : Namespace) (l : Layer), s.runs = true → s.ns? nsid = some n →
      s.layer? n.domain n.layer = some l → 0 < s.map.mergeAge → s.owns n.domain = true → s.footing.active = false → s.power.drain = .none →
      s.coldOf nsid a = none → s.leafNeeds l a ≠ [] →
    exec (.coldMergeSweep nsid a) s = .next (s.fetchPages (s.leafNeeds l a) (s.rankOf 14))) ∧
  (∀ (s : State) (page t : Nat) (g : Page), s.runs = true → s.page? page = some g → g.dirty = some t →
      t + ticksOf (s.map.writebackAge * 1000000000) < s.tick → s.footing.active = false → s.owns (mpnDomain page) = true → s.power.drain = .none →
    exec (.writebackAgeExpiry page) s = .next (s.writeBack page)) ∧
  (∀ (s : State) (p : Nat) (g : Page), s.runs = true → s.mapFull = true →
      s.map.pages.filter (fun p => (p.2.kind == 1 || p.2.kind == 2) && p.2.pins == 0 && p.2.body.isSome) = [(p, g)] → s.page? p = some g →
      g.dirty = none → g.writing = false → g.pxa ≠ 0 → s.map.hand = p →
    exec .mapPageEvict s = .next (((({ s with map.hand := p } : State).cacheDrop p).cleanPage p).updPage p fun x => { x with body := none })) ∧
  (∀ (s : State) (seq : Nat) (e : Spoil), s.runs = true → s.map.spoil.find? (fun e => e.seq == seq) = some e →
      s.map.spoil.any (fun x => x.mpn == e.mpn && x.sector == e.sector && decide (x.seq < seq)) = false →
    exec (.spoilDrainAck seq) s = .next { s with map.spoil := s.map.spoil.filter fun x => x.seq != seq }) ∧
  (∀ (s : State) (nsid : Nat) (n : Namespace) (l : Layer), s.runs = true → s.ns? nsid = some n → s.layer? n.domain n.layer = some l →
      s.map.pinning.contains nsid = true → (l.root ≠ 0 → s.absentPages 7 l.root = []) →
    exec (.mapPinComplete nsid) s = .next (State.mapLevels (State.raise Ev.mapPinned (le 4 nsid ++ le 8 (s.layerPages l).length)
      { ({ s with map.pinning := s.map.pinning.filter (· != nsid) } : State).countPins n.domain with
        map.pinned := nsid :: (({ s with map.pinning := s.map.pinning.filter (· != nsid) } : State).countPins n.domain).map.pinned.filter (· != nsid) }))) ∧
  (∀ (s : State) (n m : Nat), s.runs = true → s.owns (stripeDomainOf n) = true → s.power.drain = .none → s.map.sweeps.find? (fun x => x.1 == n) = some (n, m) →
      (∀ p ∈ s.entryPages (stripeDomainOf n), p.2.body.isSome = true ∧ s.entriesNaming n p.1 (p.2.body.getD []) = []) →
      s.staged.any (fun r => !r.applied && !r.dropped && r.marks == some n) = false →
    exec (.lostSweep n) s = .next (State.raise Ev.mapLostSwept (le 1 (stripeDomainOf n) ++ le 5 n ++ le 8 m) { s.indexPurge n with
      map.sweeps := (s.indexPurge n).map.sweeps.filter fun x => x.1 != n,
      stripe.lost := (s.indexPurge n).stripe.lost.upd n fun e => { e with swept := true } })) ∧
  (∀ (s : State) (d id : Nat) (l : Layer), s.runs = true → s.layer? d id = some l → l.kind = 3 → s.owns d = true → s.power.drain = .none →
      l.root = 0 → l.dropKey = false →
    exec (.layerReleaseEnd d id) s = .next (({ s with map.layers := s.map.layers.del (layerKey d id) } : State).raise Ev.snapDeleted
      (le 1 d ++ le 4 id ++ le 8 0))) ∧
  (∀ (s : State) (d id : Nat) (l : Layer), s.runs = true → s.layer? d id = some l → l.kind = 3 → s.owns d = true → s.power.drain = .none →
      l.root ≠ 0 → s.absentPages 7 l.root = [] → l.dropKey = false →
    exec (.layerReleaseEnd d id) s = .next (State.raise Ev.snapDeleted
      (le 1 d ++ le 4 id ++ le 8 (s.map.pages.length - (s.releasePage 7 l.root).map.pages.length))
      { s.releasePage 7 l.root with map.layers := (s.releasePage 7 l.root).map.layers.del (layerKey d id) })) ∧
  (∀ (s : State) (d : Nat) (repair : Bool), s.runs = true → s.owns d = true → (s.mdom d).checking = some repair →
      (∀ p ∈ s.entryPages d, p.2.body.isSome = true) →
    exec (.mapCheckEnd d) s = .next (s.endCheck d repair)) ∧
  (∀ (s : State) (nsid a : Nat), s.runs = true → s.map.rechecks.contains (nsid, a) = true → s.ns? nsid = none →
    exec (.ashlarRecheckRun nsid a) s = .next { s with
      map.rechecks := s.map.rechecks.filter (· != (nsid, a)),
      flash.jobs := s.flash.jobs.keep fun _ j => (recheckUse nsid a j.use).isNone }) ∧
  (∀ (s : State) (nsid a : Nat) (n : Namespace) (l : Layer), s.runs = true → s.map.rechecks.contains (nsid, a) = true → s.ns? nsid = some n →
      s.layer? n.domain n.layer = some l → s.owns n.domain = true → s.leafNeeds l a ≠ [] →
    exec (.ashlarRecheckRun nsid a) s = .next (s.fetchPages (s.leafNeeds l a) (s.rankOf 17))) ∧
  (∀ (s : State) (nsid a : Nat) (n : Namespace) (l : Layer), s.runs = true → s.map.rechecks.contains (nsid, a) = true → s.ns? nsid = some n →
      s.layer? n.domain n.layer = some l → s.owns n.domain = true → s.leafNeeds l a = [] → s.ashlarEntries l a = [] →
      s.flash.jobs.any (fun j => (recheckUse nsid a j.2.use).isSome && !j.2.done) = false →
    exec (.ashlarRecheckRun nsid a) s = .next (State.mapFault 4 nsid a 0 { s with
      map.rechecks := s.map.rechecks.filter (· != (nsid, a)),
      flash.jobs := s.flash.jobs.keep fun _ j => (recheckUse nsid a j.use).isNone }))

/-- MAP_CONFIG stores the merge age and the write-back age. SNAP_CREATE, CLONE_ATTACH and SNAP_ROLLBACK that pass the
checks take the next layer ID, wait, close the open stripe and stage their layer record; SNAP_DELETE of a layer that
may go stages a deletion. LAYER_QUERY and LAYER_LIST answer layer records, MAP_LOOKUP the path and the entry of an
ashlar. MAP_CHECK starts a check on the owner; MAP_STATUS answers the counts of the map; MAP_COUNTERS answers the
counters and clears them when asked; ASHLAR_RECHECK queues the ashlar. (R216, R226, R230, R231, R232, R234, R246,
R247, R248) -/
def Obligations.MapPacketsAct : Prop :=
  (∀ (s : State) (op : PktOp) (p : Packet), s.takes op 0x0600 p → (p.f 0 4 = 0 ∨ (60 ≤ p.f 0 4 ∧ p.f 0 4 ≤ 86400)) →
    exec (.mapConfig op) s = .next (({ s with map.mergeAge := p.f 0 4, map.writebackAge := p.f 4 2 } : State).replyOk p)) ∧
  (∀ (s : State) (op : PktOp) (p : Packet) (n : Namespace), s.takes op 0x0601 p → s.ns? (p.f 0 4) = some n → s.owns n.domain = true →
      s.layersToCome < layerLimit →
    exec (.snapCreate op) s = .next (s.stageLayer p (p.f 0 4) 9 n.layer n)) ∧
  (∀ (s : State) (p : Packet) (nsid op target : Nat) (n : Namespace) (u t : State),
      u = s.updMdom n.domain (fun m => { m with nextLayer := m.nextLayer + 1 }) →
      t = (u.await p).closeStream n.domain 0 (u.classRank n.cls 2) →
    s.stageLayer p nsid op target n = t.stageMap n.domain nsid (t.rankOf 13)
      [{ ashlar := (s.mdom n.domain).nextLayer, op := op, target := target }] (some p.acc)) ∧
  (∀ (s : State) (op : PktOp) (p : Packet) (l : Layer), s.takes op 0x0602 p → s.owns (p.f 0 1) = true → s.layer? (p.f 0 1) (p.f 4 4) = some l →
      l.kind ≠ 1 → l.kind ≠ 3 → bit l.flags 1 = false → s.deleteStaged (p.f 0 1) (p.f 4 4) = false →
    exec (.snapDelete op) s = .next (State.stageMap (p.f 0 1) 0 (s.rankOf 13) [{ ashlar := 0, op := 11, target := p.f 4 4 }] (some p.acc) (s.await p))) ∧
  (∀ (s : State) (op : PktOp) (p : Packet) (n : Namespace) (y l : Layer), s.takes op 0x0603 p → s.ns? (p.f 0 4) = some n → s.owns n.domain = true →
      s.layer? n.domain (p.f 4 4) = some y → s.layer? n.domain n.layer = some l → y.kind = 2 → y.lbaf = n.lbaf → y.keySlot = n.keySlot →
      y.nsze ≤ n.nsze → (l.root ≠ 0 → s.absentPages 7 l.root = []) → s.layerEmpty (p.f 0 4) l = true → s.layersToCome < layerLimit →
    exec (.cloneAttach op) s = .next (s.stageLayer p (p.f 0 4) 10 (p.f 4 4) n)) ∧
  (∀ (s : State) (op : PktOp) (p : Packet) (n : Namespace) (y : Layer), s.takes op 0x0604 p → s.ns? (p.f 0 4) = some n → s.owns n.domain = true →
      s.layer? n.domain (p.f 4 4) = some y → y.kind = 2 → y.nsid = p.f 0 4 →
    exec (.snapRollback op) s = .next (s.stageLayer p (p.f 0 4) 15 (p.f 4 4) n)) ∧
  (∀ (s : State) (op : PktOp) (p : Packet) (l : Layer), s.takes op 0x0605 p → s.layer? (p.f 0 1) (p.f 4 4) = some l →
      (l.root ≠ 0 → s.absentPages 7 l.root = []) →
    exec (.layerQuery op) s = .next (s.reply p St.ok 0 (l.record (p.f 4 4) ++ le 8 (s.layerUsed l) ++ le 8 (s.layerPages l).length))) ∧
  (∀ (s : State) (op : PktOp) (p : Packet) (ls : List (Nat × Layer)), s.takes op 0x0606 p →
      ls = (s.map.layers.filter fun l => l.1 / 2 ^ 32 == p.f 0 1 && decide (p.f 4 4 ≤ l.1 % 2 ^ 32)).take (p.dataLen / 64) →
    exec (.layerList op) s = .next (s.reply p St.ok ls.length (ls.flatMap fun l => l.2.record (l.1 % 2 ^ 32)))) ∧
  (∀ (s t : State) (op : PktOp) (p : Packet) (l : Layer) (leaf : Nat) (e : List Byte), s.takes op 0x0607 p → s.layer? (p.f 0 1) (p.f 4 4) = some l →
      t = s.touchPath (p.f 0 1) (p.f 4 4) (p.f 8 8) 0 (s.rankOf 13) → t.leafNeeds l (p.f 8 8) = [] → leaf = t.leafOf l (p.f 8 8) →
      e = (if leaf = 0 then zeros 16 else rawEntry ((t.pageBody leaf).getD []) (p.f 8 8 % 256)) →
    exec (.mapLookup op) s = .next (t.reply p St.ok 0
      (fit 40 ((if 256 ^ l.levels ≤ p.f 8 8 then [] else t.pathPages (p.f 8 8) (l.levels - 1) l.root).flatMap (le 8)) ++ e ++
        (if fieldAt e 9 1 % 8 = 3 then slice ((t.pageBody (splitPage e)).getD []) (256 * splitSlot e) 256 else zeros 256)))) ∧
  (∀ (s : State) (op : PktOp) (p : Packet), s.takes op 0x0608 p → s.owns (p.f 0 1) = true → (s.mdom (p.f 0 1)).checking = none →
    exec (.mapCheck op) s = .next (((s.updMdom (p.f 0 1) fun x => { x with checking := some (bit (p.f 1 1) 0) }).startJob 0x27 (s.rankOf 17)
      s.map.pages.length).replyOk p)) ∧
  (∀ (s : State) (op : PktOp) (p : Packet) (count : (Page → Bool) → Nat) (ways : (CacheWay → Bool) → Nat), s.takes op 0x0609 p →
      count = (fun f => (s.map.pages.filter fun x => f x.2).length) → ways = (fun f => (s.map.sets.map fun x => (x.2.filter f).length).sum) →
    exec (.mapStatus op) s = .next (s.reply p St.ok 0 (le 8 s.map.area ++ le 8 s.pageCapacity ++ le 8 s.map.pages.length ++
      le 8 s.map.reservedEntries ++ le 8 (count fun x => x.body.isSome) ++ le 8 (count fun x => x.dirty.isSome) ++
      le 8 (count fun x => decide (0 < x.pins)) ++ le 8 (count fun x => decide (3 ≤ x.kind) && decide (x.kind ≤ 6)) ++ le 8 s.layerLoad ++
      le 8 (ways fun w => w.valid != 0) ++ le 8 (ways fun w => w.disabled) ++ le 8 s.map.spoil.length))) ∧
  (∀ (s : State) (op : PktOp) (p : Packet), s.takes op 0x060A p →
    exec (.mapCounters op) s = .next ((if p.f 0 1 = 1 then { s with map.counters := List.replicate 12 0 } else s).reply p St.ok 0
      (fit 96 (s.map.counters.flatMap (le 8))))) ∧
  (∀ (s : State) (op : PktOp) (p : Packet) (n : Namespace), s.takes op 0x060B p → s.ns? (p.f 0 4) = some n → s.owns n.domain = true →
      p.f 8 8 < ashlarCount n.nsze n.lbaf →
    exec (.ashlarRecheck op) s = .next ((s.queueRecheck (p.f 0 4) (p.f 8 8)).replyOk p))

/-- A needed segment is recorded from the first layout row whose cells are free; a lacking cell claims a SPARE block
group. A stripe whose programs ended writes STRIPE_CLOSE; an aged one is completed. The open frame goes to trio and
mirror peer under the next frame_seq; a lost member is replaced and filled; its repair ends when it holds every frame;
a due checkpoint whose anchor is stored is written. A replay ends the acquisition. A queued victim is evacuated; an
empty one erased. A rebuild starts on the segments hit, does a row of its pick, keeps the floor window, and the gate
opens when its time has passed. (R255, R256, R259, R263, R264, R272, R273, R274, R277, R279, R281, R465) -/
def Obligations.StripeEngineCommandsAct : Prop :=
  (∀ (s : State) (d t r : Nat) (y : Layout) (cells : List Nat), s.runs = true → s.writesFor d = true → t < 3 → s.needsSegment d t = true →
      s.footingRuns = true → s.layout? (s.sdom d).layoutId = some y → (t = 0 → (s.sdom d).gcReserve * y.width < s.poolSize d) →
      s.findRow d y y.rows (if (s.sdom d).cursor < y.rows then (s.sdom d).cursor else 0) = some (r, .cells cells) →
    exec (.segmentOpen d t) s = .next (s.recordSegment d t r y cells)) ∧
  (∀ (s : State) (d a t r : Nat) (y : Layout), s.runs = true → s.writesFor d = true → s.footing.active = false →
      s.layout? (s.sdom d).layoutId = some y → t < 3 → s.needsSegment d t = true →
      s.findRow d y y.rows (if (s.sdom d).cursor < y.rows then (s.sdom d).cursor else 0) = some (r, .claim a) →
    exec (.freePoolReplenish d) s = .next (s.claimBlock a d (s.streamRank d))) ∧
  (∀ (s : State) (d a i : Nat) (y : Layout), s.runs = true → s.writesFor d = true → s.footing.active = false →
      s.layout? (s.sdom d).layoutId = some y → (∀ t < 3, s.needsSegment d t = false) →
      s.poolSize d + (s.claiming d).length < (s.sdom d).gcStop * y.width → (s.sdom d).freeCeiling = 0 →
      s.nextTurn y.modules y.modules.length (s.sdom d).turn = some (i, a) →
    exec (.freePoolReplenish d) s = .next ((s.updSdom d fun x => { x with turn := i + 1 }).claimBlock a d (s.rankOf 11))) ∧
  (∀ (s : State) (n : Nat) (t : Stripe), s.runs = true → s.stripe.stripes.get? n = some t → t.state = .open → t.complete = true → t.closing = false →
      t.programs = [] → t.handed = (s.segment t.segment).data + (s.segment t.segment).parity →
    exec (.stripeProgramsDone n) s = .next ((s.updStripe n fun t => { t with closing := true }).journalWrite (stripeDomainOf n) t.rank
      (.stripeClose n t.records t.lowWsn (crc32c (summaryRecords t.items).flatten).toNat t.fill t.summaryUnits) t.highWsn)) ∧
  (∀ (s : State) (n : Nat) (t : Stripe) (since : Nat), s.runs = true → s.stripe.stripes.get? n = some t → t.state = .open → t.complete = false →
      t.since = some since → since + ticksOf ((s.sdom (stripeDomainOf n)).closeAge * 1000000) < s.tick →
    exec (.closeAgeExpiry n) s = .next (s.completeStripe n (s.rankOf 4) true)) ∧
  (∀ (s : State) (d : Nat) (j : Journal), s.runs = true → s.holdsClaim d = true → j = s.journal d → (j.open_.any (fun r => r.body.awaited) = true ∨ 63 ≤ j.open_.length) →
      j.trio ≠ [] → j.window < windowBytes (s.sdom d) →
    ∃ (t : State) (f : JFrame), f.seq = j.seq + 1 ∧ f.claim = s.claimOf d ∧ f.records = j.open_.take 63 ∧
      (t.journal d).seq = j.seq + 1 ∧ (t.journal d).open_ = j.open_.drop 63 ∧ (t.journal d).flight = j.flight ++ [f] ∧ t.now = s.now + 1 ∧
      exec (.journalFrameSend d) s = .next (((j.trio.zipIdx.foldl (fun t m => t.queueStart
        { module := m.1, opcode := 12, domain := d, die := 0, addr := 0, rank := j.rank, ready := 0,
          use := .journal d f.seq, data := frameBytes d m.2 s.now f, param := f.seq }) t).stripeCount 10 1).mirrorJournal d j.rank f)) ∧
  (∀ (s : State) (d : Nat), exec (.journalRecordDurable d) s = .next (s.makeDurable d (s.journal d).flight.length)) ∧
  (∀ (s : State) (d : Nat) (f : JFrame) (rest : List JFrame), (s.journal d).flight = f :: rest → s.frameDurable (s.journal d) f = false →
    exec (.journalRecordDurable d) s = .next s) ∧
  (∀ (s : State) (d m : Nat), (s.journal d).trio.find? (s.memberLost (s.journal d)) = some m →
      ((List.range s.journalSet.length).map fun i => s.journalSet.getD ((d + i) % s.journalSet.length) 0).find? (fun x =>
        s.usableJournal x && !(s.journal d).trio.contains x && !(s.journal d).bad.contains x) = none →
    ∃ (t : State) (rank : Nat), exec (.journalDegraded d) s = .next ((t.raise Ev.journalDegraded (le 1 d ++ le 2 m ++
        le 1 ((s.journal d).trio.filter fun x => !s.memberLost (s.journal d) x).length)).startJob 0x21 rank 0) ∧
      (t.journal d).trio = (s.journal d).trio.filter (· != m) ∧ (t.journal d).degraded = true ∧
      t.flash.starts = s.flash.starts.filter fun x => !(x.module == m && x.opcode == 12 && x.domain == d)) ∧
  (∀ (s : State) (d m : Nat), s.runs = true → (s.journal d).repair = some m →
      (((s.journal d).kept ++ (s.journal d).flight).all fun f => f.acks.contains m) = true →
    exec (.journalRepairEnd d) s = .next (((s.updJournal d fun j => { j with repair := none, degraded := decide (j.trio.length < 3) }).raise
      Ev.journalRepaired (le 1 d ++ le 2 m ++ le 4 (s.journal d).kept.length)).checkAllRetired)) ∧
  (∀ (s : State) (d : Nat), s.runs = true → s.writesFor d = true → s.footingRuns = true → (s.sdom d).checkpointWanted = true →
      ((s.journal d).open_.any (fun r => r.body.type == 10) || (s.journal d).flight.any fun f => f.records.any fun r => r.body.type == 10) = false →
      s.dirtyPages d = [] → s.anchorOut d = false → (s.sdom d).anchorPxa ≠ 0 →
    exec (.journalCheckpoint d) s = .next ((s.updSdom d fun x => { x with checkpointWanted := true }).journalWrite d (s.rankOf 11)
      (.checkpoint (s.sdom d).anchorPxa (s.lowUnapplied d) ((s.journal d).seq + 1)) 0)) ∧
  (∀ (s : State) (d : Nat), s.runs = true → s.writesFor d = true → s.footingRuns = true → (s.sdom d).checkpointWanted = true →
      ((s.journal d).open_.any (fun r => r.body.type == 10) || (s.journal d).flight.any fun f => f.records.any fun r => r.body.type == 10) = false →
      s.dirtyPages d ≠ [] →
    exec (.journalCheckpoint d) s = .next (((s.dirtyPages d).foldl (fun s p => s.writeBack p)
      (s.updSdom d fun x => { x with checkpointWanted := true })).closeStream d 2 (s.rankOf 11))) ∧
  (∀ (s : State) (d : Nat) (image : LedgerImage), s.runs = true → (s.domain d).state = .acquiring → (s.domain d).replaying = true →
      (s.domain d).journalDone = false → (s.domain d).takeover = none →
    ∃ (t : State) (n m : Nat), (t.domain d).replaying = false ∧ (t.domain d).journalDone = true ∧
      exec (.journalReplay d image) s = .next (((((t.finishAcquire d).startJob 0x12 (s.rankOf 13) image.frames.length).startJob 0x13 (s.rankOf 13)
        n).startJob 0x14 (s.rankOf 13) m).startJob 0x15 (s.rankOf 13) image.lost.length)) ∧
  (∀ (s : State) (d g rank : Nat), s.runs = true → s.owns d = true → s.footing.active = false →
      s.stripe.segments.find? (fun g => segmentDomain g.1 == d && g.2.evacuating && !g.2.byEvac && 0 < s.liveIn g.1) = none → s.queuedVictim d = some (g, rank) →
    ∃ t : State, exec (.gcVictimStart d) s = .next ((t.evacuate g rank).startJob 0x22 rank 1) ∧
      (t.sdom d).victims = (s.sdom d).victims.filter fun y => y.1 != g) ∧
  (∀ (s : State) (g : Nat) (x : Segment), s.runs = true → s.stripe.segments.get? g = some x → x.evacuating = true → x.state = .evacuating →
      s.owns (segmentDomain g) = true → s.footing.active = false → s.liveIn g = 0 → (s.rowsOf g).any (fun t => t.2.state == .open) = false →
      x.cells.any s.addrMissing = false →
    ∃ t : State, exec (.gcSegmentErase g) s = .next ((if x.byEvac then t.rebuildNext 0 else t).segmentErased g) ∧
      t = x.cells.foldl (fun t a => if t.addrMissing a then t.updBlock a fun b => { b with place := .out }
        else t.queueErase a (segmentDomain g) (t.rankOf 14)) (s.updSegment g fun x => { x with state := .erasing })) ∧
  (∀ (s : State) (m : Nat), s.runs = true → s.footing.active = false →
      s.stripe.segments.any (fun g => s.owns (segmentDomain g.1) && (g.2.state == .sealed || g.2.state == .open) &&
        (s.missingCells g.2).any fun c => bgModule (g.2.cells.getD c 0) == m && !g.2.missing.contains c) = true →
    ∃ (t : State) (n : Nat), exec (.rebuildStart m) s = .next (t.raise Ev.rebuildStart (le 2 m ++ le 4 n)) ∧ 0 < n ∧
      n = (s.stripe.segments.filter fun g => s.owns (segmentDomain g.1) && (g.2.state == .sealed || g.2.state == .open) &&
        (s.missingCells g.2).any fun c => bgModule (g.2.cells.getD c 0) == m && !g.2.missing.contains c).length) ∧
  (∀ (s : State) (g : Nat), s.runs = true → s.rebuildPick = some g → s.stripe.journals.any (fun j => j.2.repair.isSome) = false →
      s.footing.active = false → exec (.rebuildRow g) s = .next (s.rebuildStep g)) ∧
  (∀ (s : State) (g cell a : Nat), (s.segment g).byEvac = false → s.weakBefore g (s.segment g).rebuildRow = none →
      ((s.segment g).missing.filter fun c => !(s.segment g).replacement.has c) = [cell] → s.replacementFor g cell = some a →
    s.rebuildStep g = ((({ s with stripe.rebuild := { s.stripe.rebuild with current := some g } } : State).updBlock a fun b =>
      { b with place := .segment g }).updSegment g fun x => { x with replacement := x.replacement.set cell a, rebuildRow := 0 })) ∧
  (∀ s : State, s.stripe.segments.any (fun g => g.2.toRebuild) = false →
    exec .rebuildFloorWindowEnd s = .next { s with stripe.rebuild := { s.stripe.rebuild with
      progress := 0
      windows := (s.stripe.rebuild.progress :: s.stripe.rebuild.windows).take 100
      tokens := min (s.stripe.rebuild.floor * 10000) (s.stripe.rebuild.tokens + s.stripe.rebuild.floor * 10000)
      below := 0
      gate := none } }) ∧
  (∀ (s : State) (b : Rebuild), b = s.stripe.rebuild → s.stripe.segments.any (fun g => g.2.toRebuild) = true → b.progress = 0 → 0 < b.floor →
      0 < b.gateMax → b.gateMax ≤ 100 → b.below < 99 →
    exec .rebuildFloorWindowEnd s = .next { s with stripe.rebuild := { b with
      progress := 0
      windows := (0 :: b.windows).take 100
      tokens := min (b.floor * 10000) (b.tokens + b.floor * 10000)
      below := b.below + 1
      gate := some (s.tick + ticksOf (b.gateMax * 100000))
      gateUs := b.gateUs + b.gateMax * 100000 / 1000 } }) ∧
  (∀ (s : State) (g : Nat), s.runs = true → s.stripe.rebuild.gate = some g → g < s.tick →
    exec .floorGateOpen s = .next ({ s with stripe.rebuild := { s.stripe.rebuild with gate := none } } : State).resumeReads)

/-- STRIPE_CONFIG on the owner with gc_reserve below gc_start below gc_stop at most 8,192 and an active layout stores
the settings; REBUILD_CONFIG stores floor and gate. STRIPE_QUERY, SEGMENT_QUERY, REBUILD_STATUS, LOST_LIST and
JOURNAL_STATUS answer their records; LOST_CLEAR of a swept, unnamed stripe journals LOST_CLEAR; GC_CONTROL suspends,
resumes or queues a victim; MODULE_RETIRE starts or stops a retirement; STRIPE_COUNTERS answers the counters and the
live forwarding entries, and clears them when asked. (R267, R276, R281, R283, R285, R287) -/
def Obligations.StripePacketsAct : Prop :=
  (∀ (s : State) (op : PktOp) (p : Packet), s.takes op 0x0700 p → s.owns (p.f 0 1) = true → p.f 4 2 < p.f 6 2 → p.f 6 2 ≤ 8192 → p.f 8 2 < p.f 4 2 →
      (s.layout? (p.f 1 1)).isSome = true →
    exec (.stripeConfig op) s = .next ((s.updSdom (p.f 0 1) fun x =>
      { x with
        layoutId := p.f 1 1
        closeAge := p.f 2 2
        gcStart := p.f 4 2
        gcStop := p.f 6 2
        gcReserve := p.f 8 2
        journalWindow := p.f 0xA 2
        freeCeiling := p.f 0xC 4 }).replyOk p)) ∧
  (∀ (s : State) (op : PktOp) (p : Packet), s.takes op 0x0701 p →
    exec (.rebuildConfig op) s = .next (({ s with stripe.rebuild := { s.stripe.rebuild with floor := p.f 0 4, gateMax := p.f 4 2 } } : State).replyOk p)) ∧
  (∀ (s : State) (op : PktOp) (p : Packet), s.takes op 0x0702 p → s.owns (p.f 0 1) = true → s.stripe.stripes.has (p.f 0 1 * 2 ^ 32 + p.f 4 4) = true →
    exec (.stripeQuery op) s = .next (s.reply p St.ok 0 (s.stripeRecord (p.f 0 1 * 2 ^ 32 + p.f 4 4)))) ∧
  (∀ (s : State) (op : PktOp) (p : Packet), s.takes op 0x0703 p → s.owns (segmentDomain (p.f 0 4)) = true → s.stripe.segments.has (p.f 0 4) = true →
    exec (.segmentQuery op) s = .next (s.reply p St.ok 0 (s.segmentRecord (p.f 0 4)))) ∧
  (∀ (s : State) (op : PktOp) (p : Packet) (b : Rebuild), s.takes op 0x0704 p → b = s.stripe.rebuild → b.current = none →
    exec (.rebuildStatus op) s = .next (s.reply p St.ok 0 ((List.range 4).flatMap (fun m =>
        le 4 ((s.stripe.segments.filter fun g => g.2.toRebuild).filter fun g => g.2.parity - g.2.missing.length == m).length) ++
      le 8 b.done ++ le 8 b.cells ++ le 8 b.bytes ++ le 8 b.gateUs ++ le 8 b.lost ++ le 4 0 ++ le 2 0 ++ zeros 2))) ∧
  (∀ (s : State) (op : PktOp) (p : Packet) (b : Rebuild) (g : Nat), s.takes op 0x0704 p → b = s.stripe.rebuild → b.current = some g →
    exec (.rebuildStatus op) s = .next (s.reply p St.ok 0 ((List.range 4).flatMap (fun m =>
        le 4 ((s.stripe.segments.filter fun g => g.2.toRebuild).filter fun g => g.2.parity - g.2.missing.length == m).length) ++
      le 8 b.done ++ le 8 b.cells ++ le 8 b.bytes ++ le 8 b.gateUs ++ le 8 b.lost ++ le 4 g ++ le 2 (s.segment g).rebuildRow ++ zeros 2))) ∧
  (∀ (s : State) (op : PktOp) (p : Packet) (es : List (Nat × LostEntry)), s.takes op 0x0705 p → s.owns (p.f 0 1) = true →
      es = ((s.lostOf (p.f 0 1)).drop (p.f 4 4)).take (p.dataLen / 16) →
    exec (.lostList op) s = .next (s.reply p St.ok es.length
      (es.flatMap fun e => le 5 e.1 ++ le 1 e.2.cause ++ le 1 e.2.missing ++ le 1 (boolNat e.2.swept) ++ le 8 e.2.stamp))) ∧
  (∀ (s : State) (op : PktOp) (p : Packet) (e : LostEntry), s.takes op 0x0706 p → s.owns (p.f 0 1) = true →
      s.stripe.lost.get? (p.f 0 1 * 2 ^ 32 + p.f 4 4) = some e → e.swept = true → s.stripeNamed (p.f 0 1 * 2 ^ 32 + p.f 4 4) = false →
    exec (.lostClear op) s = .next ((s.journalWrite (p.f 0 1) (s.rankOf 13) (.lostClear (p.f 0 1 * 2 ^ 32 + p.f 4 4)) 0).replyOk p)) ∧
  (∀ (s : State) (op : PktOp) (p : Packet), s.takes op 0x0707 p → s.owns (p.f 0 1) = true → p.f 1 1 ≠ 2 →
    exec (.gcControl op) s = .next ((s.updSdom (p.f 0 1) fun y => { y with gcSuspended := p.f 1 1 == 1 }).replyOk p)) ∧
  (∀ (s : State) (op : PktOp) (p : Packet) (x : Segment), s.takes op 0x0707 p → s.owns (p.f 0 1) = true → p.f 1 1 = 2 →
      s.stripe.segments.get? (p.f 4 4) = some x → segmentDomain (p.f 4 4) = p.f 0 1 → x.state = .sealed →
    exec (.gcControl op) s = .next ((s.queueVictim (p.f 4 4) (s.rankOf 14)).replyOk p)) ∧
  (∀ (s : State) (op : PktOp) (p : Packet), s.takes op 0x0708 p → (s.module (p.f 0 2)).state ≠ .detached → p.f 2 1 = 1 →
    exec (.moduleRetire op) s = .next ((((s.updModule (p.f 0 2) fun x => { x with state := .retiring }).emptyPools (p.f 0 2)).checkRetired
      (p.f 0 2)).replyOk p)) ∧
  (∀ (s : State) (op : PktOp) (p : Packet), s.takes op 0x0708 p → (s.module (p.f 0 2)).state = .retiring → p.f 2 1 ≠ 1 →
    exec (.moduleRetire op) s = .next ((s.updModule (p.f 0 2) fun x => { x with state := .attached, retired := false }).replyOk p)) ∧
  (∀ (s : State) (op : PktOp) (p : Packet) (j : Journal), s.takes op 0x0709 p → s.owns (p.f 0 1) = true → j = s.journal (p.f 0 1) →
    exec (.journalStatus op) s = .next (s.reply p St.ok 0 (fit 6 (j.trio.flatMap (le 2)) ++ le 1 (boolNat j.degraded) ++ zeros 1 ++ le 8 j.seq ++
      le 8 j.checkpointSeq ++ le 8 j.checkpointLow ++ le 8 j.window ++ le 8 (windowBytes (s.sdom (p.f 0 1)))))) ∧
  (∀ (s : State) (op : PktOp) (p : Packet), s.takes op 0x070A p →
    exec (.stripeCounters op) s = .next ((if p.f 0 1 = 1 then { s with stripe.counters := List.replicate 12 0 } else s).reply p St.ok 0
      ((s.stripe.counters.take 11).flatMap (le 8) ++ le 8 s.stripe.forward.length)))

/-- A trained link says HELLO; in HELLO it sends its session and 64 credits; the answer of its session brings it UP.
UP it sends KEEPALIVE and CREDIT, takes both, and leaves UP with EV_PLINTH_LINK_DOWN on loss or silence. The first
READ of a die in rank and arrival order goes when the die can take it; a suspend is asked after the minimum run, a
resume after 1.5 s. A schedule frame starts in slot 0 of the newest switched epoch; a slot admits its candidates
within the token budget, none in a brown-out or after a trip. Reads of a module with all links down pass to
reconstruction; the scrub visits the next closed stripe. (R95, R290, R292, R294, R295, R300, R307, R311, R312, R313,
R321, R324) -/
def Obligations.PlinthLinkCommandsAct : Prop :=
  (∀ (s : State) (l : Nat), s.runs = true → (s.link l).state = .training → s.power.clocksLost.getD 3 false = false →
    exec (.plinthLinkTrained l) s = .next (s.updLink l fun k => { k with state := .hello })) ∧
  (∀ (s : State) (l : Nat), s.runs = true → (s.link l).state = .hello →
    exec (.helloInterval l) s = .next ((s.emit (.plinthHello l (s.link l).session s.head.headId 64)).updLink l fun k => k.count 0 1)) ∧
  (∀ (s : State) (l m credits session : Nat), s.runs = true → (s.link l).state = .hello → (s.link l).session = session →
      (s.mesh = true ∨ (s.link l).module = m ∨ (s.link l).module = 0xFFFF) → (s.linksOf m).contains l = true →
    exec (.plinthHelloAnswer l m credits session) s = .next (State.helloFrom l m (State.raiseFrom (linkIsland l) Ev.plinthLinkUp
      (le 1 l ++ le 2 m) (s.updLink l fun k => { k with
        state := .up
        module := m
        seq := 0
        limit := credits % 65536
        rxSeq := 0
        freed := 0
        lastRx := s.tick })))) ∧
  (∀ (s : State) (l m credits session : Nat), s.runs = true → (s.link l).state = .up → s.mesh = true → (s.link l).session = session →
      (s.linksOf m).contains l = true → (s.module m).sessions.get? l ≠ some session →
    exec (.plinthHelloAnswer l m credits session) s = .next (s.helloFrom l m)) ∧
  (∀ (s : State) (l m : Nat), ∃ t : State, s.helloFrom l m = State.flushLink l (if (t.module m).state = .detached
        then t.issue { id := 0, module := m, opcode := 1, use := .identify } else t) ∧
      t = (s.newSession m).updModule m fun x => { x with sessions := x.sessions.set l (s.link l).session }) ∧
  (∀ (s : State) (l cause : Nat), s.runs = true → (s.link l).state = .up → (cause = 1 ∨ cause = 2) → exec (.plinthLinkLoss l cause) s = .next (s.linkLost l cause)) ∧
  (∀ (s : State) (l : Nat), s.runs = true → (s.link l).state = .up → (s.link l).lastRx + 1024 < s.tick → exec (.plinthSilenceExpiry l) s = .next (s.linkLost l 3)) ∧
  (∀ (s : State) (l cause : Nat), s.mesh = false → s.linkLost l cause = State.raiseFrom (linkIsland l) Ev.plinthLinkDown (le 1 l ++ le 1 cause)
    { s.updLink l (fun k => { k with state := .training, session := s.now, downSince := s.tick }) with now := s.now + 1 }) ∧
  (∀ (s : State) (l : Nat), s.runs = true → (s.link l).state = .up →
    exec (.keepaliveInterval l) s = .next ((s.emit (.plinthKeepalive l (s.link l).seq)).updLink l fun k => k.count 0 1)) ∧
  (∀ (s : State) (l : Nat), s.runs = true → (s.link l).state = .up →
    exec (.creditInterval l) s = .next ((s.emit (.plinthCredit l (((s.link l).rxSeq + 64) % 65536))).updLink l fun k => { k.count 0 1 with freed := 0 })) ∧
  (∀ (s : State) (l v : Nat), s.runs = true → (s.link l).state = .up →
    exec (.plinthCreditReceive l false v) s = .next (((s.heard l 0).updLink l fun k => { k with limit := v % 65536 }).flushLink l)) ∧
  (∀ (s : State) (l v : Nat), s.runs = true → (s.link l).state = .up →
    exec (.plinthCreditReceive l true v) s = .next (s.heard l ((v % 65536 + 65536 - (s.link l).rxSeq) % 65536))) ∧
  (∀ (s : State) (l tj load : Nat), s.runs = true → (s.link l).state ≠ .disabled → (s.link l).envelope ≠ some (tj, load) →
    exec (.plinthEnvelopeCrossing l tj load) s = .next (State.raiseFrom (linkIsland l) Ev.plinthEnvelope (le 1 l ++ le 1 ((s.link l).envelope.getD (0, 0)).1 ++
        le 1 ((s.link l).envelope.getD (0, 0)).2 ++ le 1 tj ++ le 1 load)
      ((s.updLink l fun k => { k with envelope := some (tj, load) }).logRecord 18 (48 + l) (le 1 tj ++ le 1 load)))) ∧
  (∀ (s : State) (m d : Nat) (r : ReadReq), s.runs = true → s.hasRoom m d 2 = true → (s.die m d).op = none →
      ((s.flash.reads.filter fun r => r.module == m && r.die == d).foldr insertRead []).find? s.guardAdmits = some r → s.eraseRuns r.addr = false →
    ∃ t : State, exec (.readIssue m d) s = .next (t.maybeResume m d) ∧
      t = State.issue { id := 0, module := m, opcode := 2, die := d, addr := r.addr, page := r.page, rank := r.rank,
                         use := .read r.job r.cell, reads := r.words, mode := r.mode, entry := s.levelEntry r,
                         probe := (s.offsetsFor r).2, offsets := (s.offsetsFor r).1 }
        (if (s.offsetsFor r).2.isSome then State.countProbe m d (s.levelEntry r) { s with flash.reads := s.flash.reads.filter fun q => q != r }
         else { s with flash.reads := s.flash.reads.filter fun q => q != r })) ∧
  (∀ (s : State) (m d : Nat) (o : DieOp), s.runs = true → (s.die m d).op = some o →
      s.urgentRead m d = true → (s.flash.cmds ++ s.flash.held).any (fun c => c.opcode == 5 && c.module == m && c.die == d) = false →
      (∀ c, s.cmd? m o.cmd = some c → c.deadline.isSome = true) → o.suspendedAt = none →
      o.suspends < (s.opConfig m d).maxSuspends → o.since + ticksOf ((s.opConfig m d).minRunUs * 1000) < s.tick →
    exec (.suspendTrigger m d) s = .next (State.flashCount 8 ((s.updDie m d fun x => { x with op := x.op.map fun o => { o with suspends := o.suspends + 1 } }).issue
      { id := 0, module := m, opcode := 5, die := d, use := .suspend }))) ∧
  (∀ (s : State) (m d t : Nat) (o : DieOp), s.runs = true → (s.die m d).op = some o → o.suspendedAt = some t → t + ticksOf 1500000000 < s.tick →
    exec (.suspendAgeExpiry m d) s = .next (s.queueResume m d)) ∧
  (∀ (s : State) (m : Nat), s.runs = true → s.anyLinkUp m = false → (∀ l ∈ s.linksOf m, (s.link l).downSince + ticksOf 2000000 < s.tick) →
      (s.flash.reads.any (fun r => r.module == m) || (s.flash.cmds ++ s.flash.held).any (fun c => c.module == m && c.opcode == 2)) = true →
    exec (.linksDownReadExpiry m) s = .next (State.sendHeld m (((s.flash.cmds ++ s.flash.held).filter fun c => c.module == m && c.opcode == 2).foldl (fun s c => s.failPl c)
      ((s.flash.reads.filter fun r => r.module == m).foldl (fun s r => s.wordsBad r.job r.cell r.words false)
        { s with
          flash.reads := s.flash.reads.filter fun r => r.module != m,
          flash.cmds := s.flash.cmds.filter fun c => !(c.module == m && c.opcode == 2),
          flash.held := s.flash.held.filter fun c => !(c.module == m && c.opcode == 2) })))) ∧
  (∀ s : State, exec .scheduleFrameStart s = .next { s with
    flash.slot := 0, flash.frameEpoch := if s.templates.switchStamp ≤ s.now then s.templates.epoch else s.flash.frameEpoch }) ∧
  (∀ (s : State) (m slot : Nat), s.power.brownout = false → s.power.tripped = false →
    exec (.slotStart m slot) s = .next (State.admitStarts m (bodyOf s.flashBank kindTokens) (budgetOf (bodyOf s.flashBank kindTokens) m)
      (sortStarts (s.flash.starts.filter fun x => x.module == m && s.startAllowed x &&
        (x.deferred || x.opcode == 6 || x.opcode == 12 || (mayStart (bodyOf s.flashBank kindSchedule) m x.die slot && s.startable x))))
      { s with flash.slot := slot })) ∧
  (∀ (s : State) (m slot : Nat), (s.power.brownout || s.power.tripped) = true → exec (.slotStart m slot) s = .next { s with flash.slot := slot }) ∧
  (∀ (s : State) (n : Nat) (t : Stripe), s.runs = true → s.flash.config.scrubDays ≠ 0 →
      s.stripe.stripes.find? (fun t => decide (s.flash.scrubNext ≤ t.1) && t.2.state == .closed && s.owns (stripeDomainOf t.1)) = some (n, t) →
    ∃ u : State, exec .flashScrubVisit s = .next (((u.startWords (.scrub n 3) (s.rankOf 17) n (allWords (s.segment t.segment))).settle u.flash.nextJob).startJob
        0x23 (s.rankOf 17) 1) ∧
      u = { s with
        flash.scrubNext := n + 1,
        flash.scrub := (s.flash.scrub.1 + (allWords (s.segment t.segment)).length, s.flash.scrub.2.1, s.flash.scrub.2.2) }) ∧
  (∀ s : State, s.runs = true → s.flash.config.scrubDays ≠ 0 →
      s.stripe.stripes.find? (fun t => decide (s.flash.scrubNext ≤ t.1) && t.2.state == .closed && s.owns (stripeDomainOf t.1)) = none →
    exec .flashScrubVisit s = .next (State.raise Ev.scrubPassDone (le 8 s.flash.scrub.1 ++ le 4 s.flash.scrub.2.1 ++ le 4 s.flash.scrub.2.2)
      { s with flash.scrubNext := 0, flash.scrub := (0, 0, 0) }))

/-- A codeword in order is decoded. A complete READ is committed; a strip programmed leaves its stripe's programs; an
erased block group returns; a journal copy is acknowledged; a claim presented is noted; a block command's record
follows; a SUSPEND marks its die and stops its deadline, a RESUME arms it again; IDENTIFY stores the record and starts
the scan, and a scan stores records. A response past its deadline is sent again. A scanned module presents the claims,
attaches with EV_MODULE_ATTACHED, and detaches when its links stay down. (R299, R303, R304, R305, R306, R313, R315,
R317, R322, R323, R324, R465) -/
def Obligations.PlinthResponsesAct : Prop :=
  (∀ (s : State) (l m id a i j cell : Nat) (b : List Byte) (c : PlCmd), s.cmd? m id = some c → c.use = .read j cell → c.opcode = 2 → a = c.attempt →
      b.length = 4608 → i = c.got → i < c.reads.length →
    exec (.plinthReadData l m id a i b) s = .next (((s.heard l 1).decodeWord c j cell (c.reads.getD i 0) b).updCmd m id fun c => { c with got := c.got + 1 })) ∧
  (∀ (s : State) (r : PlResponse) (c : PlCmd) (j cell : Nat), s.takesAnswer r [2] c → c.use = .read j cell → r.status = 0 → r.dataFrames = c.got →
      c.bad = false → c.got = c.reads.length → c.probe = none → r.readCount < c.config.readLimit →
    exec (.plinthReadResponse r) s = .next (State.sendHeld r.module ((((s.answered r c).updBlock c.addr fun b =>
      { b with readCount := r.readCount, eraseCount := r.eraseCount }).commitRead c j cell).maybeResume c.module c.die))) ∧
  (∀ (s : State) (r : PlResponse) (c : PlCmd) (n cell : Nat), s.takesAnswer r [3] c → c.use = .program n cell → r.status = 0 →
    exec (.plinthProgramResponse r) s = .next (State.sendHeld r.module (((((s.answered r c).endOp c.module c.die c.id).noteBlock c.addr r).updBlock c.addr fun b =>
      { b with lastPage := c.page }).updStripe n fun t => { t with programs := t.programs.filter (· != cell) }))) ∧
  (∀ (s : State) (r : PlResponse) (c : PlCmd) (a : Nat), s.takesAnswer r [4] c → c.use = .erase a → r.status = 0 →
    exec (.plinthEraseResponse r) s = .next (State.sendHeld r.module ((((s.answered r c).endOp c.module c.die c.id).erased c.addr).updBlock c.addr fun b =>
      { b with eraseCount := r.eraseCount }))) ∧
  (∀ (s : State) (r : PlResponse) (c : PlCmd) (d q : Nat), s.takesAnswer r [12, 14] c → c.use = .journal d q → r.status = 0 →
    ∃ ack : (JFrame → JFrame), (∀ f, f.seq ≠ q → ack f = f) ∧ (∀ f, f.seq = q → c.module ∈ (ack f).acks) ∧
      exec (.plinthJournalAppendResponse r) s = .next (State.sendHeld r.module ((s.answered r c).updJournal d fun j => { j with flight := j.flight.map ack, kept := j.kept.map ack }))) ∧
  (∀ (s : State) (r : PlResponse) (c : PlCmd) (d : Nat), s.takesAnswer r [7] c → c.use = .claim d →
    exec (.plinthClaimPresentResponse r) s = .next (State.sendHeld r.module ((s.answered r c).claimAnswer d c.module (decide (r.status = 0)) r.detail))) ∧
  (∀ (s : State) (r : PlResponse) (c : PlCmd) (d : Nat), s.takesAnswer r [7] c → c.use = .present d → r.status = 0 →
    exec (.plinthClaimPresentResponse r) s = .next (State.sendHeld r.module ((s.answered r c).updModule c.module fun x =>
      { x with claimed := if x.claimed.contains d then x.claimed else x.claimed ++ [d] }))) ∧
  (∀ (s : State) (r : PlResponse) (c : PlCmd) (a d : Nat), s.takesAnswer r [8, 9, 10] c → c.use = .blockClaim a d → r.status = 0 →
    exec (.plinthBlockCommandResponse r) s = .next (State.sendHeld r.module ((s.answered r c).updBlock a fun b =>
      { b with state := 1, domain := d, place := if (s.answered r c).writesFor d then .free d else .out }))) ∧
  (∀ (s : State) (r : PlResponse) (c : PlCmd), s.takesAnswer r [5, 6] c → c.opcode = 5 → r.status = 0 →
    exec (.plinthSuspendResponse r) s = .next (State.sendHeld r.module (((((s.answered r c).updDie c.module c.die fun x =>
        { x with op := x.op.map fun o => { o with suspendedAt := some (s.answered r c).tick } }).updCmd c.module
          ((((s.answered r c).die c.module c.die).op.map DieOp.cmd).getD 0) fun c => { c with deadline := none })).maybeResume c.module c.die))) ∧
  (∀ (s : State) (r : PlResponse) (c : PlCmd), s.takesAnswer r [5, 6] c → c.opcode = 6 → r.status = 0 →
    exec (.plinthSuspendResponse r) s = .next (State.sendHeld r.module (State.flashCount 9 (((s.answered r c).updDie c.module c.die fun x =>
        { x with op := x.op.map fun o => { o with suspendedAt := none, resumeQueued := false, since := (s.answered r c).tick } }).updCmd c.module
          ((((s.answered r c).die c.module c.die).op.map DieOp.cmd).getD 0) fun c => { c with deadline := some ((s.answered r c).tick + plTime c.opcode) })))) ∧
  (∀ (s : State) (r : PlResponse) (c : PlCmd) (data : List (List Byte)), s.takesAnswer r [1, 11, 13, 15] c → c.use = .scan → r.status = 0 →
      r.dataFrames = data.length →
    exec (.plinthInfoResponse r data) s = .next (State.sendHeld r.module ((((List.range c.count).map fun i => slice data.flatten (16 * i) 16).zipIdx).foldl
      (fun s e => s.updBlock (c.addr + e.2 * 2 ^ 18) fun b => noteRecord b e.1) (s.answered r c)))) ∧
  (∀ (s : State) (r : PlResponse) (c : PlCmd) (data : List (List Byte)), s.takesAnswer r [1, 11, 13, 15] c → c.use = .identify → r.status = 0 →
      r.dataFrames = data.length → (s.answered r c).moduleFits r.link c.module (fit 128 data.flatten) = true →
    exec (.plinthInfoResponse r data) s = .next (State.sendHeld r.module (((s.answered r c).identified c.module (fit 128 data.flatten)).scanModule
      c.module))) ∧
  (∀ (s : State) (m id : Nat) (c : PlCmd) (d : Nat), s.runs = true → s.cmd? m id = some c → c.deadline = some d → d < s.tick →
    exec (.plinthResponseExpiry m id) s = .next (s.retry c)) ∧
  (∀ (s : State) (m : Nat), s.runs = true → (s.module m).identified = true → (s.module m).scanned = false → (s.module m).state = .detached →
      s.scanOpen m = false →
    exec (.restartScan (.module m)) s = .next (State.startJob 0x10 (s.rankOf 13) (s.ownBlocks m).length
      (((((s.ownBlocks m).foldl (fun s a => s.scanBlock a true) s).updModule m fun x => { x with scanned := true })).presentClaims m))) ∧
  (∀ (s : State) (d : Nat), s.runs = true → (s.domain d).state = .acquiring → (s.domain d).scanning = true → s.attachedModules.any s.scanOpen = false →
    exec (.restartScan (.domain d)) s = .next (((s.domainBlocks d).foldl (fun s a => s.scanBlock a false) s).updDomain d fun x =>
      { x with scanning := false, replaying := true })) ∧
  (∀ (s : State) (m : Nat) (x : FModule), s.runs = true → x = s.module m → x.state = .detached → x.identified = true → x.scanned = true →
      s.anyLinkUp m = true →
      ((s.domains.filter fun d => d.2.state != .none && decide (0 < d.2.claim)).map Prod.fst).all (fun d => x.claimed.contains d) = true →
    exec (.moduleAttach m) s = .next ((((s.updModule m fun x => { x with state := .attached, ever := true }).raiseFrom (flashIsland m)
      Ev.moduleAttached (le 2 m ++ le 2 ((List.range 256).filter x.diePresent).length ++ slice x.record 0 16)).rejoinModule m).recomputeDrain)) ∧
  (∀ (s : State) (m cause : Nat), s.runs = true → (s.module m).state ≠ .detached → ((cause = 2 ∧ 8 ≤ (s.module m).exhausted) ∨ (cause = 1 ∧
      s.anyLinkUp m = false ∧ ∀ l ∈ s.linksOf m, (s.link l).downSince + ticksOf (s.flash.config.detachMs * 1000000) < s.tick)) →
    exec (.moduleDetach m cause) s = .next (s.detach m cause))

/-- FLASH_CONFIG stores its seven values. LINK_CONFIG stores enable, plane and inversion: a disabled link that is
enabled trains, an UP link that is disabled raises EV_PLINTH_LINK_DOWN with cause 4; a change of plane or inversion of
a link that is not disabled answers ST_LINK_STATE. LINK_STATUS answers state, envelope, module, session and counters
and clears them on demand. MODULE_QUERY answers the module record, state and failed dies; BLOCK_QUERY reads the
records from the bridge with BLOCK_STATE_READ before it replies; READ_LEVEL_QUERY answers the 16 entries of a die,
SCHEDULE_STATUS the counts of a module; each answers ST_MODULE_UNKNOWN for a module never attached and the two that
name a die ST_DIE_UNKNOWN for one not present. FLASH_COUNTERS answers 20 counters and clears them on demand. (R292,
R298, R306, R310, R319, R325, R326) -/
def Obligations.FlashPacketsAct : Prop :=
  (∀ (s : State) (op : PktOp) (p : Packet), s.takes op 0x0800 p →
    exec (.flashConfig op) s = .next (({ s with flash.config :=
      { ewThreshold := p.f 0 2
        scrubDays := p.f 2 2
        readLimit := p.f 4 4
        suspendRank := p.f 8 1
        maxSuspends := p.f 9 1
        minRunUs := p.f 0xA 2
        detachMs := p.f 0xC 2 } }).replyOk p)) ∧
  (∀ (s : State) (op : PktOp) (p : Packet) (l : Nat), s.takes op 0x0801 p → l = p.f 0 1 → (s.mesh = true ∨ p.f 2 1 = 0) → (s.link l).state = .disabled →
      p.f 1 1 = 1 →
    exec (.linkConfig op) s = .next ((((s.updLink l fun k => { k with enable := true, plane := p.f 2 1, invert := p.f 3 1 }).logRecord 8 l
      (le 1 1 ++ le 1 (p.f 2 1) ++ le 1 (p.f 3 1))).train l).replyOk p)) ∧
  (∀ (s : State) (op : PktOp) (p : Packet) (l : Nat), s.takes op 0x0801 p → l = p.f 0 1 → (s.mesh = true ∨ p.f 2 1 = 0) → (s.link l).state = .up →
      (s.link l).plane = p.f 2 1 → (s.link l).invert = p.f 3 1 → p.f 1 1 = 0 →
    ∃ t : State, exec (.linkConfig op) s = .next ((t.updLink l fun k => { k with state := .disabled }).replyOk p) ∧
      ∃ u : State, t = State.raiseFrom (linkIsland l) Ev.plinthLinkDown (le 1 l ++ le 1 4) (u.updLink l fun k => { k with downSince := u.tick }) ∧
        u = (s.updLink l fun k => { k with enable := false, plane := p.f 2 1, invert := p.f 3 1 }).logRecord 8 l
          (le 1 0 ++ le 1 (p.f 2 1) ++ le 1 (p.f 3 1))) ∧
  (∀ (s : State) (op : PktOp) (p : Packet), s.takes op 0x0801 p → (s.mesh = true ∨ p.f 2 1 = 0) → (s.link (p.f 0 1)).state ≠ .disabled →
      ((s.link (p.f 0 1)).plane ≠ p.f 2 1 ∨ (s.link (p.f 0 1)).invert ≠ p.f 3 1) →
    exec (.linkConfig op) s = .next (s.fail p St.linkState)) ∧
  (∀ (s : State) (op : PktOp) (p : Packet) (k : Link), s.takes op 0x0802 p → k = s.link (p.f 0 1) →
    exec (.linkStatus op) s = .next ((if p.f 1 1 = 1 then s.updLink (p.f 0 1) fun k => { k with counters := List.replicate 6 0 } else s).reply p St.ok 0
      (le 1 k.state.code ++ le 1 ((k.envelope.map fun e => e.1 * 16 + e.2).getD 0) ++ le 2 k.module ++ zeros 4 ++ le 8 k.session ++
        k.counters.flatMap (le 8)))) ∧
  (∀ (s : State) (op : PktOp) (p : Packet) (x : FModule), s.takes op 0x0803 p → x = s.module (p.f 0 2) → x.ever = true →
    exec (.moduleQuery op) s = .next (s.reply p St.ok 168 (fit 128 x.record ++ le 1 x.state.code ++ zeros 7 ++ le 32 (failedDies x)))) ∧
  (∀ (s : State) (op : PktOp) (p : Packet), s.takes op 0x0803 p → (s.module (p.f 0 2)).ever = false →
    exec (.moduleQuery op) s = .next (s.fail p St.moduleUnknown)) ∧
  (∀ (s : State) (op : PktOp) (p : Packet), s.takes op 0x0804 p → (s.module (p.f 0 2)).ever = true → (s.module (p.f 0 2)).diePresent (p.f 2 1) = true →
    exec (.blockQuery op) s = .next ((s.await p).issue { id := 0, module := p.f 0 2, opcode := 11, die := p.f 2 1,
                                                         addr := bgAddr (p.f 0 2) (p.f 2 1) (p.f 4 2), count := p.f 6 2, use := .query p.acc })) ∧
  (∀ (s : State) (op : PktOp) (p : Packet), s.takes op 0x0804 p → (s.module (p.f 0 2)).ever = true → (s.module (p.f 0 2)).diePresent (p.f 2 1) = false →
    exec (.blockQuery op) s = .next (s.fail p St.dieUnknown)) ∧
  (∀ (s : State) (op : PktOp) (p : Packet) (entry : ReadLevel → List Byte), s.takes op 0x0805 p → (s.module (p.f 0 2)).ever = true →
      (s.module (p.f 0 2)).diePresent (p.f 2 1) = true →
      (∀ e, entry e = le 1 (boolNat e.valid) ++ le 1 e.band ++ fit 15 (e.offsets.flatMap signedByte) ++ [0]) →
    exec (.readLevelQuery op) s = .next (s.reply p St.ok 0 ((((s.module (p.f 0 2)).die (p.f 2 1)).levels).flatMap entry))) ∧
  (∀ (s : State) (op : PktOp) (p : Packet) (x : FModule), s.takes op 0x0806 p → x = s.module (p.f 0 2) → x.ever = true →
    exec (.scheduleStatus op) s = .next (s.reply p St.ok 0 (le 1 (budgetOf (bodyOf s.flashBank kindTokens) (p.f 0 2)) ++ zeros 7 ++ le 8 x.admitted ++
      le 4 ((s.flash.starts.filter fun y => y.module == p.f 0 2 && y.deferred).length) ++ le 4 x.longest ++ le 8 x.refusals))) ∧
  (∀ (s : State) (op : PktOp) (p : Packet), s.takes op 0x0807 p →
    exec (.flashCounters op) s = .next ((if p.f 0 1 = 1 then { s with flash.counters := List.replicate 20 0 } else s).reply p St.ok 0
      (fit 192 (s.flash.counters.flatMap (le 8)))))

/-- The first HEAD_CONFIG stores its values with their defaults, a second answers ST_HEAD_CONFIGURED; a packet that
needs it answers ST_HEAD_NOT_CONFIGURED before. PEER_TABLE replaces the table. The lower head connects a listed head
over the plane of both numbers, once its port is up and the time has come. RING_JOIN opens the bypass when nothing
else holds it closed, sends JOIN, raises EV_RING_JOINED, asks for resynchronisation and binds a mirror peer, and
answers ST_RING_STATE in the ring or after footing mode has left it; RING_LEAVE leaves, refused while the head owns a
domain. DOMAIN_ASSIGN acquires: reply, Change, CLAIM_INTENT, the first claim; it releases: reply, Change, the domain
closed, and on later runs its records closed, a checkpoint, RELEASE. DOMAIN_QUERY and HEAD_STATUS answer their
layouts. FAILOVER_FORCE declares the named head failed. (R125, R328, R329, R339, R340, R344, R346, R347, R355, R364,
R365) -/
def Obligations.HeadPacketsAct : Prop :=
  (∀ (s : State) (op : PktOp) (p : Packet), s.takes op 0x0900 p → s.head.configuration = 0 →
    exec (.headConfig op) s = .next (({ s with head := { s.head with
      configuration := p.f 0 1
      headId := p.f 2 2
      hbInterval := if p.f 4 2 = 0 then 1024 else p.f 4 2
      hbMisses := if p.f 6 1 = 0 then 8 else p.f 6 1
      mirrorRetries := if p.f 7 1 = 0 then 3 else p.f 7 1
      ackTicks := if p.f 8 4 = 0 then 15625 else p.f 8 4
      takeoverDelay := if p.f 12 4 = 0xFFFFFFFF then 4 else p.f 12 4 } }).replyOk p)) ∧
  (∀ (s : State) (op : PktOp) (p : Packet), s.takes op 0x0900 p → s.head.configuration ≠ 0 →
    exec (.headConfig op) s = .next (s.fail p St.headConfigured)) ∧
  (∀ (s : State) (op : PktOp) (p : Packet), s.takes op 0x0902 p → s.head.configuration = 0 →
    exec (.ringJoin op) s = .next (s.fail p St.headNotConfigured)) ∧
  (∀ (s : State) (op : PktOp) (p : Packet) (es : List (List Byte)) (ids : List Nat), s.takes op 0x0901 p →
      es = (List.range (p.f 0 1)).map (fun i => slice (p.buffer op) (48 * i) 48) → ids = es.map (fun e => fieldAt e 0 2) →
      (s.head.configuration = 1 → p.f 0 1 = 1) → ids.any (fun h => h = 0 || 16 < h) = false → ids.eraseDups.length = p.f 0 1 →
      ids.contains s.head.headId = false →
      s.head.peers.any (fun x => !ids.contains x.1 && [0, 1, 2, 3].any fun l => (s.peerConn x.1 l).isSome) = false →
    exec (.peerTable op) s = .next (({ s with head.peers := es.foldl (fun (t : Tab Peer) e => t.set (fieldAt e 0 2)
      { s.peer (fieldAt e 0 2) with ip4 := [slice e 4 4, slice e 8 4], ip6 := [slice e 16 16, slice e 32 16] }) [] }).replyOk p)) ∧
  (∀ (s : State) (h lane n : Nat) (x : Peer), s.runs = true → x = s.peer h → n = (s.head.headId + h) % 2 → s.head.configuration ≠ 0 →
      s.head.peers.has h = true → s.head.headId < h → lane < 4 → (s.lport (32 + n)).up = true →
      s.net.conns.any (fun c => c.2.use == .peer h lane && (c.2.state == .ready || c.2.state == .connecting)) = false → x.retryAt ≤ s.tick →
      (lane = 0 ∨ s.bindingWith h = true) → (s.footing.active = true → s.footing.readService = true) →
    exec (.peerConnectRetry h lane) s = .next (s.activeConnect (.peer h lane) (32 + n) (some (33 - n))
      (if (x.ip4.getD n []).all (· == 0) then x.ip6.getD n [] else x.ip4.getD n []) (lanePcp lane)
      (fieldAt (s.subRecord (32 + n)) 0x22 1 % 64) (le 1 lane))) ∧
  (∀ (s : State) (op : PktOp) (p : Packet), s.takes op 0x0902 p → s.head.configuration ≠ 0 → s.draining = false → s.head.joined = false → s.footing.left = false →
    ∃ t u : State, exec (.ringJoin op) s = .next (State.replyOk p (State.tryBind (State.askResync (State.raise Ev.ringJoined (le 2 t.head.headId) t)))) ∧
      t = State.ringSend 2 (le 1 u.head.configuration) { u with
        head.joined := true
        head.ringSeq := 0
        head.beatAt := s.tick + s.head.hbInterval
        head.peers := u.head.peers.mapVals fun x => { x with asked := false } } ∧
      u = if s.mayOpenBypass then s.setBypass false else s) ∧
  (∀ (s : State) (op : PktOp) (p : Packet), s.takes op 0x0902 p → s.head.configuration ≠ 0 → s.draining = false → s.head.joined = true ∨ s.footing.left = true →
    exec (.ringJoin op) s = .next (s.fail p St.ringState)) ∧
  (∀ (s : State) (op : PktOp) (p : Packet), s.takes op 0x0903 p → s.head.configuration ≠ 0 → s.head.joined = true → s.ownedDomains = [] →
    exec (.ringLeave op) s = .next (s.leaveRing.replyOk p)) ∧
  (∀ (s : State) (op : PktOp) (p : Packet), s.takes op 0x0903 p → s.head.configuration ≠ 0 → s.head.joined = true → s.ownedDomains ≠ [] →
    exec (.ringLeave op) s = .next (s.fail p St.domainState)) ∧
  (∀ (s : State) (op : PktOp) (p : Packet) (d : Nat), s.takes op 0x0904 p → s.head.configuration ≠ 0 → d = p.f 0 1 → p.f 1 1 = 1 →
      (s.footing.active = true → s.footing.readService = true) → (s.domain d).state = .none →
      (s.activeHeads.contains (s.domain d).owner = true → (s.domain d).released = true) → s.activeHeads.contains (s.domain d).intent = false →
    exec (.domainAcquire op) s = .next ((s.replyOk p).acquire d none)) ∧
  (∀ (s : State) (d : Nat) (h : Option Nat), ∃ t : State, s.acquire d h =
      State.tryClaim d (State.ringSend 4 (le 1 d ++ zeros 7 ++ le 8 ((t.domain d).epoch + 1)) t) ∧
    t = State.setAna d 15 (s.updDomain d fun x => { x with
      state := .acquiring
      tries := 0
      takeover := h
      journalDone := false
      mirrorDone := false
      mirrorLeft := 0
      highWsn := 0
      scanning := false
      replaying := false })) ∧
  (∀ (s : State) (op : PktOp) (p : Packet) (d : Nat), s.takes op 0x0904 p → s.head.configuration ≠ 0 → d = p.f 0 1 → p.f 1 1 = 2 →
      s.domains.find? (fun x => x.2.releaseAcc == some op.acc) = none → (s.domain d).state = .owned →
    exec (.domainRelease op) s = .next (State.replyOk p (State.closeDomain d (s.rankOf 11)
      (((s.updDomain d fun x => { x with state := .releasing, releaseAcc := some p.acc, checkpointing := false }).setAna d 15).endFlushes d)))) ∧
  (∀ (s : State) (op : PktOp) (d : Nat) (x : Domain), s.domains.find? (fun x => x.2.releaseAcc == some op.acc) = some (d, x) → x.state = .releasing →
      s.domainBusy d = false →
    exec (.domainRelease op) s = if s.domainStaged d then .next (s.closeDomain d (s.rankOf 11))
      else if x.checkpointing = false then .next ((s.updDomain d fun x => { x with checkpointing := true }).updSdom d fun y => { y with checkpointWanted := true })
      else .next (if s.runs && !(s.sdom d).checkpointWanted then s.finishRelease d else s)) ∧
  (∀ (s : State) (op : PktOp) (p : Packet) (x : Domain), s.takes op 0x0905 p → s.head.configuration ≠ 0 → x = s.domain (p.f 0 1) →
    exec (.domainQuery op) s = .next (s.reply p St.ok 32 (le 1 (p.f 0 1) ++ le 1 x.state.code ++ le 2 x.owner ++ zeros 4 ++ le 8 x.claim ++
      le 8 (max x.highWsn (s.wp.applied.getD (p.f 0 1) 0)) ++ le 8 (s.replayLeft (p.f 0 1))))) ∧
  (∀ (s : State) (op : PktOp) (p : Packet) (entry : Nat × Peer → List Byte), s.takes op 0x0906 p →
      (∀ x, entry x = le 2 x.1 ++ le 1 x.2.state ++ le 1 (x.2.misses.getD 0 0) ++ le 1 (x.2.misses.getD 1 0) ++ zeros 3 ++ le 8 x.2.lastBeat) →
    exec (.headStatus op) s = .next (s.reply p St.ok 288 (fit 288 (le 1 (boolNat s.head.joined) ++ le 1 s.head.lostDir ++ le 2 s.mirror.peer ++
      le 1 (if s.mirror.state = .none then 0 else if s.mirror.state = .resilvering then 1 else 2) ++
      le 1 (s.mirror.areas.filter fun a => a.bound.isSome).length ++ zeros 26 ++ s.head.peers.flatMap entry)))) ∧
  (∀ (s : State) (op : PktOp) (p : Packet), s.takes op 0x0907 p → s.head.configuration ≠ 0 → p.f 0 2 ≠ s.head.headId → s.head.peers.has (p.f 0 2) = true →
    exec (.failoverForce op) s = .next ((s.declareFailed (p.f 0 2) 3).replyOk p))

/-- HEARTBEAT_INTERVAL sends one HEARTBEAT in each direction. The first copy of a frame from a listed head is
forwarded while it has ttl and acted on. A HEARTBEAT of an active head stores its bitmap, WSN and mirror peer and
clears its misses in its direction; a later copy only counts in its direction. A wait that expires counts a miss. JOIN
makes a head active with EV_HEAD_JOINED; LEAVE of a head that named no domain makes it one that has left, of another a
failed one. CLAIM_INTENT, CLAIM_DONE and RELEASE store what they say of the domain; CLAIM_DONE takes a domain this
head owns. FAILED declares its head failed. (R338, R340, R341, R343, R344, R345, R346, R348) -/
def Obligations.RingFramesAct : Prop :=
  (∀ s : State, s.runs = true → s.head.joined = true → s.head.beatAt ≤ s.tick →
    ∃ b : List Byte, exec .heartbeatInterval s = .next (State.emitAll [.ring 0 1 s.head.headId 16 (s.head.ringSeq + 1) b,
        .ring 1 1 s.head.headId 16 (s.head.ringSeq + 2) b]
      { s with head.ringSeq := s.head.ringSeq + 2, head.beats := (s.head.beats + 1) % 2 ^ 32, head.beatAt := s.head.beatAt + s.head.hbInterval }) ∧
      b = fit 48 (le 1 (if s.power.drain != .none || s.power.pdown != .none then 2 else 1) ++ zeros 1 ++
        le 2 (if s.mirror.state = .live then s.mirror.peer else 0) ++ le 4 ((s.head.beats + 1) % 2 ^ 32) ++ le 32 (domainBits s.ownedDomains) ++
        le 8 s.wp.wsn)) ∧
  (∀ (s : State) (f : RingFrame) (h : Nat), s.takesRing 1 f → h = f.origin → (s.peer h).state = 1 →
      (∀ u : State, u = s.ringTaken f → (u.peer h).state = 1 ∧ u.expired ((u.peer h).deadline.getD f.direction 0) = false) →
    ∃ t : State, exec (.heartbeat f) s = .next (if t.mesh || t.mirror.retryAt = 0 then t.tryBind else t) ∧
      t = State.askResync (State.noteOwners h (fieldAt f.body 8 32) (State.beatCounts h f.direction ((s.ringTaken f).updPeer h fun _ => { (s.ringTaken f).peer h with
        state := 1
        owned := fieldAt f.body 8 32
        highWsn := fieldAt f.body 40 8
        seenWsn := max ((s.ringTaken f).peer h).seenWsn (fieldAt f.body 40 8)
        mirrorPeer := fieldAt f.body 2 2
        claimed := [] })))) ∧
  (∀ (s : State) (f : RingFrame), s.head.joined = true → f.typ = 1 → f.direction < 2 → f.crcOk = true → f.origin ≠ s.head.headId →
      s.head.peers.has f.origin = true → (s.peer f.origin).seqs.contains f.seq = true →
    ∃ t : State, exec (.heartbeat f) s = .next ((t.missedBeats f.origin f.direction 256).beatCounts f.origin f.direction) ∧
      t = if 2 ≤ f.ttl then s.emit (.ring f.direction 1 f.origin (f.ttl - 1) f.seq f.body) else s) ∧
  (∀ (s : State) (h d : Nat), (s.peer h).state = 1 → ∃ t : State, t = (s.updPeer h fun p =>
      { p with misses := p.misses.set d 0, deadline := p.deadline.set d (s.tick + 2 * s.head.hbInterval), lastBeat := s.tick }) ∧
    s.beatCounts h d = { t with head.lostDir := if bit t.head.lostDir d then t.head.lostDir - 2 ^ d else t.head.lostDir, head.isolated := false }) ∧
  (∀ (s : State) (h d : Nat), s.runs = true → s.head.joined = true → s.head.peers.has h = true → (s.peer h).state = 1 → d < 2 →
      (s.peer h).deadline.getD d 0 < s.tick →
    exec (.heartbeatMissExpiry h d) s = .next (s.missBeat h d)) ∧
  (∀ (s : State) (h d : Nat), s.missBeat h d = State.checkFailed h (State.checkDirection d (s.updPeer h fun p =>
    { p with misses := p.misses.modify d fun m => min 255 (m + 1), deadline := p.deadline.set d ((s.peer h).deadline.getD d 0 + s.head.hbInterval) }))) ∧
  (∀ (s : State) (f : RingFrame), s.takesRing 2 f → (s.peer f.origin).state ≠ 1 →
    ∃ t u : State, exec (.join f) s = .next (State.askResync (State.raise Ev.headJoined (le 2 f.origin) t)) ∧
      t = { u with
        domains := u.domains.mapVals fun (x : Domain) => { x with intent := if x.intent = f.origin then 0 else x.intent, owner := if x.owner = f.origin then 0 else x.owner }
        mirror.refused := u.mirror.refused.filter (· != f.origin) } ∧
      u = (s.ringTaken f).updPeer f.origin fun p => { p with
        state := 1
        misses := [0, 0]
        deadline := [(s.ringTaken f).tick + 2 * (s.ringTaken f).head.hbInterval, (s.ringTaken f).tick + 2 * (s.ringTaken f).head.hbInterval]
        owned := 0
        claimed := []
        mirrorPeer := 0 }) ∧
  (∀ (s : State) (f : RingFrame), s.takesRing 3 f → ((s.ringTaken f).peer f.origin).state = 1 → ((s.ringTaken f).peer f.origin).owned = 0 →
    exec (.leave f) s = .next (State.peerGone f.origin (State.updPeer f.origin (fun p => { p with state := 3 }) { s.ringTaken f with
      domains := (s.ringTaken f).domains.mapVals fun (x : Domain) => if x.intent = f.origin then { x with intent := 0 } else x }))) ∧
  (∀ (s : State) (f : RingFrame), s.takesRing 3 f → ((s.ringTaken f).peer f.origin).state = 1 → ((s.ringTaken f).peer f.origin).owned ≠ 0 →
    exec (.leave f) s = .next ((s.ringTaken f).declareFailed f.origin 4)) ∧
  (∀ (s : State) (f : RingFrame), s.takesRing 4 f →
    exec (.claimIntent f) s = .next ((s.ringTaken f).updDomain (fieldAt f.body 0 1) fun x => { x with intent := f.origin })) ∧
  (∀ (s : State) (f : RingFrame) (d c : Nat), s.takesRing 5 f → d = fieldAt f.body 0 1 → c = fieldAt f.body 8 8 →
    ∃ t : State, exec (.claimDone f) s = .next ((t.updDomain d fun x => { x with
        epoch := max x.epoch (c / 65536)
        owner := f.origin
        released := false
        intent := if x.intent = f.origin then 0 else x.intent
        lastClaim := c }).updPeer f.origin fun p => { p with claimed := if p.claimed.contains d then p.claimed else p.claimed ++ [d] }) ∧
      ((s.ringTaken f).owns d = true → t = (s.ringTaken f).takeDomain d c) ∧ (((s.ringTaken f).domain d).state = .none → t = s.ringTaken f)) ∧
  (∀ (s : State) (f : RingFrame) (c : Nat), s.takesRing 6 f → c = fieldAt f.body 8 8 →
    exec (.release f) s = .next (((s.ringTaken f).updDomain (fieldAt f.body 0 1) fun x => { x with
        epoch := max x.epoch (c / 65536)
        owner := if x.owner = f.origin then 0 else x.owner
        released := true
        intent := if x.intent = f.origin then 0 else x.intent
        lastClaim := c }).updPeer f.origin fun p => { p with seenWsn := max p.seenWsn (fieldAt f.body 16 8) })) ∧
  (∀ (s : State) (f : RingFrame), s.takesRing 7 f → fieldAt f.body 0 2 ≠ (s.ringTaken f).head.headId →
      (s.ringTaken f).head.peers.has (fieldAt f.body 0 2) = true →
    exec (.failed f) s = .next ((s.ringTaken f).declareFailed (fieldAt f.body 0 2) 2))

/-- A message at the front of a peer connection that passes its checks is taken. MIRROR_NOTE is answered with status 0
when the record is held already or passes its three checks, 1 when it fails them and 2 without an area. JOURNAL_MIRROR
stores the frame's records and drops those before a mirrored CHECKPOINT, or answers 3 when the journal mirror has no
room. PROGRESS_MIRROR stores its record. TAIL frees the units up to the tail. MIRROR_BIND with action 1 binds the
lowest free area under a key of the next generation and answers its key and address; it answers 2 without a free area
and 4 when the areas are too small; with action 0 it frees the area. RESYNC_QUERY answers the highest WSN of the asker
seen. (R119, R154, R330, R331, R333, R334, R335, R336, R337, R354) -/
def Obligations.MirrorMessagesAct : Prop :=
  (∀ (s t : State) (conn h lane : Nat) (m : PeerMsg) (b : List Byte) (rest : List (List Byte)), s.takesPeer conn 1 h lane m b rest → t = s.peerTaken conn m rest →
      t.areaOf h = none → exec (.mirrorNote conn) s = .next (t.mirrorAck h lane m 2)) ∧
  (∀ (s t : State) (conn h lane i : Nat) (m : PeerMsg) (b : List Byte) (rest : List (List Byte)), s.takesPeer conn 1 h lane m b rest → t = s.peerTaken conn m rest →
      t.areaOf h = some i → (t.area i).records.has m.wsn = true → exec (.mirrorNote conn) s = .next (t.mirrorAck h lane m 0)) ∧
  (∀ (s t : State) (conn h lane i : Nat) (m : PeerMsg) (b r : List Byte) (rest : List (List Byte)), s.takesPeer conn 1 h lane m b rest → t = s.peerTaken conn m rest →
      t.areaOf h = some i → (t.area i).records.has m.wsn = false → r = t.readRegion i (256 * fieldAt m.body 0 4) (256 * fieldAt m.body 4 4) →
      fieldAt r 8 8 = m.wsn → fieldAt r 4 4 = fieldAt m.body 4 4 → fieldAt m.body 8 4 = (crc32c r).toNat →
    exec (.mirrorNote conn) s = .next ((State.freeTail i (fieldAt m.body 16 4) (fieldAt m.body 24 8) (State.updPeer h (fun p => { p with seenWsn := max p.seenWsn m.wsn })
      (t.updArea i fun a => { a with records := a.records.set m.wsn (fieldAt m.body 0 4, fieldAt m.body 4 4, fieldAt m.body 12 1) }))).mirrorAck h lane m 0)) ∧
  (∀ (s t : State) (conn h lane i : Nat) (m : PeerMsg) (b r : List Byte) (rest : List (List Byte)), s.takesPeer conn 1 h lane m b rest → t = s.peerTaken conn m rest →
      t.areaOf h = some i → (t.area i).records.has m.wsn = false → r = t.readRegion i (256 * fieldAt m.body 0 4) (256 * fieldAt m.body 4 4) →
      ¬(fieldAt r 8 8 = m.wsn ∧ fieldAt r 4 4 = fieldAt m.body 4 4 ∧ fieldAt m.body 8 4 = (crc32c r).toNat) →
    exec (.mirrorNote conn) s = .next ((t.freeTail i (fieldAt m.body 16 4) (fieldAt m.body 24 8)).mirrorAck h lane m 1)) ∧
  (∀ (s t : State) (conn h lane i d n q : Nat) (m : PeerMsg) (b : List Byte) (rest rs : List (List Byte)), s.takesPeer conn 3 h lane m b rest →
      t = s.peerTaken conn m rest → t.areaOf h = some i → d = fieldAt m.body 0 1 → n = fieldAt m.body 1 1 → q = fieldAt m.body 8 8 →
      ((t.area i).journal.getD d []).any (fun f => f.1 == q) = false → rs = (List.range n).map (fun k => slice m.body (16 + 64 * k) 64) →
    exec (.journalMirror conn) s = .next (if t.wp.logUnits * 64 < (t.area i).journalBytes + 64 * n then t.mirrorAck h lane m 3
      else (t.updArea i fun a => { a with journal := a.journal.set d (((t.area i).journal.getD d [] ++ [(q, rs)]).filter fun f => decide ((((rs.filterMap parseRecord).filterMap fun r =>
        match r.body with
        | .checkpoint _ _ x => some x
        | _ => none).foldl max 0) ≤ f.1)) }).mirrorAck h lane m 0)) ∧
  (∀ (s t : State) (conn h lane : Nat) (m : PeerMsg) (b : List Byte) (rest : List (List Byte)), s.takesPeer conn 4 h lane m b rest →
      t = s.peerTaken conn m rest → (t.areaOf h).isSome = true →
    exec (.progressMirror conn) s = .next (State.mirrorAck h lane m 0
      { t with mirror.progress := t.mirror.progress.set (fieldAt m.body 0 1 * 2 ^ 32 + fieldAt m.body 4 4) (fit 64 m.body) })) ∧
  (∀ (s t : State) (conn h lane i : Nat) (m : PeerMsg) (b : List Byte) (rest : List (List Byte)), s.takesPeer conn 5 h lane m b rest →
      t = s.peerTaken conn m rest → t.areaOf h = some i → exec (.tail conn) s = .next (t.freeTail i (fieldAt m.body 0 4) m.wsn)) ∧
  (∀ (s t : State) (conn h lane i g : Nat) (r : Region) (m : PeerMsg) (b : List Byte) (rest : List (List Byte)), s.takesPeer conn 6 h lane m b rest →
      t = s.peerTaken conn m rest → t.areaOf h = none → fieldAt m.body 0 1 = 1 → t.freeArea? = some i → fieldAt m.body 4 4 ≤ t.wp.logUnits →
      g = ((t.net.regions.getD i {}).gen + 1) % 256 →
      r = ⟨true, g, i * 2 ^ 40, 256 * fieldAt m.body 4 4, true, false, 1 + h, t.now :: recentStamps t.now (t.net.regions.getD i {}).reused⟩ →
    exec (.mirrorBind conn) s = .next (State.sendMessage h 0 7 0 (le 1 0 ++ zeros 3 ++ le 4 (256 * i + g) ++ le 8 (i * 2 ^ 40))
      (State.updArea i (fun _ => { bound := some h, units := fieldAt m.body 4 4 }) { t with net.regions := t.net.regions.set i r })).2) ∧
  (∀ (s t : State) (conn h lane : Nat) (m : PeerMsg) (b : List Byte) (rest : List (List Byte)), s.takesPeer conn 6 h lane m b rest →
      t = s.peerTaken conn m rest → t.areaOf h = none → fieldAt m.body 0 1 = 1 → (t.freeArea? = none ∨ t.wp.logUnits < fieldAt m.body 4 4) →
    exec (.mirrorBind conn) s = .next (t.sendMessage h 0 7 0 (le 1 (if t.freeArea? = none then 2 else 4) ++ zeros 3 ++ le 4 0 ++ le 8 0)).2) ∧
  (∀ (s t : State) (conn h lane i : Nat) (m : PeerMsg) (b : List Byte) (rest : List (List Byte)), s.takesPeer conn 6 h lane m b rest →
      t = s.peerTaken conn m rest → t.areaOf h = some i → t.takingOver h = false → fieldAt m.body 0 1 = 0 →
    exec (.mirrorBind conn) s = .next ((t.freeArea i).sendMessage h 0 7 0 (le 1 0 ++ zeros 3 ++ le 4 0 ++ le 8 0)).2) ∧
  (∀ (s t u : State) (conn h lane : Nat) (m : PeerMsg) (b : List Byte) (rest : List (List Byte)), s.takesPeer conn 8 h lane m b rest →
      t = s.peerTaken conn m rest → u = (match t.areaOf h with | some i => if t.takingOver h then t else t.freeArea i | none => t) →
    exec (.resyncQuery conn) s = .next (u.sendMessage h 0 9 (max (u.peer h).seenWsn (u.peer h).highWsn)
      (le 1 (boolNat (u.areaOf h).isSome) ++ zeros 7)).2)

/-- An ACK of status 0 in time settles its message; status 1, or an ACK or expiry after the deadline, makes a failed
send: the message goes again, or after mirror_retries failed sends the peer is lost; status 3 asks for a checkpoint in
the domain with the largest journal window and sends again. An ACK without a live or re-silvering peer, or of nothing
that waits, changes nothing. TAIL goes when the tail has moved for 10 ms. BIND_REPLY of status 0 binds the peer and
starts re-silvering once its connections are READY; another tries the next candidate. A retry tries again in Pair. A
re-silvering with nothing left makes the peer live with EV_MIRROR_LIVE. RESYNC_REPLY raises the WSN sequence. (R16,
R28, R31, R334, R335, R336, R337, R354) -/
def Obligations.MirrorOwnerActs : Prop :=
  (∀ (s t : State) (conn h lane q : Nat) (w : MirrorMsg) (m : PeerMsg) (b : List Byte) (rest : List (List Byte)), s.takesPeer conn 2 h lane m b rest →
      t = s.peerTaken conn m rest → t.mirror.state ≠ .none → t.mirror.peer = h → q = fieldAt m.body 0 8 →
      t.mirror.waits.find? (fun w => w.seq == q && w.lane == lane) = some w → t.expired w.deadline = false →
    exec (.mirrorAck conn) s = .next (if fieldAt m.body 8 1 = 0 then t.mirrorHeld w
      else if fieldAt m.body 8 1 = 1 then t.mirrorFailed w
      else if fieldAt m.body 8 1 = 3 then State.mirrorAgain w w.sends (match t.widestJournal with
        | some d => t.updSdom d fun x => { x with checkpointWanted := true }
        | none => t)
      else t.loseMirror 1)) ∧
  (∀ (s t : State) (conn h lane : Nat) (m : PeerMsg) (b : List Byte) (rest : List (List Byte)), s.takesPeer conn 2 h lane m b rest →
      t = s.peerTaken conn m rest → (t.mirror.state = .none ∨ t.mirror.peer ≠ h ∨ t.mirror.waits.find? (fun w => w.seq == fieldAt m.body 0 8 && w.lane == lane) = none) →
    exec (.mirrorAck conn) s = .next t) ∧
  (∀ (s : State) (lane seq : Nat) (w : MirrorMsg), s.runs = true → s.mirror.waits.find? (fun w => w.seq == seq && w.lane == lane) = some w →
      w.deadline < s.tick → exec (.mirrorAckExpiry lane seq) s = .next (s.mirrorFailed w)) ∧
  (∀ (s : State) (w : MirrorMsg), s.mirrorFailed w = if s.head.mirrorRetries ≤ w.sends then s.loseMirror 1 else s.mirrorAgain w (w.sends + 1)) ∧
  (∀ s : State, s.runs = true → s.mirror.state ≠ .none → s.tailUnit ≠ s.mirror.tailSent → s.mirror.tailTick + ticksOf 10000000 ≤ s.tick →
    ∃ t : State, exec .tailInterval s = .next { t with mirror.tailSent := s.tailUnit, mirror.tailTick := s.tick } ∧
      t = (s.sendMessage s.mirror.peer 0 5 s.tailWsn (le 4 s.tailUnit ++ zeros 4)).2) ∧
  (∀ (s t : State) (conn h lane : Nat) (m : PeerMsg) (b : List Byte) (rest : List (List Byte)), s.takesPeer conn 7 h lane m b rest →
      t = s.peerTaken conn m rest → t.mirror.candidate = some h → fieldAt m.body 0 1 = 0 →
    ∃ u : State, exec (.bindReply conn) s = .next (if u.lanesReady h then u.startResilver else u) ∧
      u = { t with mirror := { t.mirror with
        candidate := none
        refused := []
        bound := true
        peer := h
        key := fieldAt m.body 4 4
        va := fieldAt m.body 8 8
        lostRaised := false } }) ∧
  (∀ (s t : State) (conn h lane : Nat) (m : PeerMsg) (b : List Byte) (rest : List (List Byte)), s.takesPeer conn 7 h lane m b rest →
      t = s.peerTaken conn m rest → t.mirror.candidate = some h → fieldAt m.body 0 1 ≠ 0 →
    exec (.bindReply conn) s = .next (State.tryBind { t with mirror.candidate := none, mirror.refused := t.mirror.refused ++ [h] })) ∧
  (∀ s : State, s.runs = true → s.mesh = false → s.mirror.state = .none → s.mirror.bound = false → s.mirror.candidate = none → s.mirror.retryAt ≤ s.tick →
      s.activeHeads ≠ [] →
    exec .mirrorBindRetry s = .next (State.tryBind { s with mirror.retryAt := s.tick + ticksOf 1000000000, mirror.refused := [] })) ∧
  (∀ s : State, s.runs = true → s.mirror.bound = true → s.mirror.state = .none → s.lanesReady s.mirror.peer = true →
    exec .resilverComplete s = .next s.startResilver) ∧
  (∀ s : State, s.runs = true → s.mirror.state = .resilvering → s.mirror.resilver = [] → s.mirror.resilverJournal = [] →
    exec .resilverComplete s = .next (State.raise Ev.mirrorLive (le 2 s.mirror.peer ++ le 8 s.mirror.resilvered)
      { s with mirror.state := .live, nvme.cmds := s.nvme.cmds.mapVals fun c => if c.writes then { c with late := true } else c })) ∧
  (∀ (s t : State) (conn h lane : Nat) (m : PeerMsg) (b : List Byte) (rest : List (List Byte)), s.takesPeer conn 9 h lane m b rest →
      t = s.peerTaken conn m rest →
    exec (.resyncReply conn) s = .next (State.tryBind (State.ceilingCheck { t with
      mirror.resync := some (max (t.mirror.resync.getD 0) m.wsn)
      wp.wsn := max t.wp.wsn m.wsn })))

/-- When the wait of a takeover has ended, the claims held are probed at the lowest attached module, or the
acquisitions start when nothing is held. MIRROR_REPLAY of a domain whose journal has been replayed places, in
increasing WSN, every mirror record of the domain that has not been applied and is not marked lost, while staging has
room, closes the domain's stripes, and is done when all are placed. A takeover ends when every domain has been
replayed: its domains are owned, the area is freed and EV_TAKEOVER_DONE tells the records replayed and the time.
(R346, R347, R348, R349, R352, R353, R374) -/
def Obligations.TakeoverActs : Prop :=
  (∀ (s : State) (h : Nat) (t : Takeover) (ms : List Nat) (m : Nat), s.runs = true → s.heads.takeovers.find? (fun t => t.failed == h && !t.probed) = some t →
      t.deadline ≤ s.tick → s.footing.active = false → s.attachedModules = m :: ms → s.ownedDomains ≠ [] →
    ∃ u : State, exec (.takeoverDelayExpiry h) s = .next (s.ownedDomains.foldl (fun u d => u.presentClaim (ms.foldl min m) d (u.claimOf d) (.probe d)) u) ∧
      u = { s with heads.takeovers := s.heads.takeovers.map fun (x : Takeover) => if x.failed = h then { x with probed := true, probes := s.ownedDomains } else x }) ∧
  (∀ (s : State) (h : Nat) (t : Takeover) (ms : List Nat) (m : Nat), s.runs = true → s.heads.takeovers.find? (fun t => t.failed == h && !t.probed) = some t →
      t.deadline ≤ s.tick → s.footing.active = false → s.attachedModules = m :: ms → s.ownedDomains = [] →
    ∃ u : State, exec (.takeoverDelayExpiry h) s = .next (u.probeAnswer 256 false) ∧
      u = { s with heads.takeovers := s.heads.takeovers.map fun (x : Takeover) => if x.failed = h then { x with probed := true, probes := [] } else x }) ∧
  (∀ (s : State) (d i h : Nat) (all rs : List (Nat × Nat × Nat × Nat)) (x : Nat × Bool × State), s.runs = true → (s.domain d).takeover = some h →
      s.liveArea h = some i → (s.domain d).state = .acquiring → (s.domain d).journalDone = true → (s.domain d).mirrorDone = false →
      all = (s.area i).records.filter (fun r => r.2.2.2 == d) → rs = all.filter (fun r => !s.mirrorApplied d r.1 && !(s.area i).lost.contains r.1) →
      x = s.replayRecords i d rs 0 → all.any (fun r => !s.mirrorApplied d r.1 && (s.area i).lost.contains r.1) = false →
    ∃ t u : State, exec (.mirrorReplay d) s = .next (State.startJob 0x16 (s.rankOf 13) x.1 u) ∧
      t = (x.2.2.closeDomain d (x.2.2.rankOf 4)).updDomain d (fun y => { y with mirrorDone := x.2.1, mirrorLeft := rs.length - x.1 }) ∧
      u = { t with heads.takeovers := t.heads.takeovers.map fun (y : Takeover) => if some y.failed = (s.domain d).takeover then { y with replayed := y.replayed + x.1 } else y }) ∧
  (∀ (s : State) (h : Nat) (t : Takeover) (u v : State), s.runs = true → s.heads.takeovers.find? (fun t => t.failed == h) = some t → t.started = true →
      t.domains.all (s.replayEnded h) = true →
      u = (t.domains.filter fun d => (s.domain d).state == .acquiring && (s.domain d).takeover == some h).foldl (fun u d => u.finishAcquire d) s →
      v = (match u.liveArea h with | some i => u.freeArea i | none => u) →
    exec (.takeoverDone h) s = .next (State.raise Ev.takeoverDone (le 2 h ++ le 4 t.replayed ++ le 4 ((s.now - t.since) / 1000000))
        { v with heads.takeovers := v.heads.takeovers.filter fun y => y.failed != h }))

/-- REPL_OPEN puts an idle session under its number with the fields of the packet, flags its common layer and connects
a direct source. REPL_CLOSE breaks the synchronous wait, rolls back an unfinished delta, clears the flags, drops the
session and its connection. REPL_SEND replies, flags the new layer, keeps the delta's records and sends DELTA_BEGIN
and the first OFFERS; where pages of the layers are absent it reads them in first. REPL_STATUS writes role, state,
common layer and the five counts. REPL_PUMP cuts the messages in, and writes those of the session that fit. A
synchronous wait past its deadline breaks the synchronous service. (R31, R356, R357, R358, R359, R361, R362, R363,
R364) -/
def Obligations.ReplicationPacketsAct : Prop :=
  (∀ (s t u : State) (op : PktOp) (p : Packet) (n : Namespace) (i c : Nat) (x : Session), s.takes op 0x0910 p → s.head.configuration ≠ 0 →
      p.f 0 1 = i → s.ns? (p.f 4 4) = some n → s.owns n.domain = true → s.power.islands.getD 31 .asleep = .awake → (s.session i).role = 0 →
      (p.f 2 1 = 1 → p.f 1 1 = 1 ∧ classOf n.cls ≠ 1) →
      (bit (p.f 3 1) 0 = true → s.noCipher = false ∧ (s.keySlot (p.f 17 1)).kind = 2) →
      (if (p.bytes 40 16).all (· == 0) then some 0 else s.snapOf (p.f 4 4) n.domain (p.bytes 40 16)) = some c →
      x = { role := p.f 1 1, mode := p.f 2 1, flags := p.f 3 1, nsid := p.f 4 4, tag := p.f 8 8, port := p.f 16 1, keySlot := p.f 17 1, timeout := p.f 20 4,
            ip := p.bytes 24 16, state := 1, common := c, baseLabel := p.bytes 40 16, conn := if p.f 1 1 = 1 then s.freeContext else none,
            dirty := decide (3 ≤ p.f 1 1) && (s.domain n.domain).tookOver } →
      t = { s with heads.sessions := s.heads.sessions.set i x } → u = (if c = 0 then t else t.replFlag n.domain c true) →
    exec (.replOpen op) s = .next (State.replyOk p (if p.f 1 1 = 1 then
      u.activeConnect (.repl i) (p.f 16 1) none (p.bytes 24 16) (fieldAt (u.subRecord (p.f 16 1)) 0x23 1 % 8)
        (fieldAt (u.subRecord (p.f 16 1)) 0x22 1 % 64) (le 2 0x5250 ++ le 8 (p.f 8 8)) else u))) ∧
  (∀ (s t u : State) (op : PktOp) (p : Packet) (i : Nat), s.takesSession op 0x0911 p i →
      t = (((if (s.session i).sync = [] then s else s.breakSync i).rollTarget i).clearReplFlags i) →
      u = { t with heads.sessions := t.heads.sessions.del i } →
    exec (.replClose op) s = .next (State.replyOk p (match (s.session i).conn with
      | some c => if (u.conn c).state = .connecting then u.freeConn c else u.disconnect c
      | none => u))) ∧
  (∀ (s t : State) (op : PktOp) (p : Packet) (i d : Nat) (l : Layer) (base : Option Layer) (rs : List DeltaRec), s.takesSession op 0x0912 p i →
      (s.session i).role ≤ 2 → ((s.session i).state = 1 ∨ ((s.session i).state = 3 ∧ (s.session i).role = 1 ∧ s.replReady (s.session i) = true)) →
      p.f 4 4 = (s.session i).common → d = ((s.ns? (s.session i).nsid).map Namespace.domain).getD 0 → s.layer? d (p.f 8 4) = some l → l.kind = 2 → l.nsid = (s.session i).nsid →
      base = (if p.f 4 4 = 0 then none else s.layer? d (p.f 4 4)) →
      (l.root :: (base.map Layer.root).toList).flatMap (fun r => if r = 0 then [] else s.absentPages 7 r) = [] → rs = s.deltaRecords base l →
      t = ((s.replyOk p).replFlag d (p.f 8 4) true).updSession i (fun y => replStat 4 (coveredBytes rs) { y with state := 2, sending := p.f 8 4, records := rs, offers := y.offers.keep fun q _ => y.sync.has q, unanswered := 0, ended := false, delta := [0, 0, 0] }) →
    exec (.replSend op) s = .next ((t.replSend i 0x20 0 0 (fit 16 ((base.map Layer.label).getD (zeros 16)) ++ fit 16 l.label ++ le 8 l.nsze ++
      le 1 (t.reduceOf d).bucketLog2 ++ zeros 7)).pumpDelta i)) ∧
  (∀ (s : State) (op : PktOp) (p : Packet) (i : Nat) (x : Session), s.takesSession op 0x0913 p i → x = s.session i →
    exec (.replStatus op) s = .next (s.reply p St.ok 64 (fit 64 (le 1 x.role ++ le 1 x.state ++ zeros 2 ++ le 4 x.common ++ x.counts.flatMap (le 8))))) ∧
  (∀ (s : State) (op : PktOp) (p : Packet) (i : Nat) (x : Session) (ms out : List (List Byte)), s.takesSession op 0x0914 p i → x = s.session i →
      (x.role = 2 ∨ x.role = 4) → x.state ≠ 3 → cutMessages (p.f 4 4 / 32 + 1) x.rxSeq ((p.buffer op).take (p.f 4 4)) = some ms →
      out = fitMessages (p.dataLen - p.f 8 4) x.txq →
    exec (.replPump op) s = .next ((s.updSession i fun y => { y with rxq := y.rxq ++ ms, rxSeq := y.rxSeq + ms.length, txq := y.txq.drop out.length }).replyAt p
      St.ok out.flatten.length (p.f 8 4) out.flatten)) ∧
  (∀ (s : State) (i q : Nat) (e : Nat × Nat × Nat), s.runs = true → (s.session i).sync.get? q = some e → e.2.2 < s.tick →
    exec (.syncTimeoutExpiry i q) s = .next (s.breakSync i))

/-- A message at the front of a session that passes its checks is used. DELTA_BEGIN rolls an unfinished delta back,
takes base, new label and bucket width, and answers status 1 on another base and 3 on a larger namespace. OFFERS are
looked up and placed, and answered by NEEDS. NEEDS has the extents read and sent. EXTENT is placed, or ends the delta
with status 2. DELTA_END asks for the snapshot, or answers 4 while extents are missing. DELTA_DONE of status 0 makes
the new layer the common one with EV_REPL_DELTA_DONE; another fails the session. SYNC_ACK in time ends a wait; late it
breaks the synchronous service. A SYNC_WRITE that cannot be placed is answered by status 1. (R31, R170, R330, R357,
R359, R360, R361, R363) -/
def Obligations.ReplicationMessagesAct : Prop :=
  (∀ (s u : State) (i : Nat) (m : PeerMsg) (b mine : List Byte) (n : Namespace), s.takesRepl i 0x20 m b → u.ns? (u.session i).nsid = some n →
      mine = (if (u.session i).common = 0 then zeros 16 else ((u.layer? n.domain (u.session i).common).map Layer.label).getD (zeros 16)) →
      u = s.rollTarget i →
    ∃ t : State, exec (.deltaBegin i) s = .next (State.replTaken i m (if slice m.body 0 16 ≠ mine then t.abortDelta i 1
        else if n.nsze < fieldAt m.body 32 8 then t.abortDelta i 3 else t)) ∧
      t = u.updSession i fun x => { x with
        state := 2
        ended := false
        sending := 0
        baseLabel := slice m.body 0 16
        newLabel := slice m.body 16 16
        bucketLog2 := fieldAt m.body 40 1
        offers := []
        wanted := [] }) ∧
  (∀ (s : State) (i n : Nat) (m : PeerMsg) (b : List Byte) (rs : List DeltaRec) (y : List Nat × List Nat × State), s.takesRepl i 0x21 m b → n = fieldAt m.body 0 2 →
      rs = (List.range n).map (fun k => parseDeltaRec (slice m.body (8 + 48 * k) 48)) → (s.session i).receiving = true → s.targetKey i = true →
      6 * n ≤ s.pagesFree → s.targetRoom n 0 = true → s.absentIndex i rs = [] → y = s.takeRecords i rs →
    exec (.offers i) s = .next (State.replTaken i m ((y.2.2.updSession i fun x => if y.2.1.isEmpty then { x with dirty := true }
      else { x with dirty := true, offers := x.offers.set m.seq rs, wanted := x.wanted.set m.seq y.2.1 }).replSend i 0x22 0 0 (le 8 m.seq ++ le 8 (needBits y.2.1))))) ∧
  (∀ (s t : State) (i q : Nat) (m : PeerMsg) (b : List Byte), s.takesRepl i 0x22 m b → q = fieldAt m.body 0 8 → (s.session i).offers.has q = true →
      (s.session i).unanswered ≠ 0 → t = s.updSession i (fun x => { x with unanswered := x.unanswered - 1 }) →
    exec (.needs i) s = .next (State.replTaken i m ((t.readNeeds i q (fieldAt m.body 8 8)).offersDone i q))) ∧
  (∀ (s : State) (i q k : Nat) (m : PeerMsg) (b : List Byte) (ks : List Nat) (r : DeltaRec), s.takesRepl i 0x23 m b → q = fieldAt m.body 0 8 → k = fieldAt m.body 8 1 →
      (s.session i).wanted.get? q = some ks → ((s.session i).offers.getD q [])[k]? = some r → k ∈ ks → s.targetRoom 1 (fieldAt m.body 12 4 / 256 + 1) = true →
    exec (.extent i) s = .next (State.replTaken i m (match (s.openWire i (bit m.flags 0) m.body).bind fun b => s.stageExtent i r b with
      | none => if (s.session i).syncIn.has q then s.replSend i 0x27 ((((s.session i).syncIn.get? q).map Prod.fst).getD 0) 0 (le 1 1 ++ zeros 15) else s.abortDelta i 2
      | some y => (y.2.updSession i fun x => { x with
          wanted := if (ks.filter (· != k)).isEmpty then x.wanted.del q else x.wanted.set q (ks.filter (· != k))
          offers := if (ks.filter (· != k)).isEmpty then x.offers.del q else x.offers
          syncIn := x.syncIn.upd q fun e => (e.1, e.2.1 ++ [y.1], e.2.2 - 1) }).settleSync))) ∧
  (∀ (s t u : State) (i id : Nat) (m : PeerMsg) (b : List Byte) (n : Namespace), s.takesRepl i 0x24 m b → s.ns? (s.session i).nsid = some n → (s.session i).receiving = true →
      (∀ w ∈ (s.session i).wanted, (s.session i).syncIn.has w.1 = true) → s.layersToCome < layerLimit →
      (s.staged.any fun r => !r.applied && !r.dropped && r.nsid == (s.session i).nsid && r.deltas.any fun d => d.op == 15) = false →
      id = (s.mdom n.domain).nextLayer → t = s.updMdom n.domain (fun m => { m with nextLayer := m.nextLayer + 1 }) → u = t.closeStream n.domain 0 (t.rankOf 16) →
    exec (.deltaEnd i) s = .next (State.replTaken i m ((u.stageMap n.domain (s.session i).nsid (u.rankOf 16) [{ ashlar := id, op := 9, target := n.layer }] none).updSession i fun x =>
      { x with ended := true, sending := n.layer }))) ∧
  (∀ (s : State) (i : Nat) (m : PeerMsg) (b : List Byte), s.takesRepl i 0x25 m b → (s.session i).state = 2 → fieldAt m.body 0 1 = 0 →
    ∃ t u : State, exec (.deltaDone i) s = .next (State.replTaken i m (u.raise Ev.replDeltaDone (le 1 i ++ le 4 (s.session i).sending ++ le 8 ((s.session i).delta.getD 2 0)))) ∧
      t = (s.replFlag (((s.ns? (s.session i).nsid).map Namespace.domain).getD 0) (s.session i).common false).replFlag
        (((s.ns? (s.session i).nsid).map Namespace.domain).getD 0) (s.session i).sending true ∧
      u = t.updSession i fun x => { x with common := x.sending, sending := 0, state := 1, records := [], unanswered := 0 }) ∧
  (∀ (s : State) (i : Nat) (m : PeerMsg) (b : List Byte), s.takesRepl i 0x25 m b → (s.session i).state = 2 → fieldAt m.body 0 1 ≠ 0 →
    exec (.deltaDone i) s = .next (State.replTaken i m (s.failSession i 2 (fieldAt m.body 0 1)))) ∧
  (∀ (s t : State) (i q k w due : Nat) (m : PeerMsg) (b : List Byte), s.takesRepl i 0x27 m b → (s.session i).sync.find? (fun e => e.2.2.1 == m.wsn) = some (q, k, w, due) →
      t = s.updSession i (fun x => { x with sync := x.sync.del q, offers := x.offers.del q }) →
    exec (.syncAck i) s = .next (State.replTaken i m (if s.expired due then s.breakSync i
      else if fieldAt m.body 8 8 ≠ 0 then s.readNeeds i q (fieldAt m.body 8 8)
      else if fieldAt m.body 0 1 ≠ 0 then s
      else if (t.session i).sync.any (fun e => e.2.1 == k) then t
      else (t.updNCmd k fun c => { c with syncWait := false }).settleWrites))) ∧
  (∀ (s : State) (i : Nat) (m : PeerMsg) (b : List Byte), s.takesRepl i 0x26 m b →
      (parseSync (bit m.flags 0) m.body = none ∨ s.targetKey i = false) →
    exec (.syncWrite i) s = .next (State.replTaken i m (s.replSend i 0x27 m.wsn 0 (le 1 1 ++ zeros 15)))) ∧
  (∀ (s : State) (i : Nat) (m : PeerMsg) (b : List Byte) (rs : List DeltaRec) (y : List Nat × List Nat × State), s.takesRepl i 0x26 m b →
      parseSync (bit m.flags 0) m.body = some (rs, []) → s.targetKey i = true → 6 * rs.length ≤ s.pagesFree → s.targetRoom rs.length 0 = true →
      s.absentIndex i rs = [] → y = s.takeRecords i rs → (∀ k ∈ y.2.1, ∃ r, rs[k]? = some r ∧ r.offer = true) →
    ∃ t : State, exec (.syncWrite i) s = .next (State.replTaken i m (if y.2.1 = [] then t.settleSync else t.replSend i 0x27 m.wsn 0 (zeros 8 ++ le 8 (needBits y.2.1)))) ∧
      t = y.2.2.updSession i fun x => { x with
        syncIn := x.syncIn.set m.seq (m.wsn, y.1, y.2.1.length)
        offers := if y.2.1.isEmpty then x.offers else x.offers.set m.seq rs
        wanted := if y.2.1.isEmpty then x.wanted else x.wanted.set m.seq y.2.1 })

/-- The ROM starts once internal reset has ended with PWR_GOOD: with a good digest it runs stages 1 to 3, else it
halts with the link down. The field image starts a chosen slot. Training, in PHASE 2, trains each channel, raises
EV_DRAM_TRAINED, validates a dump and goes to PHASE 3, or stays with EV_DRAM_INSUFFICIENT under 4 channels. Self-test,
in PHASE 3, disables what failed, keeps its result and goes to PHASE 4. PHASE 4 reserves the DRAM areas, waits for
HEAD_CONFIG, enables the links, and begins service when all are attached or detach_ms has passed. A miscompare or 100
ms without a heartbeat resets the chip with a header-only summary. (R368, R371, R375, R392, R393, R404, R417, R418,
R435, R437, R441, R442) -/
def Obligations.StartupActs : Prop :=
  (∀ (s : State) (lost : List Nat) (bad weak : List (Nat × Nat)), s.romMayStart = true →
    ∃ t : State, exec (.bootRom lost bad weak) s = .next (if Config.romDigestGood s.mason.starts then t.romStages lost bad weak
        else { t with mason.boot := .halted, pcie.linkUp := false, pcie.answers := false }) ∧
      t = { s with mason.starts := s.mason.starts + 1, mason.lastBeat := s.now }) ∧
  (∀ s : State, s.runs = true → s.mason.boot = .chosen → exec .fieldImageStart s = .next (s.startImage.checkFormat.loadPlans.loadLanes).drainIfFailing) ∧
  (∀ (s : State) (dimms : List DimmReport) (headerOk sectionsOk : Bool), s.direct.phase = 2 → s.mason.boot = .running → s.fetching = true → s.dram.trained = false →
    ∃ t u : State, exec (.dramTraining dimms headerOk sectionsOk) s = .next (if u.trainedCount < 4 then u.raise Ev.dramInsufficient (le 1 u.trainedCount)
        else { u with direct.phase := 3 }) ∧
      u = State.validateDump headerOk sectionsOk (State.raise Ev.dramTrained (le 2 t.trainedSet ++ le 8 t.dramBytes ++ le 2 (trainedSpeed dimms)) { t with dram.mapped := t.trainedSet }) ∧
      t = State.setPower { ((List.range 12).foldl (fun s c => s.trainChannel dimms c) s).power with selfRefresh := false }
        { (List.range 12).foldl (fun s c => s.trainChannel dimms c) s with dram.trained := true }) ∧
  (∀ (s t : State) (hods hs : List Nat) (ways ws : List (Nat × Nat)) (sram : Bool) (channels cs : List Nat) (engines es : List (Nat × Nat)) (lanes ls : List Nat) (n : Nat),
      s.direct.phase = 3 → s.fetching = true → hs = (hods.filter fun h => decide (h < 64)).eraseDups →
      ws = (ways.filter fun w => decide (w.1 < 1536) && decide (w.2 < 16)).eraseDups →
      cs = (channels.filter fun c => decide (c < 12) && (s.dramChannel c).dimm == .trained).eraseDups →
      es = (engines.filter fun e => decide (64 ≤ e.1) && decide (e.1 ≤ 75)).eraseDups → ls = (lanes.filter fun l => decide (l < 144)).eraseDups →
      n = hs.length + ws.length + boolNat sram + cs.length + es.length + ls.length →
      t = es.foldl (fun s e => s.failEngine e) (cs.foldl (fun s c => s.failChannel c) (ws.foldl (fun s w => s.failWay w) (hs.foldl (fun s h => s.failHod h) s.freed))) →
    exec (.selfTest hods ways sram channels engines lanes) s = .next (State.raise Ev.selfTest (le 4 s.freeNat ++ le 4 n ++ le 1 t.disabledHods.length ++ le 1 es.length)
      { t with
        mason.test := { run := s.freeNat, failed := n, engines := bitmapOf (es.map fun e => engineBit e.1 e.2), lanes := bitmapOf ls, channels := bitmapOf cs }
        footing.startup := t.footing.startup ++ ((if sram then [3] else []) ++ (if 16 < t.disabledHods.length then [4] else []))
        direct.phase := 4 })) ∧
  (∀ s : State, s.direct.phase = 4 → s.fetching = true → s.wp.logUnits = 0 →
    exec .startupService s = .next { s with wp.logUnits := s.dramBytes / 64 / 65536 * 256, map.area := s.dramBytes / 8 / 2 ^ 30 * 2 ^ 30 }) ∧
  (∀ s : State, s.direct.phase = 4 → s.fetching = true → s.wp.logUnits ≠ 0 → s.head.configuration = 0 → exec .startupService s = .next s) ∧
  (∀ s : State, s.direct.phase = 4 → s.fetching = true → s.wp.logUnits ≠ 0 → s.head.configuration ≠ 0 → s.mason.serviceBy = none → exec .startupService s = .next s.enableLinks) ∧
  (∀ (s : State) (d : Nat), s.direct.phase = 4 → s.fetching = true → s.wp.logUnits ≠ 0 → s.head.configuration ≠ 0 → s.mason.serviceBy = some d →
    exec .startupService s = .next (if d < s.tick ∨ s.allAttached = true then s.beginService else s)) ∧
  (∀ (s : State) (memory : Bool) (loc : Nat), s.coreRuns = true → s.power.selfRefreshing = false →
    exec (.lockstepMiscompare memory loc) s = .next (s.silentReset (if memory then 7 else 6) loc)) ∧
  (∀ s : State, s.coreRuns = true → s.power.selfRefreshing = false → s.mason.lastBeat + 100000000 ≤ s.now → exec .watchdogExpiry s = .next (s.silentReset 8 0)) ∧
  (∀ (s t : State) (cause loc : Nat), t = s.granted.writeSummary { header := s.dumpHeader 4 cause 6 ⟨0, 0, loc, s.now, zeros 32⟩ (s.power.drain != .none || s.power.pdown != .none) } →
    s.silentReset cause loc = if s.dump.stage != .none || !s.anyTrained then ({ t with mason.halted := true } : State).enterReset s.anyTrained
      else ({ t with mason.halted := true } : State).beginReset)

/-- An address of the DRAM space lies in its 256-byte granule on one trained channel and one sub-channel; an address
outside lies nowhere. A patrol of a trained channel counts its lines and treats what it found as an access would; a
sweep of an awake island, or of the metadata cache by island 20, counts and does the same. A checkpoint is written
when 2^34 counts have passed since the last. A group in Change for 30 s of an acquisition becomes Inaccessible. A hod
in service takes the bottom task of its own deque, urgent first, else steals the oldest of a victim, and runs it.
(R30, R145, R369, R373, R374, R376, R396, R414, R415, R416) -/
def Obligations.MemoryAndTimersAct : Prop :=
  (∀ (s : State) (a n g : Nat) (set : List Nat), set = (List.range 12).filter (fun c => bit s.trainedSet c) → n = set.length → n ≠ 0 → a < s.dramBytes → g = a / 256 →
    s.dramPlace a = some { granule := g, channel := set.getD (g % n) 0, offset := g / n * 256 + a % 256, sub := a / 64 % 2 }) ∧
  (∀ (s : State) (a : Nat), s.dramBytes ≤ a → s.dramPlace a = none) ∧
  (∀ (s : State) (channel lines : Nat) (hits : List LintelHit), s.dump.stage = .none → channel < 12 → (s.dramChannel channel).dimm = .trained → s.dram.scrubHours ≠ 0 →
    exec (.dramPatrolScrub channel lines hits) s = .next (State.lintelHits hits (s.setDramChannel channel { s.dramChannel channel with scrubbed := (s.dramChannel channel).scrubbed + lines }))) ∧
  (∀ (s : State) (island : Nat) (hits : List LintelHit), s.dump.stage = .none → island < 37 → s.power.islands.getD island .asleep = .awake →
    exec (.sramSweep island hits none) s = .next (State.lintelHits hits { s with dram.sramSweeps := s.dram.sramSweeps + 1 })) ∧
  (∀ (s : State) (hits : List LintelHit) (ps : List ParityHit), s.dump.stage = .none → s.power.islands.getD 20 .asleep = .awake →
    exec (.sramSweep 20 hits (some ps)) s = .next (ps.foldl (fun s h => s.parityHit h) { s with dram.mcacheSweeps := s.dram.mcacheSweeps + 1 })) ∧
  (∀ (s : State) (failure : Nat), s.power.firmwareRunning = true → s.run.lastCheckpoint + 2 ^ 34 ≤ s.now →
    exec (.stampCheckpointInterval failure) s = .next (((if failure = 0 then s else s.logFault failure).stampCheckpoint false).placeHeld)) ∧
  (∀ (s : State) (d : Nat), s.runs = true → d < 256 → s.nvme.ana.getD d 3 = 15 → (s.domain d).state = .acquiring → s.nvme.anaSince.getD d 0 + ticksOf 30000000000 < s.tick →
    exec (.anattExpiry d) s = .next (s.setAna d 3)) ∧
  (∀ (s u : State) (h : Nat) (t : Task), h < 64 → (s.hod h).disabled = false →
      (s.takeTask h true = some (t, u) ∨ (s.takeTask h true = none ∧ s.takeTask h false = some (t, u))) →
    exec (.hodFindWork h) s = .next (u.runTask h t).startWaiting) ∧
  (∀ (s : State) (h : Nat) (urgent : Bool) (t : Task) (rest : List Task), ((s.hod h).deque urgent).reverse = t :: rest →
    s.takeTask h urgent = some (t, s.updHod h fun x => x.setDeque urgent rest.reverse)) ∧
  (∀ (s : State) (h v : Nat) (urgent : Bool) (t : Task) (rest : List Task), (s.hod h).deque urgent = [] →
      (victims h).find? (fun v => !((s.hod v).deque urgent).isEmpty) = some v → (s.hod v).deque urgent = t :: rest →
    ∃ u : State, s.takeTask h urgent = some (t, u.updHod h fun x => { x with steals := x.steals + 1 }) ∧
      u = s.updHod v fun x => { x.setDeque urgent rest with stolen := x.stolen + 1 })

/-- While the old bank drains or before epoch 1, load, commit, discard and generate reply ST_TEMPLATE_BANK_BUSY. A
body of its length whose digest and checks hold replaces the template of its kind unless the bank would pass 10 MiB. A
commit of the next epoch with the right set digest switches the banks. Discard empties the load bank; generate fills
the kinds named and writes the set digest. The old bank retires with EV_TEMPLATE_EPOCH_RETIRED when its last work has
ended. TEMPLATE_QUERY, HOD_STATUS and SELF_TEST_RESULT write what R421 lists. (R22, R23, R24, R25, R413, R417, R419,
R420, R421) -/
def Obligations.TemplatePacketsAct : Prop :=
  (∀ (s : State) (op : PktOp) (p : Packet), s.takes op 0x0100 p → s.templates.bankBusy = true → exec (.templateLoad op) s = .next (s.fail p St.templateBankBusy)) ∧
  (∀ (s : State) (op : PktOp) (p : Packet) (bank : Tab Template), s.takes op 0x0100 p → s.templates.bankBusy = false → p.dataLen = p.f 4 4 →
      fit 32 (sha 1 (p.buffer op)) = p.bytes 8 32 → templateFault s.mesh (p.f 0 1) (p.buffer op) = none →
      bank = s.templates.load.set (p.f 0 1) { body := p.buffer op, digest := p.bytes 8 32, source := 2 } →
    exec (.templateLoad op) s = .next (if 10485760 < bankBytes bank then s.fail p St.templateBankFull else State.replyOk p { s with templates.load := bank })) ∧
  (∀ (s : State) (op : PktOp) (p : Packet) (o : Nat), s.takes op 0x0100 p → s.templates.bankBusy = false → p.dataLen = p.f 4 4 →
      fit 32 (sha 1 (p.buffer op)) = p.bytes 8 32 → templateFault s.mesh (p.f 0 1) (p.buffer op) = some o →
    exec (.templateLoad op) s = .next (s.reply p St.templateInvalid o [])) ∧
  (∀ (s : State) (op : PktOp) (p : Packet), s.takes op 0x0101 p → s.templates.bankBusy = false → s.templates.load ≠ [] → p.f 0 4 = s.templates.epoch + 1 →
    exec (.templateCommit op) s = .next (if p.bytes 8 32 = setDigest s.templates.load then State.replyOk p s.switchEpoch else s.fail p St.setDigest)) ∧
  (∀ (s : State) (op : PktOp) (p : Packet), s.takes op 0x0102 p → s.templates.bankBusy = false → exec (.templateDiscard op) s = .next (State.replyOk p { s with templates.load := [] })) ∧
  (∀ (s : State) (op : PktOp) (p : Packet) (bank : Tab Template), s.takes op 0x0103 p → s.templates.bankBusy = false →
      bank = ([1, 2, 3, 4, 5].filter fun k => bit (p.f 0 1) (k - 1)).foldl (fun b k => b.set k (s.generated k)) s.templates.load →
    exec (.templateGenerate op) s = .next (State.reply p St.ok 0 (fit 32 (sha 1 (bank.vals.flatMap Template.digest))) { s with templates.load := bank })) ∧
  (∀ s : State, s.oldBankDrained = true → exec .templateBankDrained s = .next (State.raise Ev.templateEpochRetired (le 4 (s.templates.epoch - 1))
    { s with templates.draining := none, templates.load := [] })) ∧
  (∀ s : State, s.oldBankDrained = true ↔ s.templates.draining.isSome = true ∧ s.flash.frameEpoch = s.templates.epoch ∧ s.oldStripes = [] ∧ s.oldJobs = false) ∧
  (∀ (s : State) (op : PktOp) (p : Packet), s.takes op 0x0104 p → exec (.templateQuery op) s = .next (s.reply p St.ok 0
    (if p.f 0 1 = 0 then bankRecord s.templates.epoch (if s.templates.epoch = 0 then 0 else 2) s.templates.active
     else match s.templates.draining with
     | some old => bankRecord (s.templates.epoch - 1) 3 old
     | none => if s.templates.load.isEmpty then bankRecord 0 0 [] else bankRecord (s.templates.epoch + 1) 1 s.templates.load))) ∧
  (∀ (s : State) (op : PktOp) (p : Packet), s.takes op 0x0105 p → exec (.hodStatus op) s = .next (s.reply p St.ok 0 (s.mason.hods.flatMap fun h =>
    le 1 (if h.disabled then 2 else 0) ++ zeros 1 ++ le 2 h.urgent.length ++ le 2 h.background.length ++ zeros 2 ++ le 8 h.tasks ++ le 8 h.steals ++ le 8 h.stolen))) ∧
  (∀ (s : State) (op : PktOp) (p : Packet), s.takes op 0x0106 p → exec (.selfTestResult op) s = .next (s.reply p St.ok 0 (le 4 s.mason.test.run ++ le 4 s.mason.test.failed ++
    le 8 ((s.disabledHods.map fun h => 2 ^ h).sum) ++ le 16 s.mason.test.engines ++ le 24 s.mason.test.lanes ++ le 2 s.mason.test.channels ++ zeros 6)))

/-- While the lowering erase runs, VAULT_READ replies ST_VAULT_BUSY. VAULT_STATUS writes what R422 lists. A readable
partition answers its bytes. VAULT_PROTECT with the present level or a higher one, or with a lower one and the magic,
takes its steps and raises EV_VAULT_PROTECTION; at the end of the lowering erase both image slots and the summaries
are gone. A weak block's copy stands in a fresh block; the oldest LOG block is reclaimed below 64 erased ones. An
update is opened in a slot not in use, takes a chunk whose digest holds, reports what it holds, and is closed or
aborted. IMAGE_CONFIRM and IMAGE_SELECT move the slots' states. SETTINGS_RESET takes effect at the next start. (R397,
R399, R400, R401, R402, R405, R408, R409, R411, R412, R422) -/
def Obligations.VaultPacketsAct : Prop :=
  (∀ (s : State) (op : PktOp) (p : Packet), s.takes op 0x0B00 p → exec (.vaultStatus op) s = .next (s.reply p St.ok 0
    (le 1 s.bootRec.level ++ le 1 s.bootRec.lowerPending ++ le 1 s.bootRec.active ++ le 1 s.bootRec.pending ++ le 1 s.bootRec.attempts ++
      s.bootRec.slots.flatMap (le 1) ++ le 1 s.bootRec.revoked ++ le 4 s.bootRec.floor ++ s.bootRec.versions.flatMap (le 4) ++
      le 2 ((s.vault.format? []).getD 0) ++ le 2 s.vault.spares ++ le 2 s.vault.grownBad ++ le 2 Config.factoryBadBlocks ++
      le 4 s.vault.logErased ++ le 4 (s.vault.erases.vals.foldl max 0) ++ le 4 s.vault.warnings ++ le 4 s.bootRec.updateId ++
      le 2 s.heldChunks.length ++ zeros 14))) ∧
  (∀ (s : State) (op : PktOp) (p : Packet) (bad : List Nat) (weak : List (Nat × Nat)), s.takes op 0x0B01 p → s.mason.lowering = true →
    exec (.vaultRead op bad weak) s = .next (s.fail p St.vaultBusy)) ∧
  (∀ (s : State) (op : PktOp) (p : Packet), s.takes op 0x0B01 p → s.mason.lowering = false → readable (p.f 0 1) s.bootRec.level = true →
      p.f 4 8 + p.dataLen ≤ 64 * (partitionSpan (p.f 0 1)).2 * 4096 →
    exec (.vaultRead op [] []) s = .next (s.reply p St.ok 0
      (fit p.dataLen (((List.range ((p.dataLen + 4095) / 4096)).map (p.f 4 8 / 4096 + ·)).flatMap (s.vaultPage (p.f 0 1)))))) ∧
  (∀ (s : State) (op : PktOp) (p : Packet) (bad : List Nat) (weak : List (Nat × Nat)), s.takes op 0x0B01 p → s.mason.lowering = false →
      readable (p.f 0 1) s.bootRec.level = false → exec (.vaultRead op bad weak) s = .next (s.fail p St.vaultProtected)) ∧
  (∀ (s : State) (op : PktOp) (p : Packet), s.takes op 0x0B02 p → s.mason.lowering = false → s.canProgram = true → s.bootRec.level ≤ p.f 0 1 →
    exec (.vaultProtectRaise op) s = .next (if p.f 0 1 = s.bootRec.level then s.replyOk p else
      ((s.writeBoot fun b => { b with level := p.f 0 1 }).raise Ev.vaultProtection (le 1 s.bootRec.level ++ le 1 (p.f 0 1))).replyOk p)) ∧
  (∀ (s : State) (op : PktOp) (p : Packet), s.takes op 0x0B02 p → s.mason.lowering = false → s.vaultReady = true → p.f 0 1 < s.bootRec.level → p.f 1 1 = 0xA5 →
    exec (.vaultProtectLower op) s = .next (State.replyOk p (State.raise Ev.vaultProtection (le 1 s.bootRec.level ++ le 1 (p.f 0 1))
      { s.abortUpdate.writeBoot fun b => { b with lowerPending := p.f 0 1 } with mason.lowering := true }))) ∧
  (∀ s : State, s.mason.lowering = true → s.vaultReady = true → exec .vaultLoweringComplete s = .next s.completeLowering) ∧
  (∀ s : State, s.completeLowering.mason.lowering = false ∧ s.completeLowering.vault.images = [{}, {}] ∧ s.completeLowering.vault.summaries = []) ∧
  (∀ (s : State) (l : Nat) (rest : List Nat), s.vault.weak = l :: rest → l < 16 →
    exec .vaultWeakBlockCopy s = .next (s.updVault fun v => { v with weak := rest })) ∧
  (∀ (s : State) (l n : Nat) (rest : List Nat) (v : Vault), s.vault.weak = l :: rest → 16 ≤ l → s.vault.takeSpare = some (n, v) → s.vaultReady = true →
    ∃ t, exec .vaultWeakBlockCopy s = .next t ∧ t.vault.weak = rest ∧ t.vault.phys l = n ∧ s.vault.phys l ∈ t.vault.returned) ∧
  (∀ (s : State) (b c : LogBlock) (rest : List LogBlock), s.vault.log = b :: c :: rest → s.vault.logErased < 64 → s.vaultReady = true →
      (∀ t, s.vault.lastReclaim = some t → t + 100000000 ≤ s.now) →
    exec .logBlockReclaim s = .next ((((s.vault.kept b).foldl (fun s r => s.copyRecord r)
      (s.updVault fun v => { v with log := c :: rest })).vaultErase (logFirst + b.block)).updVault fun v => { v with lastReclaim := some s.now })) ∧
  (∀ (s : State) (op : PktOp) (p : Packet) (n : Nat), s.takes op 0x0B03 p → s.mason.lowering = false → s.openSlot = some n → s.digest.grant34 = none →
    exec (.updateOpen op) s = .next (if s.bootRec.digest = fit 32 (sha 1 (p.buffer op)) then
      s.reply p St.ok (openResult (s.image n).held.length s.bootRec.updateId) [] else s.fail p St.updateOpen)) ∧
  (∀ (s : State) (op : PktOp) (p : Packet) (slot : Nat), s.takes op 0x0B03 p → s.mason.lowering = false → s.openSlot = none →
      slot = (if p.f 0 1 = 0xFF then (if s.bootRec.active = 0 then 1 else 0) else p.f 0 1) → s.slotInUse slot = false →
      manifestFault (p.buffer op) (p.buffer op).length = none → manifestEncrypted (p.buffer op) = false → s.bootRec.level ≠ 2 →
      (s.chan 34).state = .free → s.digest.taken34 = false → s.vaultReady = true →
    exec (.updateOpen op) s = .next (s.openUpdate slot (p.buffer op) p)) ∧
  (∀ (s : State) (op : PktOp) (p : Packet) (failure slot : Nat) (plain : List Byte), s.takes op 0x0B04 p → s.mason.lowering = false →
      s.updateSlot (p.f 0 4) = some slot → p.f 4 2 < chunkCount (s.image slot).manifest →
      p.dataLen = chunkLen (s.image slot).manifest (p.f 4 2) + (if manifestEncrypted (s.image slot).manifest then 16 else 0) →
      (s.image slot).holds (p.f 4 2) = false → chunkPlain (s.image slot).manifest (p.f 4 2) (p.buffer op) = some plain →
      fit 32 (sha 1 plain) = slice (s.image slot).manifest (384 + 32 * p.f 4 2) 32 → s.vaultReady = true →
      (s.writeBlock (imageBlock slot + 1 + p.f 4 2) failure).1 = true →
    exec (.updateChunk op failure) s = .next (((s.writeBlock (imageBlock slot + 1 + p.f 4 2) failure).2.updImage slot fun x =>
      { x with chunks := x.chunks.set (p.f 4 2) { data := plain, mac := sealOf (s.image slot).manifest (p.f 4 2) plain } }).replyOk p)) ∧
  (∀ (s : State) (op : PktOp) (p : Packet) (failure : Nat), s.takes op 0x0B04 p → s.mason.lowering = false → s.updateSlot (p.f 0 4) = none →
    exec (.updateChunk op failure) s = .next (s.fail p St.updateUnknown)) ∧
  (∀ (s : State) (op : PktOp) (p : Packet), s.takes op 0x0B05 p → s.mason.lowering = false → exec (.updateStatus op) s = .next (s.reply p St.ok 0
    (le 4 s.bootRec.updateId ++ le 1 (s.openSlot.getD 0xFF) ++ zeros 1 ++ le 2 ((s.openSlot.map fun n => chunkCount (s.image n).manifest).getD 0) ++
      le 2 s.heldChunks.length ++ zeros 6 ++ le 64 ((s.heldChunks.map fun i => 2 ^ i).sum)))) ∧
  (∀ (s : State) (op : PktOp) (p : Packet) (slot : Nat) (t : State), s.takes op 0x0B06 p → s.mason.lowering = false → s.updateSlot (p.f 0 4) = some slot →
      chunkCount (s.image slot).manifest ≤ (s.image slot).held.length → s.canProgram = true →
      t = { s with mason.vault.boot := { s.bootRec.setSlot slot 2 with pending := slot, attempts := 0, seq := s.bootRec.seq + 1 }, mason.closedUpdate := s.direct.recoveryBoot } →
    exec (.updateClose op) s = .next (State.replyOk p (State.raise Ev.updateClosed
      (le 4 t.bootRec.updateId ++ le 1 slot ++ le 4 (t.bootRec.versions.getD slot 0)) t.release34))) ∧
  (∀ (s : State) (op : PktOp) (p : Packet) (slot : Nat), s.takes op 0x0B06 p → s.mason.lowering = false → s.updateSlot (p.f 0 4) = some slot →
      (s.image slot).held.length < chunkCount (s.image slot).manifest →
    exec (.updateClose op) s = .next (s.reply p St.updateIncomplete (chunkCount (s.image slot).manifest - (s.image slot).held.length) [])) ∧
  (∀ (s : State) (op : PktOp) (p : Packet) (slot : Nat), s.takes op 0x0B07 p → s.mason.lowering = false → s.updateSlot (p.f 0 4) = some slot → s.canProgram = true →
    exec (.updateAbort op) s = .next (State.replyOk p (s.writeBoot fun b => b.setSlot slot 0).release34)) ∧
  (∀ (s : State) (op : PktOp) (p : Packet), s.takes op 0x0B08 p → s.mason.lowering = false → s.direct.phase = 5 → s.bootRec.slot s.mason.slot = 3 →
      s.canProgram = true → s.openSlot = none →
    exec (.imageConfirm op) s = .next (State.replyOk p (State.raise Ev.imageConfirmed
      (le 1 s.mason.slot ++ le 4 ((s.bootRec.confirmed s.mason.slot (s.image s.mason.slot).manifest).versions.getD s.mason.slot 0) ++
        le 4 (s.bootRec.confirmed s.mason.slot (s.image s.mason.slot).manifest).floor ++
        le 1 (s.bootRec.confirmed s.mason.slot (s.image s.mason.slot).manifest).revoked)
      (s.writeBoot fun b => b.confirmed s.mason.slot (s.image s.mason.slot).manifest)))) ∧
  (∀ (s : State) (op : PktOp) (p : Packet), s.takes op 0x0B09 p → s.mason.lowering = false → s.canProgram = true →
    exec (.imageSelect op) s = .next (if s.bootRec.slot (p.f 0 1) = 4 then (s.writeBoot fun b => { b with pending := p.f 0 1 }).replyOk p
      else s.fail p St.slotState)) ∧
  (∀ (s : State) (op : PktOp) (p : Packet), s.takes op 0x0B0A p → s.mason.lowering = false →
    exec (.settingsReset op) s = .next ((s.updVault fun v => { v with resetSettings := true }).replyOk p))

/-- A fatal fault with no dump running starts one: PHASE 9, DUMP_STATUS.STATE 1. When the sections are copied the
header says 2, or 3 when a section failed, and the summary is written to the Vault before the fatal reset begins.
FAULT_STATUS, ERROR_LOG_READ and DUMP_SUMMARY_LIST write what R453 lists; ERROR_LOG_CLEAR drops the records up to a
stamp; DUMP_CLEAR of the held dump clears its status and header and raises EV_DUMP_CLEARED. FOOTING_ENTER with its
magic enters footing mode with cause 5, and FOOTING_EXIT leaves it when its cause no longer holds. FAULT_INJECT arms
at protection level 0 or in boot mode 2. (R429, R430, R434, R435, R438, R440, R447, R448, R451, R453) -/
def Obligations.FaultPacketsAct : Prop :=
  (∀ (s : State) (f : FatalFault), s.dump.fault = some f → s.dump.stage = .none → s.power.internalReset = false → exec .rubbleDump s = .next (s.startDump f)) ∧
  (∀ (s : State) (f : FatalFault), (s.startDump f).direct.phase = 9 ∧ (s.startDump f).dump.stage = .copying ∧ (s.startDump f).dump.state = 1 ∧
    (s.startDump f).power.drain = .none ∧ (s.startDump f).head.joined = false) ∧
  (∀ (s : State) (m : DumpImage) (faults : List (Nat × Nat)) (failed : List Nat) (h : DumpHeader), s.dump.image = some m → s.dump.stage = .copying →
      s.power.internalReset = false → h = m.header.ended failed s.dump.second s.now →
    exec (.dumpSectionsCopied faults failed) s = .next { s.granted with
      dump := { s.dump with stage := .copied, state := if failed = [] then 2 else 3, size := h.dumpSize, image := some (s.granted.dumpImage h faults failed) } }) ∧
  (∀ (s : State) (m : DumpImage) (t : State), s.dump.image = some m → s.dump.stage = .copied → s.power.internalReset = false → s.power.selfRefreshing = false →
      t = s.writeSummary { header := m.header, image := some m } →
    exec .vaultSummaryWritten s = .next (State.beginReset { t with dump := { t.dump with vaultSummary := s.canErase && s.canProgram } })) ∧
  (∀ (s : State) (op : PktOp) (p : Packet), s.takes op 0x0C00 p → exec (.faultStatus op) s = .next (s.reply p St.ok 0
    (le 1 s.run.lastCause ++ le 1 (if s.footing.active then s.footing.cause else 0) ++ le 1 (boolNat s.footing.active) ++ zeros 1 ++
      le 4 s.events.errors.length ++ le 2 (s.events.errors.filter fun r => r.severity == 3).length ++ zeros 2 ++ le 8 s.events.dropped ++
      le 8 ((s.heldDump.map fun m => m.header.seq).getD 0) ++ le 1 s.dump.state ++ le 1 s.validSummaries.length ++ le 1 s.recentFatal ++ zeros 5 ++
      le 8 s.lastFatalStamp ++ zeros 16))) ∧
  (∀ (s : State) (op : PktOp) (p : Packet), s.takes op 0x0C01 p → exec (.errorLogRead op) s = .next (s.reply p St.ok
    ((s.events.errors.drop (p.f 0 2)).take (p.f 2 2)).length (((s.events.errors.drop (p.f 0 2)).take (p.f 2 2)).flatMap ErrorRecord.bytes))) ∧
  (∀ (s : State) (op : PktOp) (p : Packet) (rs : List ErrorRecord), s.takes op 0x0C02 p →
      rs = (s.events.errors.filter fun r => decide (p.f 0 8 < r.lastStamp) || s.events.waits r) →
    exec (.errorLogClear op) s = .next (State.replyOk p { s with events := { s.events with
      errors := rs, highRaised := s.events.highRaised && decide (2048 ≤ rs.length) } })) ∧
  (∀ (s : State) (op : PktOp) (p : Packet) (m : DumpImage), s.takes op 0x0C03 p → s.heldDump = some m → m.header.seq = p.f 0 8 →
    exec (.dumpClear op) s = .next (State.replyOk p (State.raise Ev.dumpCleared (le 8 m.header.seq)
      { s with dump := { s.dump with state := 0, vaultSummary := false, size := 0, wiped := true } }))) ∧
  (∀ (s : State) (op : PktOp) (p : Packet), s.takes op 0x0C03 p → s.heldDump = none → exec (.dumpClear op) s = .next (s.fail p St.dumpNone)) ∧
  (∀ (s : State) (op : PktOp) (p : Packet), s.takes op 0x0C04 p → exec (.dumpSummaryList op) s = .next (s.reply p St.ok 0 ((List.range 64).flatMap s.summaryEntry))) ∧
  (∀ (s : State) (op : PktOp) (p : Packet), s.takes op 0x0C05 p → exec (.footingEnter op) s = .next (if p.f 0 1 = 0xA5 then (s.enterFooting 5).replyOk p else
    s.failField p St.invalidField 0)) ∧
  (∀ (s : State) (op : PktOp) (p : Packet), s.takes op 0x0C06 p → s.footing.active = true → s.footingMayEnd = true →
    exec (.footingExit op) s = .next (s.leaveFooting.replyOk p)) ∧
  (∀ (s : State) (op : PktOp) (p : Packet), s.takes op 0x0C06 p → s.footing.active = false → exec (.footingExit op) s = .next (s.fail p St.notFooting)) ∧
  (∀ (s : State) (op : PktOp) (p : Packet), s.takes op 0x0C07 p → s.bootRec.level = 0 ∨ s.power.bootMode = 2 →
    exec (.faultInject op) s = .next (State.replyOk p { s with run := { s.run with inject := some (p.f 0 1, p.f 1 1) } }))

/-- For every command, state and rest of the queue, step of the state with the command at the front of its queue is
exec of the command on that state with the rest as its queue. The queue of waiting commands is the model's form of the
block's one sender (log entries 1 and 2). (00 scope, R80, R85) -/
def Obligations.StepRunsFront : Prop :=
  ∀ (c : Instr) (rest : List Instr) (s : State),
    step { s with pending := c :: rest } = exec c { s with pending := rest }

/-- With no command waiting a step answers the state with the stamp counter advanced by 1 and nothing else changed; 64
such steps are one tick. That an idle step stands for one nanosecond is the model's choice (log entry 2). (R29, R31)
-/
def Obligations.EmptyQueueLetsTimePass : Prop :=
  (∀ s : State, s.pending = [] → step s = .next { s with now := s.now + 1 }) ∧
  (∀ s : State, s.now % 64 = 0 → State.tick { s with now := s.now + 63 } = s.tick ∧ State.tick { s with now := s.now + 64 } = s.tick + 1)

/-- In the state after reset the queue is empty, internal reset is held, PWR_GOOD is 0, the bypass is closed,
SMB_THERM_SET is 0x0640, SMB_THERM_HYST 5, SMB_ALERT_MASK and SMB_TJ_SEL 0, every ring pair and the event ring are
DISABLED, every KS_PRIO register is 0x000000FF, the event backlog and the error log are empty and no event is masked,
the direct registers STAMP_HI, SCRATCH and DUMP_WINDOW_BASE are 0. These are values the spec gives; registers whose
reset value the model names are in log entries, not here. (R39, R54, R58, R61, R62, R72, R75, R88, R89, R90, R429,
R457) -/
def Obligations.ResetHoldsTheListedValues : Prop :=
  State.reset.pending = [] ∧ State.reset.power.internalReset = true ∧ State.reset.power.pwrGood = false ∧
    State.reset.power.bypassClosed = true ∧ State.reset.power.thermSet = 0x0640 ∧ State.reset.power.thermHyst = 5 ∧
    State.reset.power.alertMask = 0 ∧ State.reset.power.tjSel = 0 ∧
    (∀ r ∈ State.reset.pcie.rings, r.state = .disabled) ∧ State.reset.pcie.rings.length = 16 ∧
    State.reset.pcie.evq.state = .disabled ∧ (∀ v ∈ State.reset.direct.ksPrio, v = 0xFF) ∧
    State.reset.events.backlog = [] ∧ State.reset.events.errors = [] ∧ State.reset.events.masked = [] ∧
    State.reset.direct.stampHi = 0 ∧ State.reset.direct.scratch = 0 ∧ State.reset.direct.dumpWindowBase = 0

/-- At reset the event backlog holds at most 1,024 events and the error log at most 4,096 records. (R88, R429) -/
def Obligations.InvariantAtReset : Prop :=
  State.reset.Inv

/-- From every state whose event backlog holds at most 1,024 events and whose error log holds at most 4,096 records, a
step that answers a next state answers one of which the same holds: no command, packet, received frame, fault, timer
or reset overfills either (R88: a full backlog loses or displaces; R430: a full log replaces a record or drops the new
one). (R74, R88, R89, R427, R429, R430, R453) -/
def Obligations.EveryStepKeepsTheEventBounds : Prop :=
  ∀ s t : State, s.Inv → step s = .next t → t.Inv

/-- For every state, whatever command is at the front of its queue, a step answers a next state: a command whose
trigger does not hold changes nothing (the model's choice, log entry 1), a packet that cannot take effect is answered
by a status, and no fault or refusal is left. (00 scope, R79, R92) -/
def Obligations.EveryStepAnswersANextState : Prop :=
  ∀ s : State, ∃ t, step s = .next t

/-- Entering an event in a backlog with room appends it and loses none. In a full backlog of 1,024 an event of
severity 0 or 1 is lost: the backlog stays as it is and EVQ_LOST and lost_count count one. An event of severity 2 or 3
displaces the oldest backlog event of severity 0 or 1, found as the first of its severity (every older one is
severer), one loss is counted and the length stays; with no such event it is lost. (R88) -/
def Obligations.FullBacklogLosesOrDisplaces : Prop :=
  (∀ (v : Events) (e : Event), v.backlog.length < 1024 → v.enqueue e = { v with backlog := v.backlog ++ [e] }) ∧
  (∀ (v : Events) (e : Event), 1024 ≤ v.backlog.length → e.severity < 2 →
    (v.enqueue e).backlog = v.backlog ∧ (v.enqueue e).lost = satAdd 64 v.lost 1 ∧ (v.enqueue e).lostSince = satAdd 16 v.lostSince 1) ∧
  (∀ (v : Events) (e m : Event) (before after : List Event), 1024 ≤ v.backlog.length → 2 ≤ e.severity →
      v.backlog = before ++ m :: after → m.severity < 2 → (∀ x ∈ before, 2 ≤ x.severity) →
    (v.enqueue e).backlog = before ++ after ++ [e] ∧ (v.enqueue e).lost = satAdd 64 v.lost 1 ∧
      (v.enqueue e).lostSince = satAdd 16 v.lostSince 1) ∧
  (∀ (v : Events) (e : Event), 1024 ≤ v.backlog.length → 2 ≤ e.severity → (∀ x ∈ v.backlog, 2 ≤ x.severity) →
    (v.enqueue e).backlog = v.backlog ∧ (v.enqueue e).lost = satAdd 64 v.lost 1)

/-- Writing an error record never lengthens a log of 4,096, and lengthens a shorter one by one exactly when no record
of the same code and location has its last stamp within 2^30 counts; when one has, the log's length stays, and in a
full log from which no record may be removed the new one is counted as dropped and the log is as it was. (R429, R430)
-/
def Obligations.ErrorRecordsMergeOrReplace : Prop :=
  ∀ (v : Events) (code sev cls island stamp loc : Nat) (ps : List Byte), v.errors.length ≤ 4096 →
    (v.record code sev cls island stamp loc ps).errors.length ≤ 4096 ∧
      (v.errors.any (fun r => mergesWith r code loc stamp) = true → (v.record code sev cls island stamp loc ps).errors.length = v.errors.length) ∧
      (v.errors.any (fun r => mergesWith r code loc stamp) = false → v.errors.length < 4096 →
        (v.record code sev cls island stamp loc ps).errors.length = v.errors.length + 1) ∧
      (v.errors.any (fun r => mergesWith r code loc stamp) = false → v.errors.length = 4096 → v.evict v.errors = none →
        (v.record code sev cls island stamp loc ps).errors = v.errors ∧ (v.record code sev cls island stamp loc ps).dropped = v.dropped + 1)

/-- When the log makes room it removes exactly one record: of severity 2, with no event of its in the backlog, and
every older record is of another severity or has an event that still waits. (R430) -/
def Obligations.EvictionSparesWaitingAndFatalRecords : Prop :=
  ∀ (v : Events) (l rest : List ErrorRecord), v.evict l = some rest →
    ∃ before r after, l = before ++ r :: after ∧ rest = before ++ after ∧ r.severity = 2 ∧ v.waits r = false ∧
      ∀ x ∈ before, x.severity ≠ 2 ∨ v.waits x = true

/-- Of the packets of a ring in slot order, an ordered packet is among those started only when it is the first; then
it is the only one. A packet that has started stands before every ordered packet other than itself. (R84) -/
def Obligations.OrderedPacketsStartAlone : Prop :=
  (∀ (l : List Packet) (p : Packet), p ∈ startedIn l → p.ordered = true → startedIn l = [p] ∧ l.head? = some p) ∧
  (∀ (before after : List Packet) (q p : Packet), q.ordered = true → before ≠ [] → p ∈ startedIn (before ++ q :: after) → p ∈ before)

/-- The packet that a command runs is in progress under the accept stamp named, is of the command's opcode, has
started and is not waiting; and every started packet of a lower accept stamp, and every other one whose long work has
not ended, acts on another object, unless it is queued for a resource. (R82, R84, R85) -/
def Obligations.ReadyPacketIsFirstOnItsObject : Prop :=
  ∀ (s : State) (op : PktOp) (opcode : Nat) (p : Packet), s.ready op opcode = some p →
    (p ∈ s.started ∧ p.acc = op.acc ∧ p.opcode = opcode ∧ p.waiting = false ∧
      ∀ q ∈ s.started, q.queued = false → (q.acc < p.acc ∨ (q.waiting = true ∧ q.acc ≠ p.acc)) → ∀ o, p.object = some o → q.object ≠ some o)

/-- The request that a contest grants is one of those that compete, and no competing request has a lower effective
rank, or the same rank and an earlier request tick, or the same rank and tick and a lower requester index. (R380) -/
def Obligations.ContestGrantsLowestRankEarliestTick : Prop :=
  ∀ (l : List (Nat × KsRequest)) (q : Nat × KsRequest), bestOf l = some q →
    q ∈ l ∧ ∀ r ∈ l, ¬ r.1 < q.1 ∧ (r.1 = q.1 → ¬ r.2.tick < q.2.tick) ∧
      (r.1 = q.1 → r.2.tick = q.2.tick → ¬ r.2.requester < q.2.requester)

/-- Under every priority register a request of rank 0 or 1 competes at its own rank; and under a register as KS_PRIO
stores it, no request of rank 2 to 7 competes at rank 0 or 1. (R90, R381) -/
def Obligations.RanksZeroAndOneStand : Prop :=
  (∀ prio rank : Nat, rank < 2 → effectiveRank prio rank = some rank) ∧
  (∀ v rank e : Nat, 2 ≤ rank → effectiveRank (ksPrioStored v) rank = some e → 2 ≤ e)

/-- The n bytes of a number, least significant first, read as the number modulo 2^(8n), which is the byte order of R7;
and each field of a location code whose fields are in their ranges is read back from its bits. (R7, R13) -/
def Obligations.LittleEndianFieldsReadBack : Prop :=
  (∀ n v : Nat, (le n v).length = n ∧ ofLe (le n v) = v % 256 ^ n) ∧
  (∀ die island tile macr word sym depth : Nat, die < 8 → island < 64 → tile < 256 → macr < 256 → word < 2 ^ 23 → sym < 256 → depth < 16 →
    bits (location die island tile macr word sym depth) 63 61 = die ∧ bits (location die island tile macr word sym depth) 60 55 = island ∧
      bits (location die island tile macr word sym depth) 54 47 = tile ∧ bits (location die island tile macr word sym depth) 46 39 = macr ∧
      bits (location die island tile macr word sym depth) 38 16 = word ∧ bits (location die island tile macr word sym depth) 15 8 = sym ∧
      bits (location die island tile macr word sym depth) 3 0 = depth ∧ bits (location die island tile macr word sym depth) 7 4 = 0)

/-- Under one key of 32 bytes (AES-256) and one initialisation vector, decrypting the encryption of a byte string
gives the string back, and the ciphertext is as long as the plaintext. (R210) -/
def Obligations.CounterModeDecryptsWhatItEncrypted : Prop :=
  ∀ (key iv b : List Byte), key.length = 32 → gcmDec key iv (gcmEnc key iv b) = b ∧ (gcmEnc key iv b).length = b.length

/-- Writing any reply leaves every register group but the PCIe function, the events and the output record as it was; a
status other than ST_OK is such a reply and nothing more, so a packet refused has changed nothing else. Event
counters, masks, sequence number, losses and the error log are unchanged. (R67, R69, R72, R76, R79, R83) -/
def Obligations.ReplyFrame : Prop :=
  ∀ (s : State) (p : Packet) (st res : Nat) (d : List Byte),
    ∃ pc ev o, s.reply p st res d = { s with pcie := pc, events := ev, out := o } ∧
      ev.counters = s.events.counters ∧ ev.masked = s.events.masked ∧ ev.seq = s.events.seq ∧ ev.lost = s.events.lost ∧
      ev.errors = s.events.errors ∧ pc.evq = s.pcie.evq

/-- While DMA is possible and no reply of the pair has been refused, with IRQ_EN 0, a reply is written at RQ_TAIL with
the ring's phase and the submission head, and the tail moves on, to 0 with the phase inverted after the last slot;
while DMA is stopped it is kept on chip; once a reply has been refused it is discarded and LOST_REPLIES counts it.
(R67, R69, R72, R83) -/
def Obligations.ReplyIsWrittenAtTheTail : Prop :=
  (∀ (s : State) (n : Nat) (p : PendingReply), (s.ring n).refused = false → s.dma = true → (s.ring n).irqEn = false →
    (s.writeReply n p) = (s.setRing n (if (s.ring n).rqTail + 1 = 2 ^ (s.ring n).sizeLog2
        then { s.ring n with rqTail := 0, phase := !(s.ring n).phase } else { s.ring n with rqTail := (s.ring n).rqTail + 1 })).emit
      (.reply (s.ring n).rqTail
        { status := p.status
          opcode := p.opcode
          tag := p.tag
          sqHead := (s.ring n).sqHead
          ring := n
          phase := (s.ring n).phase
          dataOut := p.dataOut
          acc := p.acc
          result := p.result
          dataAt := p.dataAt })) ∧
  (∀ (s : State) (n : Nat) (p : PendingReply), (s.ring n).refused = false → s.dma = false →
    s.writeReply n p = { s.setRing n { s.ring n with held := (s.ring n).held ++ [{ p with order := s.pcie.finished }] } with
      pcie.finished := s.pcie.finished + 1 }) ∧
  (∀ (s : State) (n : Nat) (p : PendingReply), (s.ring n).refused = true →
    s.writeReply n p = s.setRing n { s.ring n with lostReplies := min ((s.ring n).lostReplies + 1) 65535 })

/-- Shown on NOP and CHIP_RESET: a command that names no packet that may take effect changes nothing (the model's
choice, log entry 1); an internal fault found raises EV_INTERNAL_FAULT at its site and answers ST_INTERNAL; a data
buffer that DMA cannot reach is answered ST_DATA_FAULT, and nothing else is done. (R67, R84, R85, R92, R455) -/
def Obligations.PacketThatMayNotRunOrFails : Prop :=
  (∀ (s : State) (op : PktOp), s.ready op 0 = none → exec (.nop op) s = .next s) ∧
  (∀ (s : State) (op : PktOp) (p : Packet) (l : BitVec 64), s.ready op 0x24 = some p → op.internal = some l →
    exec (.chipReset op) s = .next (State.fail p St.internal
      (s.raiseAt l.toNat Ev.internalFault (le 2 p.opcode ++ le 4 p.tag ++ le 1 p.ring)))) ∧
  (∀ (s : State) (op : PktOp) (p : Packet), s.ready op 0 = some p → op.internal = none → 0 < p.dataLen → (op.dma && s.dma) = false →
    exec (.nop op) s = .next (s.fail p St.dataFault))
end

