-- ==== Sys2Proof/Laws/Packet.lean ====
section
/-! SUPPORT. What the shared forms of a command's outcome do: the guards, and the frame of the packet commands. -/

namespace Sys2Proof.Laws
open Sys2Proof.Machine

/-- A guarded command always answers a next state. -/
theorem onlyIf_next (c : Bool) (s t : State) : onlyIf c s t = .next (if c then t else s) := rfl

theorem onlyIf_of_true {c : Bool} (h : c = true) (s t : State) : onlyIf c s t = .next t := by simp [onlyIf, h]

theorem onlyIf_of_false {c : Bool} (h : c = false) (s t : State) : onlyIf c s t = .next s := by simp [onlyIf, h]

theorem dataIf_next (c : Bool) (s t : State) : dataIf c s t = .next (if s.runs && c then t else s) := rfl

theorem dataIf_of_true {c : Bool} {s : State} (h : (s.runs && c) = true) (t : State) : dataIf c s t = .next t := by
  simp [dataIf, onlyIf, h]

/-- Everything a packet command can do: nothing while its packet may not take effect, ST_INTERNAL, ST_DATA_FAULT, or its effect. -/
theorem packetRun_cases (opcode : Nat) (op : PktOp) (s : State) (effect : Packet → State → State) :
    (s.ready op opcode = none ∧ packetRun opcode op s effect = .next s) ∨
    (∃ p loc, s.ready op opcode = some p ∧ op.internal = some loc ∧ packetRun opcode op s effect = .next (s.internalFault p loc)) ∨
    (∃ p, s.ready op opcode = some p ∧ op.internal = none ∧ packetRun opcode op s effect = .next (s.fail p St.dataFault)) ∨
    (∃ p, s.takes op opcode p ∧ packetRun opcode op s effect = .next (effect p s)) := by
  unfold packetRun State.takes
  cases hr : s.ready op opcode with
  | none => simp
  | some p =>
    cases hi : op.internal with
    | some loc => simp
    | none =>
      by_cases hd : (decide (0 < p.dataLen) && !(op.dma && s.dma)) = true
      · simp_all
      · simp_all
        grind

/-- A packet that takes effect takes its own. -/
theorem packetRun_takes {opcode : Nat} {op : PktOp} {s : State} {p : Packet} (h : s.takes op opcode p)
    (effect : Packet → State → State) : packetRun opcode op s effect = .next (effect p s) := by
  obtain ⟨hr, hi, hd⟩ := h
  unfold packetRun
  simp only [hr, hi]
  rcases hd with hd | hd
  · simp [hd]
  · simp [hd]

/-- A class-0x0B packet that takes effect while no lowering erase runs takes its own (R401). -/
theorem vaultRun_takes {opcode : Nat} {op : PktOp} {s : State} {p : Packet} (h : s.takes op opcode p) (hl : s.mason.lowering = false)
    (effect : Packet → State → State) : vaultRun opcode op s effect = .next (effect p s) := by
  refine (packetRun_takes h _).trans ?_
  simp [hl]

/-- An admin command that is taken takes its effect on the state without its capsule. -/
theorem adminRun_takes {s : State} {conn : Nat} {fits : List Byte → Bool} {cap : List Byte} {c : Nat} {x : Controller}
    (h : s.takesAdmin conn fits cap c x) (effect : List Byte → Nat → Controller → State → State) :
    adminRun conn fits s effect = .next (effect cap c x (s.taken conn)) := by
  obtain ⟨h1, h2, h3, h4, h5, h6⟩ := h
  unfold adminRun
  simp only [h1, h2, h3, h4, h5]
  rcases h6 with h6 | h6
  · have : x.subsys.isNone = false := by cases hx : x.subsys <;> simp_all
    simp only [this]; rfl
  · simp only [h6, ite_self]; rfl

/-- An I/O command that is taken takes its effect, its stamp the counter's value. -/
theorem ioRun_takes {s : State} {conn opcode : Nat} {cap : List Byte} {c sub : Nat} (h : s.takesIo conn opcode cap c sub)
    (effect : List Byte → Nat → Nat → State → State) :
    ioRun conn opcode s effect = .next (effect cap c s.now (s.taken conn)) := by
  obtain ⟨h1, h2, h3, h4, h5, h6, h7⟩ := h
  unfold State.taken at *
  unfold ioRun
  simp only [h1, h2, h3, h5, h6]
  rw [if_neg (by simp [h4]), if_neg]
  intro hc
  simp only [Bool.and_eq_true, Bool.or_eq_true, decide_eq_true_eq, Option.isNone_iff_eq_none] at hc
  have h8 := h7 (hc.1.elim (fun h => h.elim Or.inl fun h => Or.inr (Or.inl h)) fun h => Or.inr (Or.inr h))
  rw [hc.2] at h8; cases h8

/-- A peer message that is taken takes its effect. -/
theorem peerRun_takes {s : State} {conn kind h lane : Nat} {m : PeerMsg} {b : List Byte} {rest : List (List Byte)}
    (ht : s.takesPeer conn kind h lane m b rest) (effect : Nat → Nat → PeerMsg → State → State) :
    peerRun conn kind s effect = .next (effect h lane m (s.peerTaken conn m rest)) := by
  obtain ⟨h1, h2, h3, h4, h5, h6⟩ := ht
  subst h3
  unfold peerRun
  simp only [h1, h5, h2, h6, h4, ne_eq, not_true, if_false, Bool.not_true]
  rfl

/-- A session message that is taken takes its effect, and leaves the connection when it has been used. -/
theorem replRun_takes {s : State} {i kind : Nat} {m : PeerMsg} {b : List Byte} (ht : s.takesRepl i kind m b)
    (effect : PeerMsg → State → Bool × State) (hy : (effect m s).1 = true) :
    replRun i kind s effect = .next ((effect m s).2.replTaken i m) := by
  obtain ⟨h1, h2, h3, h4, h5⟩ := ht
  subst h2
  unfold replRun
  simp only [h4, h1, h5, h3, hy, ne_eq, not_true, if_false, Bool.not_true]
  rfl

/-- A packet that names a session runs on it. -/
theorem onSession_takes {s : State} {op : PktOp} {opcode : Nat} {p : Packet} {i : Nat} (h : s.takesSession op opcode p i)
    (f : Packet → Nat → Session → State → State) :
    packetRun opcode op s (fun p s => s.onSession p (f p)) = .next (f p i (s.session i) s) := by
  obtain ⟨h1, h2, h3, h4, h5⟩ := h
  refine (packetRun_takes h1 _).trans ?_
  simp only [State.onSession, State.configured, State.ownerOnly, h3, if_neg h2, if_neg h4, h5, if_true]

/-- A response that is taken has its effect on the state without its command. -/
theorem answer_takes {s : State} {r : PlResponse} {opcodes : List Nat} {c : PlCmd} (h : s.takesAnswer r opcodes c)
    (f : PlCmd → State → State) : s.answer r opcodes f = (f c (s.answered r c)).sendHeld r.module := by
  obtain ⟨h1, h0, h2, h3, h4, h5⟩ := h
  have hl : (s.heard r.link 1).lateRetry r.module r.cmdId = s.heard r.link 1 := by
    unfold State.lateRetry; simp [h1, h0]
  unfold State.answer
  simp only [hl, h1, h2, if_neg h3, if_neg h4, if_neg h5]
  rfl

/-- A ring frame that is taken runs its effect. -/
theorem ringRun_takes {s : State} {typ : Nat} {f : RingFrame} (h : s.takesRing typ f) (later act : State → State) :
    ringRun typ f s later act = .next (act (s.ringTaken f)) := by
  obtain ⟨h1, h2, h3, h4, h5, h6, h7⟩ := h
  subst h2
  have h3' : decide (2 ≤ f.direction) = false := by simp; omega
  unfold ringRun State.ringTaken
  simp only [h1, h3', h4, h5]
  by_cases h8 : 2 ≤ f.ttl
  · have h6' : (s.emit (.ring f.direction f.typ f.origin (f.ttl - 1) f.seq f.body)).head.peers.has f.origin = true := h6
    have h7' : ((s.emit (.ring f.direction f.typ f.origin (f.ttl - 1) f.seq f.body)).peer f.origin).seqs.contains f.seq = false := h7
    simp only [if_pos h8, h6', h7']
    simp; rfl
  · simp only [if_neg h8, h6, h7]
    simp

/-- Two updates of one link are one. -/
theorem updLink_updLink (l : Nat) (f g : Link → Link) (s : State) : (s.updLink l f).updLink l g = s.updLink l fun k => g (f k) := by
  unfold State.updLink State.link
  simp only [List.set_set]
  by_cases h : l < s.flash.links.length
  · simp [List.getD_eq_getElem?_getD, h]
  · simp [List.set_eq_of_length_le (Nat.le_of_not_lt h)]

end Sys2Proof.Laws
end

