-- ==== Sys2Proof/Laws/State.lean ====
section
/-! SUPPORT. The fields that each shared update of State leaves alone, one lemma per field. -/

namespace Sys2Proof.Laws
open Sys2Proof.Machine

/-! ### A message sent -/

@[simp] theorem emit_orderCode (o : Out) (s : State) :
    (s.emit o).orderCode = s.orderCode := rfl

@[simp] theorem emit_now (o : Out) (s : State) :
    (s.emit o).now = s.now := rfl

@[simp] theorem emit_power (o : Out) (s : State) :
    (s.emit o).power = s.power := rfl

@[simp] theorem emit_pcie (o : Out) (s : State) :
    (s.emit o).pcie = s.pcie := rfl

@[simp] theorem emit_events (o : Out) (s : State) :
    (s.emit o).events = s.events := rfl

@[simp] theorem emit_direct (o : Out) (s : State) :
    (s.emit o).direct = s.direct := rfl

@[simp] theorem emit_digest (o : Out) (s : State) :
    (s.emit o).digest = s.digest := rfl

@[simp] theorem emit_keys (o : Out) (s : State) :
    (s.emit o).keys = s.keys := rfl

@[simp] theorem emit_head (o : Out) (s : State) :
    (s.emit o).head = s.head := rfl

@[simp] theorem emit_domains (o : Out) (s : State) :
    (s.emit o).domains = s.domains := rfl

@[simp] theorem emit_mirror (o : Out) (s : State) :
    (s.emit o).mirror = s.mirror := rfl

@[simp] theorem emit_heads (o : Out) (s : State) :
    (s.emit o).heads = s.heads := rfl

@[simp] theorem emit_net (o : Out) (s : State) :
    (s.emit o).net = s.net := rfl

@[simp] theorem emit_nvme (o : Out) (s : State) :
    (s.emit o).nvme = s.nvme := rfl

@[simp] theorem emit_wp (o : Out) (s : State) :
    (s.emit o).wp = s.wp := rfl

@[simp] theorem emit_map (o : Out) (s : State) :
    (s.emit o).map = s.map := rfl

@[simp] theorem emit_flash (o : Out) (s : State) :
    (s.emit o).flash = s.flash := rfl

@[simp] theorem emit_stripe (o : Out) (s : State) :
    (s.emit o).stripe = s.stripe := rfl

@[simp] theorem emit_dram (o : Out) (s : State) :
    (s.emit o).dram = s.dram := rfl

@[simp] theorem emit_arbiters (o : Out) (s : State) :
    (s.emit o).arbiters = s.arbiters := rfl

@[simp] theorem emit_latency (o : Out) (s : State) :
    (s.emit o).latency = s.latency := rfl

@[simp] theorem emit_dump (o : Out) (s : State) :
    (s.emit o).dump = s.dump := rfl

@[simp] theorem emit_run (o : Out) (s : State) :
    (s.emit o).run = s.run := rfl

@[simp] theorem emit_footing (o : Out) (s : State) :
    (s.emit o).footing = s.footing := rfl

@[simp] theorem emit_templates (o : Out) (s : State) :
    (s.emit o).templates = s.templates := rfl

@[simp] theorem emit_mason (o : Out) (s : State) :
    (s.emit o).mason = s.mason := rfl

@[simp] theorem emit_free (o : Out) (s : State) :
    (s.emit o).free = s.free := rfl

@[simp] theorem emit_pending (o : Out) (s : State) :
    (s.emit o).pending = s.pending := rfl

/-! ### Messages sent -/

@[simp] theorem emitAll_orderCode (os : List Out) (s : State) :
    (s.emitAll os).orderCode = s.orderCode := rfl

@[simp] theorem emitAll_now (os : List Out) (s : State) :
    (s.emitAll os).now = s.now := rfl

@[simp] theorem emitAll_power (os : List Out) (s : State) :
    (s.emitAll os).power = s.power := rfl

@[simp] theorem emitAll_pcie (os : List Out) (s : State) :
    (s.emitAll os).pcie = s.pcie := rfl

@[simp] theorem emitAll_events (os : List Out) (s : State) :
    (s.emitAll os).events = s.events := rfl

@[simp] theorem emitAll_direct (os : List Out) (s : State) :
    (s.emitAll os).direct = s.direct := rfl

@[simp] theorem emitAll_digest (os : List Out) (s : State) :
    (s.emitAll os).digest = s.digest := rfl

@[simp] theorem emitAll_keys (os : List Out) (s : State) :
    (s.emitAll os).keys = s.keys := rfl

@[simp] theorem emitAll_head (os : List Out) (s : State) :
    (s.emitAll os).head = s.head := rfl

@[simp] theorem emitAll_domains (os : List Out) (s : State) :
    (s.emitAll os).domains = s.domains := rfl

@[simp] theorem emitAll_mirror (os : List Out) (s : State) :
    (s.emitAll os).mirror = s.mirror := rfl

@[simp] theorem emitAll_heads (os : List Out) (s : State) :
    (s.emitAll os).heads = s.heads := rfl

@[simp] theorem emitAll_net (os : List Out) (s : State) :
    (s.emitAll os).net = s.net := rfl

@[simp] theorem emitAll_nvme (os : List Out) (s : State) :
    (s.emitAll os).nvme = s.nvme := rfl

@[simp] theorem emitAll_wp (os : List Out) (s : State) :
    (s.emitAll os).wp = s.wp := rfl

@[simp] theorem emitAll_map (os : List Out) (s : State) :
    (s.emitAll os).map = s.map := rfl

@[simp] theorem emitAll_flash (os : List Out) (s : State) :
    (s.emitAll os).flash = s.flash := rfl

@[simp] theorem emitAll_stripe (os : List Out) (s : State) :
    (s.emitAll os).stripe = s.stripe := rfl

@[simp] theorem emitAll_dram (os : List Out) (s : State) :
    (s.emitAll os).dram = s.dram := rfl

@[simp] theorem emitAll_arbiters (os : List Out) (s : State) :
    (s.emitAll os).arbiters = s.arbiters := rfl

@[simp] theorem emitAll_latency (os : List Out) (s : State) :
    (s.emitAll os).latency = s.latency := rfl

@[simp] theorem emitAll_dump (os : List Out) (s : State) :
    (s.emitAll os).dump = s.dump := rfl

@[simp] theorem emitAll_run (os : List Out) (s : State) :
    (s.emitAll os).run = s.run := rfl

@[simp] theorem emitAll_footing (os : List Out) (s : State) :
    (s.emitAll os).footing = s.footing := rfl

@[simp] theorem emitAll_templates (os : List Out) (s : State) :
    (s.emitAll os).templates = s.templates := rfl

@[simp] theorem emitAll_mason (os : List Out) (s : State) :
    (s.emitAll os).mason = s.mason := rfl

@[simp] theorem emitAll_free (os : List Out) (s : State) :
    (s.emitAll os).free = s.free := rfl

@[simp] theorem emitAll_pending (os : List Out) (s : State) :
    (s.emitAll os).pending = s.pending := rfl

/-! ### A stamp granted -/

@[simp] theorem granted_orderCode (s : State) :
    (s.granted).orderCode = s.orderCode := rfl

@[simp] theorem granted_power (s : State) :
    (s.granted).power = s.power := rfl

@[simp] theorem granted_pcie (s : State) :
    (s.granted).pcie = s.pcie := rfl

@[simp] theorem granted_events (s : State) :
    (s.granted).events = s.events := rfl

@[simp] theorem granted_direct (s : State) :
    (s.granted).direct = s.direct := rfl

@[simp] theorem granted_digest (s : State) :
    (s.granted).digest = s.digest := rfl

@[simp] theorem granted_keys (s : State) :
    (s.granted).keys = s.keys := rfl

@[simp] theorem granted_head (s : State) :
    (s.granted).head = s.head := rfl

@[simp] theorem granted_domains (s : State) :
    (s.granted).domains = s.domains := rfl

@[simp] theorem granted_mirror (s : State) :
    (s.granted).mirror = s.mirror := rfl

@[simp] theorem granted_heads (s : State) :
    (s.granted).heads = s.heads := rfl

@[simp] theorem granted_net (s : State) :
    (s.granted).net = s.net := rfl

@[simp] theorem granted_nvme (s : State) :
    (s.granted).nvme = s.nvme := rfl

@[simp] theorem granted_wp (s : State) :
    (s.granted).wp = s.wp := rfl

@[simp] theorem granted_map (s : State) :
    (s.granted).map = s.map := rfl

@[simp] theorem granted_flash (s : State) :
    (s.granted).flash = s.flash := rfl

@[simp] theorem granted_stripe (s : State) :
    (s.granted).stripe = s.stripe := rfl

@[simp] theorem granted_dram (s : State) :
    (s.granted).dram = s.dram := rfl

@[simp] theorem granted_arbiters (s : State) :
    (s.granted).arbiters = s.arbiters := rfl

@[simp] theorem granted_latency (s : State) :
    (s.granted).latency = s.latency := rfl

@[simp] theorem granted_dump (s : State) :
    (s.granted).dump = s.dump := rfl

@[simp] theorem granted_run (s : State) :
    (s.granted).run = s.run := rfl

@[simp] theorem granted_footing (s : State) :
    (s.granted).footing = s.footing := rfl

@[simp] theorem granted_templates (s : State) :
    (s.granted).templates = s.templates := rfl

@[simp] theorem granted_mason (s : State) :
    (s.granted).mason = s.mason := rfl

@[simp] theorem granted_out (s : State) :
    (s.granted).out = s.out := rfl

@[simp] theorem granted_free (s : State) :
    (s.granted).free = s.free := rfl

@[simp] theorem granted_pending (s : State) :
    (s.granted).pending = s.pending := rfl

/-! ### A free value used -/

@[simp] theorem freed_orderCode (s : State) :
    (s.freed).orderCode = s.orderCode := rfl

@[simp] theorem freed_now (s : State) :
    (s.freed).now = s.now := rfl

@[simp] theorem freed_power (s : State) :
    (s.freed).power = s.power := rfl

@[simp] theorem freed_pcie (s : State) :
    (s.freed).pcie = s.pcie := rfl

@[simp] theorem freed_events (s : State) :
    (s.freed).events = s.events := rfl

@[simp] theorem freed_direct (s : State) :
    (s.freed).direct = s.direct := rfl

@[simp] theorem freed_digest (s : State) :
    (s.freed).digest = s.digest := rfl

@[simp] theorem freed_keys (s : State) :
    (s.freed).keys = s.keys := rfl

@[simp] theorem freed_head (s : State) :
    (s.freed).head = s.head := rfl

@[simp] theorem freed_domains (s : State) :
    (s.freed).domains = s.domains := rfl

@[simp] theorem freed_mirror (s : State) :
    (s.freed).mirror = s.mirror := rfl

@[simp] theorem freed_heads (s : State) :
    (s.freed).heads = s.heads := rfl

@[simp] theorem freed_net (s : State) :
    (s.freed).net = s.net := rfl

@[simp] theorem freed_nvme (s : State) :
    (s.freed).nvme = s.nvme := rfl

@[simp] theorem freed_wp (s : State) :
    (s.freed).wp = s.wp := rfl

@[simp] theorem freed_map (s : State) :
    (s.freed).map = s.map := rfl

@[simp] theorem freed_flash (s : State) :
    (s.freed).flash = s.flash := rfl

@[simp] theorem freed_stripe (s : State) :
    (s.freed).stripe = s.stripe := rfl

@[simp] theorem freed_dram (s : State) :
    (s.freed).dram = s.dram := rfl

@[simp] theorem freed_arbiters (s : State) :
    (s.freed).arbiters = s.arbiters := rfl

@[simp] theorem freed_latency (s : State) :
    (s.freed).latency = s.latency := rfl

@[simp] theorem freed_dump (s : State) :
    (s.freed).dump = s.dump := rfl

@[simp] theorem freed_run (s : State) :
    (s.freed).run = s.run := rfl

@[simp] theorem freed_footing (s : State) :
    (s.freed).footing = s.footing := rfl

@[simp] theorem freed_templates (s : State) :
    (s.freed).templates = s.templates := rfl

@[simp] theorem freed_mason (s : State) :
    (s.freed).mason = s.mason := rfl

@[simp] theorem freed_out (s : State) :
    (s.freed).out = s.out := rfl

@[simp] theorem freed_pending (s : State) :
    (s.freed).pending = s.pending := rfl

/-! ### The power state -/

@[simp] theorem setPower_orderCode (p : Power) (s : State) :
    (s.setPower p).orderCode = s.orderCode := rfl

@[simp] theorem setPower_now (p : Power) (s : State) :
    (s.setPower p).now = s.now := rfl

@[simp] theorem setPower_pcie (p : Power) (s : State) :
    (s.setPower p).pcie = s.pcie := rfl

@[simp] theorem setPower_events (p : Power) (s : State) :
    (s.setPower p).events = s.events := rfl

@[simp] theorem setPower_direct (p : Power) (s : State) :
    (s.setPower p).direct = s.direct := rfl

@[simp] theorem setPower_digest (p : Power) (s : State) :
    (s.setPower p).digest = s.digest := rfl

@[simp] theorem setPower_keys (p : Power) (s : State) :
    (s.setPower p).keys = s.keys := rfl

@[simp] theorem setPower_head (p : Power) (s : State) :
    (s.setPower p).head = s.head := rfl

@[simp] theorem setPower_domains (p : Power) (s : State) :
    (s.setPower p).domains = s.domains := rfl

@[simp] theorem setPower_mirror (p : Power) (s : State) :
    (s.setPower p).mirror = s.mirror := rfl

@[simp] theorem setPower_heads (p : Power) (s : State) :
    (s.setPower p).heads = s.heads := rfl

@[simp] theorem setPower_net (p : Power) (s : State) :
    (s.setPower p).net = s.net := rfl

@[simp] theorem setPower_nvme (p : Power) (s : State) :
    (s.setPower p).nvme = s.nvme := rfl

@[simp] theorem setPower_wp (p : Power) (s : State) :
    (s.setPower p).wp = s.wp := rfl

@[simp] theorem setPower_map (p : Power) (s : State) :
    (s.setPower p).map = s.map := rfl

@[simp] theorem setPower_flash (p : Power) (s : State) :
    (s.setPower p).flash = s.flash := rfl

@[simp] theorem setPower_stripe (p : Power) (s : State) :
    (s.setPower p).stripe = s.stripe := rfl

@[simp] theorem setPower_dram (p : Power) (s : State) :
    (s.setPower p).dram = s.dram := rfl

@[simp] theorem setPower_arbiters (p : Power) (s : State) :
    (s.setPower p).arbiters = s.arbiters := rfl

@[simp] theorem setPower_latency (p : Power) (s : State) :
    (s.setPower p).latency = s.latency := rfl

@[simp] theorem setPower_dump (p : Power) (s : State) :
    (s.setPower p).dump = s.dump := rfl

@[simp] theorem setPower_run (p : Power) (s : State) :
    (s.setPower p).run = s.run := rfl

@[simp] theorem setPower_footing (p : Power) (s : State) :
    (s.setPower p).footing = s.footing := rfl

@[simp] theorem setPower_templates (p : Power) (s : State) :
    (s.setPower p).templates = s.templates := rfl

@[simp] theorem setPower_mason (p : Power) (s : State) :
    (s.setPower p).mason = s.mason := rfl

@[simp] theorem setPower_out (p : Power) (s : State) :
    (s.setPower p).out = s.out := rfl

@[simp] theorem setPower_free (p : Power) (s : State) :
    (s.setPower p).free = s.free := rfl

@[simp] theorem setPower_pending (p : Power) (s : State) :
    (s.setPower p).pending = s.pending := rfl

/-! ### A ring pair -/

@[simp] theorem setRing_orderCode (n : Nat) (r : Ring) (s : State) :
    (s.setRing n r).orderCode = s.orderCode := rfl

@[simp] theorem setRing_now (n : Nat) (r : Ring) (s : State) :
    (s.setRing n r).now = s.now := rfl

@[simp] theorem setRing_power (n : Nat) (r : Ring) (s : State) :
    (s.setRing n r).power = s.power := rfl

@[simp] theorem setRing_events (n : Nat) (r : Ring) (s : State) :
    (s.setRing n r).events = s.events := rfl

@[simp] theorem setRing_direct (n : Nat) (r : Ring) (s : State) :
    (s.setRing n r).direct = s.direct := rfl

@[simp] theorem setRing_digest (n : Nat) (r : Ring) (s : State) :
    (s.setRing n r).digest = s.digest := rfl

@[simp] theorem setRing_keys (n : Nat) (r : Ring) (s : State) :
    (s.setRing n r).keys = s.keys := rfl

@[simp] theorem setRing_head (n : Nat) (r : Ring) (s : State) :
    (s.setRing n r).head = s.head := rfl

@[simp] theorem setRing_domains (n : Nat) (r : Ring) (s : State) :
    (s.setRing n r).domains = s.domains := rfl

@[simp] theorem setRing_mirror (n : Nat) (r : Ring) (s : State) :
    (s.setRing n r).mirror = s.mirror := rfl

@[simp] theorem setRing_heads (n : Nat) (r : Ring) (s : State) :
    (s.setRing n r).heads = s.heads := rfl

@[simp] theorem setRing_net (n : Nat) (r : Ring) (s : State) :
    (s.setRing n r).net = s.net := rfl

@[simp] theorem setRing_nvme (n : Nat) (r : Ring) (s : State) :
    (s.setRing n r).nvme = s.nvme := rfl

@[simp] theorem setRing_wp (n : Nat) (r : Ring) (s : State) :
    (s.setRing n r).wp = s.wp := rfl

@[simp] theorem setRing_map (n : Nat) (r : Ring) (s : State) :
    (s.setRing n r).map = s.map := rfl

@[simp] theorem setRing_flash (n : Nat) (r : Ring) (s : State) :
    (s.setRing n r).flash = s.flash := rfl

@[simp] theorem setRing_stripe (n : Nat) (r : Ring) (s : State) :
    (s.setRing n r).stripe = s.stripe := rfl

@[simp] theorem setRing_dram (n : Nat) (r : Ring) (s : State) :
    (s.setRing n r).dram = s.dram := rfl

@[simp] theorem setRing_arbiters (n : Nat) (r : Ring) (s : State) :
    (s.setRing n r).arbiters = s.arbiters := rfl

@[simp] theorem setRing_latency (n : Nat) (r : Ring) (s : State) :
    (s.setRing n r).latency = s.latency := rfl

@[simp] theorem setRing_dump (n : Nat) (r : Ring) (s : State) :
    (s.setRing n r).dump = s.dump := rfl

@[simp] theorem setRing_run (n : Nat) (r : Ring) (s : State) :
    (s.setRing n r).run = s.run := rfl

@[simp] theorem setRing_footing (n : Nat) (r : Ring) (s : State) :
    (s.setRing n r).footing = s.footing := rfl

@[simp] theorem setRing_templates (n : Nat) (r : Ring) (s : State) :
    (s.setRing n r).templates = s.templates := rfl

@[simp] theorem setRing_mason (n : Nat) (r : Ring) (s : State) :
    (s.setRing n r).mason = s.mason := rfl

@[simp] theorem setRing_out (n : Nat) (r : Ring) (s : State) :
    (s.setRing n r).out = s.out := rfl

@[simp] theorem setRing_free (n : Nat) (r : Ring) (s : State) :
    (s.setRing n r).free = s.free := rfl

@[simp] theorem setRing_pending (n : Nat) (r : Ring) (s : State) :
    (s.setRing n r).pending = s.pending := rfl

/-! ### An island -/

@[simp] theorem setIsland_orderCode (i : Nat) (v : Island) (s : State) :
    (s.setIsland i v).orderCode = s.orderCode := rfl

@[simp] theorem setIsland_now (i : Nat) (v : Island) (s : State) :
    (s.setIsland i v).now = s.now := rfl

@[simp] theorem setIsland_pcie (i : Nat) (v : Island) (s : State) :
    (s.setIsland i v).pcie = s.pcie := rfl

@[simp] theorem setIsland_events (i : Nat) (v : Island) (s : State) :
    (s.setIsland i v).events = s.events := rfl

@[simp] theorem setIsland_direct (i : Nat) (v : Island) (s : State) :
    (s.setIsland i v).direct = s.direct := rfl

@[simp] theorem setIsland_digest (i : Nat) (v : Island) (s : State) :
    (s.setIsland i v).digest = s.digest := rfl

@[simp] theorem setIsland_keys (i : Nat) (v : Island) (s : State) :
    (s.setIsland i v).keys = s.keys := rfl

@[simp] theorem setIsland_head (i : Nat) (v : Island) (s : State) :
    (s.setIsland i v).head = s.head := rfl

@[simp] theorem setIsland_domains (i : Nat) (v : Island) (s : State) :
    (s.setIsland i v).domains = s.domains := rfl

@[simp] theorem setIsland_mirror (i : Nat) (v : Island) (s : State) :
    (s.setIsland i v).mirror = s.mirror := rfl

@[simp] theorem setIsland_heads (i : Nat) (v : Island) (s : State) :
    (s.setIsland i v).heads = s.heads := rfl

@[simp] theorem setIsland_net (i : Nat) (v : Island) (s : State) :
    (s.setIsland i v).net = s.net := rfl

@[simp] theorem setIsland_nvme (i : Nat) (v : Island) (s : State) :
    (s.setIsland i v).nvme = s.nvme := rfl

@[simp] theorem setIsland_wp (i : Nat) (v : Island) (s : State) :
    (s.setIsland i v).wp = s.wp := rfl

@[simp] theorem setIsland_map (i : Nat) (v : Island) (s : State) :
    (s.setIsland i v).map = s.map := rfl

@[simp] theorem setIsland_flash (i : Nat) (v : Island) (s : State) :
    (s.setIsland i v).flash = s.flash := rfl

@[simp] theorem setIsland_stripe (i : Nat) (v : Island) (s : State) :
    (s.setIsland i v).stripe = s.stripe := rfl

@[simp] theorem setIsland_dram (i : Nat) (v : Island) (s : State) :
    (s.setIsland i v).dram = s.dram := rfl

@[simp] theorem setIsland_arbiters (i : Nat) (v : Island) (s : State) :
    (s.setIsland i v).arbiters = s.arbiters := rfl

@[simp] theorem setIsland_latency (i : Nat) (v : Island) (s : State) :
    (s.setIsland i v).latency = s.latency := rfl

@[simp] theorem setIsland_dump (i : Nat) (v : Island) (s : State) :
    (s.setIsland i v).dump = s.dump := rfl

@[simp] theorem setIsland_run (i : Nat) (v : Island) (s : State) :
    (s.setIsland i v).run = s.run := rfl

@[simp] theorem setIsland_footing (i : Nat) (v : Island) (s : State) :
    (s.setIsland i v).footing = s.footing := rfl

@[simp] theorem setIsland_templates (i : Nat) (v : Island) (s : State) :
    (s.setIsland i v).templates = s.templates := rfl

@[simp] theorem setIsland_mason (i : Nat) (v : Island) (s : State) :
    (s.setIsland i v).mason = s.mason := rfl

@[simp] theorem setIsland_out (i : Nat) (v : Island) (s : State) :
    (s.setIsland i v).out = s.out := rfl

@[simp] theorem setIsland_free (i : Nat) (v : Island) (s : State) :
    (s.setIsland i v).free = s.free := rfl

@[simp] theorem setIsland_pending (i : Nat) (v : Island) (s : State) :
    (s.setIsland i v).pending = s.pending := rfl

/-! ### An MSI-X message -/

@[simp] theorem notify_orderCode (v : Nat) (s : State) :
    (s.notify v).orderCode = s.orderCode := by
  unfold State.notify; dsimp only; split; · rfl
  split <;> rfl

@[simp] theorem notify_now (v : Nat) (s : State) :
    (s.notify v).now = s.now := by
  unfold State.notify; dsimp only; split; · rfl
  split <;> rfl

@[simp] theorem notify_power (v : Nat) (s : State) :
    (s.notify v).power = s.power := by
  unfold State.notify; dsimp only; split; · rfl
  split <;> rfl

@[simp] theorem notify_events (v : Nat) (s : State) :
    (s.notify v).events = s.events := by
  unfold State.notify; dsimp only; split; · rfl
  split <;> rfl

@[simp] theorem notify_direct (v : Nat) (s : State) :
    (s.notify v).direct = s.direct := by
  unfold State.notify; dsimp only; split; · rfl
  split <;> rfl

@[simp] theorem notify_digest (v : Nat) (s : State) :
    (s.notify v).digest = s.digest := by
  unfold State.notify; dsimp only; split; · rfl
  split <;> rfl

@[simp] theorem notify_keys (v : Nat) (s : State) :
    (s.notify v).keys = s.keys := by
  unfold State.notify; dsimp only; split; · rfl
  split <;> rfl

@[simp] theorem notify_head (v : Nat) (s : State) :
    (s.notify v).head = s.head := by
  unfold State.notify; dsimp only; split; · rfl
  split <;> rfl

@[simp] theorem notify_domains (v : Nat) (s : State) :
    (s.notify v).domains = s.domains := by
  unfold State.notify; dsimp only; split; · rfl
  split <;> rfl

@[simp] theorem notify_mirror (v : Nat) (s : State) :
    (s.notify v).mirror = s.mirror := by
  unfold State.notify; dsimp only; split; · rfl
  split <;> rfl

@[simp] theorem notify_heads (v : Nat) (s : State) :
    (s.notify v).heads = s.heads := by
  unfold State.notify; dsimp only; split; · rfl
  split <;> rfl

@[simp] theorem notify_net (v : Nat) (s : State) :
    (s.notify v).net = s.net := by
  unfold State.notify; dsimp only; split; · rfl
  split <;> rfl

@[simp] theorem notify_nvme (v : Nat) (s : State) :
    (s.notify v).nvme = s.nvme := by
  unfold State.notify; dsimp only; split; · rfl
  split <;> rfl

@[simp] theorem notify_wp (v : Nat) (s : State) :
    (s.notify v).wp = s.wp := by
  unfold State.notify; dsimp only; split; · rfl
  split <;> rfl

@[simp] theorem notify_map (v : Nat) (s : State) :
    (s.notify v).map = s.map := by
  unfold State.notify; dsimp only; split; · rfl
  split <;> rfl

@[simp] theorem notify_flash (v : Nat) (s : State) :
    (s.notify v).flash = s.flash := by
  unfold State.notify; dsimp only; split; · rfl
  split <;> rfl

@[simp] theorem notify_stripe (v : Nat) (s : State) :
    (s.notify v).stripe = s.stripe := by
  unfold State.notify; dsimp only; split; · rfl
  split <;> rfl

@[simp] theorem notify_dram (v : Nat) (s : State) :
    (s.notify v).dram = s.dram := by
  unfold State.notify; dsimp only; split; · rfl
  split <;> rfl

@[simp] theorem notify_arbiters (v : Nat) (s : State) :
    (s.notify v).arbiters = s.arbiters := by
  unfold State.notify; dsimp only; split; · rfl
  split <;> rfl

@[simp] theorem notify_latency (v : Nat) (s : State) :
    (s.notify v).latency = s.latency := by
  unfold State.notify; dsimp only; split; · rfl
  split <;> rfl

@[simp] theorem notify_dump (v : Nat) (s : State) :
    (s.notify v).dump = s.dump := by
  unfold State.notify; dsimp only; split; · rfl
  split <;> rfl

@[simp] theorem notify_run (v : Nat) (s : State) :
    (s.notify v).run = s.run := by
  unfold State.notify; dsimp only; split; · rfl
  split <;> rfl

@[simp] theorem notify_footing (v : Nat) (s : State) :
    (s.notify v).footing = s.footing := by
  unfold State.notify; dsimp only; split; · rfl
  split <;> rfl

@[simp] theorem notify_templates (v : Nat) (s : State) :
    (s.notify v).templates = s.templates := by
  unfold State.notify; dsimp only; split; · rfl
  split <;> rfl

@[simp] theorem notify_mason (v : Nat) (s : State) :
    (s.notify v).mason = s.mason := by
  unfold State.notify; dsimp only; split; · rfl
  split <;> rfl

@[simp] theorem notify_free (v : Nat) (s : State) :
    (s.notify v).free = s.free := by
  unfold State.notify; dsimp only; split; · rfl
  split <;> rfl

@[simp] theorem notify_pending (v : Nat) (s : State) :
    (s.notify v).pending = s.pending := by
  unfold State.notify; dsimp only; split; · rfl
  split <;> rfl

/-! ### The error log grows long -/

@[simp] theorem errorLogHigh_orderCode (s : State) :
    (s.errorLogHigh).orderCode = s.orderCode := by
  unfold State.errorLogHigh; split <;> rfl

@[simp] theorem errorLogHigh_power (s : State) :
    (s.errorLogHigh).power = s.power := by
  unfold State.errorLogHigh; split <;> rfl

@[simp] theorem errorLogHigh_pcie (s : State) :
    (s.errorLogHigh).pcie = s.pcie := by
  unfold State.errorLogHigh; split <;> rfl

@[simp] theorem errorLogHigh_direct (s : State) :
    (s.errorLogHigh).direct = s.direct := by
  unfold State.errorLogHigh; split <;> rfl

@[simp] theorem errorLogHigh_digest (s : State) :
    (s.errorLogHigh).digest = s.digest := by
  unfold State.errorLogHigh; split <;> rfl

@[simp] theorem errorLogHigh_keys (s : State) :
    (s.errorLogHigh).keys = s.keys := by
  unfold State.errorLogHigh; split <;> rfl

@[simp] theorem errorLogHigh_head (s : State) :
    (s.errorLogHigh).head = s.head := by
  unfold State.errorLogHigh; split <;> rfl

@[simp] theorem errorLogHigh_domains (s : State) :
    (s.errorLogHigh).domains = s.domains := by
  unfold State.errorLogHigh; split <;> rfl

@[simp] theorem errorLogHigh_mirror (s : State) :
    (s.errorLogHigh).mirror = s.mirror := by
  unfold State.errorLogHigh; split <;> rfl

@[simp] theorem errorLogHigh_heads (s : State) :
    (s.errorLogHigh).heads = s.heads := by
  unfold State.errorLogHigh; split <;> rfl

@[simp] theorem errorLogHigh_net (s : State) :
    (s.errorLogHigh).net = s.net := by
  unfold State.errorLogHigh; split <;> rfl

@[simp] theorem errorLogHigh_nvme (s : State) :
    (s.errorLogHigh).nvme = s.nvme := by
  unfold State.errorLogHigh; split <;> rfl

@[simp] theorem errorLogHigh_wp (s : State) :
    (s.errorLogHigh).wp = s.wp := by
  unfold State.errorLogHigh; split <;> rfl

@[simp] theorem errorLogHigh_map (s : State) :
    (s.errorLogHigh).map = s.map := by
  unfold State.errorLogHigh; split <;> rfl

@[simp] theorem errorLogHigh_flash (s : State) :
    (s.errorLogHigh).flash = s.flash := by
  unfold State.errorLogHigh; split <;> rfl

@[simp] theorem errorLogHigh_stripe (s : State) :
    (s.errorLogHigh).stripe = s.stripe := by
  unfold State.errorLogHigh; split <;> rfl

@[simp] theorem errorLogHigh_dram (s : State) :
    (s.errorLogHigh).dram = s.dram := by
  unfold State.errorLogHigh; split <;> rfl

@[simp] theorem errorLogHigh_arbiters (s : State) :
    (s.errorLogHigh).arbiters = s.arbiters := by
  unfold State.errorLogHigh; split <;> rfl

@[simp] theorem errorLogHigh_latency (s : State) :
    (s.errorLogHigh).latency = s.latency := by
  unfold State.errorLogHigh; split <;> rfl

@[simp] theorem errorLogHigh_dump (s : State) :
    (s.errorLogHigh).dump = s.dump := by
  unfold State.errorLogHigh; split <;> rfl

@[simp] theorem errorLogHigh_run (s : State) :
    (s.errorLogHigh).run = s.run := by
  unfold State.errorLogHigh; split <;> rfl

@[simp] theorem errorLogHigh_footing (s : State) :
    (s.errorLogHigh).footing = s.footing := by
  unfold State.errorLogHigh; split <;> rfl

@[simp] theorem errorLogHigh_templates (s : State) :
    (s.errorLogHigh).templates = s.templates := by
  unfold State.errorLogHigh; split <;> rfl

@[simp] theorem errorLogHigh_mason (s : State) :
    (s.errorLogHigh).mason = s.mason := by
  unfold State.errorLogHigh; split <;> rfl

@[simp] theorem errorLogHigh_out (s : State) :
    (s.errorLogHigh).out = s.out := by
  unfold State.errorLogHigh; split <;> rfl

@[simp] theorem errorLogHigh_free (s : State) :
    (s.errorLogHigh).free = s.free := by
  unfold State.errorLogHigh; split <;> rfl

@[simp] theorem errorLogHigh_pending (s : State) :
    (s.errorLogHigh).pending = s.pending := by
  unfold State.errorLogHigh; split <;> rfl

/-! ### An event raised -/

@[simp] theorem raiseWith_orderCode (code sev island loc : Nat) (ps : List Byte) (s : State) :
    (s.raiseWith code sev island loc ps).orderCode = s.orderCode := by
  simp [State.raiseWith]

@[simp] theorem raiseWith_power (code sev island loc : Nat) (ps : List Byte) (s : State) :
    (s.raiseWith code sev island loc ps).power = s.power := by
  simp [State.raiseWith]

@[simp] theorem raiseWith_pcie (code sev island loc : Nat) (ps : List Byte) (s : State) :
    (s.raiseWith code sev island loc ps).pcie = s.pcie := by
  simp [State.raiseWith]

@[simp] theorem raiseWith_direct (code sev island loc : Nat) (ps : List Byte) (s : State) :
    (s.raiseWith code sev island loc ps).direct = s.direct := by
  simp [State.raiseWith]

@[simp] theorem raiseWith_digest (code sev island loc : Nat) (ps : List Byte) (s : State) :
    (s.raiseWith code sev island loc ps).digest = s.digest := by
  simp [State.raiseWith]

@[simp] theorem raiseWith_keys (code sev island loc : Nat) (ps : List Byte) (s : State) :
    (s.raiseWith code sev island loc ps).keys = s.keys := by
  simp [State.raiseWith]

@[simp] theorem raiseWith_head (code sev island loc : Nat) (ps : List Byte) (s : State) :
    (s.raiseWith code sev island loc ps).head = s.head := by
  simp [State.raiseWith]

@[simp] theorem raiseWith_domains (code sev island loc : Nat) (ps : List Byte) (s : State) :
    (s.raiseWith code sev island loc ps).domains = s.domains := by
  simp [State.raiseWith]

@[simp] theorem raiseWith_mirror (code sev island loc : Nat) (ps : List Byte) (s : State) :
    (s.raiseWith code sev island loc ps).mirror = s.mirror := by
  simp [State.raiseWith]

@[simp] theorem raiseWith_heads (code sev island loc : Nat) (ps : List Byte) (s : State) :
    (s.raiseWith code sev island loc ps).heads = s.heads := by
  simp [State.raiseWith]

@[simp] theorem raiseWith_net (code sev island loc : Nat) (ps : List Byte) (s : State) :
    (s.raiseWith code sev island loc ps).net = s.net := by
  simp [State.raiseWith]

@[simp] theorem raiseWith_nvme (code sev island loc : Nat) (ps : List Byte) (s : State) :
    (s.raiseWith code sev island loc ps).nvme = s.nvme := by
  simp [State.raiseWith]

@[simp] theorem raiseWith_wp (code sev island loc : Nat) (ps : List Byte) (s : State) :
    (s.raiseWith code sev island loc ps).wp = s.wp := by
  simp [State.raiseWith]

@[simp] theorem raiseWith_map (code sev island loc : Nat) (ps : List Byte) (s : State) :
    (s.raiseWith code sev island loc ps).map = s.map := by
  simp [State.raiseWith]

@[simp] theorem raiseWith_flash (code sev island loc : Nat) (ps : List Byte) (s : State) :
    (s.raiseWith code sev island loc ps).flash = s.flash := by
  simp [State.raiseWith]

@[simp] theorem raiseWith_stripe (code sev island loc : Nat) (ps : List Byte) (s : State) :
    (s.raiseWith code sev island loc ps).stripe = s.stripe := by
  simp [State.raiseWith]

@[simp] theorem raiseWith_dram (code sev island loc : Nat) (ps : List Byte) (s : State) :
    (s.raiseWith code sev island loc ps).dram = s.dram := by
  simp [State.raiseWith]

@[simp] theorem raiseWith_arbiters (code sev island loc : Nat) (ps : List Byte) (s : State) :
    (s.raiseWith code sev island loc ps).arbiters = s.arbiters := by
  simp [State.raiseWith]

@[simp] theorem raiseWith_latency (code sev island loc : Nat) (ps : List Byte) (s : State) :
    (s.raiseWith code sev island loc ps).latency = s.latency := by
  simp [State.raiseWith]

@[simp] theorem raiseWith_dump (code sev island loc : Nat) (ps : List Byte) (s : State) :
    (s.raiseWith code sev island loc ps).dump = s.dump := by
  simp [State.raiseWith]

@[simp] theorem raiseWith_run (code sev island loc : Nat) (ps : List Byte) (s : State) :
    (s.raiseWith code sev island loc ps).run = s.run := by
  simp [State.raiseWith]

@[simp] theorem raiseWith_footing (code sev island loc : Nat) (ps : List Byte) (s : State) :
    (s.raiseWith code sev island loc ps).footing = s.footing := by
  simp [State.raiseWith]

@[simp] theorem raiseWith_templates (code sev island loc : Nat) (ps : List Byte) (s : State) :
    (s.raiseWith code sev island loc ps).templates = s.templates := by
  simp [State.raiseWith]

@[simp] theorem raiseWith_mason (code sev island loc : Nat) (ps : List Byte) (s : State) :
    (s.raiseWith code sev island loc ps).mason = s.mason := by
  simp [State.raiseWith]

@[simp] theorem raiseWith_out (code sev island loc : Nat) (ps : List Byte) (s : State) :
    (s.raiseWith code sev island loc ps).out = s.out := by
  simp [State.raiseWith]

@[simp] theorem raiseWith_free (code sev island loc : Nat) (ps : List Byte) (s : State) :
    (s.raiseWith code sev island loc ps).free = s.free := by
  simp [State.raiseWith]

@[simp] theorem raiseWith_pending (code sev island loc : Nat) (ps : List Byte) (s : State) :
    (s.raiseWith code sev island loc ps).pending = s.pending := by
  simp [State.raiseWith]

/-! ### An event raised with its listed severity -/

@[simp] theorem raise_orderCode (code : Nat) (ps : List Byte) (s : State) :
    (s.raise code ps).orderCode = s.orderCode := by
  simp [State.raise]

@[simp] theorem raise_power (code : Nat) (ps : List Byte) (s : State) :
    (s.raise code ps).power = s.power := by
  simp [State.raise]

@[simp] theorem raise_pcie (code : Nat) (ps : List Byte) (s : State) :
    (s.raise code ps).pcie = s.pcie := by
  simp [State.raise]

@[simp] theorem raise_direct (code : Nat) (ps : List Byte) (s : State) :
    (s.raise code ps).direct = s.direct := by
  simp [State.raise]

@[simp] theorem raise_digest (code : Nat) (ps : List Byte) (s : State) :
    (s.raise code ps).digest = s.digest := by
  simp [State.raise]

@[simp] theorem raise_keys (code : Nat) (ps : List Byte) (s : State) :
    (s.raise code ps).keys = s.keys := by
  simp [State.raise]

@[simp] theorem raise_head (code : Nat) (ps : List Byte) (s : State) :
    (s.raise code ps).head = s.head := by
  simp [State.raise]

@[simp] theorem raise_domains (code : Nat) (ps : List Byte) (s : State) :
    (s.raise code ps).domains = s.domains := by
  simp [State.raise]

@[simp] theorem raise_mirror (code : Nat) (ps : List Byte) (s : State) :
    (s.raise code ps).mirror = s.mirror := by
  simp [State.raise]

@[simp] theorem raise_heads (code : Nat) (ps : List Byte) (s : State) :
    (s.raise code ps).heads = s.heads := by
  simp [State.raise]

@[simp] theorem raise_net (code : Nat) (ps : List Byte) (s : State) :
    (s.raise code ps).net = s.net := by
  simp [State.raise]

@[simp] theorem raise_nvme (code : Nat) (ps : List Byte) (s : State) :
    (s.raise code ps).nvme = s.nvme := by
  simp [State.raise]

@[simp] theorem raise_wp (code : Nat) (ps : List Byte) (s : State) :
    (s.raise code ps).wp = s.wp := by
  simp [State.raise]

@[simp] theorem raise_map (code : Nat) (ps : List Byte) (s : State) :
    (s.raise code ps).map = s.map := by
  simp [State.raise]

@[simp] theorem raise_flash (code : Nat) (ps : List Byte) (s : State) :
    (s.raise code ps).flash = s.flash := by
  simp [State.raise]

@[simp] theorem raise_stripe (code : Nat) (ps : List Byte) (s : State) :
    (s.raise code ps).stripe = s.stripe := by
  simp [State.raise]

@[simp] theorem raise_dram (code : Nat) (ps : List Byte) (s : State) :
    (s.raise code ps).dram = s.dram := by
  simp [State.raise]

@[simp] theorem raise_arbiters (code : Nat) (ps : List Byte) (s : State) :
    (s.raise code ps).arbiters = s.arbiters := by
  simp [State.raise]

@[simp] theorem raise_latency (code : Nat) (ps : List Byte) (s : State) :
    (s.raise code ps).latency = s.latency := by
  simp [State.raise]

@[simp] theorem raise_dump (code : Nat) (ps : List Byte) (s : State) :
    (s.raise code ps).dump = s.dump := by
  simp [State.raise]

@[simp] theorem raise_run (code : Nat) (ps : List Byte) (s : State) :
    (s.raise code ps).run = s.run := by
  simp [State.raise]

@[simp] theorem raise_footing (code : Nat) (ps : List Byte) (s : State) :
    (s.raise code ps).footing = s.footing := by
  simp [State.raise]

@[simp] theorem raise_templates (code : Nat) (ps : List Byte) (s : State) :
    (s.raise code ps).templates = s.templates := by
  simp [State.raise]

@[simp] theorem raise_mason (code : Nat) (ps : List Byte) (s : State) :
    (s.raise code ps).mason = s.mason := by
  simp [State.raise]

@[simp] theorem raise_out (code : Nat) (ps : List Byte) (s : State) :
    (s.raise code ps).out = s.out := by
  simp [State.raise]

@[simp] theorem raise_free (code : Nat) (ps : List Byte) (s : State) :
    (s.raise code ps).free = s.free := by
  simp [State.raise]

@[simp] theorem raise_pending (code : Nat) (ps : List Byte) (s : State) :
    (s.raise code ps).pending = s.pending := by
  simp [State.raise]

/-! ### An event of a named island -/

@[simp] theorem raiseFrom_orderCode (i code : Nat) (ps : List Byte) (s : State) :
    (s.raiseFrom i code ps).orderCode = s.orderCode := by
  simp [State.raiseFrom]

@[simp] theorem raiseFrom_power (i code : Nat) (ps : List Byte) (s : State) :
    (s.raiseFrom i code ps).power = s.power := by
  simp [State.raiseFrom]

@[simp] theorem raiseFrom_pcie (i code : Nat) (ps : List Byte) (s : State) :
    (s.raiseFrom i code ps).pcie = s.pcie := by
  simp [State.raiseFrom]

@[simp] theorem raiseFrom_direct (i code : Nat) (ps : List Byte) (s : State) :
    (s.raiseFrom i code ps).direct = s.direct := by
  simp [State.raiseFrom]

@[simp] theorem raiseFrom_digest (i code : Nat) (ps : List Byte) (s : State) :
    (s.raiseFrom i code ps).digest = s.digest := by
  simp [State.raiseFrom]

@[simp] theorem raiseFrom_keys (i code : Nat) (ps : List Byte) (s : State) :
    (s.raiseFrom i code ps).keys = s.keys := by
  simp [State.raiseFrom]

@[simp] theorem raiseFrom_head (i code : Nat) (ps : List Byte) (s : State) :
    (s.raiseFrom i code ps).head = s.head := by
  simp [State.raiseFrom]

@[simp] theorem raiseFrom_domains (i code : Nat) (ps : List Byte) (s : State) :
    (s.raiseFrom i code ps).domains = s.domains := by
  simp [State.raiseFrom]

@[simp] theorem raiseFrom_mirror (i code : Nat) (ps : List Byte) (s : State) :
    (s.raiseFrom i code ps).mirror = s.mirror := by
  simp [State.raiseFrom]

@[simp] theorem raiseFrom_heads (i code : Nat) (ps : List Byte) (s : State) :
    (s.raiseFrom i code ps).heads = s.heads := by
  simp [State.raiseFrom]

@[simp] theorem raiseFrom_net (i code : Nat) (ps : List Byte) (s : State) :
    (s.raiseFrom i code ps).net = s.net := by
  simp [State.raiseFrom]

@[simp] theorem raiseFrom_nvme (i code : Nat) (ps : List Byte) (s : State) :
    (s.raiseFrom i code ps).nvme = s.nvme := by
  simp [State.raiseFrom]

@[simp] theorem raiseFrom_wp (i code : Nat) (ps : List Byte) (s : State) :
    (s.raiseFrom i code ps).wp = s.wp := by
  simp [State.raiseFrom]

@[simp] theorem raiseFrom_map (i code : Nat) (ps : List Byte) (s : State) :
    (s.raiseFrom i code ps).map = s.map := by
  simp [State.raiseFrom]

@[simp] theorem raiseFrom_flash (i code : Nat) (ps : List Byte) (s : State) :
    (s.raiseFrom i code ps).flash = s.flash := by
  simp [State.raiseFrom]

@[simp] theorem raiseFrom_stripe (i code : Nat) (ps : List Byte) (s : State) :
    (s.raiseFrom i code ps).stripe = s.stripe := by
  simp [State.raiseFrom]

@[simp] theorem raiseFrom_dram (i code : Nat) (ps : List Byte) (s : State) :
    (s.raiseFrom i code ps).dram = s.dram := by
  simp [State.raiseFrom]

@[simp] theorem raiseFrom_arbiters (i code : Nat) (ps : List Byte) (s : State) :
    (s.raiseFrom i code ps).arbiters = s.arbiters := by
  simp [State.raiseFrom]

@[simp] theorem raiseFrom_latency (i code : Nat) (ps : List Byte) (s : State) :
    (s.raiseFrom i code ps).latency = s.latency := by
  simp [State.raiseFrom]

@[simp] theorem raiseFrom_dump (i code : Nat) (ps : List Byte) (s : State) :
    (s.raiseFrom i code ps).dump = s.dump := by
  simp [State.raiseFrom]

@[simp] theorem raiseFrom_run (i code : Nat) (ps : List Byte) (s : State) :
    (s.raiseFrom i code ps).run = s.run := by
  simp [State.raiseFrom]

@[simp] theorem raiseFrom_footing (i code : Nat) (ps : List Byte) (s : State) :
    (s.raiseFrom i code ps).footing = s.footing := by
  simp [State.raiseFrom]

@[simp] theorem raiseFrom_templates (i code : Nat) (ps : List Byte) (s : State) :
    (s.raiseFrom i code ps).templates = s.templates := by
  simp [State.raiseFrom]

@[simp] theorem raiseFrom_mason (i code : Nat) (ps : List Byte) (s : State) :
    (s.raiseFrom i code ps).mason = s.mason := by
  simp [State.raiseFrom]

@[simp] theorem raiseFrom_out (i code : Nat) (ps : List Byte) (s : State) :
    (s.raiseFrom i code ps).out = s.out := by
  simp [State.raiseFrom]

@[simp] theorem raiseFrom_free (i code : Nat) (ps : List Byte) (s : State) :
    (s.raiseFrom i code ps).free = s.free := by
  simp [State.raiseFrom]

@[simp] theorem raiseFrom_pending (i code : Nat) (ps : List Byte) (s : State) :
    (s.raiseFrom i code ps).pending = s.pending := by
  simp [State.raiseFrom]

/-! ### An event of a located site -/

@[simp] theorem raiseAt_orderCode (loc code : Nat) (ps : List Byte) (s : State) :
    (s.raiseAt loc code ps).orderCode = s.orderCode := by
  simp [State.raiseAt]

@[simp] theorem raiseAt_power (loc code : Nat) (ps : List Byte) (s : State) :
    (s.raiseAt loc code ps).power = s.power := by
  simp [State.raiseAt]

@[simp] theorem raiseAt_pcie (loc code : Nat) (ps : List Byte) (s : State) :
    (s.raiseAt loc code ps).pcie = s.pcie := by
  simp [State.raiseAt]

@[simp] theorem raiseAt_direct (loc code : Nat) (ps : List Byte) (s : State) :
    (s.raiseAt loc code ps).direct = s.direct := by
  simp [State.raiseAt]

@[simp] theorem raiseAt_digest (loc code : Nat) (ps : List Byte) (s : State) :
    (s.raiseAt loc code ps).digest = s.digest := by
  simp [State.raiseAt]

@[simp] theorem raiseAt_keys (loc code : Nat) (ps : List Byte) (s : State) :
    (s.raiseAt loc code ps).keys = s.keys := by
  simp [State.raiseAt]

@[simp] theorem raiseAt_head (loc code : Nat) (ps : List Byte) (s : State) :
    (s.raiseAt loc code ps).head = s.head := by
  simp [State.raiseAt]

@[simp] theorem raiseAt_domains (loc code : Nat) (ps : List Byte) (s : State) :
    (s.raiseAt loc code ps).domains = s.domains := by
  simp [State.raiseAt]

@[simp] theorem raiseAt_mirror (loc code : Nat) (ps : List Byte) (s : State) :
    (s.raiseAt loc code ps).mirror = s.mirror := by
  simp [State.raiseAt]

@[simp] theorem raiseAt_heads (loc code : Nat) (ps : List Byte) (s : State) :
    (s.raiseAt loc code ps).heads = s.heads := by
  simp [State.raiseAt]

@[simp] theorem raiseAt_net (loc code : Nat) (ps : List Byte) (s : State) :
    (s.raiseAt loc code ps).net = s.net := by
  simp [State.raiseAt]

@[simp] theorem raiseAt_nvme (loc code : Nat) (ps : List Byte) (s : State) :
    (s.raiseAt loc code ps).nvme = s.nvme := by
  simp [State.raiseAt]

@[simp] theorem raiseAt_wp (loc code : Nat) (ps : List Byte) (s : State) :
    (s.raiseAt loc code ps).wp = s.wp := by
  simp [State.raiseAt]

@[simp] theorem raiseAt_map (loc code : Nat) (ps : List Byte) (s : State) :
    (s.raiseAt loc code ps).map = s.map := by
  simp [State.raiseAt]

@[simp] theorem raiseAt_flash (loc code : Nat) (ps : List Byte) (s : State) :
    (s.raiseAt loc code ps).flash = s.flash := by
  simp [State.raiseAt]

@[simp] theorem raiseAt_stripe (loc code : Nat) (ps : List Byte) (s : State) :
    (s.raiseAt loc code ps).stripe = s.stripe := by
  simp [State.raiseAt]

@[simp] theorem raiseAt_dram (loc code : Nat) (ps : List Byte) (s : State) :
    (s.raiseAt loc code ps).dram = s.dram := by
  simp [State.raiseAt]

@[simp] theorem raiseAt_arbiters (loc code : Nat) (ps : List Byte) (s : State) :
    (s.raiseAt loc code ps).arbiters = s.arbiters := by
  simp [State.raiseAt]

@[simp] theorem raiseAt_latency (loc code : Nat) (ps : List Byte) (s : State) :
    (s.raiseAt loc code ps).latency = s.latency := by
  simp [State.raiseAt]

@[simp] theorem raiseAt_dump (loc code : Nat) (ps : List Byte) (s : State) :
    (s.raiseAt loc code ps).dump = s.dump := by
  simp [State.raiseAt]

@[simp] theorem raiseAt_run (loc code : Nat) (ps : List Byte) (s : State) :
    (s.raiseAt loc code ps).run = s.run := by
  simp [State.raiseAt]

@[simp] theorem raiseAt_footing (loc code : Nat) (ps : List Byte) (s : State) :
    (s.raiseAt loc code ps).footing = s.footing := by
  simp [State.raiseAt]

@[simp] theorem raiseAt_templates (loc code : Nat) (ps : List Byte) (s : State) :
    (s.raiseAt loc code ps).templates = s.templates := by
  simp [State.raiseAt]

@[simp] theorem raiseAt_mason (loc code : Nat) (ps : List Byte) (s : State) :
    (s.raiseAt loc code ps).mason = s.mason := by
  simp [State.raiseAt]

@[simp] theorem raiseAt_out (loc code : Nat) (ps : List Byte) (s : State) :
    (s.raiseAt loc code ps).out = s.out := by
  simp [State.raiseAt]

@[simp] theorem raiseAt_free (loc code : Nat) (ps : List Byte) (s : State) :
    (s.raiseAt loc code ps).free = s.free := by
  simp [State.raiseAt]

@[simp] theorem raiseAt_pending (loc code : Nat) (ps : List Byte) (s : State) :
    (s.raiseAt loc code ps).pending = s.pending := by
  simp [State.raiseAt]

/-! ### The bypass -/

@[simp] theorem setBypass_orderCode (b : Bool) (s : State) :
    (s.setBypass b).orderCode = s.orderCode := by
  unfold State.setBypass; split <;> rfl

@[simp] theorem setBypass_now (b : Bool) (s : State) :
    (s.setBypass b).now = s.now := by
  unfold State.setBypass; split <;> rfl

@[simp] theorem setBypass_pcie (b : Bool) (s : State) :
    (s.setBypass b).pcie = s.pcie := by
  unfold State.setBypass; split <;> rfl

@[simp] theorem setBypass_events (b : Bool) (s : State) :
    (s.setBypass b).events = s.events := by
  unfold State.setBypass; split <;> rfl

@[simp] theorem setBypass_direct (b : Bool) (s : State) :
    (s.setBypass b).direct = s.direct := by
  unfold State.setBypass; split <;> rfl

@[simp] theorem setBypass_digest (b : Bool) (s : State) :
    (s.setBypass b).digest = s.digest := by
  unfold State.setBypass; split <;> rfl

@[simp] theorem setBypass_keys (b : Bool) (s : State) :
    (s.setBypass b).keys = s.keys := by
  unfold State.setBypass; split <;> rfl

@[simp] theorem setBypass_head (b : Bool) (s : State) :
    (s.setBypass b).head = s.head := by
  unfold State.setBypass; split <;> rfl

@[simp] theorem setBypass_domains (b : Bool) (s : State) :
    (s.setBypass b).domains = s.domains := by
  unfold State.setBypass; split <;> rfl

@[simp] theorem setBypass_mirror (b : Bool) (s : State) :
    (s.setBypass b).mirror = s.mirror := by
  unfold State.setBypass; split <;> rfl

@[simp] theorem setBypass_heads (b : Bool) (s : State) :
    (s.setBypass b).heads = s.heads := by
  unfold State.setBypass; split <;> rfl

@[simp] theorem setBypass_net (b : Bool) (s : State) :
    (s.setBypass b).net = s.net := by
  unfold State.setBypass; split <;> rfl

@[simp] theorem setBypass_nvme (b : Bool) (s : State) :
    (s.setBypass b).nvme = s.nvme := by
  unfold State.setBypass; split <;> rfl

@[simp] theorem setBypass_wp (b : Bool) (s : State) :
    (s.setBypass b).wp = s.wp := by
  unfold State.setBypass; split <;> rfl

@[simp] theorem setBypass_map (b : Bool) (s : State) :
    (s.setBypass b).map = s.map := by
  unfold State.setBypass; split <;> rfl

@[simp] theorem setBypass_flash (b : Bool) (s : State) :
    (s.setBypass b).flash = s.flash := by
  unfold State.setBypass; split <;> rfl

@[simp] theorem setBypass_stripe (b : Bool) (s : State) :
    (s.setBypass b).stripe = s.stripe := by
  unfold State.setBypass; split <;> rfl

@[simp] theorem setBypass_dram (b : Bool) (s : State) :
    (s.setBypass b).dram = s.dram := by
  unfold State.setBypass; split <;> rfl

@[simp] theorem setBypass_arbiters (b : Bool) (s : State) :
    (s.setBypass b).arbiters = s.arbiters := by
  unfold State.setBypass; split <;> rfl

@[simp] theorem setBypass_latency (b : Bool) (s : State) :
    (s.setBypass b).latency = s.latency := by
  unfold State.setBypass; split <;> rfl

@[simp] theorem setBypass_dump (b : Bool) (s : State) :
    (s.setBypass b).dump = s.dump := by
  unfold State.setBypass; split <;> rfl

@[simp] theorem setBypass_run (b : Bool) (s : State) :
    (s.setBypass b).run = s.run := by
  unfold State.setBypass; split <;> rfl

@[simp] theorem setBypass_footing (b : Bool) (s : State) :
    (s.setBypass b).footing = s.footing := by
  unfold State.setBypass; split <;> rfl

@[simp] theorem setBypass_templates (b : Bool) (s : State) :
    (s.setBypass b).templates = s.templates := by
  unfold State.setBypass; split <;> rfl

@[simp] theorem setBypass_mason (b : Bool) (s : State) :
    (s.setBypass b).mason = s.mason := by
  unfold State.setBypass; split <;> rfl

@[simp] theorem setBypass_free (b : Bool) (s : State) :
    (s.setBypass b).free = s.free := by
  unfold State.setBypass; split <;> rfl

@[simp] theorem setBypass_pending (b : Bool) (s : State) :
    (s.setBypass b).pending = s.pending := by
  unfold State.setBypass; split <;> rfl

/-! ### An event before stamps are granted -/

@[simp] theorem raiseEarly_orderCode (code : Nat) (ps : List Byte) (s : State) :
    (s.raiseEarly code ps).orderCode = s.orderCode := by
  unfold State.raiseEarly; split <;> simp

@[simp] theorem raiseEarly_pcie (code : Nat) (ps : List Byte) (s : State) :
    (s.raiseEarly code ps).pcie = s.pcie := by
  unfold State.raiseEarly; split <;> simp

@[simp] theorem raiseEarly_direct (code : Nat) (ps : List Byte) (s : State) :
    (s.raiseEarly code ps).direct = s.direct := by
  unfold State.raiseEarly; split <;> simp

@[simp] theorem raiseEarly_digest (code : Nat) (ps : List Byte) (s : State) :
    (s.raiseEarly code ps).digest = s.digest := by
  unfold State.raiseEarly; split <;> simp

@[simp] theorem raiseEarly_keys (code : Nat) (ps : List Byte) (s : State) :
    (s.raiseEarly code ps).keys = s.keys := by
  unfold State.raiseEarly; split <;> simp

@[simp] theorem raiseEarly_head (code : Nat) (ps : List Byte) (s : State) :
    (s.raiseEarly code ps).head = s.head := by
  unfold State.raiseEarly; split <;> simp

@[simp] theorem raiseEarly_domains (code : Nat) (ps : List Byte) (s : State) :
    (s.raiseEarly code ps).domains = s.domains := by
  unfold State.raiseEarly; split <;> simp

@[simp] theorem raiseEarly_mirror (code : Nat) (ps : List Byte) (s : State) :
    (s.raiseEarly code ps).mirror = s.mirror := by
  unfold State.raiseEarly; split <;> simp

@[simp] theorem raiseEarly_heads (code : Nat) (ps : List Byte) (s : State) :
    (s.raiseEarly code ps).heads = s.heads := by
  unfold State.raiseEarly; split <;> simp

@[simp] theorem raiseEarly_net (code : Nat) (ps : List Byte) (s : State) :
    (s.raiseEarly code ps).net = s.net := by
  unfold State.raiseEarly; split <;> simp

@[simp] theorem raiseEarly_nvme (code : Nat) (ps : List Byte) (s : State) :
    (s.raiseEarly code ps).nvme = s.nvme := by
  unfold State.raiseEarly; split <;> simp

@[simp] theorem raiseEarly_wp (code : Nat) (ps : List Byte) (s : State) :
    (s.raiseEarly code ps).wp = s.wp := by
  unfold State.raiseEarly; split <;> simp

@[simp] theorem raiseEarly_map (code : Nat) (ps : List Byte) (s : State) :
    (s.raiseEarly code ps).map = s.map := by
  unfold State.raiseEarly; split <;> simp

@[simp] theorem raiseEarly_flash (code : Nat) (ps : List Byte) (s : State) :
    (s.raiseEarly code ps).flash = s.flash := by
  unfold State.raiseEarly; split <;> simp

@[simp] theorem raiseEarly_stripe (code : Nat) (ps : List Byte) (s : State) :
    (s.raiseEarly code ps).stripe = s.stripe := by
  unfold State.raiseEarly; split <;> simp

@[simp] theorem raiseEarly_dram (code : Nat) (ps : List Byte) (s : State) :
    (s.raiseEarly code ps).dram = s.dram := by
  unfold State.raiseEarly; split <;> simp

@[simp] theorem raiseEarly_arbiters (code : Nat) (ps : List Byte) (s : State) :
    (s.raiseEarly code ps).arbiters = s.arbiters := by
  unfold State.raiseEarly; split <;> simp

@[simp] theorem raiseEarly_latency (code : Nat) (ps : List Byte) (s : State) :
    (s.raiseEarly code ps).latency = s.latency := by
  unfold State.raiseEarly; split <;> simp

@[simp] theorem raiseEarly_dump (code : Nat) (ps : List Byte) (s : State) :
    (s.raiseEarly code ps).dump = s.dump := by
  unfold State.raiseEarly; split <;> simp

@[simp] theorem raiseEarly_run (code : Nat) (ps : List Byte) (s : State) :
    (s.raiseEarly code ps).run = s.run := by
  unfold State.raiseEarly; split <;> simp

@[simp] theorem raiseEarly_footing (code : Nat) (ps : List Byte) (s : State) :
    (s.raiseEarly code ps).footing = s.footing := by
  unfold State.raiseEarly; split <;> simp

@[simp] theorem raiseEarly_templates (code : Nat) (ps : List Byte) (s : State) :
    (s.raiseEarly code ps).templates = s.templates := by
  unfold State.raiseEarly; split <;> simp

@[simp] theorem raiseEarly_mason (code : Nat) (ps : List Byte) (s : State) :
    (s.raiseEarly code ps).mason = s.mason := by
  unfold State.raiseEarly; split <;> simp

@[simp] theorem raiseEarly_out (code : Nat) (ps : List Byte) (s : State) :
    (s.raiseEarly code ps).out = s.out := by
  unfold State.raiseEarly; split <;> simp

@[simp] theorem raiseEarly_free (code : Nat) (ps : List Byte) (s : State) :
    (s.raiseEarly code ps).free = s.free := by
  unfold State.raiseEarly; split <;> simp

@[simp] theorem raiseEarly_pending (code : Nat) (ps : List Byte) (s : State) :
    (s.raiseEarly code ps).pending = s.pending := by
  unfold State.raiseEarly; split <;> simp

/-! ### The end of a PCIe reset -/

@[simp] theorem completePcieReset_orderCode (s : State) :
    (s.completePcieReset).orderCode = s.orderCode := rfl

@[simp] theorem completePcieReset_now (s : State) :
    (s.completePcieReset).now = s.now := rfl

@[simp] theorem completePcieReset_power (s : State) :
    (s.completePcieReset).power = s.power := rfl

@[simp] theorem completePcieReset_direct (s : State) :
    (s.completePcieReset).direct = s.direct := rfl

@[simp] theorem completePcieReset_digest (s : State) :
    (s.completePcieReset).digest = s.digest := rfl

@[simp] theorem completePcieReset_keys (s : State) :
    (s.completePcieReset).keys = s.keys := rfl

@[simp] theorem completePcieReset_head (s : State) :
    (s.completePcieReset).head = s.head := rfl

@[simp] theorem completePcieReset_domains (s : State) :
    (s.completePcieReset).domains = s.domains := rfl

@[simp] theorem completePcieReset_mirror (s : State) :
    (s.completePcieReset).mirror = s.mirror := rfl

@[simp] theorem completePcieReset_heads (s : State) :
    (s.completePcieReset).heads = s.heads := rfl

@[simp] theorem completePcieReset_net (s : State) :
    (s.completePcieReset).net = s.net := rfl

@[simp] theorem completePcieReset_nvme (s : State) :
    (s.completePcieReset).nvme = s.nvme := rfl

@[simp] theorem completePcieReset_wp (s : State) :
    (s.completePcieReset).wp = s.wp := rfl

@[simp] theorem completePcieReset_map (s : State) :
    (s.completePcieReset).map = s.map := rfl

@[simp] theorem completePcieReset_flash (s : State) :
    (s.completePcieReset).flash = s.flash := rfl

@[simp] theorem completePcieReset_stripe (s : State) :
    (s.completePcieReset).stripe = s.stripe := rfl

@[simp] theorem completePcieReset_dram (s : State) :
    (s.completePcieReset).dram = s.dram := rfl

@[simp] theorem completePcieReset_arbiters (s : State) :
    (s.completePcieReset).arbiters = s.arbiters := rfl

@[simp] theorem completePcieReset_latency (s : State) :
    (s.completePcieReset).latency = s.latency := rfl

@[simp] theorem completePcieReset_dump (s : State) :
    (s.completePcieReset).dump = s.dump := rfl

@[simp] theorem completePcieReset_run (s : State) :
    (s.completePcieReset).run = s.run := rfl

@[simp] theorem completePcieReset_footing (s : State) :
    (s.completePcieReset).footing = s.footing := rfl

@[simp] theorem completePcieReset_templates (s : State) :
    (s.completePcieReset).templates = s.templates := rfl

@[simp] theorem completePcieReset_mason (s : State) :
    (s.completePcieReset).mason = s.mason := rfl

@[simp] theorem completePcieReset_out (s : State) :
    (s.completePcieReset).out = s.out := rfl

@[simp] theorem completePcieReset_free (s : State) :
    (s.completePcieReset).free = s.free := rfl

@[simp] theorem completePcieReset_pending (s : State) :
    (s.completePcieReset).pending = s.pending := rfl

/-! ### An entry of a reply ring -/

@[simp] theorem writeEntry_orderCode (n : Nat) (p : PendingReply) (s : State) :
    (s.writeEntry n p).orderCode = s.orderCode := by
  unfold State.writeEntry; dsimp only; repeat' (first | rfl | split)

@[simp] theorem writeEntry_now (n : Nat) (p : PendingReply) (s : State) :
    (s.writeEntry n p).now = s.now := by
  unfold State.writeEntry; dsimp only; repeat' (first | rfl | split)

@[simp] theorem writeEntry_power (n : Nat) (p : PendingReply) (s : State) :
    (s.writeEntry n p).power = s.power := by
  unfold State.writeEntry; dsimp only; repeat' (first | rfl | split)

@[simp] theorem writeEntry_events (n : Nat) (p : PendingReply) (s : State) :
    (s.writeEntry n p).events = s.events := by
  unfold State.writeEntry; dsimp only; repeat' (first | rfl | split)

@[simp] theorem writeEntry_direct (n : Nat) (p : PendingReply) (s : State) :
    (s.writeEntry n p).direct = s.direct := by
  unfold State.writeEntry; dsimp only; repeat' (first | rfl | split)

@[simp] theorem writeEntry_digest (n : Nat) (p : PendingReply) (s : State) :
    (s.writeEntry n p).digest = s.digest := by
  unfold State.writeEntry; dsimp only; repeat' (first | rfl | split)

@[simp] theorem writeEntry_keys (n : Nat) (p : PendingReply) (s : State) :
    (s.writeEntry n p).keys = s.keys := by
  unfold State.writeEntry; dsimp only; repeat' (first | rfl | split)

@[simp] theorem writeEntry_head (n : Nat) (p : PendingReply) (s : State) :
    (s.writeEntry n p).head = s.head := by
  unfold State.writeEntry; dsimp only; repeat' (first | rfl | split)

@[simp] theorem writeEntry_domains (n : Nat) (p : PendingReply) (s : State) :
    (s.writeEntry n p).domains = s.domains := by
  unfold State.writeEntry; dsimp only; repeat' (first | rfl | split)

@[simp] theorem writeEntry_mirror (n : Nat) (p : PendingReply) (s : State) :
    (s.writeEntry n p).mirror = s.mirror := by
  unfold State.writeEntry; dsimp only; repeat' (first | rfl | split)

@[simp] theorem writeEntry_heads (n : Nat) (p : PendingReply) (s : State) :
    (s.writeEntry n p).heads = s.heads := by
  unfold State.writeEntry; dsimp only; repeat' (first | rfl | split)

@[simp] theorem writeEntry_net (n : Nat) (p : PendingReply) (s : State) :
    (s.writeEntry n p).net = s.net := by
  unfold State.writeEntry; dsimp only; repeat' (first | rfl | split)

@[simp] theorem writeEntry_nvme (n : Nat) (p : PendingReply) (s : State) :
    (s.writeEntry n p).nvme = s.nvme := by
  unfold State.writeEntry; dsimp only; repeat' (first | rfl | split)

@[simp] theorem writeEntry_wp (n : Nat) (p : PendingReply) (s : State) :
    (s.writeEntry n p).wp = s.wp := by
  unfold State.writeEntry; dsimp only; repeat' (first | rfl | split)

@[simp] theorem writeEntry_map (n : Nat) (p : PendingReply) (s : State) :
    (s.writeEntry n p).map = s.map := by
  unfold State.writeEntry; dsimp only; repeat' (first | rfl | split)

@[simp] theorem writeEntry_flash (n : Nat) (p : PendingReply) (s : State) :
    (s.writeEntry n p).flash = s.flash := by
  unfold State.writeEntry; dsimp only; repeat' (first | rfl | split)

@[simp] theorem writeEntry_stripe (n : Nat) (p : PendingReply) (s : State) :
    (s.writeEntry n p).stripe = s.stripe := by
  unfold State.writeEntry; dsimp only; repeat' (first | rfl | split)

@[simp] theorem writeEntry_dram (n : Nat) (p : PendingReply) (s : State) :
    (s.writeEntry n p).dram = s.dram := by
  unfold State.writeEntry; dsimp only; repeat' (first | rfl | split)

@[simp] theorem writeEntry_arbiters (n : Nat) (p : PendingReply) (s : State) :
    (s.writeEntry n p).arbiters = s.arbiters := by
  unfold State.writeEntry; dsimp only; repeat' (first | rfl | split)

@[simp] theorem writeEntry_latency (n : Nat) (p : PendingReply) (s : State) :
    (s.writeEntry n p).latency = s.latency := by
  unfold State.writeEntry; dsimp only; repeat' (first | rfl | split)

@[simp] theorem writeEntry_dump (n : Nat) (p : PendingReply) (s : State) :
    (s.writeEntry n p).dump = s.dump := by
  unfold State.writeEntry; dsimp only; repeat' (first | rfl | split)

@[simp] theorem writeEntry_run (n : Nat) (p : PendingReply) (s : State) :
    (s.writeEntry n p).run = s.run := by
  unfold State.writeEntry; dsimp only; repeat' (first | rfl | split)

@[simp] theorem writeEntry_footing (n : Nat) (p : PendingReply) (s : State) :
    (s.writeEntry n p).footing = s.footing := by
  unfold State.writeEntry; dsimp only; repeat' (first | rfl | split)

@[simp] theorem writeEntry_templates (n : Nat) (p : PendingReply) (s : State) :
    (s.writeEntry n p).templates = s.templates := by
  unfold State.writeEntry; dsimp only; repeat' (first | rfl | split)

@[simp] theorem writeEntry_mason (n : Nat) (p : PendingReply) (s : State) :
    (s.writeEntry n p).mason = s.mason := by
  unfold State.writeEntry; dsimp only; repeat' (first | rfl | split)

@[simp] theorem writeEntry_free (n : Nat) (p : PendingReply) (s : State) :
    (s.writeEntry n p).free = s.free := by
  unfold State.writeEntry; dsimp only; repeat' (first | rfl | split)

@[simp] theorem writeEntry_pending (n : Nat) (p : PendingReply) (s : State) :
    (s.writeEntry n p).pending = s.pending := by
  unfold State.writeEntry; dsimp only; repeat' (first | rfl | split)

/-! ### A reply written -/

@[simp] theorem writeReply_orderCode (n : Nat) (p : PendingReply) (s : State) :
    (s.writeReply n p).orderCode = s.orderCode := by
  unfold State.writeReply; dsimp only; split <;> simp

@[simp] theorem writeReply_now (n : Nat) (p : PendingReply) (s : State) :
    (s.writeReply n p).now = s.now := by
  unfold State.writeReply; dsimp only; split <;> simp

@[simp] theorem writeReply_power (n : Nat) (p : PendingReply) (s : State) :
    (s.writeReply n p).power = s.power := by
  unfold State.writeReply; dsimp only; split <;> simp

@[simp] theorem writeReply_events (n : Nat) (p : PendingReply) (s : State) :
    (s.writeReply n p).events = s.events := by
  unfold State.writeReply; dsimp only; split <;> simp

@[simp] theorem writeReply_direct (n : Nat) (p : PendingReply) (s : State) :
    (s.writeReply n p).direct = s.direct := by
  unfold State.writeReply; dsimp only; split <;> simp

@[simp] theorem writeReply_digest (n : Nat) (p : PendingReply) (s : State) :
    (s.writeReply n p).digest = s.digest := by
  unfold State.writeReply; dsimp only; split <;> simp

@[simp] theorem writeReply_keys (n : Nat) (p : PendingReply) (s : State) :
    (s.writeReply n p).keys = s.keys := by
  unfold State.writeReply; dsimp only; split <;> simp

@[simp] theorem writeReply_head (n : Nat) (p : PendingReply) (s : State) :
    (s.writeReply n p).head = s.head := by
  unfold State.writeReply; dsimp only; split <;> simp

@[simp] theorem writeReply_domains (n : Nat) (p : PendingReply) (s : State) :
    (s.writeReply n p).domains = s.domains := by
  unfold State.writeReply; dsimp only; split <;> simp

@[simp] theorem writeReply_mirror (n : Nat) (p : PendingReply) (s : State) :
    (s.writeReply n p).mirror = s.mirror := by
  unfold State.writeReply; dsimp only; split <;> simp

@[simp] theorem writeReply_heads (n : Nat) (p : PendingReply) (s : State) :
    (s.writeReply n p).heads = s.heads := by
  unfold State.writeReply; dsimp only; split <;> simp

@[simp] theorem writeReply_net (n : Nat) (p : PendingReply) (s : State) :
    (s.writeReply n p).net = s.net := by
  unfold State.writeReply; dsimp only; split <;> simp

@[simp] theorem writeReply_nvme (n : Nat) (p : PendingReply) (s : State) :
    (s.writeReply n p).nvme = s.nvme := by
  unfold State.writeReply; dsimp only; split <;> simp

@[simp] theorem writeReply_wp (n : Nat) (p : PendingReply) (s : State) :
    (s.writeReply n p).wp = s.wp := by
  unfold State.writeReply; dsimp only; split <;> simp

@[simp] theorem writeReply_map (n : Nat) (p : PendingReply) (s : State) :
    (s.writeReply n p).map = s.map := by
  unfold State.writeReply; dsimp only; split <;> simp

@[simp] theorem writeReply_flash (n : Nat) (p : PendingReply) (s : State) :
    (s.writeReply n p).flash = s.flash := by
  unfold State.writeReply; dsimp only; split <;> simp

@[simp] theorem writeReply_stripe (n : Nat) (p : PendingReply) (s : State) :
    (s.writeReply n p).stripe = s.stripe := by
  unfold State.writeReply; dsimp only; split <;> simp

@[simp] theorem writeReply_dram (n : Nat) (p : PendingReply) (s : State) :
    (s.writeReply n p).dram = s.dram := by
  unfold State.writeReply; dsimp only; split <;> simp

@[simp] theorem writeReply_arbiters (n : Nat) (p : PendingReply) (s : State) :
    (s.writeReply n p).arbiters = s.arbiters := by
  unfold State.writeReply; dsimp only; split <;> simp

@[simp] theorem writeReply_latency (n : Nat) (p : PendingReply) (s : State) :
    (s.writeReply n p).latency = s.latency := by
  unfold State.writeReply; dsimp only; split <;> simp

@[simp] theorem writeReply_dump (n : Nat) (p : PendingReply) (s : State) :
    (s.writeReply n p).dump = s.dump := by
  unfold State.writeReply; dsimp only; split <;> simp

@[simp] theorem writeReply_run (n : Nat) (p : PendingReply) (s : State) :
    (s.writeReply n p).run = s.run := by
  unfold State.writeReply; dsimp only; split <;> simp

@[simp] theorem writeReply_footing (n : Nat) (p : PendingReply) (s : State) :
    (s.writeReply n p).footing = s.footing := by
  unfold State.writeReply; dsimp only; split <;> simp

@[simp] theorem writeReply_templates (n : Nat) (p : PendingReply) (s : State) :
    (s.writeReply n p).templates = s.templates := by
  unfold State.writeReply; dsimp only; split <;> simp

@[simp] theorem writeReply_mason (n : Nat) (p : PendingReply) (s : State) :
    (s.writeReply n p).mason = s.mason := by
  unfold State.writeReply; dsimp only; split <;> simp

@[simp] theorem writeReply_free (n : Nat) (p : PendingReply) (s : State) :
    (s.writeReply n p).free = s.free := by
  unfold State.writeReply; dsimp only; split <;> simp

@[simp] theorem writeReply_pending (n : Nat) (p : PendingReply) (s : State) :
    (s.writeReply n p).pending = s.pending := by
  unfold State.writeReply; dsimp only; split <;> simp

/-! ### A reply whose data stands at an offset -/

@[simp] theorem replyAt_orderCode (p : Packet) (st res at_ : Nat) (d : List Byte) (s : State) :
    (s.replyAt p st res at_ d).orderCode = s.orderCode := by
  unfold State.replyAt; dsimp only; split <;> simp

@[simp] theorem replyAt_now (p : Packet) (st res at_ : Nat) (d : List Byte) (s : State) :
    (s.replyAt p st res at_ d).now = s.now := by
  unfold State.replyAt; dsimp only; split <;> simp

@[simp] theorem replyAt_power (p : Packet) (st res at_ : Nat) (d : List Byte) (s : State) :
    (s.replyAt p st res at_ d).power = s.power := by
  unfold State.replyAt; dsimp only; split <;> simp

@[simp] theorem replyAt_direct (p : Packet) (st res at_ : Nat) (d : List Byte) (s : State) :
    (s.replyAt p st res at_ d).direct = s.direct := by
  unfold State.replyAt; dsimp only; split <;> simp

@[simp] theorem replyAt_digest (p : Packet) (st res at_ : Nat) (d : List Byte) (s : State) :
    (s.replyAt p st res at_ d).digest = s.digest := by
  unfold State.replyAt; dsimp only; split <;> simp

@[simp] theorem replyAt_keys (p : Packet) (st res at_ : Nat) (d : List Byte) (s : State) :
    (s.replyAt p st res at_ d).keys = s.keys := by
  unfold State.replyAt; dsimp only; split <;> simp

@[simp] theorem replyAt_head (p : Packet) (st res at_ : Nat) (d : List Byte) (s : State) :
    (s.replyAt p st res at_ d).head = s.head := by
  unfold State.replyAt; dsimp only; split <;> simp

@[simp] theorem replyAt_domains (p : Packet) (st res at_ : Nat) (d : List Byte) (s : State) :
    (s.replyAt p st res at_ d).domains = s.domains := by
  unfold State.replyAt; dsimp only; split <;> simp

@[simp] theorem replyAt_mirror (p : Packet) (st res at_ : Nat) (d : List Byte) (s : State) :
    (s.replyAt p st res at_ d).mirror = s.mirror := by
  unfold State.replyAt; dsimp only; split <;> simp

@[simp] theorem replyAt_heads (p : Packet) (st res at_ : Nat) (d : List Byte) (s : State) :
    (s.replyAt p st res at_ d).heads = s.heads := by
  unfold State.replyAt; dsimp only; split <;> simp

@[simp] theorem replyAt_net (p : Packet) (st res at_ : Nat) (d : List Byte) (s : State) :
    (s.replyAt p st res at_ d).net = s.net := by
  unfold State.replyAt; dsimp only; split <;> simp

@[simp] theorem replyAt_nvme (p : Packet) (st res at_ : Nat) (d : List Byte) (s : State) :
    (s.replyAt p st res at_ d).nvme = s.nvme := by
  unfold State.replyAt; dsimp only; split <;> simp

@[simp] theorem replyAt_wp (p : Packet) (st res at_ : Nat) (d : List Byte) (s : State) :
    (s.replyAt p st res at_ d).wp = s.wp := by
  unfold State.replyAt; dsimp only; split <;> simp

@[simp] theorem replyAt_map (p : Packet) (st res at_ : Nat) (d : List Byte) (s : State) :
    (s.replyAt p st res at_ d).map = s.map := by
  unfold State.replyAt; dsimp only; split <;> simp

@[simp] theorem replyAt_flash (p : Packet) (st res at_ : Nat) (d : List Byte) (s : State) :
    (s.replyAt p st res at_ d).flash = s.flash := by
  unfold State.replyAt; dsimp only; split <;> simp

@[simp] theorem replyAt_stripe (p : Packet) (st res at_ : Nat) (d : List Byte) (s : State) :
    (s.replyAt p st res at_ d).stripe = s.stripe := by
  unfold State.replyAt; dsimp only; split <;> simp

@[simp] theorem replyAt_dram (p : Packet) (st res at_ : Nat) (d : List Byte) (s : State) :
    (s.replyAt p st res at_ d).dram = s.dram := by
  unfold State.replyAt; dsimp only; split <;> simp

@[simp] theorem replyAt_arbiters (p : Packet) (st res at_ : Nat) (d : List Byte) (s : State) :
    (s.replyAt p st res at_ d).arbiters = s.arbiters := by
  unfold State.replyAt; dsimp only; split <;> simp

@[simp] theorem replyAt_latency (p : Packet) (st res at_ : Nat) (d : List Byte) (s : State) :
    (s.replyAt p st res at_ d).latency = s.latency := by
  unfold State.replyAt; dsimp only; split <;> simp

@[simp] theorem replyAt_dump (p : Packet) (st res at_ : Nat) (d : List Byte) (s : State) :
    (s.replyAt p st res at_ d).dump = s.dump := by
  unfold State.replyAt; dsimp only; split <;> simp

@[simp] theorem replyAt_run (p : Packet) (st res at_ : Nat) (d : List Byte) (s : State) :
    (s.replyAt p st res at_ d).run = s.run := by
  unfold State.replyAt; dsimp only; split <;> simp

@[simp] theorem replyAt_footing (p : Packet) (st res at_ : Nat) (d : List Byte) (s : State) :
    (s.replyAt p st res at_ d).footing = s.footing := by
  unfold State.replyAt; dsimp only; split <;> simp

@[simp] theorem replyAt_templates (p : Packet) (st res at_ : Nat) (d : List Byte) (s : State) :
    (s.replyAt p st res at_ d).templates = s.templates := by
  unfold State.replyAt; dsimp only; split <;> simp

@[simp] theorem replyAt_mason (p : Packet) (st res at_ : Nat) (d : List Byte) (s : State) :
    (s.replyAt p st res at_ d).mason = s.mason := by
  unfold State.replyAt; dsimp only; split <;> simp

@[simp] theorem replyAt_free (p : Packet) (st res at_ : Nat) (d : List Byte) (s : State) :
    (s.replyAt p st res at_ d).free = s.free := by
  unfold State.replyAt; dsimp only; split <;> simp

@[simp] theorem replyAt_pending (p : Packet) (st res at_ : Nat) (d : List Byte) (s : State) :
    (s.replyAt p st res at_ d).pending = s.pending := by
  unfold State.replyAt; dsimp only; split <;> simp

/-! ### A reply of a packet -/

@[simp] theorem reply_orderCode (p : Packet) (st res : Nat) (d : List Byte) (s : State) :
    (s.reply p st res d).orderCode = s.orderCode := by
  simp [State.reply]

@[simp] theorem reply_now (p : Packet) (st res : Nat) (d : List Byte) (s : State) :
    (s.reply p st res d).now = s.now := by
  simp [State.reply]

@[simp] theorem reply_power (p : Packet) (st res : Nat) (d : List Byte) (s : State) :
    (s.reply p st res d).power = s.power := by
  simp [State.reply]

@[simp] theorem reply_direct (p : Packet) (st res : Nat) (d : List Byte) (s : State) :
    (s.reply p st res d).direct = s.direct := by
  simp [State.reply]

@[simp] theorem reply_digest (p : Packet) (st res : Nat) (d : List Byte) (s : State) :
    (s.reply p st res d).digest = s.digest := by
  simp [State.reply]

@[simp] theorem reply_keys (p : Packet) (st res : Nat) (d : List Byte) (s : State) :
    (s.reply p st res d).keys = s.keys := by
  simp [State.reply]

@[simp] theorem reply_head (p : Packet) (st res : Nat) (d : List Byte) (s : State) :
    (s.reply p st res d).head = s.head := by
  simp [State.reply]

@[simp] theorem reply_domains (p : Packet) (st res : Nat) (d : List Byte) (s : State) :
    (s.reply p st res d).domains = s.domains := by
  simp [State.reply]

@[simp] theorem reply_mirror (p : Packet) (st res : Nat) (d : List Byte) (s : State) :
    (s.reply p st res d).mirror = s.mirror := by
  simp [State.reply]

@[simp] theorem reply_heads (p : Packet) (st res : Nat) (d : List Byte) (s : State) :
    (s.reply p st res d).heads = s.heads := by
  simp [State.reply]

@[simp] theorem reply_net (p : Packet) (st res : Nat) (d : List Byte) (s : State) :
    (s.reply p st res d).net = s.net := by
  simp [State.reply]

@[simp] theorem reply_nvme (p : Packet) (st res : Nat) (d : List Byte) (s : State) :
    (s.reply p st res d).nvme = s.nvme := by
  simp [State.reply]

@[simp] theorem reply_wp (p : Packet) (st res : Nat) (d : List Byte) (s : State) :
    (s.reply p st res d).wp = s.wp := by
  simp [State.reply]

@[simp] theorem reply_map (p : Packet) (st res : Nat) (d : List Byte) (s : State) :
    (s.reply p st res d).map = s.map := by
  simp [State.reply]

@[simp] theorem reply_flash (p : Packet) (st res : Nat) (d : List Byte) (s : State) :
    (s.reply p st res d).flash = s.flash := by
  simp [State.reply]

@[simp] theorem reply_stripe (p : Packet) (st res : Nat) (d : List Byte) (s : State) :
    (s.reply p st res d).stripe = s.stripe := by
  simp [State.reply]

@[simp] theorem reply_dram (p : Packet) (st res : Nat) (d : List Byte) (s : State) :
    (s.reply p st res d).dram = s.dram := by
  simp [State.reply]

@[simp] theorem reply_arbiters (p : Packet) (st res : Nat) (d : List Byte) (s : State) :
    (s.reply p st res d).arbiters = s.arbiters := by
  simp [State.reply]

@[simp] theorem reply_latency (p : Packet) (st res : Nat) (d : List Byte) (s : State) :
    (s.reply p st res d).latency = s.latency := by
  simp [State.reply]

@[simp] theorem reply_dump (p : Packet) (st res : Nat) (d : List Byte) (s : State) :
    (s.reply p st res d).dump = s.dump := by
  simp [State.reply]

@[simp] theorem reply_run (p : Packet) (st res : Nat) (d : List Byte) (s : State) :
    (s.reply p st res d).run = s.run := by
  simp [State.reply]

@[simp] theorem reply_footing (p : Packet) (st res : Nat) (d : List Byte) (s : State) :
    (s.reply p st res d).footing = s.footing := by
  simp [State.reply]

@[simp] theorem reply_templates (p : Packet) (st res : Nat) (d : List Byte) (s : State) :
    (s.reply p st res d).templates = s.templates := by
  simp [State.reply]

@[simp] theorem reply_mason (p : Packet) (st res : Nat) (d : List Byte) (s : State) :
    (s.reply p st res d).mason = s.mason := by
  simp [State.reply]

@[simp] theorem reply_free (p : Packet) (st res : Nat) (d : List Byte) (s : State) :
    (s.reply p st res d).free = s.free := by
  simp [State.reply]

@[simp] theorem reply_pending (p : Packet) (st res : Nat) (d : List Byte) (s : State) :
    (s.reply p st res d).pending = s.pending := by
  simp [State.reply]

/-! ### The flags of a packet -/

@[simp] theorem markPacket_orderCode (p : Packet) (f : Packet → Packet) (s : State) :
    (s.markPacket p f).orderCode = s.orderCode := by
  unfold State.markPacket; dsimp only; split <;> rfl

@[simp] theorem markPacket_now (p : Packet) (f : Packet → Packet) (s : State) :
    (s.markPacket p f).now = s.now := by
  unfold State.markPacket; dsimp only; split <;> rfl

@[simp] theorem markPacket_power (p : Packet) (f : Packet → Packet) (s : State) :
    (s.markPacket p f).power = s.power := by
  unfold State.markPacket; dsimp only; split <;> rfl

@[simp] theorem markPacket_events (p : Packet) (f : Packet → Packet) (s : State) :
    (s.markPacket p f).events = s.events := by
  unfold State.markPacket; dsimp only; split <;> rfl

@[simp] theorem markPacket_direct (p : Packet) (f : Packet → Packet) (s : State) :
    (s.markPacket p f).direct = s.direct := by
  unfold State.markPacket; dsimp only; split <;> rfl

@[simp] theorem markPacket_digest (p : Packet) (f : Packet → Packet) (s : State) :
    (s.markPacket p f).digest = s.digest := by
  unfold State.markPacket; dsimp only; split <;> rfl

@[simp] theorem markPacket_keys (p : Packet) (f : Packet → Packet) (s : State) :
    (s.markPacket p f).keys = s.keys := by
  unfold State.markPacket; dsimp only; split <;> rfl

@[simp] theorem markPacket_head (p : Packet) (f : Packet → Packet) (s : State) :
    (s.markPacket p f).head = s.head := by
  unfold State.markPacket; dsimp only; split <;> rfl

@[simp] theorem markPacket_domains (p : Packet) (f : Packet → Packet) (s : State) :
    (s.markPacket p f).domains = s.domains := by
  unfold State.markPacket; dsimp only; split <;> rfl

@[simp] theorem markPacket_mirror (p : Packet) (f : Packet → Packet) (s : State) :
    (s.markPacket p f).mirror = s.mirror := by
  unfold State.markPacket; dsimp only; split <;> rfl

@[simp] theorem markPacket_heads (p : Packet) (f : Packet → Packet) (s : State) :
    (s.markPacket p f).heads = s.heads := by
  unfold State.markPacket; dsimp only; split <;> rfl

@[simp] theorem markPacket_net (p : Packet) (f : Packet → Packet) (s : State) :
    (s.markPacket p f).net = s.net := by
  unfold State.markPacket; dsimp only; split <;> rfl

@[simp] theorem markPacket_nvme (p : Packet) (f : Packet → Packet) (s : State) :
    (s.markPacket p f).nvme = s.nvme := by
  unfold State.markPacket; dsimp only; split <;> rfl

@[simp] theorem markPacket_wp (p : Packet) (f : Packet → Packet) (s : State) :
    (s.markPacket p f).wp = s.wp := by
  unfold State.markPacket; dsimp only; split <;> rfl

@[simp] theorem markPacket_map (p : Packet) (f : Packet → Packet) (s : State) :
    (s.markPacket p f).map = s.map := by
  unfold State.markPacket; dsimp only; split <;> rfl

@[simp] theorem markPacket_flash (p : Packet) (f : Packet → Packet) (s : State) :
    (s.markPacket p f).flash = s.flash := by
  unfold State.markPacket; dsimp only; split <;> rfl

@[simp] theorem markPacket_stripe (p : Packet) (f : Packet → Packet) (s : State) :
    (s.markPacket p f).stripe = s.stripe := by
  unfold State.markPacket; dsimp only; split <;> rfl

@[simp] theorem markPacket_dram (p : Packet) (f : Packet → Packet) (s : State) :
    (s.markPacket p f).dram = s.dram := by
  unfold State.markPacket; dsimp only; split <;> rfl

@[simp] theorem markPacket_arbiters (p : Packet) (f : Packet → Packet) (s : State) :
    (s.markPacket p f).arbiters = s.arbiters := by
  unfold State.markPacket; dsimp only; split <;> rfl

@[simp] theorem markPacket_latency (p : Packet) (f : Packet → Packet) (s : State) :
    (s.markPacket p f).latency = s.latency := by
  unfold State.markPacket; dsimp only; split <;> rfl

@[simp] theorem markPacket_dump (p : Packet) (f : Packet → Packet) (s : State) :
    (s.markPacket p f).dump = s.dump := by
  unfold State.markPacket; dsimp only; split <;> rfl

@[simp] theorem markPacket_run (p : Packet) (f : Packet → Packet) (s : State) :
    (s.markPacket p f).run = s.run := by
  unfold State.markPacket; dsimp only; split <;> rfl

@[simp] theorem markPacket_footing (p : Packet) (f : Packet → Packet) (s : State) :
    (s.markPacket p f).footing = s.footing := by
  unfold State.markPacket; dsimp only; split <;> rfl

@[simp] theorem markPacket_templates (p : Packet) (f : Packet → Packet) (s : State) :
    (s.markPacket p f).templates = s.templates := by
  unfold State.markPacket; dsimp only; split <;> rfl

@[simp] theorem markPacket_mason (p : Packet) (f : Packet → Packet) (s : State) :
    (s.markPacket p f).mason = s.mason := by
  unfold State.markPacket; dsimp only; split <;> rfl

@[simp] theorem markPacket_out (p : Packet) (f : Packet → Packet) (s : State) :
    (s.markPacket p f).out = s.out := by
  unfold State.markPacket; dsimp only; split <;> rfl

@[simp] theorem markPacket_free (p : Packet) (f : Packet → Packet) (s : State) :
    (s.markPacket p f).free = s.free := by
  unfold State.markPacket; dsimp only; split <;> rfl

@[simp] theorem markPacket_pending (p : Packet) (f : Packet → Packet) (s : State) :
    (s.markPacket p f).pending = s.pending := by
  unfold State.markPacket; dsimp only; split <;> rfl

/-! ### A reply of ST_OK -/

@[simp] theorem replyOk_orderCode (p : Packet) (s : State) :
    (s.replyOk p).orderCode = s.orderCode := by
  simp [State.replyOk]

@[simp] theorem replyOk_now (p : Packet) (s : State) :
    (s.replyOk p).now = s.now := by
  simp [State.replyOk]

@[simp] theorem replyOk_power (p : Packet) (s : State) :
    (s.replyOk p).power = s.power := by
  simp [State.replyOk]

@[simp] theorem replyOk_direct (p : Packet) (s : State) :
    (s.replyOk p).direct = s.direct := by
  simp [State.replyOk]

@[simp] theorem replyOk_digest (p : Packet) (s : State) :
    (s.replyOk p).digest = s.digest := by
  simp [State.replyOk]

@[simp] theorem replyOk_keys (p : Packet) (s : State) :
    (s.replyOk p).keys = s.keys := by
  simp [State.replyOk]

@[simp] theorem replyOk_head (p : Packet) (s : State) :
    (s.replyOk p).head = s.head := by
  simp [State.replyOk]

@[simp] theorem replyOk_domains (p : Packet) (s : State) :
    (s.replyOk p).domains = s.domains := by
  simp [State.replyOk]

@[simp] theorem replyOk_mirror (p : Packet) (s : State) :
    (s.replyOk p).mirror = s.mirror := by
  simp [State.replyOk]

@[simp] theorem replyOk_heads (p : Packet) (s : State) :
    (s.replyOk p).heads = s.heads := by
  simp [State.replyOk]

@[simp] theorem replyOk_net (p : Packet) (s : State) :
    (s.replyOk p).net = s.net := by
  simp [State.replyOk]

@[simp] theorem replyOk_nvme (p : Packet) (s : State) :
    (s.replyOk p).nvme = s.nvme := by
  simp [State.replyOk]

@[simp] theorem replyOk_wp (p : Packet) (s : State) :
    (s.replyOk p).wp = s.wp := by
  simp [State.replyOk]

@[simp] theorem replyOk_map (p : Packet) (s : State) :
    (s.replyOk p).map = s.map := by
  simp [State.replyOk]

@[simp] theorem replyOk_flash (p : Packet) (s : State) :
    (s.replyOk p).flash = s.flash := by
  simp [State.replyOk]

@[simp] theorem replyOk_stripe (p : Packet) (s : State) :
    (s.replyOk p).stripe = s.stripe := by
  simp [State.replyOk]

@[simp] theorem replyOk_dram (p : Packet) (s : State) :
    (s.replyOk p).dram = s.dram := by
  simp [State.replyOk]

@[simp] theorem replyOk_arbiters (p : Packet) (s : State) :
    (s.replyOk p).arbiters = s.arbiters := by
  simp [State.replyOk]

@[simp] theorem replyOk_latency (p : Packet) (s : State) :
    (s.replyOk p).latency = s.latency := by
  simp [State.replyOk]

@[simp] theorem replyOk_dump (p : Packet) (s : State) :
    (s.replyOk p).dump = s.dump := by
  simp [State.replyOk]

@[simp] theorem replyOk_run (p : Packet) (s : State) :
    (s.replyOk p).run = s.run := by
  simp [State.replyOk]

@[simp] theorem replyOk_footing (p : Packet) (s : State) :
    (s.replyOk p).footing = s.footing := by
  simp [State.replyOk]

@[simp] theorem replyOk_templates (p : Packet) (s : State) :
    (s.replyOk p).templates = s.templates := by
  simp [State.replyOk]

@[simp] theorem replyOk_mason (p : Packet) (s : State) :
    (s.replyOk p).mason = s.mason := by
  simp [State.replyOk]

@[simp] theorem replyOk_free (p : Packet) (s : State) :
    (s.replyOk p).free = s.free := by
  simp [State.replyOk]

@[simp] theorem replyOk_pending (p : Packet) (s : State) :
    (s.replyOk p).pending = s.pending := by
  simp [State.replyOk]

/-! ### A reply of another status -/

@[simp] theorem fail_orderCode (p : Packet) (st : Nat) (s : State) :
    (s.fail p st).orderCode = s.orderCode := by
  simp [State.fail]

@[simp] theorem fail_now (p : Packet) (st : Nat) (s : State) :
    (s.fail p st).now = s.now := by
  simp [State.fail]

@[simp] theorem fail_power (p : Packet) (st : Nat) (s : State) :
    (s.fail p st).power = s.power := by
  simp [State.fail]

@[simp] theorem fail_direct (p : Packet) (st : Nat) (s : State) :
    (s.fail p st).direct = s.direct := by
  simp [State.fail]

@[simp] theorem fail_digest (p : Packet) (st : Nat) (s : State) :
    (s.fail p st).digest = s.digest := by
  simp [State.fail]

@[simp] theorem fail_keys (p : Packet) (st : Nat) (s : State) :
    (s.fail p st).keys = s.keys := by
  simp [State.fail]

@[simp] theorem fail_head (p : Packet) (st : Nat) (s : State) :
    (s.fail p st).head = s.head := by
  simp [State.fail]

@[simp] theorem fail_domains (p : Packet) (st : Nat) (s : State) :
    (s.fail p st).domains = s.domains := by
  simp [State.fail]

@[simp] theorem fail_mirror (p : Packet) (st : Nat) (s : State) :
    (s.fail p st).mirror = s.mirror := by
  simp [State.fail]

@[simp] theorem fail_heads (p : Packet) (st : Nat) (s : State) :
    (s.fail p st).heads = s.heads := by
  simp [State.fail]

@[simp] theorem fail_net (p : Packet) (st : Nat) (s : State) :
    (s.fail p st).net = s.net := by
  simp [State.fail]

@[simp] theorem fail_nvme (p : Packet) (st : Nat) (s : State) :
    (s.fail p st).nvme = s.nvme := by
  simp [State.fail]

@[simp] theorem fail_wp (p : Packet) (st : Nat) (s : State) :
    (s.fail p st).wp = s.wp := by
  simp [State.fail]

@[simp] theorem fail_map (p : Packet) (st : Nat) (s : State) :
    (s.fail p st).map = s.map := by
  simp [State.fail]

@[simp] theorem fail_flash (p : Packet) (st : Nat) (s : State) :
    (s.fail p st).flash = s.flash := by
  simp [State.fail]

@[simp] theorem fail_stripe (p : Packet) (st : Nat) (s : State) :
    (s.fail p st).stripe = s.stripe := by
  simp [State.fail]

@[simp] theorem fail_dram (p : Packet) (st : Nat) (s : State) :
    (s.fail p st).dram = s.dram := by
  simp [State.fail]

@[simp] theorem fail_arbiters (p : Packet) (st : Nat) (s : State) :
    (s.fail p st).arbiters = s.arbiters := by
  simp [State.fail]

@[simp] theorem fail_latency (p : Packet) (st : Nat) (s : State) :
    (s.fail p st).latency = s.latency := by
  simp [State.fail]

@[simp] theorem fail_dump (p : Packet) (st : Nat) (s : State) :
    (s.fail p st).dump = s.dump := by
  simp [State.fail]

@[simp] theorem fail_run (p : Packet) (st : Nat) (s : State) :
    (s.fail p st).run = s.run := by
  simp [State.fail]

@[simp] theorem fail_footing (p : Packet) (st : Nat) (s : State) :
    (s.fail p st).footing = s.footing := by
  simp [State.fail]

@[simp] theorem fail_templates (p : Packet) (st : Nat) (s : State) :
    (s.fail p st).templates = s.templates := by
  simp [State.fail]

@[simp] theorem fail_mason (p : Packet) (st : Nat) (s : State) :
    (s.fail p st).mason = s.mason := by
  simp [State.fail]

@[simp] theorem fail_free (p : Packet) (st : Nat) (s : State) :
    (s.fail p st).free = s.free := by
  simp [State.fail]

@[simp] theorem fail_pending (p : Packet) (st : Nat) (s : State) :
    (s.fail p st).pending = s.pending := by
  simp [State.fail]

/-! ### A reply that names a field -/

@[simp] theorem failField_orderCode (p : Packet) (st off : Nat) (s : State) :
    (s.failField p st off).orderCode = s.orderCode := by
  simp [State.failField]

@[simp] theorem failField_now (p : Packet) (st off : Nat) (s : State) :
    (s.failField p st off).now = s.now := by
  simp [State.failField]

@[simp] theorem failField_power (p : Packet) (st off : Nat) (s : State) :
    (s.failField p st off).power = s.power := by
  simp [State.failField]

@[simp] theorem failField_direct (p : Packet) (st off : Nat) (s : State) :
    (s.failField p st off).direct = s.direct := by
  simp [State.failField]

@[simp] theorem failField_digest (p : Packet) (st off : Nat) (s : State) :
    (s.failField p st off).digest = s.digest := by
  simp [State.failField]

@[simp] theorem failField_keys (p : Packet) (st off : Nat) (s : State) :
    (s.failField p st off).keys = s.keys := by
  simp [State.failField]

@[simp] theorem failField_head (p : Packet) (st off : Nat) (s : State) :
    (s.failField p st off).head = s.head := by
  simp [State.failField]

@[simp] theorem failField_domains (p : Packet) (st off : Nat) (s : State) :
    (s.failField p st off).domains = s.domains := by
  simp [State.failField]

@[simp] theorem failField_mirror (p : Packet) (st off : Nat) (s : State) :
    (s.failField p st off).mirror = s.mirror := by
  simp [State.failField]

@[simp] theorem failField_heads (p : Packet) (st off : Nat) (s : State) :
    (s.failField p st off).heads = s.heads := by
  simp [State.failField]

@[simp] theorem failField_net (p : Packet) (st off : Nat) (s : State) :
    (s.failField p st off).net = s.net := by
  simp [State.failField]

@[simp] theorem failField_nvme (p : Packet) (st off : Nat) (s : State) :
    (s.failField p st off).nvme = s.nvme := by
  simp [State.failField]

@[simp] theorem failField_wp (p : Packet) (st off : Nat) (s : State) :
    (s.failField p st off).wp = s.wp := by
  simp [State.failField]

@[simp] theorem failField_map (p : Packet) (st off : Nat) (s : State) :
    (s.failField p st off).map = s.map := by
  simp [State.failField]

@[simp] theorem failField_flash (p : Packet) (st off : Nat) (s : State) :
    (s.failField p st off).flash = s.flash := by
  simp [State.failField]

@[simp] theorem failField_stripe (p : Packet) (st off : Nat) (s : State) :
    (s.failField p st off).stripe = s.stripe := by
  simp [State.failField]

@[simp] theorem failField_dram (p : Packet) (st off : Nat) (s : State) :
    (s.failField p st off).dram = s.dram := by
  simp [State.failField]

@[simp] theorem failField_arbiters (p : Packet) (st off : Nat) (s : State) :
    (s.failField p st off).arbiters = s.arbiters := by
  simp [State.failField]

@[simp] theorem failField_latency (p : Packet) (st off : Nat) (s : State) :
    (s.failField p st off).latency = s.latency := by
  simp [State.failField]

@[simp] theorem failField_dump (p : Packet) (st off : Nat) (s : State) :
    (s.failField p st off).dump = s.dump := by
  simp [State.failField]

@[simp] theorem failField_run (p : Packet) (st off : Nat) (s : State) :
    (s.failField p st off).run = s.run := by
  simp [State.failField]

@[simp] theorem failField_footing (p : Packet) (st off : Nat) (s : State) :
    (s.failField p st off).footing = s.footing := by
  simp [State.failField]

@[simp] theorem failField_templates (p : Packet) (st off : Nat) (s : State) :
    (s.failField p st off).templates = s.templates := by
  simp [State.failField]

@[simp] theorem failField_mason (p : Packet) (st off : Nat) (s : State) :
    (s.failField p st off).mason = s.mason := by
  simp [State.failField]

@[simp] theorem failField_free (p : Packet) (st off : Nat) (s : State) :
    (s.failField p st off).free = s.free := by
  simp [State.failField]

@[simp] theorem failField_pending (p : Packet) (st off : Nat) (s : State) :
    (s.failField p st off).pending = s.pending := by
  simp [State.failField]

/-! ### A packet that waits for its reply -/

@[simp] theorem await_orderCode (p : Packet) (s : State) :
    (s.await p).orderCode = s.orderCode := by
  simp [State.await]

@[simp] theorem await_now (p : Packet) (s : State) :
    (s.await p).now = s.now := by
  simp [State.await]

@[simp] theorem await_power (p : Packet) (s : State) :
    (s.await p).power = s.power := by
  simp [State.await]

@[simp] theorem await_events (p : Packet) (s : State) :
    (s.await p).events = s.events := by
  simp [State.await]

@[simp] theorem await_direct (p : Packet) (s : State) :
    (s.await p).direct = s.direct := by
  simp [State.await]

@[simp] theorem await_digest (p : Packet) (s : State) :
    (s.await p).digest = s.digest := by
  simp [State.await]

@[simp] theorem await_keys (p : Packet) (s : State) :
    (s.await p).keys = s.keys := by
  simp [State.await]

@[simp] theorem await_head (p : Packet) (s : State) :
    (s.await p).head = s.head := by
  simp [State.await]

@[simp] theorem await_domains (p : Packet) (s : State) :
    (s.await p).domains = s.domains := by
  simp [State.await]

@[simp] theorem await_mirror (p : Packet) (s : State) :
    (s.await p).mirror = s.mirror := by
  simp [State.await]

@[simp] theorem await_heads (p : Packet) (s : State) :
    (s.await p).heads = s.heads := by
  simp [State.await]

@[simp] theorem await_net (p : Packet) (s : State) :
    (s.await p).net = s.net := by
  simp [State.await]

@[simp] theorem await_nvme (p : Packet) (s : State) :
    (s.await p).nvme = s.nvme := by
  simp [State.await]

@[simp] theorem await_wp (p : Packet) (s : State) :
    (s.await p).wp = s.wp := by
  simp [State.await]

@[simp] theorem await_map (p : Packet) (s : State) :
    (s.await p).map = s.map := by
  simp [State.await]

@[simp] theorem await_flash (p : Packet) (s : State) :
    (s.await p).flash = s.flash := by
  simp [State.await]

@[simp] theorem await_stripe (p : Packet) (s : State) :
    (s.await p).stripe = s.stripe := by
  simp [State.await]

@[simp] theorem await_dram (p : Packet) (s : State) :
    (s.await p).dram = s.dram := by
  simp [State.await]

@[simp] theorem await_arbiters (p : Packet) (s : State) :
    (s.await p).arbiters = s.arbiters := by
  simp [State.await]

@[simp] theorem await_latency (p : Packet) (s : State) :
    (s.await p).latency = s.latency := by
  simp [State.await]

@[simp] theorem await_dump (p : Packet) (s : State) :
    (s.await p).dump = s.dump := by
  simp [State.await]

@[simp] theorem await_run (p : Packet) (s : State) :
    (s.await p).run = s.run := by
  simp [State.await]

@[simp] theorem await_footing (p : Packet) (s : State) :
    (s.await p).footing = s.footing := by
  simp [State.await]

@[simp] theorem await_templates (p : Packet) (s : State) :
    (s.await p).templates = s.templates := by
  simp [State.await]

@[simp] theorem await_mason (p : Packet) (s : State) :
    (s.await p).mason = s.mason := by
  simp [State.await]

@[simp] theorem await_out (p : Packet) (s : State) :
    (s.await p).out = s.out := by
  simp [State.await]

@[simp] theorem await_free (p : Packet) (s : State) :
    (s.await p).free = s.free := by
  simp [State.await]

@[simp] theorem await_pending (p : Packet) (s : State) :
    (s.await p).pending = s.pending := by
  simp [State.await]

/-! ### A packet that waits for its resource -/

@[simp] theorem queueUp_orderCode (p : Packet) (s : State) :
    (s.queueUp p).orderCode = s.orderCode := by
  simp [State.queueUp]

@[simp] theorem queueUp_now (p : Packet) (s : State) :
    (s.queueUp p).now = s.now := by
  simp [State.queueUp]

@[simp] theorem queueUp_power (p : Packet) (s : State) :
    (s.queueUp p).power = s.power := by
  simp [State.queueUp]

@[simp] theorem queueUp_events (p : Packet) (s : State) :
    (s.queueUp p).events = s.events := by
  simp [State.queueUp]

@[simp] theorem queueUp_direct (p : Packet) (s : State) :
    (s.queueUp p).direct = s.direct := by
  simp [State.queueUp]

@[simp] theorem queueUp_digest (p : Packet) (s : State) :
    (s.queueUp p).digest = s.digest := by
  simp [State.queueUp]

@[simp] theorem queueUp_keys (p : Packet) (s : State) :
    (s.queueUp p).keys = s.keys := by
  simp [State.queueUp]

@[simp] theorem queueUp_head (p : Packet) (s : State) :
    (s.queueUp p).head = s.head := by
  simp [State.queueUp]

@[simp] theorem queueUp_domains (p : Packet) (s : State) :
    (s.queueUp p).domains = s.domains := by
  simp [State.queueUp]

@[simp] theorem queueUp_mirror (p : Packet) (s : State) :
    (s.queueUp p).mirror = s.mirror := by
  simp [State.queueUp]

@[simp] theorem queueUp_heads (p : Packet) (s : State) :
    (s.queueUp p).heads = s.heads := by
  simp [State.queueUp]

@[simp] theorem queueUp_net (p : Packet) (s : State) :
    (s.queueUp p).net = s.net := by
  simp [State.queueUp]

@[simp] theorem queueUp_nvme (p : Packet) (s : State) :
    (s.queueUp p).nvme = s.nvme := by
  simp [State.queueUp]

@[simp] theorem queueUp_wp (p : Packet) (s : State) :
    (s.queueUp p).wp = s.wp := by
  simp [State.queueUp]

@[simp] theorem queueUp_map (p : Packet) (s : State) :
    (s.queueUp p).map = s.map := by
  simp [State.queueUp]

@[simp] theorem queueUp_flash (p : Packet) (s : State) :
    (s.queueUp p).flash = s.flash := by
  simp [State.queueUp]

@[simp] theorem queueUp_stripe (p : Packet) (s : State) :
    (s.queueUp p).stripe = s.stripe := by
  simp [State.queueUp]

@[simp] theorem queueUp_dram (p : Packet) (s : State) :
    (s.queueUp p).dram = s.dram := by
  simp [State.queueUp]

@[simp] theorem queueUp_arbiters (p : Packet) (s : State) :
    (s.queueUp p).arbiters = s.arbiters := by
  simp [State.queueUp]

@[simp] theorem queueUp_latency (p : Packet) (s : State) :
    (s.queueUp p).latency = s.latency := by
  simp [State.queueUp]

@[simp] theorem queueUp_dump (p : Packet) (s : State) :
    (s.queueUp p).dump = s.dump := by
  simp [State.queueUp]

@[simp] theorem queueUp_run (p : Packet) (s : State) :
    (s.queueUp p).run = s.run := by
  simp [State.queueUp]

@[simp] theorem queueUp_footing (p : Packet) (s : State) :
    (s.queueUp p).footing = s.footing := by
  simp [State.queueUp]

@[simp] theorem queueUp_templates (p : Packet) (s : State) :
    (s.queueUp p).templates = s.templates := by
  simp [State.queueUp]

@[simp] theorem queueUp_mason (p : Packet) (s : State) :
    (s.queueUp p).mason = s.mason := by
  simp [State.queueUp]

@[simp] theorem queueUp_out (p : Packet) (s : State) :
    (s.queueUp p).out = s.out := by
  simp [State.queueUp]

@[simp] theorem queueUp_free (p : Packet) (s : State) :
    (s.queueUp p).free = s.free := by
  simp [State.queueUp]

@[simp] theorem queueUp_pending (p : Packet) (s : State) :
    (s.queueUp p).pending = s.pending := by
  simp [State.queueUp]

/-! ### A packet that waits no more -/

@[simp] theorem unwait_orderCode (p : Packet) (s : State) :
    (s.unwait p).orderCode = s.orderCode := by
  simp [State.unwait]

@[simp] theorem unwait_now (p : Packet) (s : State) :
    (s.unwait p).now = s.now := by
  simp [State.unwait]

@[simp] theorem unwait_power (p : Packet) (s : State) :
    (s.unwait p).power = s.power := by
  simp [State.unwait]

@[simp] theorem unwait_events (p : Packet) (s : State) :
    (s.unwait p).events = s.events := by
  simp [State.unwait]

@[simp] theorem unwait_direct (p : Packet) (s : State) :
    (s.unwait p).direct = s.direct := by
  simp [State.unwait]

@[simp] theorem unwait_digest (p : Packet) (s : State) :
    (s.unwait p).digest = s.digest := by
  simp [State.unwait]

@[simp] theorem unwait_keys (p : Packet) (s : State) :
    (s.unwait p).keys = s.keys := by
  simp [State.unwait]

@[simp] theorem unwait_head (p : Packet) (s : State) :
    (s.unwait p).head = s.head := by
  simp [State.unwait]

@[simp] theorem unwait_domains (p : Packet) (s : State) :
    (s.unwait p).domains = s.domains := by
  simp [State.unwait]

@[simp] theorem unwait_mirror (p : Packet) (s : State) :
    (s.unwait p).mirror = s.mirror := by
  simp [State.unwait]

@[simp] theorem unwait_heads (p : Packet) (s : State) :
    (s.unwait p).heads = s.heads := by
  simp [State.unwait]

@[simp] theorem unwait_net (p : Packet) (s : State) :
    (s.unwait p).net = s.net := by
  simp [State.unwait]

@[simp] theorem unwait_nvme (p : Packet) (s : State) :
    (s.unwait p).nvme = s.nvme := by
  simp [State.unwait]

@[simp] theorem unwait_wp (p : Packet) (s : State) :
    (s.unwait p).wp = s.wp := by
  simp [State.unwait]

@[simp] theorem unwait_map (p : Packet) (s : State) :
    (s.unwait p).map = s.map := by
  simp [State.unwait]

@[simp] theorem unwait_flash (p : Packet) (s : State) :
    (s.unwait p).flash = s.flash := by
  simp [State.unwait]

@[simp] theorem unwait_stripe (p : Packet) (s : State) :
    (s.unwait p).stripe = s.stripe := by
  simp [State.unwait]

@[simp] theorem unwait_dram (p : Packet) (s : State) :
    (s.unwait p).dram = s.dram := by
  simp [State.unwait]

@[simp] theorem unwait_arbiters (p : Packet) (s : State) :
    (s.unwait p).arbiters = s.arbiters := by
  simp [State.unwait]

@[simp] theorem unwait_latency (p : Packet) (s : State) :
    (s.unwait p).latency = s.latency := by
  simp [State.unwait]

@[simp] theorem unwait_dump (p : Packet) (s : State) :
    (s.unwait p).dump = s.dump := by
  simp [State.unwait]

@[simp] theorem unwait_run (p : Packet) (s : State) :
    (s.unwait p).run = s.run := by
  simp [State.unwait]

@[simp] theorem unwait_footing (p : Packet) (s : State) :
    (s.unwait p).footing = s.footing := by
  simp [State.unwait]

@[simp] theorem unwait_templates (p : Packet) (s : State) :
    (s.unwait p).templates = s.templates := by
  simp [State.unwait]

@[simp] theorem unwait_mason (p : Packet) (s : State) :
    (s.unwait p).mason = s.mason := by
  simp [State.unwait]

@[simp] theorem unwait_out (p : Packet) (s : State) :
    (s.unwait p).out = s.out := by
  simp [State.unwait]

@[simp] theorem unwait_free (p : Packet) (s : State) :
    (s.unwait p).free = s.free := by
  simp [State.unwait]

@[simp] theorem unwait_pending (p : Packet) (s : State) :
    (s.unwait p).pending = s.pending := by
  simp [State.unwait]

/-! ### A reply to a waiting packet -/

@[simp] theorem replyTo_orderCode (acc st res : Nat) (d : List Byte) (s : State) :
    (s.replyTo acc st res d).orderCode = s.orderCode := by
  unfold State.replyTo; split <;> simp

@[simp] theorem replyTo_now (acc st res : Nat) (d : List Byte) (s : State) :
    (s.replyTo acc st res d).now = s.now := by
  unfold State.replyTo; split <;> simp

@[simp] theorem replyTo_power (acc st res : Nat) (d : List Byte) (s : State) :
    (s.replyTo acc st res d).power = s.power := by
  unfold State.replyTo; split <;> simp

@[simp] theorem replyTo_direct (acc st res : Nat) (d : List Byte) (s : State) :
    (s.replyTo acc st res d).direct = s.direct := by
  unfold State.replyTo; split <;> simp

@[simp] theorem replyTo_digest (acc st res : Nat) (d : List Byte) (s : State) :
    (s.replyTo acc st res d).digest = s.digest := by
  unfold State.replyTo; split <;> simp

@[simp] theorem replyTo_keys (acc st res : Nat) (d : List Byte) (s : State) :
    (s.replyTo acc st res d).keys = s.keys := by
  unfold State.replyTo; split <;> simp

@[simp] theorem replyTo_head (acc st res : Nat) (d : List Byte) (s : State) :
    (s.replyTo acc st res d).head = s.head := by
  unfold State.replyTo; split <;> simp

@[simp] theorem replyTo_domains (acc st res : Nat) (d : List Byte) (s : State) :
    (s.replyTo acc st res d).domains = s.domains := by
  unfold State.replyTo; split <;> simp

@[simp] theorem replyTo_mirror (acc st res : Nat) (d : List Byte) (s : State) :
    (s.replyTo acc st res d).mirror = s.mirror := by
  unfold State.replyTo; split <;> simp

@[simp] theorem replyTo_heads (acc st res : Nat) (d : List Byte) (s : State) :
    (s.replyTo acc st res d).heads = s.heads := by
  unfold State.replyTo; split <;> simp

@[simp] theorem replyTo_net (acc st res : Nat) (d : List Byte) (s : State) :
    (s.replyTo acc st res d).net = s.net := by
  unfold State.replyTo; split <;> simp

@[simp] theorem replyTo_nvme (acc st res : Nat) (d : List Byte) (s : State) :
    (s.replyTo acc st res d).nvme = s.nvme := by
  unfold State.replyTo; split <;> simp

@[simp] theorem replyTo_wp (acc st res : Nat) (d : List Byte) (s : State) :
    (s.replyTo acc st res d).wp = s.wp := by
  unfold State.replyTo; split <;> simp

@[simp] theorem replyTo_map (acc st res : Nat) (d : List Byte) (s : State) :
    (s.replyTo acc st res d).map = s.map := by
  unfold State.replyTo; split <;> simp

@[simp] theorem replyTo_flash (acc st res : Nat) (d : List Byte) (s : State) :
    (s.replyTo acc st res d).flash = s.flash := by
  unfold State.replyTo; split <;> simp

@[simp] theorem replyTo_stripe (acc st res : Nat) (d : List Byte) (s : State) :
    (s.replyTo acc st res d).stripe = s.stripe := by
  unfold State.replyTo; split <;> simp

@[simp] theorem replyTo_dram (acc st res : Nat) (d : List Byte) (s : State) :
    (s.replyTo acc st res d).dram = s.dram := by
  unfold State.replyTo; split <;> simp

@[simp] theorem replyTo_arbiters (acc st res : Nat) (d : List Byte) (s : State) :
    (s.replyTo acc st res d).arbiters = s.arbiters := by
  unfold State.replyTo; split <;> simp

@[simp] theorem replyTo_latency (acc st res : Nat) (d : List Byte) (s : State) :
    (s.replyTo acc st res d).latency = s.latency := by
  unfold State.replyTo; split <;> simp

@[simp] theorem replyTo_dump (acc st res : Nat) (d : List Byte) (s : State) :
    (s.replyTo acc st res d).dump = s.dump := by
  unfold State.replyTo; split <;> simp

@[simp] theorem replyTo_run (acc st res : Nat) (d : List Byte) (s : State) :
    (s.replyTo acc st res d).run = s.run := by
  unfold State.replyTo; split <;> simp

@[simp] theorem replyTo_footing (acc st res : Nat) (d : List Byte) (s : State) :
    (s.replyTo acc st res d).footing = s.footing := by
  unfold State.replyTo; split <;> simp

@[simp] theorem replyTo_templates (acc st res : Nat) (d : List Byte) (s : State) :
    (s.replyTo acc st res d).templates = s.templates := by
  unfold State.replyTo; split <;> simp

@[simp] theorem replyTo_mason (acc st res : Nat) (d : List Byte) (s : State) :
    (s.replyTo acc st res d).mason = s.mason := by
  unfold State.replyTo; split <;> simp

@[simp] theorem replyTo_free (acc st res : Nat) (d : List Byte) (s : State) :
    (s.replyTo acc st res d).free = s.free := by
  unfold State.replyTo; split <;> simp

@[simp] theorem replyTo_pending (acc st res : Nat) (d : List Byte) (s : State) :
    (s.replyTo acc st res d).pending = s.pending := by
  unfold State.replyTo; split <;> simp

/-! ### An island that asks for its wake -/

@[simp] theorem wakeIsland_orderCode (i : Nat) (s : State) :
    (s.wakeIsland i).orderCode = s.orderCode := by
  unfold State.wakeIsland; repeat' (first | rfl | split)

@[simp] theorem wakeIsland_pcie (i : Nat) (s : State) :
    (s.wakeIsland i).pcie = s.pcie := by
  unfold State.wakeIsland; repeat' (first | rfl | split)

@[simp] theorem wakeIsland_events (i : Nat) (s : State) :
    (s.wakeIsland i).events = s.events := by
  unfold State.wakeIsland; repeat' (first | rfl | split)

@[simp] theorem wakeIsland_direct (i : Nat) (s : State) :
    (s.wakeIsland i).direct = s.direct := by
  unfold State.wakeIsland; repeat' (first | rfl | split)

@[simp] theorem wakeIsland_digest (i : Nat) (s : State) :
    (s.wakeIsland i).digest = s.digest := by
  unfold State.wakeIsland; repeat' (first | rfl | split)

@[simp] theorem wakeIsland_keys (i : Nat) (s : State) :
    (s.wakeIsland i).keys = s.keys := by
  unfold State.wakeIsland; repeat' (first | rfl | split)

@[simp] theorem wakeIsland_head (i : Nat) (s : State) :
    (s.wakeIsland i).head = s.head := by
  unfold State.wakeIsland; repeat' (first | rfl | split)

@[simp] theorem wakeIsland_domains (i : Nat) (s : State) :
    (s.wakeIsland i).domains = s.domains := by
  unfold State.wakeIsland; repeat' (first | rfl | split)

@[simp] theorem wakeIsland_mirror (i : Nat) (s : State) :
    (s.wakeIsland i).mirror = s.mirror := by
  unfold State.wakeIsland; repeat' (first | rfl | split)

@[simp] theorem wakeIsland_heads (i : Nat) (s : State) :
    (s.wakeIsland i).heads = s.heads := by
  unfold State.wakeIsland; repeat' (first | rfl | split)

@[simp] theorem wakeIsland_net (i : Nat) (s : State) :
    (s.wakeIsland i).net = s.net := by
  unfold State.wakeIsland; repeat' (first | rfl | split)

@[simp] theorem wakeIsland_nvme (i : Nat) (s : State) :
    (s.wakeIsland i).nvme = s.nvme := by
  unfold State.wakeIsland; repeat' (first | rfl | split)

@[simp] theorem wakeIsland_wp (i : Nat) (s : State) :
    (s.wakeIsland i).wp = s.wp := by
  unfold State.wakeIsland; repeat' (first | rfl | split)

@[simp] theorem wakeIsland_map (i : Nat) (s : State) :
    (s.wakeIsland i).map = s.map := by
  unfold State.wakeIsland; repeat' (first | rfl | split)

@[simp] theorem wakeIsland_flash (i : Nat) (s : State) :
    (s.wakeIsland i).flash = s.flash := by
  unfold State.wakeIsland; repeat' (first | rfl | split)

@[simp] theorem wakeIsland_stripe (i : Nat) (s : State) :
    (s.wakeIsland i).stripe = s.stripe := by
  unfold State.wakeIsland; repeat' (first | rfl | split)

@[simp] theorem wakeIsland_dram (i : Nat) (s : State) :
    (s.wakeIsland i).dram = s.dram := by
  unfold State.wakeIsland; repeat' (first | rfl | split)

@[simp] theorem wakeIsland_arbiters (i : Nat) (s : State) :
    (s.wakeIsland i).arbiters = s.arbiters := by
  unfold State.wakeIsland; repeat' (first | rfl | split)

@[simp] theorem wakeIsland_latency (i : Nat) (s : State) :
    (s.wakeIsland i).latency = s.latency := by
  unfold State.wakeIsland; repeat' (first | rfl | split)

@[simp] theorem wakeIsland_dump (i : Nat) (s : State) :
    (s.wakeIsland i).dump = s.dump := by
  unfold State.wakeIsland; repeat' (first | rfl | split)

@[simp] theorem wakeIsland_run (i : Nat) (s : State) :
    (s.wakeIsland i).run = s.run := by
  unfold State.wakeIsland; repeat' (first | rfl | split)

@[simp] theorem wakeIsland_footing (i : Nat) (s : State) :
    (s.wakeIsland i).footing = s.footing := by
  unfold State.wakeIsland; repeat' (first | rfl | split)

@[simp] theorem wakeIsland_templates (i : Nat) (s : State) :
    (s.wakeIsland i).templates = s.templates := by
  unfold State.wakeIsland; repeat' (first | rfl | split)

@[simp] theorem wakeIsland_mason (i : Nat) (s : State) :
    (s.wakeIsland i).mason = s.mason := by
  unfold State.wakeIsland; repeat' (first | rfl | split)

@[simp] theorem wakeIsland_out (i : Nat) (s : State) :
    (s.wakeIsland i).out = s.out := by
  unfold State.wakeIsland; repeat' (first | rfl | split)

@[simp] theorem wakeIsland_free (i : Nat) (s : State) :
    (s.wakeIsland i).free = s.free := by
  unfold State.wakeIsland; repeat' (first | rfl | split)

@[simp] theorem wakeIsland_pending (i : Nat) (s : State) :
    (s.wakeIsland i).pending = s.pending := by
  unfold State.wakeIsland; repeat' (first | rfl | split)

/-- A property that each step of a fold keeps holds of the fold. -/
theorem foldl_keeps {α β : Type} (f : State → α → State) (g : State → β) (h : ∀ s a, g (f s a) = g s) :
    ∀ (l : List α) (s : State), g (l.foldl f s) = g s
  | [], _ => rfl
  | a :: l, s => by rw [List.foldl_cons, foldl_keeps f g h l, h]

/-! ### Every island asks for its wake -/

@[simp] theorem wakeAll_orderCode (s : State) :
    (s.wakeAll).orderCode = s.orderCode := by
  unfold State.wakeAll; exact foldl_keeps _ _ (fun s a => by split <;> (try split) <;> simp) _ s

@[simp] theorem wakeAll_pcie (s : State) :
    (s.wakeAll).pcie = s.pcie := by
  unfold State.wakeAll; exact foldl_keeps _ _ (fun s a => by split <;> (try split) <;> simp) _ s

@[simp] theorem wakeAll_events (s : State) :
    (s.wakeAll).events = s.events := by
  unfold State.wakeAll; exact foldl_keeps _ _ (fun s a => by split <;> (try split) <;> simp) _ s

@[simp] theorem wakeAll_direct (s : State) :
    (s.wakeAll).direct = s.direct := by
  unfold State.wakeAll; exact foldl_keeps _ _ (fun s a => by split <;> (try split) <;> simp) _ s

@[simp] theorem wakeAll_digest (s : State) :
    (s.wakeAll).digest = s.digest := by
  unfold State.wakeAll; exact foldl_keeps _ _ (fun s a => by split <;> (try split) <;> simp) _ s

@[simp] theorem wakeAll_keys (s : State) :
    (s.wakeAll).keys = s.keys := by
  unfold State.wakeAll; exact foldl_keeps _ _ (fun s a => by split <;> (try split) <;> simp) _ s

@[simp] theorem wakeAll_head (s : State) :
    (s.wakeAll).head = s.head := by
  unfold State.wakeAll; exact foldl_keeps _ _ (fun s a => by split <;> (try split) <;> simp) _ s

@[simp] theorem wakeAll_domains (s : State) :
    (s.wakeAll).domains = s.domains := by
  unfold State.wakeAll; exact foldl_keeps _ _ (fun s a => by split <;> (try split) <;> simp) _ s

@[simp] theorem wakeAll_mirror (s : State) :
    (s.wakeAll).mirror = s.mirror := by
  unfold State.wakeAll; exact foldl_keeps _ _ (fun s a => by split <;> (try split) <;> simp) _ s

@[simp] theorem wakeAll_heads (s : State) :
    (s.wakeAll).heads = s.heads := by
  unfold State.wakeAll; exact foldl_keeps _ _ (fun s a => by split <;> (try split) <;> simp) _ s

@[simp] theorem wakeAll_net (s : State) :
    (s.wakeAll).net = s.net := by
  unfold State.wakeAll; exact foldl_keeps _ _ (fun s a => by split <;> (try split) <;> simp) _ s

@[simp] theorem wakeAll_nvme (s : State) :
    (s.wakeAll).nvme = s.nvme := by
  unfold State.wakeAll; exact foldl_keeps _ _ (fun s a => by split <;> (try split) <;> simp) _ s

@[simp] theorem wakeAll_wp (s : State) :
    (s.wakeAll).wp = s.wp := by
  unfold State.wakeAll; exact foldl_keeps _ _ (fun s a => by split <;> (try split) <;> simp) _ s

@[simp] theorem wakeAll_map (s : State) :
    (s.wakeAll).map = s.map := by
  unfold State.wakeAll; exact foldl_keeps _ _ (fun s a => by split <;> (try split) <;> simp) _ s

@[simp] theorem wakeAll_flash (s : State) :
    (s.wakeAll).flash = s.flash := by
  unfold State.wakeAll; exact foldl_keeps _ _ (fun s a => by split <;> (try split) <;> simp) _ s

@[simp] theorem wakeAll_stripe (s : State) :
    (s.wakeAll).stripe = s.stripe := by
  unfold State.wakeAll; exact foldl_keeps _ _ (fun s a => by split <;> (try split) <;> simp) _ s

@[simp] theorem wakeAll_dram (s : State) :
    (s.wakeAll).dram = s.dram := by
  unfold State.wakeAll; exact foldl_keeps _ _ (fun s a => by split <;> (try split) <;> simp) _ s

@[simp] theorem wakeAll_arbiters (s : State) :
    (s.wakeAll).arbiters = s.arbiters := by
  unfold State.wakeAll; exact foldl_keeps _ _ (fun s a => by split <;> (try split) <;> simp) _ s

@[simp] theorem wakeAll_latency (s : State) :
    (s.wakeAll).latency = s.latency := by
  unfold State.wakeAll; exact foldl_keeps _ _ (fun s a => by split <;> (try split) <;> simp) _ s

@[simp] theorem wakeAll_dump (s : State) :
    (s.wakeAll).dump = s.dump := by
  unfold State.wakeAll; exact foldl_keeps _ _ (fun s a => by split <;> (try split) <;> simp) _ s

@[simp] theorem wakeAll_run (s : State) :
    (s.wakeAll).run = s.run := by
  unfold State.wakeAll; exact foldl_keeps _ _ (fun s a => by split <;> (try split) <;> simp) _ s

@[simp] theorem wakeAll_footing (s : State) :
    (s.wakeAll).footing = s.footing := by
  unfold State.wakeAll; exact foldl_keeps _ _ (fun s a => by split <;> (try split) <;> simp) _ s

@[simp] theorem wakeAll_templates (s : State) :
    (s.wakeAll).templates = s.templates := by
  unfold State.wakeAll; exact foldl_keeps _ _ (fun s a => by split <;> (try split) <;> simp) _ s

@[simp] theorem wakeAll_mason (s : State) :
    (s.wakeAll).mason = s.mason := by
  unfold State.wakeAll; exact foldl_keeps _ _ (fun s a => by split <;> (try split) <;> simp) _ s

@[simp] theorem wakeAll_out (s : State) :
    (s.wakeAll).out = s.out := by
  unfold State.wakeAll; exact foldl_keeps _ _ (fun s a => by split <;> (try split) <;> simp) _ s

@[simp] theorem wakeAll_free (s : State) :
    (s.wakeAll).free = s.free := by
  unfold State.wakeAll; exact foldl_keeps _ _ (fun s a => by split <;> (try split) <;> simp) _ s

@[simp] theorem wakeAll_pending (s : State) :
    (s.wakeAll).pending = s.pending := by
  unfold State.wakeAll; exact foldl_keeps _ _ (fun s a => by split <;> (try split) <;> simp) _ s

@[simp] theorem setIsland_power_standbyRail (i : Nat) (v : Island) (s : State) : (s.setIsland i v).power.standbyRail = s.power.standbyRail := rfl

@[simp] theorem wakeIsland_power_standbyRail (i : Nat) (s : State) : (s.wakeIsland i).power.standbyRail = s.power.standbyRail := by
  unfold State.wakeIsland; repeat' (first | rfl | split)

@[simp] theorem wakeAll_power_standbyRail (s : State) : (s.wakeAll).power.standbyRail = s.power.standbyRail := by
  unfold State.wakeAll; exact foldl_keeps _ (fun s => s.power.standbyRail) (fun s a => by split <;> (try split) <;> simp) _ s

@[simp] theorem measured_power_standbyRail (v : Nat) (s : State) : (s.measured v).power.standbyRail = s.power.standbyRail := rfl

@[simp] theorem setIsland_power_coreRails (i : Nat) (v : Island) (s : State) : (s.setIsland i v).power.coreRails = s.power.coreRails := rfl

@[simp] theorem wakeIsland_power_coreRails (i : Nat) (s : State) : (s.wakeIsland i).power.coreRails = s.power.coreRails := by
  unfold State.wakeIsland; repeat' (first | rfl | split)

@[simp] theorem wakeAll_power_coreRails (s : State) : (s.wakeAll).power.coreRails = s.power.coreRails := by
  unfold State.wakeAll; exact foldl_keeps _ (fun s => s.power.coreRails) (fun s a => by split <;> (try split) <;> simp) _ s

@[simp] theorem measured_power_coreRails (v : Nat) (s : State) : (s.measured v).power.coreRails = s.power.coreRails := rfl

@[simp] theorem setIsland_power_pwrGood (i : Nat) (v : Island) (s : State) : (s.setIsland i v).power.pwrGood = s.power.pwrGood := rfl

@[simp] theorem wakeIsland_power_pwrGood (i : Nat) (s : State) : (s.wakeIsland i).power.pwrGood = s.power.pwrGood := by
  unfold State.wakeIsland; repeat' (first | rfl | split)

@[simp] theorem wakeAll_power_pwrGood (s : State) : (s.wakeAll).power.pwrGood = s.power.pwrGood := by
  unfold State.wakeAll; exact foldl_keeps _ (fun s => s.power.pwrGood) (fun s a => by split <;> (try split) <;> simp) _ s

@[simp] theorem measured_power_pwrGood (v : Nat) (s : State) : (s.measured v).power.pwrGood = s.power.pwrGood := rfl

@[simp] theorem setIsland_power_internalReset (i : Nat) (v : Island) (s : State) : (s.setIsland i v).power.internalReset = s.power.internalReset := rfl

@[simp] theorem wakeIsland_power_internalReset (i : Nat) (s : State) : (s.wakeIsland i).power.internalReset = s.power.internalReset := by
  unfold State.wakeIsland; repeat' (first | rfl | split)

@[simp] theorem wakeAll_power_internalReset (s : State) : (s.wakeAll).power.internalReset = s.power.internalReset := by
  unfold State.wakeAll; exact foldl_keeps _ (fun s => s.power.internalReset) (fun s a => by split <;> (try split) <;> simp) _ s

@[simp] theorem measured_power_internalReset (v : Nat) (s : State) : (s.measured v).power.internalReset = s.power.internalReset := rfl

@[simp] theorem setIsland_power_bypassClosed (i : Nat) (v : Island) (s : State) : (s.setIsland i v).power.bypassClosed = s.power.bypassClosed := rfl

@[simp] theorem wakeIsland_power_bypassClosed (i : Nat) (s : State) : (s.wakeIsland i).power.bypassClosed = s.power.bypassClosed := by
  unfold State.wakeIsland; repeat' (first | rfl | split)

@[simp] theorem wakeAll_power_bypassClosed (s : State) : (s.wakeAll).power.bypassClosed = s.power.bypassClosed := by
  unfold State.wakeAll; exact foldl_keeps _ (fun s => s.power.bypassClosed) (fun s a => by split <;> (try split) <;> simp) _ s

@[simp] theorem measured_power_bypassClosed (v : Nat) (s : State) : (s.measured v).power.bypassClosed = s.power.bypassClosed := rfl

@[simp] theorem setIsland_power_selfRefresh (i : Nat) (v : Island) (s : State) : (s.setIsland i v).power.selfRefresh = s.power.selfRefresh := rfl

@[simp] theorem wakeIsland_power_selfRefresh (i : Nat) (s : State) : (s.wakeIsland i).power.selfRefresh = s.power.selfRefresh := by
  unfold State.wakeIsland; repeat' (first | rfl | split)

@[simp] theorem wakeAll_power_selfRefresh (s : State) : (s.wakeAll).power.selfRefresh = s.power.selfRefresh := by
  unfold State.wakeAll; exact foldl_keeps _ (fun s => s.power.selfRefresh) (fun s a => by split <;> (try split) <;> simp) _ s

@[simp] theorem measured_power_selfRefresh (v : Nat) (s : State) : (s.measured v).power.selfRefresh = s.power.selfRefresh := rfl

@[simp] theorem setIsland_power_selfRefreshing (i : Nat) (v : Island) (s : State) : (s.setIsland i v).power.selfRefreshing = s.power.selfRefreshing := rfl

@[simp] theorem wakeIsland_power_selfRefreshing (i : Nat) (s : State) : (s.wakeIsland i).power.selfRefreshing = s.power.selfRefreshing := by
  unfold State.wakeIsland; repeat' (first | rfl | split)

@[simp] theorem wakeAll_power_selfRefreshing (s : State) : (s.wakeAll).power.selfRefreshing = s.power.selfRefreshing := by
  unfold State.wakeAll; exact foldl_keeps _ (fun s => s.power.selfRefreshing) (fun s a => by split <;> (try split) <;> simp) _ s

@[simp] theorem measured_power_selfRefreshing (v : Nat) (s : State) : (s.measured v).power.selfRefreshing = s.power.selfRefreshing := rfl

@[simp] theorem setIsland_power_vbus (i : Nat) (v : Island) (s : State) : (s.setIsland i v).power.vbus = s.power.vbus := rfl

@[simp] theorem wakeIsland_power_vbus (i : Nat) (s : State) : (s.wakeIsland i).power.vbus = s.power.vbus := by
  unfold State.wakeIsland; repeat' (first | rfl | split)

@[simp] theorem wakeAll_power_vbus (s : State) : (s.wakeAll).power.vbus = s.power.vbus := by
  unfold State.wakeAll; exact foldl_keeps _ (fun s => s.power.vbus) (fun s a => by split <;> (try split) <;> simp) _ s

@[simp] theorem setIsland_power_standby (i : Nat) (v : Island) (s : State) : (s.setIsland i v).power.standby = s.power.standby := rfl

@[simp] theorem wakeIsland_power_standby (i : Nat) (s : State) : (s.wakeIsland i).power.standby = s.power.standby := by
  unfold State.wakeIsland; repeat' (first | rfl | split)

@[simp] theorem wakeAll_power_standby (s : State) : (s.wakeAll).power.standby = s.power.standby := by
  unfold State.wakeAll; exact foldl_keeps _ (fun s => s.power.standby) (fun s a => by split <;> (try split) <;> simp) _ s

@[simp] theorem measured_power_standby (v : Nat) (s : State) : (s.measured v).power.standby = s.power.standby := rfl

@[simp] theorem setIsland_power_tripped (i : Nat) (v : Island) (s : State) : (s.setIsland i v).power.tripped = s.power.tripped := rfl

@[simp] theorem wakeIsland_power_tripped (i : Nat) (s : State) : (s.wakeIsland i).power.tripped = s.power.tripped := by
  unfold State.wakeIsland; repeat' (first | rfl | split)

@[simp] theorem wakeAll_power_tripped (s : State) : (s.wakeAll).power.tripped = s.power.tripped := by
  unfold State.wakeAll; exact foldl_keeps _ (fun s => s.power.tripped) (fun s a => by split <;> (try split) <;> simp) _ s

@[simp] theorem measured_power_tripped (v : Nat) (s : State) : (s.measured v).power.tripped = s.power.tripped := rfl

@[simp] theorem setIsland_power_resetL (i : Nat) (v : Island) (s : State) : (s.setIsland i v).power.resetL = s.power.resetL := rfl

@[simp] theorem wakeIsland_power_resetL (i : Nat) (s : State) : (s.wakeIsland i).power.resetL = s.power.resetL := by
  unfold State.wakeIsland; repeat' (first | rfl | split)

@[simp] theorem wakeAll_power_resetL (s : State) : (s.wakeAll).power.resetL = s.power.resetL := by
  unfold State.wakeAll; exact foldl_keeps _ (fun s => s.power.resetL) (fun s a => by split <;> (try split) <;> simp) _ s

@[simp] theorem measured_power_resetL (v : Nat) (s : State) : (s.measured v).power.resetL = s.power.resetL := rfl

@[simp] theorem setIsland_power_straps (i : Nat) (v : Island) (s : State) : (s.setIsland i v).power.straps = s.power.straps := rfl

@[simp] theorem wakeIsland_power_straps (i : Nat) (s : State) : (s.wakeIsland i).power.straps = s.power.straps := by
  unfold State.wakeIsland; repeat' (first | rfl | split)

@[simp] theorem wakeAll_power_straps (s : State) : (s.wakeAll).power.straps = s.power.straps := by
  unfold State.wakeAll; exact foldl_keeps _ (fun s => s.power.straps) (fun s a => by split <;> (try split) <;> simp) _ s

@[simp] theorem measured_power_straps (v : Nat) (s : State) : (s.measured v).power.straps = s.power.straps := rfl

@[simp] theorem setIsland_power_sampled (i : Nat) (v : Island) (s : State) : (s.setIsland i v).power.sampled = s.power.sampled := rfl

@[simp] theorem wakeIsland_power_sampled (i : Nat) (s : State) : (s.wakeIsland i).power.sampled = s.power.sampled := by
  unfold State.wakeIsland; repeat' (first | rfl | split)

@[simp] theorem wakeAll_power_sampled (s : State) : (s.wakeAll).power.sampled = s.power.sampled := by
  unfold State.wakeAll; exact foldl_keeps _ (fun s => s.power.sampled) (fun s a => by split <;> (try split) <;> simp) _ s

@[simp] theorem measured_power_sampled (v : Nat) (s : State) : (s.measured v).power.sampled = s.power.sampled := rfl

@[simp] theorem setIsland_power_autoAt (i : Nat) (v : Island) (s : State) : (s.setIsland i v).power.autoAt = s.power.autoAt := rfl

@[simp] theorem wakeIsland_power_autoAt (i : Nat) (s : State) : (s.wakeIsland i).power.autoAt = s.power.autoAt := by
  unfold State.wakeIsland; repeat' (first | rfl | split)

@[simp] theorem wakeAll_power_autoAt (s : State) : (s.wakeAll).power.autoAt = s.power.autoAt := by
  unfold State.wakeAll; exact foldl_keeps _ (fun s => s.power.autoAt) (fun s a => by split <;> (try split) <;> simp) _ s

@[simp] theorem measured_power_autoAt (v : Nat) (s : State) : (s.measured v).power.autoAt = s.power.autoAt := rfl

/-! ### The supply as measured -/

@[simp] theorem measured_orderCode (v : Nat) (s : State) :
    (s.measured v).orderCode = s.orderCode := rfl

@[simp] theorem measured_now (v : Nat) (s : State) :
    (s.measured v).now = s.now := rfl

@[simp] theorem measured_pcie (v : Nat) (s : State) :
    (s.measured v).pcie = s.pcie := rfl

@[simp] theorem measured_events (v : Nat) (s : State) :
    (s.measured v).events = s.events := rfl

@[simp] theorem measured_direct (v : Nat) (s : State) :
    (s.measured v).direct = s.direct := rfl

@[simp] theorem measured_digest (v : Nat) (s : State) :
    (s.measured v).digest = s.digest := rfl

@[simp] theorem measured_keys (v : Nat) (s : State) :
    (s.measured v).keys = s.keys := rfl

@[simp] theorem measured_head (v : Nat) (s : State) :
    (s.measured v).head = s.head := rfl

@[simp] theorem measured_domains (v : Nat) (s : State) :
    (s.measured v).domains = s.domains := rfl

@[simp] theorem measured_mirror (v : Nat) (s : State) :
    (s.measured v).mirror = s.mirror := rfl

@[simp] theorem measured_heads (v : Nat) (s : State) :
    (s.measured v).heads = s.heads := rfl

@[simp] theorem measured_net (v : Nat) (s : State) :
    (s.measured v).net = s.net := rfl

@[simp] theorem measured_nvme (v : Nat) (s : State) :
    (s.measured v).nvme = s.nvme := rfl

@[simp] theorem measured_wp (v : Nat) (s : State) :
    (s.measured v).wp = s.wp := rfl

@[simp] theorem measured_map (v : Nat) (s : State) :
    (s.measured v).map = s.map := rfl

@[simp] theorem measured_flash (v : Nat) (s : State) :
    (s.measured v).flash = s.flash := rfl

@[simp] theorem measured_stripe (v : Nat) (s : State) :
    (s.measured v).stripe = s.stripe := rfl

@[simp] theorem measured_dram (v : Nat) (s : State) :
    (s.measured v).dram = s.dram := rfl

@[simp] theorem measured_arbiters (v : Nat) (s : State) :
    (s.measured v).arbiters = s.arbiters := rfl

@[simp] theorem measured_latency (v : Nat) (s : State) :
    (s.measured v).latency = s.latency := rfl

@[simp] theorem measured_dump (v : Nat) (s : State) :
    (s.measured v).dump = s.dump := rfl

@[simp] theorem measured_run (v : Nat) (s : State) :
    (s.measured v).run = s.run := rfl

@[simp] theorem measured_footing (v : Nat) (s : State) :
    (s.measured v).footing = s.footing := rfl

@[simp] theorem measured_templates (v : Nat) (s : State) :
    (s.measured v).templates = s.templates := rfl

@[simp] theorem measured_mason (v : Nat) (s : State) :
    (s.measured v).mason = s.mason := rfl

@[simp] theorem measured_out (v : Nat) (s : State) :
    (s.measured v).out = s.out := rfl

@[simp] theorem measured_free (v : Nat) (s : State) :
    (s.measured v).free = s.free := rfl

@[simp] theorem measured_pending (v : Nat) (s : State) :
    (s.measured v).pending = s.pending := rfl

/-! ### Pins that the TAP lets go -/

@[simp] theorem tapRelease_orderCode (s : State) :
    (s.tapRelease).orderCode = s.orderCode := by
  unfold State.tapRelease; split <;> rfl

@[simp] theorem tapRelease_now (s : State) :
    (s.tapRelease).now = s.now := by
  unfold State.tapRelease; split <;> rfl

@[simp] theorem tapRelease_pcie (s : State) :
    (s.tapRelease).pcie = s.pcie := by
  unfold State.tapRelease; split <;> rfl

@[simp] theorem tapRelease_events (s : State) :
    (s.tapRelease).events = s.events := by
  unfold State.tapRelease; split <;> rfl

@[simp] theorem tapRelease_direct (s : State) :
    (s.tapRelease).direct = s.direct := by
  unfold State.tapRelease; split <;> rfl

@[simp] theorem tapRelease_digest (s : State) :
    (s.tapRelease).digest = s.digest := by
  unfold State.tapRelease; split <;> rfl

@[simp] theorem tapRelease_keys (s : State) :
    (s.tapRelease).keys = s.keys := by
  unfold State.tapRelease; split <;> rfl

@[simp] theorem tapRelease_head (s : State) :
    (s.tapRelease).head = s.head := by
  unfold State.tapRelease; split <;> rfl

@[simp] theorem tapRelease_domains (s : State) :
    (s.tapRelease).domains = s.domains := by
  unfold State.tapRelease; split <;> rfl

@[simp] theorem tapRelease_mirror (s : State) :
    (s.tapRelease).mirror = s.mirror := by
  unfold State.tapRelease; split <;> rfl

@[simp] theorem tapRelease_heads (s : State) :
    (s.tapRelease).heads = s.heads := by
  unfold State.tapRelease; split <;> rfl

@[simp] theorem tapRelease_net (s : State) :
    (s.tapRelease).net = s.net := by
  unfold State.tapRelease; split <;> rfl

@[simp] theorem tapRelease_nvme (s : State) :
    (s.tapRelease).nvme = s.nvme := by
  unfold State.tapRelease; split <;> rfl

@[simp] theorem tapRelease_wp (s : State) :
    (s.tapRelease).wp = s.wp := by
  unfold State.tapRelease; split <;> rfl

@[simp] theorem tapRelease_map (s : State) :
    (s.tapRelease).map = s.map := by
  unfold State.tapRelease; split <;> rfl

@[simp] theorem tapRelease_flash (s : State) :
    (s.tapRelease).flash = s.flash := by
  unfold State.tapRelease; split <;> rfl

@[simp] theorem tapRelease_stripe (s : State) :
    (s.tapRelease).stripe = s.stripe := by
  unfold State.tapRelease; split <;> rfl

@[simp] theorem tapRelease_dram (s : State) :
    (s.tapRelease).dram = s.dram := by
  unfold State.tapRelease; split <;> rfl

@[simp] theorem tapRelease_arbiters (s : State) :
    (s.tapRelease).arbiters = s.arbiters := by
  unfold State.tapRelease; split <;> rfl

@[simp] theorem tapRelease_latency (s : State) :
    (s.tapRelease).latency = s.latency := by
  unfold State.tapRelease; split <;> rfl

@[simp] theorem tapRelease_dump (s : State) :
    (s.tapRelease).dump = s.dump := by
  unfold State.tapRelease; split <;> rfl

@[simp] theorem tapRelease_run (s : State) :
    (s.tapRelease).run = s.run := by
  unfold State.tapRelease; split <;> rfl

@[simp] theorem tapRelease_footing (s : State) :
    (s.tapRelease).footing = s.footing := by
  unfold State.tapRelease; split <;> rfl

@[simp] theorem tapRelease_templates (s : State) :
    (s.tapRelease).templates = s.templates := by
  unfold State.tapRelease; split <;> rfl

@[simp] theorem tapRelease_mason (s : State) :
    (s.tapRelease).mason = s.mason := by
  unfold State.tapRelease; split <;> rfl

@[simp] theorem tapRelease_free (s : State) :
    (s.tapRelease).free = s.free := by
  unfold State.tapRelease; split <;> rfl

@[simp] theorem tapRelease_pending (s : State) :
    (s.tapRelease).pending = s.pending := by
  unfold State.tapRelease; split <;> rfl

@[simp] theorem tapRelease_power_standbyRail (s : State) : (s.tapRelease).power.standbyRail = s.power.standbyRail := by
  unfold State.tapRelease; split <;> rfl

@[simp] theorem tapRelease_power_coreRails (s : State) : (s.tapRelease).power.coreRails = s.power.coreRails := by
  unfold State.tapRelease; split <;> rfl

@[simp] theorem tapRelease_power_pwrGood (s : State) : (s.tapRelease).power.pwrGood = s.power.pwrGood := by
  unfold State.tapRelease; split <;> rfl

@[simp] theorem tapRelease_power_internalReset (s : State) : (s.tapRelease).power.internalReset = s.power.internalReset := by
  unfold State.tapRelease; split <;> rfl

@[simp] theorem tapRelease_power_bypassClosed (s : State) : (s.tapRelease).power.bypassClosed = s.power.bypassClosed := by
  unfold State.tapRelease; split <;> rfl

@[simp] theorem tapRelease_power_vbus (s : State) : (s.tapRelease).power.vbus = s.power.vbus := by
  unfold State.tapRelease; split <;> rfl

@[simp] theorem tapRelease_power_straps (s : State) : (s.tapRelease).power.straps = s.power.straps := by
  unfold State.tapRelease; split <;> rfl

@[simp] theorem tapRelease_power_sampled (s : State) : (s.tapRelease).power.sampled = s.power.sampled := by
  unfold State.tapRelease; split <;> rfl

@[simp] theorem tapRelease_power_autoAt (s : State) : (s.tapRelease).power.autoAt = s.power.autoAt := by
  unfold State.tapRelease; split <;> rfl

@[simp] theorem tapRelease_power_resetL (s : State) : (s.tapRelease).power.resetL = s.power.resetL := by
  unfold State.tapRelease; split <;> rfl

/-! ### Resets -/

@[simp] theorem cleared_vault (b : Bool) (s : State) : (s.cleared b).mason.vault = s.mason.vault := by unfold State.cleared; rfl

@[simp] theorem cleared_image (s : State) : (s.cleared false).dump.image = s.dump.image := by unfold State.cleared; rfl

@[simp] theorem setBypass_standbyRail (b : Bool) (s : State) : (s.setBypass b).power.standbyRail = s.power.standbyRail := by
  unfold State.setBypass; split <;> rfl

@[simp] theorem cleared_power (b : Bool) (s : State) : (s.cleared b).power = s.power.kept b := by unfold State.cleared; rfl

@[simp] theorem enterReset_internalReset (b : Bool) (s : State) : (s.enterReset b).power.internalReset = true := by
  unfold State.enterReset; simp [State.setPower]; rfl

@[simp] theorem enterReset_selfRefresh (s : State) : (s.enterReset true).power.selfRefresh = true := by
  unfold State.enterReset; simp [State.setPower]

@[simp] theorem enterReset_bypassClosed (b : Bool) (s : State) : (s.enterReset b).power.bypassClosed = true := by
  unfold State.enterReset; simp [State.setPower]; rfl

@[simp] theorem enterReset_standbyRail (b : Bool) (s : State) : (s.enterReset b).power.standbyRail = s.power.standbyRail := by
  unfold State.enterReset; simp [State.setPower, Power.kept]

/-- Standby, whatever led there. -/
theorem enterStandby_power (b trip : Bool) (s : State) :
    (s.enterStandby b trip).power.standby = true ∧ (s.enterStandby b trip).power.tripped = trip ∧
    (s.enterStandby b trip).power.coreRails = false ∧ (s.enterStandby b trip).power.pwrGood = false ∧
    (s.enterStandby b trip).power.internalReset = true ∧ (s.enterStandby b trip).power.standbyRail = s.power.standbyRail := by
  unfold State.enterStandby
  have h1 := enterReset_internalReset b s
  have h2 := enterReset_standbyRail b s
  generalize s.enterReset b = t at h1 h2
  exact ⟨rfl, rfl, rfl, rfl, h1, h2⟩

@[simp] theorem enterReset_vault (b : Bool) (s : State) : (s.enterReset b).mason.vault = s.mason.vault := by
  unfold State.enterReset; simp

@[simp] theorem enterReset_image (b : Bool) (s : State) : (s.enterReset b).dump.image = s.dump.image := by
  unfold State.enterReset; simp

end Sys2Proof.Laws
end

