-- ==== Sys2Proof/Laws/Tables.lean ====
section
/-! SUPPORT. The sparse stores: what a store reads after an update, and that every operation keeps the canonical form. -/

namespace Sys2Proof

theorem Tab.get?_set_self {α : Type} (t : Tab α) (k : Nat) (v : α) : (t.set k v).get? k = some v := by
  induction t with
  | nil => simp [Tab.set, Tab.get?]
  | cons e t ih =>
    obtain ⟨j, w⟩ := e
    unfold Tab.set
    split
    · simp [Tab.get?]
    · split
      · simp [Tab.get?]
      · simp only [Tab.get?]
        rw [if_neg (by omega), if_neg (by omega), ih]

theorem Tab.get?_set_of_ne {α : Type} (t : Tab α) (k i : Nat) (v : α) (h : i ≠ k) : (t.set k v).get? i = t.get? i := by
  induction t with
  | nil => simp [Tab.set, Tab.get?]; omega
  | cons e t ih =>
    obtain ⟨j, w⟩ := e
    unfold Tab.set
    split
    · simp only [Tab.get?]
      split
      · omega
      · split <;> split <;> first | rfl | omega | (split <;> first | rfl | omega)
    · split
      · simp only [Tab.get?]; subst_vars
        split
        · omega
        · split <;> first | rfl | omega | (split <;> first | rfl | omega)
      · simp only [Tab.get?, ih]

theorem Tab.wfFrom_mono {α : Type} {lo hi : Nat} {t : Tab α} (h : t.wfFrom hi = true) (hl : lo ≤ hi) : t.wfFrom lo = true := by
  cases t with
  | nil => rfl
  | cons e t => simp only [Tab.wfFrom, Bool.and_eq_true, decide_eq_true_eq] at *; exact ⟨by omega, h.2⟩

theorem Tab.wfFrom_set {α : Type} (t : Tab α) (k : Nat) (v : α) :
    ∀ lo, t.wfFrom lo = true → lo ≤ k → (t.set k v).wfFrom lo = true := by
  induction t with
  | nil => intro lo _ hk; simp [Tab.set, Tab.wfFrom, hk]
  | cons e t ih =>
    obtain ⟨j, w⟩ := e
    intro lo h hk
    simp only [Tab.wfFrom, Bool.and_eq_true, decide_eq_true_eq] at h
    unfold Tab.set
    split
    · simp only [Tab.wfFrom, Bool.and_eq_true, decide_eq_true_eq]; exact ⟨hk, by omega, h.2⟩
    · split
      · subst_vars; simp only [Tab.wfFrom, Bool.and_eq_true, decide_eq_true_eq]; exact ⟨hk, h.2⟩
      · simp only [Tab.wfFrom, Bool.and_eq_true, decide_eq_true_eq]; exact ⟨h.1, ih _ h.2 (by omega)⟩

/-- Storing keeps the canonical form. -/
theorem Tab.wf_set {α : Type} (t : Tab α) (k : Nat) (v : α) (h : t.wf = true) : (t.set k v).wf = true :=
  Tab.wfFrom_set t k v 0 h (Nat.zero_le k)

theorem Tab.wfFrom_del {α : Type} (t : Tab α) (k : Nat) : ∀ lo, t.wfFrom lo = true → (t.del k).wfFrom lo = true := by
  induction t with
  | nil => intro lo h; exact h
  | cons e t ih =>
    obtain ⟨j, w⟩ := e
    intro lo h
    simp only [Tab.wfFrom, Bool.and_eq_true, decide_eq_true_eq] at h
    unfold Tab.del
    split
    · exact Tab.wfFrom_mono h.2 (by omega)
    · simp only [Tab.wfFrom, Bool.and_eq_true, decide_eq_true_eq]; exact ⟨h.1, ih _ h.2⟩

/-- Removing keeps the canonical form. -/
theorem Tab.wf_del {α : Type} (t : Tab α) (k : Nat) (h : t.wf = true) : (t.del k).wf = true := Tab.wfFrom_del t k 0 h

end Sys2Proof
end

