-- ==== Sys2Proof/Machine/Wire.lean ====
section
/-! DEFINITION. The bytes of what the block sends: in layouts of its own, Plinth frames (R293 to R297), coping-ring frames (R343), reply
entries (R83) and event packets (R87), whose multi-byte fields are little-endian (R7); and RoCEv2, PFC and control frames, whose layouts
are those of the outside standards that R99, R106 and R98 name. -/

namespace Sys2Proof.Machine

/-- A Plinth frame: its 16-byte header, its payload and the CRC-32C of both (R293). -/
def plinthFrame (typ module head seq cmdId index attempt : Nat) (payload : List Byte) : List Byte :=
  let b := le 1 typ ++ le 1 1 ++ le 2 (module % 1024) ++ le 2 head ++ le 2 seq ++ le 4 cmdId ++ le 2 payload.length ++ le 1 index ++
    le 1 attempt ++ payload
  b ++ le 4 (crc32c b).toNat

/-- The opcodes that name a domain, a die, a block group and a page group, and those that carry a claim (R296, R297). -/
def plUsesDomain (op : Nat) : Bool := [3, 4, 6, 7, 8, 9, 10, 12, 13, 14].contains op
def plUsesDie (op : Nat) : Bool := [2, 3, 4, 5, 6, 8, 9, 10, 11, 15].contains op
def plUsesBlock (op : Nat) : Bool := [2, 3, 4, 8, 9, 10].contains op
def plUsesClaim (op : Nat) : Bool := [3, 4, 6, 7, 8, 9, 10, 12, 14].contains op

/-- A signed read-level step in one byte, two's complement (R297). -/
def signedOctet (v : Int) : Byte := BitVec.ofInt 8 v

/-- The params of a COMMAND frame by its opcode (R297): the mode of a READ is its soft step. BLOCK_STATE_READ starts at the block group
addressed. -/
def plParams (op addr param : Nat) (reads : List Nat) (mode : Nat) (offsets : List Int) : List Byte :=
  if op = 2 then
    le 2 (reads.foldl (fun m i => m ||| 2 ^ i) 0) ++ le 1 ((mode + 1) / 2) ++ le 1 offsets.length ++ fit 15 (offsets.map signedOctet)
  else if op = 10 then le 1 param
  else if op = 11 then le 2 (bgGroup addr) ++ le 2 param
  else if op = 12 || op = 14 then le 8 param
  else if op = 13 then le 8 param ++ le 1 reads.length
  else []

/-- The 64-byte payload of a COMMAND frame; fields that an opcode does not use are zero (R296). The last byte of a start's params is its
token cost (R310). -/
def plCommandBytes (op domain die addr page claim cost : Nat) (params : List Byte) : List Byte :=
  let use (b : Bool) (v : Nat) : Nat := if b then v else 0
  le 1 op ++ le 1 (boolNat (plUsesDomain op)) ++ le 1 (use (plUsesDomain op) domain) ++ le 1 (use (plUsesDie op) die) ++
    le 2 (use (plUsesBlock op) (bgGroup addr)) ++ le 2 (use (decide (op = 2 ∨ op = 3)) page) ++ le 8 (use (plUsesClaim op) claim) ++
    fit 47 params ++ le 1 (use ([3, 4, 6, 12].contains op) cost)

/-- A coping-ring frame and the CRC-32C of its 64 bytes (R342, R343). -/
def ringFrameBytes (direction typ origin ttl seq : Nat) (body : List Byte) : List Byte :=
  let b := le 1 typ ++ le 1 1 ++ le 2 origin ++ le 1 ttl ++ le 1 direction ++ zeros 2 ++ le 8 seq ++ fit 48 body
  b ++ le 4 (crc32c b).toNat

/-! ### Ethernet frames (R97 to R99, R106, R109) -/

/-- A frame with its FCS, the CRC-32 of IEEE 802.3. -/
def withFcs (b : List Byte) : List Byte := b ++ le 4 (crc32 b).toNat

/-- The VLAN tag with a priority; none when the port's VID is 0. -/
def State.vlanTagAt (s : State) (lp pcp : Nat) : List Byte :=
  let vid := fieldAt (s.subRecord lp) 6 2 % 4096
  if vid = 0 then [] else toBe 2 0x8100 ++ toBe 2 (pcp * 8192 + vid)

/-- The IP header of a connection's packet of `n` bytes after it: DSCP and ECN, TTL or hop limit 64, the flow label taken from the UDP
source port (R99). `mask` replaces by ones the fields that the ICRC leaves out. -/
def State.ipHeader (s : State) (lp : Nat) (c : Conn) (dscp ecn n : Nat) (mask : Bool) : List Byte :=
  let r := s.subRecord lp
  let tos := 4 * dscp + ecn
  if c.ip.length = 16 then
    (if mask then toBe 4 0x6FFFFFFF else toBe 4 (0x60000000 + tos * 2 ^ 20 + c.udp)) ++ toBe 2 n ++ toBe 1 17 ++
      toBe 1 (if mask then 255 else 64) ++ slice r 0xC 16 ++ c.ip
  else
    let head (t ttl sum : Nat) : List Byte :=
      toBe 1 0x45 ++ toBe 1 t ++ toBe 2 (n + 20) ++ toBe 2 0 ++ toBe 2 0x4000 ++ toBe 1 ttl ++ toBe 1 17 ++ toBe 2 sum ++ slice r 8 4 ++
        fit 4 c.ip
    if mask then head 255 255 0xFFFF else head tos 64 (checksum16 (head tos 64 0))

/-- The BTH: MigReq 1, the pad count, P_Key 0xFFFF, the remote QPN, AckReq and the PSN (R99). -/
def bthBytes (op pad qpn psn : Nat) (ackReq mask : Bool) : List Byte :=
  toBe 1 op ++ toBe 1 (0x40 + 16 * pad) ++ toBe 2 0xFFFF ++ toBe 1 (if mask then 255 else 0) ++ toBe 3 qpn ++
    toBe 4 (boolNat ackReq * 2 ^ 31 + psn)

/-- A RoCEv2 frame to the MAC address recorded for the connection, from UDP port `c.udp` to 4791, with its ICRC and its FCS (R98, R99). -/
def State.roceFrame (s : State) (lp pcp dscp ecn : Nat) (c : Conn) (op psn : Nat) (ackReq : Bool) (extension payload : List Byte) :
    List Byte :=
  let pad := (4 - payload.length % 4) % 4
  let body := extension ++ payload ++ zeros pad
  let n := 8 + 12 + body.length + 4
  let udp (sum : Nat) : List Byte := toBe 2 c.udp ++ toBe 2 4791 ++ toBe 2 n ++ toBe 2 sum
  let icrc := crc32 (List.replicate 8 255 ++ s.ipHeader lp c dscp ecn n true ++ udp 0xFFFF ++
    bthBytes op pad c.remoteQpn psn ackReq true ++ body)
  withFcs (fit 6 c.mac ++ slice (s.subRecord lp) 0 6 ++ s.vlanTagAt lp pcp ++ toBe 2 (if c.ip.length = 16 then 0x86DD else 0x0800) ++
    s.ipHeader lp c dscp ecn n false ++ udp 0 ++ bthBytes op pad c.remoteQpn psn ackReq false ++ body ++ le 4 icrc.toNat)

/-- The AETH: the syndrome, an ACK with the invalid credit count 0b11111 (R99), and the message sequence number, which the spec does not
mention and the model sends as 0 (log entry 139). -/
def aethBytes (a : Aeth) : List Byte :=
  let syndrome := match a with
    | .ack => 0x1F
    | .seqNak => 0x60
    | .invalidRequest => 0x61
    | .remoteAccess => 0x62
    | .remoteOperational => 0x63
    | .rnr t => 0x20 + t % 32
  toBe 1 syndrome ++ toBe 3 0

/-- ECN of a packet: ECT(0) on data packets (R109). -/
def ecnOf (op : Nat) : Nat := if op = 12 then 0 else 2

/-- A PFC frame of one priority (R106, IEEE 802.1Qbb). -/
def State.pfcFrame (s : State) (lp prio quanta : Nat) : List Byte :=
  withFcs (fit 60 (toBe 6 0x0180C2000001 ++ slice (s.subRecord lp) 0 6 ++ toBe 2 0x8808 ++ toBe 2 0x0101 ++ toBe 2 (2 ^ prio) ++
    (List.range 8).flatMap fun k => toBe 2 (if k = prio then quanta else 0)))

/-- The bytes of an output: in a layout of the chip's own, or a frame of a port. CM messages, whose layout is that of the InfiniBand CM,
and outputs that are no message have none here. The header's link_seq of HELLO, CREDIT and
KEEPALIVE frames, which spend no number of the UP link, is that of the next frame, and the module of a HELLO is the one last known, or
0 (log entry 129). -/
def State.wire (s : State) (o : Out) : List Byte :=
  let mod_ (l : Nat) : Nat := if (s.link l).module = 0xFFFF then 0 else (s.link l).module
  match o with
  | .reply _ r => r.bytes
  | .event _ phase lost e => e.bytes phase lost
  | .plinthCommand _ module head cmdId attempt opcode domain die addr page claim reads mode offsets param cost seq =>
    plinthFrame 1 module head seq cmdId 0 attempt (plCommandBytes opcode domain die addr page claim cost (plParams opcode addr param reads mode offsets))
  | .plinthData _ module cmdId index bytes head attempt seq => plinthFrame 3 module head seq cmdId index attempt bytes
  | .plinthCredit l limit => plinthFrame 4 (mod_ l) s.head.headId (s.link l).seq 0 0 0 (le 2 limit)
  | .plinthHello l session head credits => plinthFrame 5 (mod_ l) head (s.link l).seq 0 0 0 (le 8 session ++ le 2 head ++ le 2 credits)
  | .plinthKeepalive l seq => plinthFrame 6 (mod_ l) s.head.headId seq 0 0 0 (le 2 seq)
  | .packet lp pcp i op psn ackReq va key len payload =>
    let extension := if op = 6 || op = 10 || op = 12 then toBe 8 va ++ toBe 4 key ++ toBe 4 len
      else if op = 22 || op = 23 then toBe 4 key else []
    s.roceFrame lp pcp (s.conn i).dscp (ecnOf op) (s.conn i) op psn ackReq extension payload
  | .readResponse i op psn payload =>
    let c := s.conn i
    s.roceFrame c.lport c.pcp c.dscp 2 c op psn false (if op = 14 then [] else aethBytes .ack) payload
  | .ack i psn => s.roceFrame (s.conn i).lport (s.conn i).pcp (s.conn i).dscp 0 (s.conn i) 17 psn false (aethBytes .ack) []
  | .nak i psn code => s.roceFrame (s.conn i).lport (s.conn i).pcp (s.conn i).dscp 0 (s.conn i) 17 psn false (aethBytes code) []
  | .cnp i pcp dscp => s.roceFrame (s.conn i).lport pcp dscp 0 (s.conn i) 0x81 0 false (zeros 16) []
  | .pfc lp prio quanta => s.pfcFrame lp prio quanta
  | .frame _ _ b => withFcs b
  | .ring direction typ origin ttl seq body => ringFrameBytes direction typ origin ttl seq body
  | _ => []

end Sys2Proof.Machine
end

