-- ==== Sys2Proof/WellFormed.lean ====
section
/-! DEFINITION. Well-formed commands: every operand that names a thing of the chip, or that has a width of its own, is in
the range the spec gives it. -/

namespace Sys2Proof

/-- A packet run carries whole 4 GiB of buffer data at most (R77) and an accept stamp of 64 bits. -/
def PktOp.wellFormed (op : PktOp) : Bool := decide (op.acc < 2 ^ 64) && decide (op.data.length < 2 ^ 32)

/-- Field widths of a transport packet (R9, R99, R111), its logical port (R93) and the largest path MTU (R101). -/
def RcPacket.wellFormed (k : RcPacket) : Bool :=
  decide (k.lport < 34) && decide (k.qpn < 2 ^ 24) && decide (k.op < 32) && decide (k.psn < 2 ^ 24) && decide (k.va < 2 ^ 64) &&
    decide (k.key < 2 ^ 32) && decide (k.len < 2 ^ 32) && decide (k.payload.length < 4097)

/-- Field widths of a CM REQ (R105). -/
def CmReq.wellFormed (q : CmReq) : Bool :=
  decide (q.lport < 34) && decide (q.qpn < 2 ^ 24) && decide (q.psn < 2 ^ 24) && decide (q.mtu < 8) && decide (q.pcp < 8) &&
    decide (q.dscp < 64) && (q.srcMac.length == 6) && (q.srcIp.length == q.dstIp.length)

/-- Field widths of a RESPONSE frame (R293, R299). -/
def PlResponse.wellFormed (r : PlResponse) : Bool :=
  decide (r.link < 96) && decide (r.module < 768) && decide (r.cmdId < 2 ^ 16) && decide (r.status < 2 ^ 16)

/-- The two directions of the coping ring and the fields of a ring frame (R343). -/
def RingFrame.wellFormed (f : RingFrame) : Bool :=
  decide (f.direction < 2) && decide (f.typ < 256) && decide (f.origin < 2 ^ 16) && decide (f.ttl < 256) && (f.body.length == 48)

/-- A Lintel codeword has 20 symbols (R372), and its site is one of the chip's. -/
def LintelHit.wellFormed (h : LintelHit) : Bool :=
  decide (h.symbols < 21) && decide (h.channel < 12) && decide (h.sub < 2) && decide (h.island < 64)

/-- Every operand of the command is in range. -/
def Instr.wellFormed : Instr → Bool
  | .powerOn vbus => decide (vbus < 2 ^ 16)
  | .coreRailsInRegulation => true
  | .autoResetRelease _ => true
  | .vbusLow vbus => decide (vbus < 2 ^ 16)
  | .brownout vbus => decide (vbus < 2 ^ 16)
  | .brownoutRelease vbus => decide (vbus < 2 ^ 16)
  | .vbusStop vbus => decide (vbus < 2 ^ 16)
  | .vbusFail => true
  | .drainQuiesceEnd => true
  | .drainedStateEnter => true
  | .loadBandCrossing band => decide (band < 6)
  | .phasePlanRederived => true
  | .islandWakeAdmit => true
  | .islandRampEnd island => decide (island < Config.islandCount)
  | .clockLoss clock => decide (clock < 5)
  | .clockRestored clock => decide (clock < 5)
  | .resetPinAssert => true
  | .internalResetBegin => true
  | .resetPinRelease _ => true
  | .pcieReset _ => true
  | .busMasterOrDStateChange _ _ => true
  | .thermalAlertAssert sensor _ => decide (sensor < 18)
  | .thermalAlertRelease temps => (temps.length == 18)
  | .thermalTrip sensor _ => decide (sensor < 18)
  | .smbStatusClear _ => true
  | .smbRegisterWrite code _ => decide (code < 256)
  | .tapInstruction _ _ => true
  | .islandPower op => op.wellFormed
  | .powerStatus op => op.wellFormed
  | .holdupConfig op => op.wellFormed
  | .chipPowerDown op => op.wellFormed
  | .powerDownCommandsSettled => true
  | .powerDownDrainDone => true
  | .chipReset op => op.wellFormed
  | .softwareResetExpiry => true
  | .stampCheckpointInterval failure => decide (failure < 3)
  | .sqTailDb n _ => decide (n < 16)
  | .rqHeadDb n _ => decide (n < 16)
  | .evqHeadDb _ => true
  | .ringEnable n _ => decide (n < 16)
  | .ringStop n _ => decide (n < 16)
  | .ringStopDrained n => decide (n < 16)
  | .evqEnable _ => true
  | .evqDisable _ => true
  | .registerWrite bar _ size _ => decide (bar < 2) && (size == 4 || size == 8)
  | .packetFetch _ => true
  | .replyWriteRefused n => decide (n < 16)
  | .eventPost => true
  | .eventWriteRefused => true
  | .nop op => op.wellFormed
  | .chipIdentify op => op.wellFormed
  | .stampRead op => op.wellFormed
  | .eventConfig op => op.wellFormed
  | .eventCounts op => op.wellFormed
  | .stampLoRead => true
  | .dumpWindowBaseWrite _ => true
  | .ksPrioWrite a _ => decide (a < 256)
  | .dgLwDataWrite c _ => decide (c < 35)
  | .dgLwCtrlWrite c _ => decide (c < 35)
  | .portLinkUp lport => decide (lport < 34)
  | .portLinkDown lport => decide (lport < 34)
  | .serdesEnvelopeCrossing port lane => decide (port < 10) && decide (lane < 4)
  | .frameReceive lport frame => decide (lport < 34) && decide (frame.bytes.length < 9601)
  | .pfcFrameReceive lport enabled quanta => decide (lport < 34) && decide (enabled < 256) && (quanta.length == 8)
  | .pfcPauseExpiry lport prio => decide (lport < 34) && decide (prio < 8)
  | .pfcPauseLongExpiry lport prio => decide (lport < 34) && decide (prio < 8)
  | .cmReqReceive req => req.wellFormed
  | .cmRepReceive conn ⟨qpn, srcMac⟩ psn mtu => srcMac.length == 6 &&
    decide (conn < 2 ^ 21) && decide (qpn < 2 ^ 24) && decide (psn < 2 ^ 24) && decide (mtu < 8)
  | .cmRtuReceive conn => decide (conn < 2 ^ 21)
  | .cmRejReceive conn => decide (conn < 2 ^ 21)
  | .cmRetryExpiry conn => decide (conn < 2 ^ 21)
  | .cmDreqReceive conn => decide (conn < 2 ^ 21)
  | .cmDrepReceive conn => decide (conn < 2 ^ 21)
  | .dreqRetryExpiry conn => decide (conn < 2 ^ 21)
  | .timewaitExpiry conn => decide (conn < 2 ^ 21)
  | .rcRequestReceive pkt => pkt.wellFormed
  | .ackCoalesceExpiry conn => decide (conn < 2 ^ 21)
  | .rcAckReceive pkt => pkt.wellFormed
  | .rcSeqNakReceive pkt => pkt.wellFormed
  | .rcRnrNakReceive pkt => pkt.wellFormed
  | .rcErrorNakReceive pkt => pkt.wellFormed
  | .rnrTimerExpiry conn => decide (conn < 2 ^ 21)
  | .rdmaReadResponseReceive pkt => pkt.wellFormed
  | .retransmitTimerExpiry conn => decide (conn < 2 ^ 21)
  | .cnpReceive lport cnp => decide (lport < 34) && decide (cnp.qpn < 2 ^ 24)
  | .rateTimerExpiry conn => decide (conn < 2 ^ 21)
  | .alphaTimerExpiry conn => decide (conn < 2 ^ 21)
  | .contextFetchComplete conn => decide (conn < 2 ^ 21)
  | .portConfig op => op.wellFormed
  | .transportConfig op => op.wellFormed
  | .connQuery op => op.wellFormed
  | .connPin op => op.wellFormed
  | .portStatus op => op.wellFormed
  | .portCounters op => op.wellFormed
  | .ctrlFrameSend op => op.wellFormed
  | .ctrlFrameRecv op => op.wellFormed
  | .transportCounters op => op.wellFormed
  | .connDisconnect op => op.wellFormed
  | .fabricsConnect conn => decide (conn < 2 ^ 21)
  | .propertySet conn => decide (conn < 2 ^ 21)
  | .shutdownComplete cntlid => decide (cntlid < 2 ^ 16)
  | .propertyGet conn => decide (conn < 2 ^ 21)
  | .getLogPage conn => decide (conn < 2 ^ 21)
  | .nvmeIdentify conn => decide (conn < 2 ^ 21)
  | .abort conn => decide (conn < 2 ^ 21)
  | .setFeatures conn => decide (conn < 2 ^ 21)
  | .getFeatures conn => decide (conn < 2 ^ 21)
  | .asyncEventRequest conn => decide (conn < 2 ^ 21)
  | .keepAlive conn => decide (conn < 2 ^ 21)
  | .keepAliveExpiry cntlid => decide (cntlid < 2 ^ 16)
  | .formatNvm conn => decide (conn < 2 ^ 21)
  | .sanitizeBlockErase conn => decide (conn < 2 ^ 21)
  | .sanitizeCryptoErase conn => decide (conn < 2 ^ 21)
  | .sanitizeExitFailure conn => decide (conn < 2 ^ 21)
  | .eraseOperationStep _ => true
  | .eraseOperationEnd _ => true
  | .nvmeFlush conn => decide (conn < 2 ^ 21)
  | .flushComplete _ => true
  | .nvmeWrite conn => decide (conn < 2 ^ 21)
  | .nvmeRead conn => decide (conn < 2 ^ 21)
  | .writeZeroes conn => decide (conn < 2 ^ 21)
  | .datasetManagement conn => decide (conn < 2 ^ 21)
  | .subsysConfig op => op.wellFormed
  | .subsysDelete op => op.wellFormed
  | .subsysHosts op => op.wellFormed
  | .nsCreate op => op.wellFormed
  | .nsDelete op => op.wellFormed
  | .nsResize op => op.wellFormed
  | .nsSetClass op => op.wellFormed
  | .nsQuery op => op.wellFormed
  | .ctrlQuery op => op.wellFormed
  | .ctrlTeardown op => op.wellFormed
  | .healthSet op => op.wellFormed
  | .eraseStart op => op.wellFormed
  | .eraseStatus op => op.wellFormed
  | .discLogSet op => op.wellFormed
  | .writeAdmit => true
  | .writeStalledExpiry rank => decide (rank < 8)
  | .mergeReadIssue _ _ => true
  | .indexLookup _ _ _ => true
  | .byteCompareVerify _ _ _ => true
  | .compressionJobEnd _ _ _ => true
  | .stagingPlace _ => true
  | .indexPageRebuild domain _ => decide (domain < 256)
  | .reduceConfig op => op.wellFormed
  | .indexConfig op => op.wellFormed
  | .compJob op => op.wellFormed
  | .decompJob op => op.wellFormed
  | .reduceStatus op => op.wellFormed
  | .reduceCounters op => op.wellFormed
  | .indexQuery op => op.wellFormed
  | .reduceConfigChip op => op.wellFormed
  | .dgStart op => op.wellFormed
  | .dgUpdate op => op.wellFormed
  | .dgFinish op => op.wellFormed
  | .dgSuspend op => op.wellFormed
  | .dgResume op => op.wellFormed
  | .dgAbandon op => op.wellFormed
  | .dgStatus op => op.wellFormed
  | .dgQueueDeadlineExpiry _ => true
  | .keyLoad op => op.wellFormed
  | .keyGenerate op => op.wellFormed
  | .keyDerive op => op.wellFormed
  | .keyExport op => op.wellFormed
  | .keyDestroy op => op.wellFormed
  | .keyQuery op => op.wellFormed
  | .keyPolicy op => op.wellFormed
  | .gcmJob op => op.wellFormed
  | .entropyTestFail test => (test == 1 || test == 2)
  | .mapPageReadComplete _ => true
  | .mapApplyRecord _ => true
  | .coldMergeSweep _ _ => true
  | .writebackAgeExpiry _ => true
  | .mapPageEvict => true
  | .spoilDrainAck _ => true
  | .mapPinComplete _ => true
  | .lostSweep _ => true
  | .layerReleaseEnd domain _ => decide (domain < 256)
  | .mapConfig op => op.wellFormed
  | .snapCreate op => op.wellFormed
  | .snapDelete op => op.wellFormed
  | .cloneAttach op => op.wellFormed
  | .snapRollback op => op.wellFormed
  | .layerQuery op => op.wellFormed
  | .layerList op => op.wellFormed
  | .mapLookup op => op.wellFormed
  | .mapCheck op => op.wellFormed
  | .mapCheckEnd domain => decide (domain < 256)
  | .mapStatus op => op.wellFormed
  | .mapCounters op => op.wellFormed
  | .ashlarRecheck op => op.wellFormed
  | .ashlarRecheckRun _ _ => true
  | .segmentOpen domain stream => decide (domain < 256) && decide (stream < 3)
  | .freePoolReplenish domain => decide (domain < 256)
  | .stripeProgramsDone _ => true
  | .closeAgeExpiry _ => true
  | .journalFrameSend domain => decide (domain < 256)
  | .journalRecordDurable domain => decide (domain < 256)
  | .journalDegraded domain => decide (domain < 256)
  | .journalRepairEnd domain => decide (domain < 256)
  | .journalCheckpoint domain => decide (domain < 256)
  | .journalReplay domain _ => decide (domain < 256)
  | .gcVictimStart domain => decide (domain < 256)
  | .gcSegmentErase _ => true
  | .rebuildStart module => decide (module < 768)
  | .rebuildRow _ => true
  | .rebuildFloorWindowEnd => true
  | .floorGateOpen => true
  | .stripeConfig op => op.wellFormed
  | .rebuildConfig op => op.wellFormed
  | .stripeQuery op => op.wellFormed
  | .segmentQuery op => op.wellFormed
  | .rebuildStatus op => op.wellFormed
  | .lostList op => op.wellFormed
  | .lostClear op => op.wellFormed
  | .gcControl op => op.wellFormed
  | .moduleRetire op => op.wellFormed
  | .journalStatus op => op.wellFormed
  | .stripeCounters op => op.wellFormed
  | .plinthLinkTrained link => decide (link < 96)
  | .helloInterval link => decide (link < 96)
  | .plinthHelloAnswer link module credits _ => decide (link < 96) && decide (module < 2 ^ 16) && decide (credits < 2 ^ 16)
  | .plinthLinkLoss link cause => decide (link < 96) && decide (cause < 256)
  | .plinthSilenceExpiry link => decide (link < 96)
  | .keepaliveInterval link => decide (link < 96)
  | .creditInterval link => decide (link < 96)
  | .plinthCreditReceive link _ _ => decide (link < 96)
  | .readIssue module _ => decide (module < 768)
  | .scheduleFrameStart => true
  | .slotStart module _ => decide (module < 768)
  | .suspendTrigger module _ => decide (module < 768)
  | .suspendAgeExpiry module _ => decide (module < 768)
  | .plinthReadData link module cmdId _ _ _ => decide (link < 96) && decide (module < 768) && decide (cmdId < 2 ^ 16)
  | .plinthReadResponse r => r.wellFormed
  | .plinthProgramResponse r => r.wellFormed
  | .plinthEraseResponse r => r.wellFormed
  | .plinthJournalAppendResponse r => r.wellFormed
  | .plinthClaimPresentResponse r => r.wellFormed
  | .plinthBlockCommandResponse r => r.wellFormed
  | .plinthSuspendResponse r => r.wellFormed
  | .plinthInfoResponse r _ => r.wellFormed
  | .plinthResponseExpiry module cmdId => decide (module < 768) && decide (cmdId < 2 ^ 16)
  | .restartScan _ => true
  | .moduleAttach module => decide (module < 768)
  | .moduleDetach module cause => decide (module < 768) && decide (cause < 256)
  | .linksDownReadExpiry module => decide (module < 768)
  | .plinthEnvelopeCrossing link tjBand loadBand => decide (link < 96) && decide (tjBand < 8) && decide (loadBand < 8)
  | .flashScrubVisit => true
  | .flashConfig op => op.wellFormed
  | .linkConfig op => op.wellFormed
  | .linkStatus op => op.wellFormed
  | .moduleQuery op => op.wellFormed
  | .blockQuery op => op.wellFormed
  | .readLevelQuery op => op.wellFormed
  | .scheduleStatus op => op.wellFormed
  | .flashCounters op => op.wellFormed
  | .headConfig op => op.wellFormed
  | .peerTable op => op.wellFormed
  | .peerConnectRetry head lane => decide (head < 2 ^ 16) && decide (lane < 4)
  | .ringJoin op => op.wellFormed
  | .ringLeave op => op.wellFormed
  | .domainAcquire op => op.wellFormed
  | .domainRelease op => op.wellFormed
  | .domainQuery op => op.wellFormed
  | .headStatus op => op.wellFormed
  | .failoverForce op => op.wellFormed
  | .heartbeatInterval => true
  | .heartbeat frame => frame.wellFormed
  | .heartbeatMissExpiry head _ => decide (head < 2 ^ 16)
  | .join frame => frame.wellFormed
  | .leave frame => frame.wellFormed
  | .claimIntent frame => frame.wellFormed
  | .claimDone frame => frame.wellFormed
  | .release frame => frame.wellFormed
  | .failed frame => frame.wellFormed
  | .takeoverDelayExpiry head => decide (head < 2 ^ 16)
  | .mirrorReplay domain => decide (domain < 256)
  | .takeoverDone head => decide (head < 2 ^ 16)
  | .mirrorNote conn => decide (conn < 2 ^ 21)
  | .mirrorAck conn => decide (conn < 2 ^ 21)
  | .mirrorAckExpiry lane _ => decide (lane < 4)
  | .journalMirror conn => decide (conn < 2 ^ 21)
  | .progressMirror conn => decide (conn < 2 ^ 21)
  | .tail conn => decide (conn < 2 ^ 21)
  | .tailInterval => true
  | .mirrorBind conn => decide (conn < 2 ^ 21)
  | .bindReply conn => decide (conn < 2 ^ 21)
  | .mirrorBindRetry => true
  | .resilverComplete => true
  | .resyncQuery conn => decide (conn < 2 ^ 21)
  | .resyncReply conn => decide (conn < 2 ^ 21)
  | .replOpen op => op.wellFormed
  | .replClose op => op.wellFormed
  | .replSend op => op.wellFormed
  | .replStatus op => op.wellFormed
  | .replPump op => op.wellFormed
  | .deltaBegin _ => true
  | .offers _ => true
  | .needs _ => true
  | .extent _ => true
  | .deltaEnd _ => true
  | .deltaDone _ => true
  | .syncWrite _ => true
  | .syncAck _ => true
  | .syncTimeoutExpiry _ _ => true
  | .dramTraining dimms _ _ => (dimms.length == 12)
  | .dqsOscillatorCheck channel _ _ => decide (channel < 12)
  | .dramPatrolScrub channel _ hits => decide (channel < 12) && hits.all LintelHit.wellFormed
  | .sramSweep island hits _ => decide (island < Config.islandCount) && hits.all LintelHit.wellFormed
  | .jointFlitRefused joint _ _ => decide (joint < 148)
  | .arbiterContest a arrivals =>
    decide (a < 130) && arrivals.all (fun r => decide (r.rank < 8) && decide (r.island < Config.islandCount))
  | .ksStarvationExpiry a rank => decide (a < 130) && decide (rank < 8)
  | .dramConfig op => op.wellFormed
  | .dramStatus op => op.wellFormed
  | .dramRepairList op => op.wellFormed
  | .latencyConfig op => op.wellFormed
  | .latencyStatus op => op.wellFormed
  | .ksWatchRead op => op.wellFormed
  | .fabricCounters op => op.wellFormed
  | .bootRom _ _ _ => true
  | .lockstepMiscompare _ _ => true
  | .watchdogExpiry => true
  | .fieldImageStart => true
  | .selfTest hods ways _ channels engines lanes =>
    hods.all (fun h => decide (h < 64)) && ways.all (fun w => decide (w.1 < 1536) && decide (w.2 < 16)) &&
    channels.all (fun c => decide (c < 12)) && engines.all (fun e => decide (64 ≤ e.1) && decide (e.1 ≤ 75)) &&
    lanes.all (fun l => decide (l < 144))
  | .startupService => true
  | .hodFindWork hod => decide (hod < 64)
  | .vaultWeakBlockCopy => true
  | .logBlockReclaim => true
  | .vaultLoweringComplete => true
  | .templateLoad op => op.wellFormed
  | .templateCommit op => op.wellFormed
  | .templateBankDrained => true
  | .templateDiscard op => op.wellFormed
  | .templateGenerate op => op.wellFormed
  | .templateQuery op => op.wellFormed
  | .hodStatus op => op.wellFormed
  | .selfTestResult op => op.wellFormed
  | .vaultStatus op => op.wellFormed
  | .vaultRead op _ _ => op.wellFormed
  | .vaultProtectRaise op => op.wellFormed
  | .vaultProtectLower op => op.wellFormed
  | .updateOpen op => op.wellFormed
  | .updateChunk op failure => op.wellFormed && decide (failure < 3)
  | .updateStatus op => op.wellFormed
  | .updateClose op => op.wellFormed
  | .updateAbort op => op.wellFormed
  | .imageConfirm op => op.wellFormed
  | .imageSelect op => op.wellFormed
  | .settingsReset op => op.wellFormed
  | .rubbleDump => true
  | .dumpSectionsCopied _ _ => true
  | .vaultSummaryWritten => true
  | .faultStatus op => op.wellFormed
  | .errorLogRead op => op.wellFormed
  | .errorLogClear op => op.wellFormed
  | .dumpClear op => op.wellFormed
  | .dumpSummaryList op => op.wellFormed
  | .footingEnter op => op.wellFormed
  | .footingExit op => op.wellFormed
  | .faultInject op => op.wellFormed
  | .anattExpiry domain => decide (domain < 256)
  | .lastWordWaitExpiry c => decide (c < 35)
  | .entropyTestPass => true
  | .chipStateHeartbeatTick => true
  | .msixIntervalExpiry vec => decide (vec < 32)
  | .vbusRiseAbove9v5 vbus => decide (vbus < 2 ^ 16)
  | .pciePerstLRise => true

end Sys2Proof
end

