-- ==== Sys2Proof/Tests/Slice0.lean ====
section
/-! SUPPORT. Tests of single steps and words, and the witnesses of the statements. -/

set_option linter.unusedVariables false
set_option maxRecDepth 8000
set_option Elab.async false

namespace Sys2Proof.Tests
open Sys2Proof.Machine

/-- A packet fetched from ring 0 under accept stamp 0. -/
def packetIn (opcode : Nat) (params : List Byte) (len : Nat := 0) : Packet :=
  { ring := 0, opcode := opcode, ordered := false, queue := false, tag := 0, params := params, dataLen := len, dataAddr := 0, acc := 0 }

/-- The chip out of reset, its PCIe link up, with one packet in progress on ring 0. -/
def packetState (opcode : Nat) (params : List Byte) (len : Nat := 0) : State :=
  { power := { standbyRail := true, coreRails := true, pwrGood := true, internalReset := false, firmwareRunning := true, stamps := true },
    pcie := { bme := true, linkUp := true, rings := { state := .enabled, sizeLog2 := 4, inProgress := [packetIn opcode params len] } ::
      List.replicate 15 {} } }

/-- The run of that packet. -/
def runOp : PktOp := { acc := 0 }

/-- A 64-byte submission capsule: opcode, CID, NSID and named fields (R137). -/
def capsuleIn (op cid nsid : Nat) (fs : List (Nat × List Byte)) : List Byte :=
  struct 64 ([(0, le 1 op), (2, le 2 cid), (4, le 4 nsid)] ++ fs)

/-- A chip that runs, with subsystem 1, its namespace 1, controller 1 with admin queue 5 and I/O queue 6, and a capsule waiting. -/
def hostState (conn : Nat) (cap : List Byte) : State :=
  { packetState 0 [] with
    net.conns := [(conn, { state := .ready, use := .nvme (conn - 5) 32, inbox := [cap] })],
    nvme.subsystems := [(1, {})],
    nvme.namespaces := [(1, { subsys := 1, domain := 0, cls := 2, nsze := 4096, lbaf := 0, pi := 0, tag := 0, keySlot := 0xFF, nguid := [], eui := [] })],
    nvme.controllers := [(1, { subsys := some 1, host := [], hostId := [], admin := 5, lport := 0, katoMs := 0, deadline := 0, queues := [(1, 6)] })],
    nvme.ana := List.replicate 256 1 }

/-- Controller 1 of `hostState`. -/
def hostCtrl : Controller :=
  { subsys := some 1, host := [], hostId := [], admin := 5, lport := 0, katoMs := 0, deadline := 0, queues := [(1, 6)] }

/-- Namespace 1 of `hostState`. -/
def hostNs : Namespace :=
  { subsys := 1, domain := 0, cls := 2, nsze := 4096, lbaf := 0, pi := 0, tag := 0, keySlot := 0xFF, nguid := [], eui := [] }

/-- A layout template with one layout, number 1: one data and one parity cell, modules 3 and 4, one row; journal set module 3. -/
def layoutBody : List Byte :=
  fit 48 (le 2 1 ++ le 2 1 ++ zeros 4 ++ le 2 3) ++ fit 16 ([1, 1, 1, 0] ++ le 2 2 ++ le 2 1 ++ le 4 16) ++ fit 8 (le 2 3 ++ le 2 4) ++
    (le 2 0 ++ [0xFF, 0] ++ le 2 1 ++ [0xFF, 0])

/-- Domain 0 is owned and uses that layout; its modules are attached and their links up. -/
def stripeState : State :=
  { packetState 0 [] with
    templates.active := [(kindLayout, { body := layoutBody, digest := [], source := 0 })],
    domains := [(0, { state := .owned })],
    stripe.domains := [(0, { layoutId := 1, gcReserve := 0 })],
    flash.modules := [(3, { state := .attached }), (4, { state := .attached })],
    flash.links := List.replicate 96 { state := .up } }

/-- A mirror message of WSN 4 from head 2 to head 1, and its fields. -/
def peerBytes (kind : Nat) (body : List Byte) : List Byte :=
  le 2 kind ++ [1, 0] ++ le 2 2 ++ le 2 1 ++ le 8 1 ++ le 8 4 ++ le 4 body.length ++ le 4 (crc32c body).toNat ++ body
def msgOf (kind : Nat) (body : List Byte) : PeerMsg := { kind := kind, seq := 1, wsn := 4, flags := 0, body := body }

/-- Head 1 with that message at the front of its peer connection 7 to head 2, mirror lane A. -/
def peerState (kind : Nat) (body : List Byte) : State :=
  { packetState 0 [] with
    head := { configuration := 1, headId := 1, joined := true, peers := [(2, { state := 1 })] },
    net.conns := [(7, { state := .ready, use := .peer 2 1, rxSeq := 1, inbox := [peerBytes kind body] })] }

/-- A mirror record of WSN 4 in one unit, and the body of its MIRROR_NOTE. -/
def noteRecord : List Byte := fit 256 (zeros 4 ++ le 4 1 ++ le 8 4)
def noteBody : List Byte := le 4 0 ++ le 4 1 ++ le 4 (crc32c noteRecord).toNat ++ zeros 20

theorem test_reset_inv : State.reset.Inv := by decide

/-- A replication message of WSN 4 for session tag 7, and its fields. -/
def replBytes (kind : Nat) (body : List Byte) : List Byte :=
  le 2 kind ++ [1, 0] ++ le 2 7 ++ le 2 0 ++ le 8 1 ++ le 8 4 ++ le 4 body.length ++ le 4 (crc32c body).toNat ++ body
def replMsg (kind : Nat) (body : List Byte) : PeerMsg := { kind := kind, seq := 1, wsn := 4, flags := 0, body := body }

/-- Namespace 1 of owned domain 0, with session 0 of a role in a state, that message received. -/
def replState (role state kind : Nat) (body : List Byte) : State :=
  { packetState 0 [] with
    head := { configuration := 1, headId := 1 }, domains := [(0, { state := .owned })], nvme.namespaces := [(1, hostNs)],
    heads.sessions := [(0, { role := role, nsid := 1, tag := 7, state := state, rxq := [replBytes kind body] })] }

/-- The same with a packet in progress, snapshot layer 3 of the namespace, island 31 awake. -/
def replPacket (opcode role state : Nat) (params : List Byte) : State :=
  { packetState opcode params with
    power := { (packetState opcode params).power with islands := List.replicate 37 .awake },
    head := { configuration := 1, headId := 1 }, domains := [(0, { state := .owned })], nvme.namespaces := [(1, hostNs)],
    map.layers := [(3, { kind := 2, levels := 1, nsid := 1, createStamp := 0, nsze := 0 })],
    heads.sessions := [(0, { role := role, nsid := 1, tag := 7, state := state, rxq := if role = 4 then [[]] else [] })] }

/-- The body of the standard rank map, and the TEMPLATE_LOAD parameters that carry it. -/
def ranksBody : List Byte := fit 32 (standardRanks.flatMap (le 1))
def ranksLoad : List Byte := fit 40 (le 1 5 ++ zeros 3 ++ le 4 32 ++ fit 32 (sha 1 ranksBody))

/-- A plain manifest of version 0: one chunk of 32 zero bytes. -/
def manifestBody : List Byte :=
  fit 384 (le 4 0x4D494C47 ++ [1] ++ zeros 17 ++ le 2 1 ++ le 4 32 ++ le 4 32) ++ fit 32 (sha 1 (zeros 32))

/-- A dump header of sequence number 1. -/
def headerOne : DumpHeader :=
  { state := 1, cause := 5, fatalClass := 4, seq := 1, fatalStamp := 0, endStamp := 0, location := 0, fatalEvent := 0x0A02, region := 3,
    flags := 0, headId := 0, configuration := 0, phase := 5, imageVersion := 0, epoch := 0, channels := 0, highestWsn := 0, dumpSize := 0,
    runStart := 0, owned := [], fatalParams := [] }

/-! ### Values of the spec's own examples, and of the standards it names -/

/-- The location code of R13's example, and the one resolved only to the bank. -/
theorem test_location_example : location 0 20 5 37 0x1A2B 12 1 = 0x0A0292801A2B0C01 ∧ location 0 20 5 0 0 0 3 = 0x0A02800000000003 := by decide

/-- The SPROG column of the worked example of R154: 149,999,616 units of 2^28, the end of phase 1, and phase 3. -/
theorem test_sprog_example :
    ({ kind := 2, action := 2, target := 7, total := 2 ^ 28, done := 149999616, startStamp := 0 } : EraseOp).sprog = 36621 ∧
    ({ kind := 2, action := 2, target := 7, total := 2 ^ 28, done := 267386880, startStamp := 0, phase := 2 } : EraseOp).sprog = 65280 ∧
    ({ kind := 2, action := 2, target := 7, total := 2 ^ 28, done := 268435456, startStamp := 0, phase := 3 } : EraseOp).sprog = 0xFFFE := by decide

/-- The worked example of chapter 03: header byte 0x0A set to 1 is refused with ST_RESERVED_NONZERO, offset 0x0A, bit 0. -/
theorem test_reserved_byte_example :
    checkSlot (fit 64 (le 2 0x0021 ++ [1, 0] ++ le 4 0x52 ++ le 2 0 ++ [1, 0] ++ le 4 64 ++ le 8 0x1040001000)) 1 false false false =
      some (St.reservedNonzero, 0x0A) := by decide +kernel

/-- The check values of the CRCs over the digits 1 to 9 in the catalogue of CRC standards. -/
theorem test_crc_check_values : crc32c (ascii "123456789") = 0xE3069283 ∧ crc32 (ascii "123456789") = 0xCBF43926 := by decide +kernel

/-- SHA-256 of "abc" begins ba7816bf (FIPS 180-4). -/
theorem test_sha256_abc : (sha 1 (ascii "abc")).take 4 = [0xBA, 0x78, 0x16, 0xBF] := by decide +kernel

/-- A CREDIT frame of head 1: type 4, version 1, head 1, two payload bytes, limit 64 (R293, R294), and its CRC-32C. -/
theorem test_credit_frame :
    (State.wire { head.headId := 1 } (.plinthCredit 0 64)).take 18 = [4, 1, 0, 0, 1, 0, 0, 0, 0, 0, 0, 0, 2, 0, 0, 0, 64, 0] ∧
      (State.wire { head.headId := 1 } (.plinthCredit 0 64)).length = 22 := by decide +kernel

/-! ### Well-formed commands -/

def okOp : PktOp := { acc := 0 }
def okResponse : PlResponse := { link := 0, module := 0, cmdId := 0, status := 0 }
def okPacket : RcPacket := { lport := 0, qpn := 0, op := 0, psn := 0 }
def okRing : RingFrame := { direction := 0, typ := 1, origin := 0, ttl := 1, seq := 0, body := zeros 48 }
def okReq : CmReq :=
  { lport := 0, dstIp := zeros 4, srcMac := zeros 6, srcIp := zeros 4, pcp := 0, dscp := 0, qpn := 0, psn := 0, mtu := 1, timeout := 0,
    retries := 0, initiatorDepth := 0, responderResources := 0, priv := [] }

/-! One ill-formed command for each check of `Instr.wellFormed`; a packet run with 2^32 bytes of data is too long to write out. -/

theorem test_ill_formed_1 : ([
    .powerOn 65536, .vbusLow 65536, .brownout 65536, .brownoutRelease 65536, .vbusStop 65536, .loadBandCrossing 6, .islandRampEnd 37,
    .clockLoss 5, .clockRestored 5, .thermalAlertAssert 18 0, .thermalTrip 18 0, .smbRegisterWrite 256 0, .stampCheckpointInterval 3,
    .sqTailDb 16 0, .rqHeadDb 16 0, .ringEnable 16 0, .ringStop 16 0, .ringStopDrained 16, .registerWrite 2 0 4 0,
    .replyWriteRefused 16, .ksPrioWrite 256 0, .dgLwDataWrite 35 0, .dgLwCtrlWrite 35 0, .portLinkUp 34, .portLinkDown 34] : List Instr).any Instr.wellFormed = false := by decide +kernel

theorem test_ill_formed_2 : ([
    .serdesEnvelopeCrossing 10 0, .serdesEnvelopeCrossing 0 4, .frameReceive 34 ⟨[], true⟩, .pfcFrameReceive 34 0 (List.replicate 8 0),
    .pfcFrameReceive 0 256 (List.replicate 8 0), .pfcPauseExpiry 34 0, .pfcPauseExpiry 0 8, .pfcPauseLongExpiry 34 0,
    .pfcPauseLongExpiry 0 8, .cmRepReceive 2097152 ⟨0, zeros 6⟩ 0 0, .cmRepReceive 0 ⟨0, zeros 6⟩ 16777216 0,
    .cmRepReceive 0 ⟨0, zeros 6⟩ 0 8, .cmRtuReceive 2097152, .cmRejReceive 2097152, .cmRetryExpiry 2097152, .cmDreqReceive 2097152,
    .cmDrepReceive 2097152, .dreqRetryExpiry 2097152, .timewaitExpiry 2097152, .ackCoalesceExpiry 2097152, .rnrTimerExpiry 2097152,
    .retransmitTimerExpiry 2097152, .cnpReceive 34 { qpn := 0 }, .rateTimerExpiry 2097152, .alphaTimerExpiry 2097152] : List Instr).any Instr.wellFormed = false := by decide +kernel

theorem test_ill_formed_3 : ([
    .contextFetchComplete 2097152, .fabricsConnect 2097152, .propertySet 2097152, .shutdownComplete 65536, .propertyGet 2097152,
    .getLogPage 2097152, .nvmeIdentify 2097152, .abort 2097152, .setFeatures 2097152, .getFeatures 2097152, .asyncEventRequest 2097152,
    .keepAlive 2097152, .keepAliveExpiry 65536, .formatNvm 2097152, .sanitizeBlockErase 2097152, .sanitizeCryptoErase 2097152,
    .sanitizeExitFailure 2097152, .nvmeFlush 2097152, .nvmeWrite 2097152, .nvmeRead 2097152, .writeZeroes 2097152,
    .datasetManagement 2097152, .writeStalledExpiry 8, .indexPageRebuild 256 0, .layerReleaseEnd 256 0] : List Instr).any Instr.wellFormed = false := by decide +kernel

theorem test_ill_formed_4 : ([
    .mapCheckEnd 256, .segmentOpen 256 0, .segmentOpen 0 3, .freePoolReplenish 256, .journalFrameSend 256, .journalRecordDurable 256,
    .journalDegraded 256, .journalRepairEnd 256, .journalCheckpoint 256, .gcVictimStart 256, .rebuildStart 768, .plinthLinkTrained 96,
    .helloInterval 96, .plinthHelloAnswer 96 0 0 0, .plinthHelloAnswer 0 65536 0 0, .plinthHelloAnswer 0 0 65536 0,
    .plinthLinkLoss 96 0, .plinthLinkLoss 0 256, .plinthSilenceExpiry 96, .keepaliveInterval 96, .creditInterval 96,
    .plinthCreditReceive 96 false 0, .readIssue 768 0, .slotStart 768 0, .suspendTrigger 768 0] : List Instr).any Instr.wellFormed = false := by decide +kernel

theorem test_ill_formed_5 : ([
    .suspendAgeExpiry 768 0, .plinthReadData 96 0 0 0 0 [], .plinthReadData 0 768 0 0 0 [], .plinthReadData 0 0 65536 0 0 [],
    .plinthResponseExpiry 768 0, .plinthResponseExpiry 0 65536, .moduleAttach 768, .moduleDetach 768 0, .moduleDetach 0 256,
    .linksDownReadExpiry 768, .plinthEnvelopeCrossing 96 0 0, .plinthEnvelopeCrossing 0 8 0, .plinthEnvelopeCrossing 0 0 8,
    .peerConnectRetry 65536 0, .peerConnectRetry 0 4, .heartbeatMissExpiry 65536 0, .takeoverDelayExpiry 65536, .mirrorReplay 256,
    .takeoverDone 65536, .mirrorNote 2097152, .mirrorAck 2097152, .mirrorAckExpiry 4 0, .journalMirror 2097152,
    .progressMirror 2097152, .tail 2097152] : List Instr).any Instr.wellFormed = false := by decide +kernel

theorem test_ill_formed_6 : ([
    .mirrorBind 2097152, .bindReply 2097152, .resyncQuery 2097152, .resyncReply 2097152, .dqsOscillatorCheck 12 0 0,
    .dramPatrolScrub 12 0 [], .sramSweep 37 [] none, .jointFlitRefused 148 0 false, .arbiterContest 130 [], .ksStarvationExpiry 130 0,
    .ksStarvationExpiry 0 8, .hodFindWork 64, .updateChunk okOp 3, .anattExpiry 256, .lastWordWaitExpiry 35, .msixIntervalExpiry 32,
    .vbusRiseAbove9v5 65536, .thermalAlertRelease [], .registerWrite 0 0 2 0, .pfcFrameReceive 0 0 [], .cmRepReceive 0 ⟨0, []⟩ 0 0,
    .cmRepReceive 0 ⟨16777216, zeros 6⟩ 0 0, .cnpReceive 0 { qpn := 16777216 }, .entropyTestFail 0, .journalReplay 256 {}] : List Instr).any Instr.wellFormed = false := by decide +kernel

theorem test_ill_formed_7 : ([
    .dramTraining [] false false, .dramPatrolScrub 0 0 [{ region := 1, symbols := 21 }],
    .dramPatrolScrub 0 0 [{ region := 1, symbols := 1, channel := 12 }],
    .dramPatrolScrub 0 0 [{ region := 1, symbols := 1, sub := 2 }], .sramSweep 0 [{ region := 1, symbols := 1, island := 64 }] none,
    .arbiterContest 0 [⟨8, 0, 0, 0⟩], .arbiterContest 0 [⟨0, 0, 0, 37⟩], .selfTest [64] [] true [] [] [],
    .selfTest [] [(1536, 0)] true [] [] [], .selfTest [] [(0, 16)] true [] [] [], .selfTest [] [] true [12] [] [],
    .selfTest [] [] true [] [(63, 0)] [], .selfTest [] [] true [] [(76, 0)] [], .selfTest [] [] true [] [] [144],
    .powerStatus { acc := 2 ^ 64 }, .rcRequestReceive { okPacket with lport := 34 },
    .rcRequestReceive { okPacket with qpn := 16777216 }, .rcRequestReceive { okPacket with op := 32 },
    .rcRequestReceive { okPacket with psn := 16777216 }, .rcRequestReceive { okPacket with va := 2 ^ 64 },
    .rcRequestReceive { okPacket with key := 2 ^ 32 }, .rcRequestReceive { okPacket with len := 2 ^ 32 },
    .rcRequestReceive { okPacket with payload := zeros 4097 }, .cmReqReceive { okReq with lport := 34 },
    .cmReqReceive { okReq with qpn := 16777216 }] : List Instr).any Instr.wellFormed = false := by decide +kernel

theorem test_ill_formed_8 : ([
    .cmReqReceive { okReq with psn := 16777216 }, .cmReqReceive { okReq with mtu := 8 }, .cmReqReceive { okReq with pcp := 8 },
    .cmReqReceive { okReq with dscp := 64 }, .cmReqReceive { okReq with srcMac := [] }, .cmReqReceive { okReq with srcIp := zeros 16 },
    .plinthReadResponse { okResponse with link := 96 }, .plinthReadResponse { okResponse with module := 768 },
    .plinthReadResponse { okResponse with cmdId := 65536 }, .plinthReadResponse { okResponse with status := 65536 },
    .join { okRing with direction := 2 }, .join { okRing with typ := 256 }, .join { okRing with origin := 65536 },
    .join { okRing with ttl := 256 }, .join { okRing with body := [] }] : List Instr).any Instr.wellFormed = false := by decide +kernel

/-- The same operands at the end of their ranges are accepted. -/
theorem test_well_formed_accepted : ([.powerOn 65535, .loadBandCrossing 5, .clockLoss 4, .portLinkUp 33, .cmRejReceive 2097151, .cmReqReceive okReq,
    .rcRequestReceive okPacket, .plinthReadResponse { okResponse with link := 95, module := 767 }, .join okRing, .mirrorReplay 255,
    .jointFlitRefused 147 0 true, .arbiterContest 129 [⟨7, 0, 0, 36⟩], .selfTest [63] [(1535, 15)] true [11] [(64, 0), (75, 0)] [143],
    .powerStatus okOp] : List Instr).all Instr.wellFormed = true := by decide +kernel

/-! ### Witnesses: what meets the hypotheses of each clause of each statement -/

theorem witness_SupplyCommandsAct_1 :
    (∃ (s : State) (vbus : Nat), s.power.standbyRail = false ∧ 8700 ≤ vbus) ∧
    (∃ (s : State), s.power.standbyRail = true ∧ s.power.standby = false ∧ s.power.coreRails = false ∧ s.rampsDone = true) ∧
    (∃ (s : State) (straps : BitVec 6) (d : Nat), s.power.autoAt = some d ∧ d < s.tick ∧ s.power.internalReset = true) ∧
    (∃ (s : State) (vbus : Nat), s.power.standbyRail = true ∧ s.power.lowArmed = true ∧ vbus < 9000) ∧
    (∃ (s : State) (vbus : Nat), s.power.standbyRail = true ∧ 9500 < vbus) ∧
    (∃ (s : State) (vbus : Nat), s.power.standbyRail = true ∧ vbus < 8000) := by
  refine ⟨⟨{}, (8700), by decide⟩,
    ⟨{ power.standbyRail := true }, by decide⟩,
    ⟨{ now := 64, power.autoAt := some 0 }, (0), (0), by decide⟩,
    ⟨{ power.standbyRail := true }, (8999), by decide⟩,
    ⟨{ power.standbyRail := true }, (9501), by decide⟩,
    ⟨{ power.standbyRail := true }, (7999), by decide⟩⟩

theorem witness_SupplyCommandsAct_2 :
    (∃ (s : State) (vbus : Nat), s.power.brownout = true ∧ 8500 ≤ vbus) ∧
    (∃ (s : State) (vbus : Nat), s.power.standbyRail = true ∧ vbus < 7000) ∧
    (∃ (s : State), s.power.standbyRail = true ∧ s.power.pdown = .none) := by
  refine ⟨⟨{ power.brownout := true }, (8500), by decide⟩,
    ⟨{ power.standbyRail := true }, (6999), by decide⟩,
    ⟨{ power.standbyRail := true }, by decide⟩⟩

theorem witness_DrainBeginsOnSupplyFailure :
    (∃ (s : State), s.mayDrain = true) ∧
    (∃ (s : State), s.mayDrain = false) ∧
    (∃ (s : State), s.power.standbyRail = true ∧ s.mayDrain = true) := by
  refine ⟨⟨{ power.internalReset := false, power.firmwareRunning := true }, by decide⟩,
    ⟨{}, by decide⟩,
    ⟨{ power.standbyRail := true, power.internalReset := false, power.firmwareRunning := true }, by decide⟩⟩

theorem witness_DrainIslandsAndPlans :
    (∃ (s : State), s.power.drain = .quiesce ∧ s.power.drainStart + 20000 ≤ s.now) ∧
    (∃ (s : State), s.power.drain = .draining ∧ s.drainSettled = true) ∧
    (∃ (s : State) (band : Nat), s.power.coreRails = true ∧ band < 6 ∧ band ≠ s.power.loadBand) ∧
    (∃ (s : State), s.power.rederiving = true ∧ s.power.plans.has s.power.loadBand = true ∧ s.power.stamps = false) ∧
    (∃ (s : State) (w : Nat × Nat) (rest : List (Nat × Nat)), s.power.wakeQueue = w :: rest ∧ s.runs = true) ∧
    (∃ (s : State) (i : Nat) (back : Bool), s.island i = .ramp back ∧ s.runs = true) := by
  refine ⟨⟨{ now := 20000, power.drain := .quiesce }, by decide⟩,
    ⟨{ power.drain := .draining }, by decide⟩,
    ⟨{ power.coreRails := true }, (5), by decide⟩,
    ⟨{ power.rederiving := true, power.plans := [(0, { vbusBand := 0, tjBand := 0 })] }, by decide⟩,
    ⟨{ power.internalReset := false, power.wakeQueue := [(3, 0)] }, ((3, 0)), ([]), by decide⟩,
    ⟨{ power.internalReset := false, power.islands := [.ramp true] }, (0), (true), by decide⟩⟩

theorem witness_PowerPacketsAct_1 :
    (∃ (s : State) (op : PktOp) (p : Packet), s.takes op 0x0020 p ∧ p.f 8 1 = 1 ∧ p.f 0 8 % 2 ^ 37 = 0) ∧
    (∃ (s : State) (op : PktOp) (p : Packet), s.takes op 0x0021 p) ∧
    (∃ (s : State) (op : PktOp) (p : Packet), s.takes op 0x0022 p ∧ p.f 0 8 ≤ 256 * s.wp.logUnits) ∧
    (∃ (s : State) (op : PktOp) (p : Packet), s.takes op 0x0022 p ∧ 256 * s.wp.logUnits < p.f 0 8) ∧
    (∃ (s : State) (op : PktOp) (p : Packet), s.takes op 0x0023 p ∧ s.draining = false) ∧
    (∃ (s : State), s.power.pdown = .settling ∧ s.runs = true ∧ ((s.commandsSettled = true ∨ s.power.pdownDeadline < s.tick))) := by
  refine ⟨⟨(packetState 0x0020 [0,0,0,0,0,0,0,0,1]), (runOp), (packetIn 0x0020 [0,0,0,0,0,0,0,0,1]), by decide⟩,
    ⟨(packetState 0x0021 []), (runOp), (packetIn 0x0021 []), by decide⟩,
    ⟨(packetState 0x0022 []), (runOp), (packetIn 0x0022 []), by decide⟩,
    ⟨(packetState 0x0022 [0,0,0,0,0,0,0,0xFF]), (runOp), (packetIn 0x0022 [0,0,0,0,0,0,0,0xFF]), by decide⟩,
    ⟨(packetState 0x0023 []), (runOp), (packetIn 0x0023 []), by decide⟩,
    ⟨{ power.internalReset := false, power.pdown := .settling }, by decide⟩⟩

theorem witness_PowerPacketsAct_2 :
    (∃ (s : State), s.power.pdown = .draining ∧ s.runs = true ∧ s.drainSettled = true) ∧
    (∃ (s : State) (op : PktOp) (p : Packet), s.takes op 0x0024 p ∧ s.direct.recoveryBoot = false) := by
  refine ⟨⟨{ power.internalReset := false, power.pdown := .draining }, by decide⟩,
    ⟨(packetState 0x0024 []), (runOp), (packetIn 0x0024 []), by decide⟩⟩

theorem witness_ResetClockCommandsAct_1 :
    (∃ (s : State) (d : Nat), s.power.swResetAt = some d ∧ d < s.tick) ∧
    (∃ (s : State), s.power.resetL = true ∧ s.power.standby = false ∧ s.power.coreRails = true) ∧
    (∃ (s : State), s.power.selfRefreshing = true) ∧
    (∃ (s : State) (straps : BitVec 6), s.power.internalReset = true ∧ s.power.pwrGood = true ∧ s.power.autoAt = none) ∧
    (∃ (s : State), s.pcie.perstHigh = false) ∧
    (∃ (s : State) (clock : Nat), s.power.standbyRail = true ∧ clock < 5 ∧ s.power.clocksLost.getD clock false = false ∧ s.runs = false) := by
  refine ⟨⟨{ now := 64, power.swResetAt := some 0 }, (0), by decide⟩,
    ⟨{ power.resetL := true, power.coreRails := true }, by decide⟩,
    ⟨{ power.selfRefreshing := true }, by decide⟩,
    ⟨{ power.pwrGood := true }, (0), by decide⟩,
    ⟨{}, by decide⟩,
    ⟨{ power.standbyRail := true }, (4), by decide⟩⟩

theorem witness_ResetClockCommandsAct_2 :
    (∃ (s : State) (clock : Nat), (clock < 2 ∨ clock = 3) ∧ s.power.clocksLost.getD clock false = true) ∧
    (∃ (s : State), s.power.internalReset = false ∧ s.power.drain = .none) ∧
    (∃ (s : State), (s.power.drain = .quiesce ∨ s.power.drain = .draining)) ∧
    (∃ (s : State) (bme d0 : Bool), (s.dma = true ∨ (bme && d0 && s.pcie.linkUp) = false)) ∧
    (∃ (s : State), s.dma = false ∧ s.pcie.linkUp = true) := by
  refine ⟨⟨{ power.clocksLost := [true, true, true, true, true] }, (3), by decide⟩,
    ⟨{ power.internalReset := false }, by decide⟩,
    ⟨{ power.drain := .draining }, by decide⟩,
    ⟨{}, (true), (true), by decide⟩,
    ⟨{ pcie.linkUp := true }, by decide⟩⟩

theorem witness_ThermalAndSidebandCommandsAct_1 :
    (∃ (s : State) (sensor : Nat) (temp : W16), s.power.standbyRail = true ∧ sensor < 18 ∧ s.power.thermAlert = false ∧ s.power.thermSet.toInt ≤ (s.setTemp sensor temp).tjMax) ∧
    (∃ (s : State) (temps : List W16), s.power.thermAlert = true ∧ temps.length = 18 ∧ State.tjMax { s with power := { s.power with temps := temps, thermAlert := false } } < s.power.thermSet.toInt - 16 * s.power.thermHyst.toNat) ∧
    (∃ (s : State) (sensor : Nat) (temp : W16), s.power.standbyRail = true ∧ sensor < 18 ∧ s.power.tripped = false ∧ 1792 ≤ temp.toInt) ∧
    (∃ (s : State) (v : Byte), s.power.standbyRail = true) ∧
    (∃ (s : State) (v : W16), s.power.standbyRail = true) ∧
    (∃ (s : State) (ir : Byte) (shiftIn : List Bool), s.power.standbyRail = true ∧ ((s.power.resetL = true ∨ s.power.pwrGood = false)) ∧ s.power.tapDriven = none) := by
  refine ⟨⟨{ power.standbyRail := true, power.thermSet := 0 }, (17), (0), by decide⟩,
    ⟨{ power.thermAlert := true }, (List.replicate 18 0), by decide⟩,
    ⟨{ power.standbyRail := true }, (0), (1792), by decide⟩,
    ⟨{ power.standbyRail := true }, (0xFF), by decide⟩,
    ⟨{ power.standbyRail := true }, (960), by decide⟩,
    ⟨{ power.standbyRail := true, power.resetL := true }, (0), ([true]), by decide⟩⟩

theorem witness_ThermalAndSidebandCommandsAct_2 :
    (∃ (s : State) (shiftIn : List Bool), s.power.standbyRail = true) := by
  refine ⟨{ power.standbyRail := true }, ([true]), by decide⟩

theorem witness_RingCommandsAct_1 :
    (∃ (s : State) (n : Nat) (v : W32), n < 16 ∧ (s.ring n).state = .enabled ∧ (s.ring n).tailOk (v.toNat % 65536) = true) ∧
    (∃ (s : State) (n : Nat) (v : W32), n < 16 ∧ (s.ring n).state = .enabled ∧ (s.ring n).tailOk (v.toNat % 65536) = false) ∧
    (∃ (s : State) (n : Nat) (v : W32), n < 16 ∧ (s.ring n).state = .enabled) ∧
    (∃ (s : State) (n : Nat) (v : W32), n < 16 ∧ (s.ring n).state ≠ .enabled) ∧
    (∃ (s : State) (n : Nat) (v : W32), n < 16 ∧ bit v.toNat 0 = true ∧ (s.ring n).state = .disabled) ∧
    (∃ (s : State) (n : Nat) (v : W32), n < 16 ∧ bit v.toNat 0 = false ∧ (s.ring n).state = .enabled) := by
  refine ⟨⟨(packetState 0 []), (0), (15), by decide⟩,
    ⟨(packetState 0 []), (0), (16), by decide⟩,
    ⟨(packetState 0 []), (0), (15), by decide⟩,
    ⟨{}, (15), (0), by decide⟩,
    ⟨{}, (15), (1), by decide⟩,
    ⟨(packetState 0 []), (0), (0), by decide⟩⟩

theorem witness_RingCommandsAct_2 :
    (∃ (s : State) (n : Nat), n < 16 ∧ (s.ring n).inProgress = [] ∧ (s.ring n).held = [] ∧ (s.ring n).state = .stopping) ∧
    (∃ (s : State) (n : Nat) (slot : SlotRead), s.turn = some n ∧ s.dma = true ∧ s.ringsServiced = true) ∧
    (∃ (s : State) (n : Nat), n < 16 ∧ (s.ring n).state = .enabled ∧ (s.ring n).refused = false ∧ 0 < (s.ring n).unreleased) ∧
    (∃ (s : State) (v : Nat), v < 32 ∧ (s.pcie.vectors.getD v {}).interval = true ∧ (s.pcie.vectors.getD v {}).again = true ∧ s.dma = true) ∧
    (∃ (s : State) (v : Nat), v < 32 ∧ (s.pcie.vectors.getD v {}).interval = true ∧ s.dma = false) ∧
    (∃ (s : State) (v : Nat), v < 32 ∧ (s.pcie.vectors.getD v {}).interval = true ∧ (s.pcie.vectors.getD v {}).again = false) := by
  refine ⟨⟨{ pcie.rings := [{ state := .stopping }] }, (0), by decide⟩,
    ⟨{ power.firmwareRunning := true, pcie := { bme := true, linkUp := true, rings := [{ state := .enabled, sizeLog2 := 4, sqTail := 1 }] } }, (0), (.fault), by decide⟩,
    ⟨{ pcie.rings := [{ state := .enabled, sizeLog2 := 4, rqTail := 1 }] }, (0), by decide⟩,
    ⟨{ pcie := { bme := true, linkUp := true, vectors := (List.replicate 31 ({} : Vector32)) ++ [{ interval := true, again := true }] } }, (31), by decide⟩,
    ⟨{ pcie.vectors := [{ interval := true }] }, (0), by decide⟩,
    ⟨{ pcie.vectors := [{ interval := true }] }, (0), by decide⟩⟩

theorem witness_EventRingCommandsAct_1 :
    (∃ (s : State) (v : W32), bit v.toNat 0 = true ∧ s.pcie.evq.state = .disabled ∧ 6 ≤ bits v.toNat 8 4 ∧ bits v.toNat 8 4 ≤ 16 ∧ s.pcie.evq.base.toNat % 4096 = 0 ∧ s.pcie.evq.base ≠ 0) ∧
    (∃ (s : State) (v : W32), bit v.toNat 0 = true ∧ s.pcie.evq.state = .disabled ∧ 6 ≤ bits v.toNat 8 4 ∧ bits v.toNat 8 4 ≤ 16 ∧ s.pcie.evq.base.toNat % 4096 = 0 ∧ s.pcie.evq.base ≠ 0) ∧
    (∃ (s : State) (v : W32), bit v.toNat 0 = true ∧ s.pcie.evq.state = .disabled ∧ bits v.toNat 8 4 < 6) ∧
    (∃ (s : State) (v : W32), bit v.toNat 0 = false) ∧
    (∃ (s : State) (v : W32), s.pcie.evq.state = .enabled) ∧
    (∃ (s : State) (v : W32), s.pcie.evq.state ≠ .enabled) := by
  refine ⟨⟨{ pcie.evq := { base := 0x1000 } }, (0x61), by decide⟩,
    ⟨{ pcie.evq := { base := 0x1000 } }, (0x101), by decide⟩,
    ⟨{}, (0x51), by decide⟩,
    ⟨{}, (0), by decide⟩,
    ⟨{ pcie.evq := { state := .enabled, sizeLog2 := 6 } }, (63), by decide⟩,
    ⟨{}, (0), by decide⟩⟩

theorem witness_EventRingCommandsAct_2 :
    (∃ (s : State) (e : Event) (rest : List Event), s.postable = true ∧ s.events.backlog = e :: rest ∧ s.pcie.evq.irqEn = false) ∧
    (∃ (s : State), s.postable = true) := by
  refine ⟨⟨{ pcie := { bme := true, linkUp := true, evq := { state := .enabled, sizeLog2 := 6, tail := 63, head := 1 } }, events := { backlog := [⟨1, 1, 1, 1, 1, 1, [], true⟩] } }, (⟨1, 1, 1, 1, 1, 1, [], true⟩), ([]), by decide⟩,
    ⟨{ pcie := { bme := true, linkUp := true, evq := { state := .enabled, sizeLog2 := 6, tail := 63, head := 1 } }, events := { backlog := [⟨1, 1, 1, 1, 1, 1, [], true⟩] } }, by decide⟩⟩

theorem witness_CommonPacketsAct :
    (∃ (s : State) (op : PktOp) (p : Packet), s.takes op 0x0000 p) ∧
    (∃ (s : State) (op : PktOp) (p : Packet), s.takes op 0x0001 p) ∧
    (∃ (s : State) (op : PktOp) (p : Packet), s.takes op 0x0002 p) ∧
    (∃ (s : State) (op : PktOp) (p : Packet), s.takes op 0x0003 p ∧ p.f 0 2 = 1) ∧
    (∃ (s : State) (op : PktOp) (p : Packet), s.takes op 0x0004 p) ∧
    (∃ (s : State), s.coreRuns = true ∧ s.mason.lastBeat + 1000000 ≤ s.now) := by
  refine ⟨⟨(packetState 0 []), (runOp), (packetIn 0 []), by decide⟩,
    ⟨(packetState 1 []), (runOp), (packetIn 1 []), by decide⟩,
    ⟨(packetState 2 []), (runOp), (packetIn 2 []), by decide⟩,
    ⟨(packetState 3 [1, 0, 0, 0, 1, 2, 1]), (runOp), (packetIn 3 [1, 0, 0, 0, 1, 2, 1]), by decide⟩,
    ⟨(packetState 4 []), (runOp), (packetIn 4 []), by decide⟩,
    ⟨{ now := 1000000, power.internalReset := false, mason.boot := .running }, by decide⟩⟩

theorem witness_FabricCommandsAct_1 :
    (∃ (s : State) (a : Nat) (v : W32), a < 130) ∧
    (∃ (s : State) (a : Nat) (arrivals : List KsRequest), a < 130 ∧ bestOf (s.competing a ((s.arbiters.getD a {}).waiting ++ arrivals)) = none) ∧
    (∃ (s : State) (a e : Nat) (arrivals : List KsRequest) (r : KsRequest), a < 130 ∧ bestOf (s.competing a ((s.arbiters.getD a {}).waiting ++ arrivals)) = some (e, r)) ∧
    (∃ (s : State) (a rank t : Nat), a < 130 ∧ 2 ≤ rank ∧ rank < 8 ∧ oldestTick ((s.arbiters.getD a {}).waiting.filter fun r => r.rank == rank) = some t ∧ ((s.arbiters.getD a {}).watch.getD rank {}).raised = false ∧ s.dram.watchTicks ≤ s.tick - t) ∧
    (∃ (s : State) (joint : Nat) (first : Bool), joint < 148 ∧ (recent s.now hourNs (s.dram.jointHits.getD joint [])).length < 1000) ∧
    (∃ (s : State) (joint symbols : Nat), joint < 148 ∧ 2 ≤ symbols) := by
  refine ⟨⟨{}, (129), (0), by decide⟩,
    ⟨{}, (0), ([]), by decide⟩,
    ⟨{}, (129), (0), ([⟨0, 1, 5, 63⟩]), (⟨0, 1, 5, 63⟩), by decide⟩,
    ⟨{ arbiters := [{ waiting := [⟨7, 0, 0, 63⟩] }], now := 64 * 1000000000000 }, (0), (7), (0), by decide⟩,
    ⟨{}, (147), (true), by decide⟩,
    ⟨{}, (147), (2), by decide⟩⟩

theorem witness_FabricCommandsAct_2 :
    (∃ (s : State) (joint symbols : Nat), joint < 148 ∧ 2 ≤ symbols ∧ 2 ≤ s.dram.jointCopies.getD joint 0) ∧
    (∃ (s : State) (c osc drift : Nat), c < 12 ∧ (s.dramChannel c).dimm = .trained ∧ 16 < drift) ∧
    (∃ (s : State) (op : PktOp) (p : Packet), s.takes op 0x0A00 p) ∧
    (∃ (s : State) (op : PktOp) (p : Packet), s.takes op 0x0A01 p ∧ p.f 1 1 = 0 ∧ (s.dramChannel (p.f 0 1)).dimm ≠ .empty) ∧
    (∃ (s : State) (op : PktOp) (p : Packet), s.takes op 0x0A02 p ∧ p.f 1 1 = 1 ∧ (s.dramChannel (p.f 0 1)).dimm ≠ .empty) ∧
    (∃ (s : State) (op : PktOp) (p : Packet), s.takes op 0x0A03 p) := by
  refine ⟨⟨{ dram.jointCopies := [(0, 2)] }, (0), (2), by decide⟩,
    ⟨{ dram.channels := [{ dimm := .trained }] }, (0), (5), (17), by decide⟩,
    ⟨(packetState 0x0A00 []), (runOp), (packetIn 0x0A00 []), by decide⟩,
    ⟨{ packetState 0x0A01 [] with dram.channels := [{ dimm := .trained }] }, (runOp), (packetIn 0x0A01 []), by decide⟩,
    ⟨{ packetState 0x0A02 [0, 1] with dram.channels := [{ dimm := .trained }] }, (runOp), (packetIn 0x0A02 [0, 1]), by decide⟩,
    ⟨(packetState 0x0A03 []), (runOp), (packetIn 0x0A03 []), by decide⟩⟩

theorem witness_FabricCommandsAct_3 :
    (∃ (s : State) (op : PktOp) (p : Packet), s.takes op 0x0A04 p) ∧
    (∃ (s : State) (op : PktOp) (p : Packet), s.takes op 0x0A05 p ∧ p.f 0 1 < 130 ∧ p.f 1 1 = 0) ∧
    (∃ (s : State) (op : PktOp) (p : Packet), s.takes op 0x0A05 p ∧ 130 ≤ p.f 0 1) ∧
    (∃ (s : State) (op : PktOp) (p : Packet), s.takes op 0x0A06 p) := by
  refine ⟨⟨(packetState 0x0A04 [1]), (runOp), (packetIn 0x0A04 [1]), by decide⟩,
    ⟨(packetState 0x0A05 [129]), (runOp), (packetIn 0x0A05 [129]), by decide⟩,
    ⟨(packetState 0x0A05 [130]), (runOp), (packetIn 0x0A05 [130]), by decide⟩,
    ⟨(packetState 0x0A06 []), (runOp), (packetIn 0x0A06 []), by decide⟩⟩

theorem witness_DigestCommandsAct_1 :
    (∃ (s : State) (op : PktOp) (p : Packet), s.takes op 0x0500 p ∧ s.hmacKeyOk p = true) ∧
    (∃ (s : State) (op : PktOp) (p : Packet) (c : Nat), s.takes op 0x0501 p ∧ s.live (p.f 0 4) = some c ∧ 32 ≤ c ∧ c ≠ 34 ∧ p.f 0 1 ≠ 34 ∧ (s.chan c).state ≠ .lastWord) ∧
    (∃ (s : State) (op : PktOp) (p : Packet) (c : Nat), s.takes op 0x0502 p ∧ s.live (p.f 0 4) = some c ∧ general c = true ∧ p.f 0 1 ≠ 34 ∧ (s.chan c).state = .owned ∧ (s.chan c).msg.mode % 2 = 0 ∧ digestLen (s.chan c).msg.algorithm ≤ p.dataLen ∧ p.f 4 1 = 0) ∧
    (∃ (s : State) (op : PktOp) (p : Packet) (c i : Nat), s.takes op 0x0503 p ∧ s.live (p.f 0 4) = some c ∧ general c = true ∧ p.f 0 1 ≠ 34 ∧ (s.chan c).state ≠ .lastWord ∧ (List.range 1024).find? (fun i => (s.digest.records.getD i {}).saved.isNone) = some i) ∧
    (∃ (s : State) (op : PktOp) (p : Packet), s.takes op 0x0504 p ∧ (s.saved (p.f 0 4)).isSome = true) ∧
    (∃ (s : State) (op : PktOp) (p : Packet) (c : Nat), s.takes op 0x0505 p ∧ bit (p.f 4 1) 0 = false ∧ p.f 0 1 ≠ 34 ∧ s.live (p.f 0 4) = some c) := by
  refine ⟨⟨(packetState 0x0500 [31, 0, 1, 0xFF]), (runOp), (packetIn 0x0500 [31, 0, 1, 0xFF]), by decide⟩,
    ⟨{ packetState 0x0501 [33, 0, 0, 0] with digest.channels := (List.replicate 33 {}) ++ [{ state := .owned }, {}] }, (runOp), (packetIn 0x0501 [33, 0, 0, 0]), (33), by decide⟩,
    ⟨{ packetState 0x0502 [0, 0, 0, 0] 64 with digest.channels := [{ state := .owned }] }, (runOp), (packetIn 0x0502 [0, 0, 0, 0] 64), (0), by decide⟩,
    ⟨{ packetState 0x0503 [0, 0, 0, 0] with digest.channels := [{ state := .owned }] }, (runOp), (packetIn 0x0503 [0, 0, 0, 0]), (0), (0), by decide⟩,
    ⟨{ packetState 0x0504 [0, 0, 0, 0] with digest.records := [(0, { gen := 0, saved := some {} })] }, (runOp), (packetIn 0x0504 [0, 0, 0, 0]), by decide⟩,
    ⟨{ packetState 0x0505 [0, 0, 0, 0] with digest.channels := [{ state := .owned }] }, (runOp), (packetIn 0x0505 [0, 0, 0, 0]), (0), by decide⟩⟩

theorem witness_DigestCommandsAct_2 :
    (∃ (s : State) (op : PktOp) (p : Packet), s.takes op 0x0506 p ∧ (p.f 0 1 ≠ 34 ∨ s.digest.taken34 = false)) ∧
    (∃ (s : State) (op : PktOp) (p : Packet), s.takes op 0x0506 p ∧ p.f 0 1 = 34 ∧ s.digest.taken34 = true) ∧
    (∃ (s : State) (c : Nat) (v : W64), s.runs = true ∧ c < 32) ∧
    (∃ (s : State) (c : Nat) (v : W32), s.runs = true ∧ c < 32 ∧ ((s.chan c).finish.map fun f => decide (s.tick ≤ f.2)) ≠ some false) ∧
    (∃ (s : State) (acc : Nat) (w : Waiter), s.digest.waiter? acc = some w ∧ s.runs = true ∧ w.deadline < s.tick) ∧
    (∃ (s : State) (c acc d : Nat), (s.chan c).finish = some (acc, d) ∧ s.runs = true ∧ c < 32 ∧ d < s.tick) := by
  refine ⟨⟨(packetState 0x0506 []), (runOp), (packetIn 0x0506 []), by decide⟩,
    ⟨{ packetState 0x0506 [34] with digest.taken34 := true }, (runOp), (packetIn 0x0506 [34]), by decide⟩,
    ⟨(packetState 0 []), (31), (0), by decide⟩,
    ⟨(packetState 0 []), (31), (7), by decide +kernel⟩,
    ⟨{ packetState 0 [] with now := 6400, digest.channels := [{ waiters := [{ acc := 3, deadline := 99 }] }] }, (3), { acc := 3, deadline := 99 }, by decide⟩,
    ⟨{ packetState 0 [] with now := 6400, digest.channels := [{ state := .owned, finish := some (0, 99) }] }, (0), (0), (99), by decide⟩⟩

theorem witness_PortCommandsAct_1 :
    (∃ (s : State) (l : Nat), s.runs = true ∧ l < 34 ∧ s.lportEnabled l = true ∧ (s.lport l).up = false ∧ s.power.clocksLost.getD (if l < 16 then 0 else 1) false = false ∧ s.power.drain = .none ∧ (lanesOf (s.eth (physOf l)).mode (subOf l)).all (fun k => ((s.eth (physOf l)).envelope.getD k none).isSome) = true) ∧
    (∃ (s : State) (l : Nat), s.runs = true ∧ l < 34 ∧ (s.lport l).up = true) ∧
    (∃ (s : State) (port lane : Nat) (e : Nat × Nat), s.runs = true ∧ port < 10 ∧ (s.eth port).envelope.getD lane none = some e ∧ e ≠ (s.tjBand, s.power.loadBand) ∧ ((List.range 4).filter fun k => (lanesOf (s.eth port).mode k).contains lane).any (fun k => (s.lport ((if port < 8 then 4 * port else 24 + port) + k)).up) = true) ∧
    (∃ (s : State) (l : Nat) (f : EthFrame), s.runs = true ∧ l < 34 ∧ (s.lport l).up = true) ∧
    (∃ (s : State) (l : Nat) (f : EthFrame), f.fcsOk = false) ∧
    (∃ (s : State) (l enabled : Nat) (quanta : List Nat), s.runs = true ∧ l < 34 ∧ (s.lport l).up = true) := by
  refine ⟨⟨{ packetState 0 [] with net.ports := [{ mode := 3, enableMask := 1, envelope := [some (0, 0)] }] }, (0), by decide⟩,
    ⟨{ packetState 0 [] with net.lports := (List.replicate 33 {}) ++ [{ up := true }] }, (33), by decide⟩,
    ⟨{ packetState 0 [] with net.ports := [{ mode := 3, envelope := [some (5, 5)] }], net.lports := [{ up := true }] }, (0), (0), ((5, 5)), by decide⟩,
    ⟨{ packetState 0 [] with net.lports := [{ up := true }] }, (0), { bytes := [] }, by decide⟩,
    ⟨{}, (0), { bytes := [], fcsOk := false }, by decide⟩,
    ⟨{ packetState 0 [] with net.lports := [{ up := true }] }, (0), (255), ([]), by decide⟩⟩

theorem witness_PortCommandsAct_2 :
    (∃ (s : State) (l prio d : Nat), s.runs = true ∧ (s.lport l).pause.getD prio none = some d ∧ d < s.tick) ∧
    (∃ (s : State) (l prio d : Nat), s.runs = true ∧ l < 34 ∧ bit (s.lport l).longRaised prio = false ∧ (s.lport l).pausedAt.getD prio none = some d ∧ d + ticksOf 100000000 < s.tick) := by
  refine ⟨⟨{ packetState 0 [] with now := 64, net.lports := [{ pause := [some 0] }] }, (0), (0), (0), by decide⟩,
    ⟨{ packetState 0 [] with now := 6400000000, net.lports := [{ pausedAt := [some 0] }] }, (0), (0), (0), by decide⟩⟩

theorem witness_PortPacketsAct_1 :
    (∃ (s : State) (op : PktOp) (p : Packet), s.takes op 0x0200 p ∧ s.power.islands.getD (portIsland (p.f 0 1)) .awake = .awake ∧ (s.eth (p.f 0 1)).enableMask = 0) ∧
    (∃ (s : State) (op : PktOp) (p : Packet), s.takes op 0x0200 p ∧ s.power.islands.getD (portIsland (p.f 0 1)) .awake ≠ .awake) ∧
    (∃ (s : State) (op : PktOp) (p : Packet), s.takes op 0x0201 p) ∧
    (∃ (s : State) (op : PktOp) (p : Packet) (i : Nat), s.takes op 0x0202 p ∧ s.connOfQpn (p.f 0 4) = some i) ∧
    (∃ (s : State) (op : PktOp) (p : Packet), s.takes op 0x0202 p ∧ s.connOfQpn (p.f 0 4) = none) ∧
    (∃ (s : State) (op : PktOp) (p : Packet) (i : Nat), s.takes op 0x0203 p ∧ s.connOfQpn (p.f 0 4) = some i ∧ p.f 4 1 = 0) := by
  refine ⟨⟨{ packetState 0x0200 [] with power.islands := List.replicate 37 .awake }, (runOp), (packetIn 0x0200 []), by decide⟩,
    ⟨(packetState 0x0200 []), (runOp), (packetIn 0x0200 []), by decide⟩,
    ⟨(packetState 0x0201 []), (runOp), (packetIn 0x0201 []), by decide⟩,
    ⟨{ packetState 0x0202 (le 4 (qpnOf 1 0)) with net.conns := [(0, { gen := 1, state := .ready })] }, (runOp), (packetIn 0x0202 (le 4 (qpnOf 1 0))), (0), by decide⟩,
    ⟨(packetState 0x0202 []), (runOp), (packetIn 0x0202 []), by decide⟩,
    ⟨{ packetState 0x0203 (le 4 (qpnOf 1 0)) with net.conns := [(0, { gen := 1, state := .ready })] }, (runOp), (packetIn 0x0203 (le 4 (qpnOf 1 0))), (0), by decide⟩⟩

theorem witness_PortPacketsAct_2 :
    (∃ (s : State) (op : PktOp) (p : Packet) (i : Nat), s.takes op 0x0203 p ∧ s.connOfQpn (p.f 0 4) = some i ∧ p.f 4 1 = 1 ∧ (s.conn i).pinned = false ∧ (s.net.conns.filter fun x => x.2.pinned).length < 16384 ∧ ((s.net.conns.filter fun x => x.2.pinned).filter fun x => contextSet x.1 == contextSet i).length < 8) ∧
    (∃ (s : State) (op : PktOp) (p : Packet), s.takes op 0x0204 p) ∧
    (∃ (s : State) (op : PktOp) (p : Packet), s.takes op 0x0205 p) ∧
    (∃ (s : State) (op : PktOp) (p : Packet), s.takes op 0x0206 p ∧ (s.lport (p.f 0 1)).up = true) ∧
    (∃ (s : State) (op : PktOp) (p : Packet), s.takes op 0x0206 p ∧ (s.lport (p.f 0 1)).up = false) ∧
    (∃ (s : State) (op : PktOp) (p : Packet) (b : List Byte) (bs : List (List Byte)), s.takes op 0x0207 p ∧ (s.lport (p.f 0 1)).ctrl = b :: bs) := by
  refine ⟨⟨{ packetState 0x0203 (le 4 (qpnOf 1 0) ++ [1]) with net.conns := [(0, { gen := 1, state := .ready })] }, (runOp), (packetIn 0x0203 (le 4 (qpnOf 1 0) ++ [1])), (0), by decide⟩,
    ⟨(packetState 0x0204 []), (runOp), (packetIn 0x0204 []), by decide⟩,
    ⟨(packetState 0x0205 [33, 1]), (runOp), (packetIn 0x0205 [33, 1]), by decide⟩,
    ⟨{ packetState 0x0206 [] with net.lports := [{ up := true }] }, (runOp), (packetIn 0x0206 []), by decide⟩,
    ⟨(packetState 0x0206 []), (runOp), (packetIn 0x0206 []), by decide⟩,
    ⟨{ packetState 0x0207 [] with net.lports := [{ ctrl := [[1]] }] }, (runOp), (packetIn 0x0207 []), ([1]), ([]), by decide⟩⟩

theorem witness_PortPacketsAct_3 :
    (∃ (s : State) (op : PktOp) (p : Packet), s.takes op 0x0208 p) ∧
    (∃ (s : State) (op : PktOp) (p : Packet) (i : Nat), s.takes op 0x0209 p ∧ s.connOfQpn (p.f 0 4) = some i ∧ ((s.conn i).state = .ready ∨ (s.conn i).state = .error)) ∧
    (∃ (s : State) (op : PktOp) (p : Packet) (i : Nat), s.takes op 0x0209 p ∧ s.connOfQpn (p.f 0 4) = some i ∧ (s.conn i).state ≠ .ready ∧ (s.conn i).state ≠ .error) := by
  refine ⟨⟨(packetState 0x0208 [1]), (runOp), (packetIn 0x0208 [1]), by decide⟩,
    ⟨{ packetState 0x0209 (le 4 (qpnOf 1 0)) with net.conns := [(0, { gen := 1, state := .ready })] }, (runOp), (packetIn 0x0209 (le 4 (qpnOf 1 0))), (0), by decide⟩,
    ⟨{ packetState 0x0209 (le 4 (qpnOf 1 0)) with net.conns := [(0, { gen := 1, state := .connecting })] }, (runOp), (packetIn 0x0209 (le 4 (qpnOf 1 0))), (0), by decide⟩⟩

theorem witness_ConnectionManagementAct_1 :
    (∃ (s t : State) (q : CmReq), t = s.cmArrives q.lport q.srcIp ∧ s.runs = true ∧ (s.lport q.lport).up = true ∧ s.portAddress q.lport q.dstIp = true ∧ t.net.mra = [] ∧ (t.net.conns.find? fun x => x.2.state == .connecting && !x.2.active && x.2.remoteQpn == q.qpn && x.2.ip == q.srcIp && x.2.port == q.lport) = none ∧ t.recentCount + t.connecting < establishRate) ∧
    (∃ (s : State) (i qpn psn mtu : Nat) (mac : List Byte), s.runs = true ∧ (s.conn i).state = .connecting ∧ (s.conn i).active = true ∧ ((s.cmAnswer i).conn i).state = .connecting) ∧
    (∃ (s : State) (i : Nat), s.runs = true ∧ (s.conn i).state = .connecting ∧ (s.conn i).active = false ∧ ((s.cmAnswer i).conn i).state = .connecting) ∧
    (∃ (s : State) (i : Nat), s.cmExpired (s.conn i) = false ∧ (s.conn i).cmDeadline = ((s.cmArrives (s.conn i).lport (s.conn i).ip).conn i).cmDeadline) ∧
    (∃ (s : State) (i : Nat), s.runs = true ∧ (s.conn i).state = .connecting) ∧
    (∃ (s : State) (i d : Nat), s.runs = true ∧ (s.conn i).state = .connecting ∧ (s.conn i).cmDeadline = some d ∧ d < s.tick ∧ (s.conn i).cmRetries ≠ 0) := by
  refine ⟨⟨{ packetState 0 [] with net.lports := [{ up := true }], net.ports := [{ sub := [zeros 8 ++ [1, 2, 3, 4]] }] }, (State.cmArrives 0 [1, 2, 3, 4] { packetState 0 [] with net.lports := [{ up := true }], net.ports := [{ sub := [zeros 8 ++ [1, 2, 3, 4]] }] }), (⟨0, [1, 2, 3, 4], [], [], 0, 0, 0, 0, 3, 0, 0, 0, 0, []⟩), by exact ⟨rfl, by decide +kernel⟩⟩,
    ⟨{ packetState 0 [] with net.conns := [(0, { gen := 1, state := .connecting, active := true })] }, (0), (5), (6), (3), ([]), by decide⟩,
    ⟨{ packetState 0 [] with net.conns := [(0, { gen := 1, state := .connecting })] }, (0), by decide⟩,
    ⟨{ packetState 0 [] with net.conns := [(0, { gen := 1, state := .connecting })] }, (0), by decide⟩,
    ⟨{ packetState 0 [] with net.conns := [(0, { gen := 1, state := .connecting })] }, (0), by decide⟩,
    ⟨{ packetState 0 [] with now := 64, net.conns := [(0, { gen := 1, state := .connecting, cmDeadline := some 0, cmRetries := 1 })] }, (0), (0), by decide⟩⟩

theorem witness_ConnectionManagementAct_2 :
    (∃ (s : State) (i d : Nat), s.runs = true ∧ (s.conn i).state = .connecting ∧ (s.conn i).cmDeadline = some d ∧ d < s.tick ∧ (s.conn i).cmRetries = 0) ∧
    (∃ (s : State) (i : Nat), (s.conn i).state = .ready) ∧
    (∃ (s : State) (i : Nat), s.runs = true ∧ (s.conn i).state = .disconnecting) ∧
    (∃ (s : State) (i : Nat), s.runs = true ∧ (s.conn i).state = .disconnecting ∧ s.cmExpired (s.conn i) = true ∧ (s.conn i).cmRetries = 0) ∧
    (∃ (s : State) (i : Nat), s.runs = true ∧ (s.conn i).state = .timewait ∧ s.cmExpired (s.conn i) = true) ∧
    (∃ (s : State) (i : Nat) (p : RcPacket) (ps : List RcPacket), s.runs = true ∧ (s.conn i).held = p :: ps) := by
  refine ⟨⟨{ packetState 0 [] with now := 64, net.conns := [(0, { gen := 1, state := .connecting, cmDeadline := some 0, cmRetries := 0 })] }, (0), (0), by decide⟩,
    ⟨{ packetState 0 [] with net.conns := [(0, { gen := 1, state := .ready })] }, (0), by decide⟩,
    ⟨{ packetState 0 [] with net.conns := [(0, { gen := 1, state := .disconnecting })] }, (0), by decide⟩,
    ⟨{ packetState 0 [] with now := 64, net.conns := [(0, { gen := 1, state := .disconnecting, cmDeadline := some 0, cmRetries := 0 })] }, (0), by decide⟩,
    ⟨{ packetState 0 [] with now := 64, net.conns := [(0, { gen := 7, state := .timewait, cmDeadline := some 0 })] }, (0), by decide⟩,
    ⟨{ packetState 0 [] with net.conns := [(0, { gen := 1, state := .ready, held := [{ lport := 0, qpn := 0, op := 4, psn := 0 }] })] }, (0), { lport := 0, qpn := 0, op := 4, psn := 0 }, ([]), by decide⟩⟩

theorem witness_ReliableTransportAct_1 :
    (∃ (s : State) (k : RcPacket), s.runs = true ∧ (s.lport k.lport).up = true ∧ s.lportEnabled k.lport = true) ∧
    (∃ (s : State) (k : RcPacket), s.runs = true ∧ (s.lport k.lport).up = true ∧ s.lportEnabled k.lport = true) ∧
    (∃ (s : State) (k : RcPacket), s.runs = true ∧ (s.lport k.lport).up = true ∧ s.lportEnabled k.lport = true) ∧
    (∃ (s : State) (i d : Nat), s.runs = true ∧ (s.conn i).state = .ready ∧ (s.conn i).ackDue = some d ∧ d ≤ s.now) ∧
    (∃ (s : State) (i d : Nat), s.runs = true ∧ (s.conn i).state = .ready ∧ (s.conn i).rnrUntil = some d ∧ d < s.tick) ∧
    (∃ (s : State) (i d : Nat), s.runs = true ∧ (s.conn i).state = .ready ∧ (s.conn i).sent ≠ [] ∧ (s.conn i).deadline = some d ∧ d < s.tick) := by
  refine ⟨⟨{ packetState 0 [] with net.lports := [{ up := true }], net.ports := [{ mode := 1, enableMask := 1 }] }, { lport := 0, qpn := 0, op := 4, psn := 0 }, by decide⟩,
    ⟨{ packetState 0 [] with net.lports := [{ up := true }], net.ports := [{ mode := 1, enableMask := 1 }] }, { lport := 0, qpn := 0, op := 16, psn := 0 }, by decide⟩,
    ⟨{ packetState 0 [] with net.lports := [{ up := true }], net.ports := [{ mode := 1, enableMask := 1 }] }, { lport := 0, qpn := 0, op := 17, psn := 0, aeth := .rnr 3 }, by decide⟩,
    ⟨{ packetState 0 [] with net.conns := [(0, { gen := 1, state := .ready, ackDue := some 0 })] }, (0), (0), by decide⟩,
    ⟨{ packetState 0 [] with now := 64, net.conns := [(0, { gen := 1, state := .ready, rnrUntil := some 0 })] }, (0), (0), by decide⟩,
    ⟨{ packetState 0 [] with now := 64, net.conns := [(0, { gen := 1, state := .ready, sent := [⟨0, 1, .send [] none, .none, [], 0, false⟩], deadline := some 0 })] }, (0), (0), by decide⟩⟩

theorem witness_ReliableTransportAct_2 :
    (∃ (s : State) (l q : Nat), s.runs = true ∧ (s.lport l).up = true ∧ s.lportEnabled l = true ∧ (s.conn (qpnIndex q)).state = .ready ∧ (s.conn (qpnIndex q)).gen = qpnGen q ∧ bit s.net.config.ecnEnable 0 = true ∧ (s.conn (qpnIndex q)).cnpAt = none) ∧
    (∃ (s : State) (i : Nat), s.runs = true ∧ (s.conn i).state = .ready ∧ bit s.net.config.ecnEnable 0 = true ∧ 1024 * s.net.config.byteCounter ≤ (s.conn i).sentBytes) ∧
    (∃ (s : State) (i : Nat), s.runs = true ∧ (s.conn i).state = .ready ∧ bit s.net.config.ecnEnable 0 = true ∧ (s.conn i).alphaAt + 1000 * s.net.config.alphaTimer ≤ s.now) := by
  refine ⟨⟨{ packetState 0 [] with net.lports := [{ up := true }], net.ports := [{ mode := 1, enableMask := 1 }], net.conns := [(0, { gen := 1, state := .ready })], net.config := { ecnEnable := 1 } }, (0), (qpnOf 1 0), by decide⟩,
    ⟨{ packetState 0 [] with net.conns := [(0, { gen := 1, state := .ready, sentBytes := 1024 * 10000000 })], net.config := { ecnEnable := 1 } }, (0), by decide⟩,
    ⟨{ packetState 0 [] with now := 1000000000, net.conns := [(0, { gen := 1, state := .ready })], net.config := { ecnEnable := 1 } }, (0), by decide⟩⟩

theorem witness_FabricsCommandsAct_1 :
    (∃ (s : State) (conn q n : Nat) (cap : List Byte) (rest : List (List Byte)), (s.conn conn).use = .nvme q n ∧ (s.conn conn).inbox = cap :: rest ∧ (s.conn conn).state = .ready ∧ s.ctrlOf conn = none ∧ sqOpcode cap = 0x7F ∧ fcType cap = 1 ∧ ((s.conn conn).sent.any (fun r => r.use == .connectData) || (s.conn conn).waiting.any (fun w => w.2 == .connectData)) = false ∧ s.fetching = true ∧ sglId cap = 0x01 ∧ sglLen cap = 1024 ∧ 64 + sglAddr cap + 1024 ≤ cap.length) ∧
    (∃ (s : State) (conn q n : Nat) (cap : List Byte) (rest : List (List Byte)), (s.conn conn).use = .nvme q n ∧ (s.conn conn).inbox = cap :: rest ∧ (s.conn conn).state = .ready ∧ s.ctrlOf conn = none ∧ sqOpcode cap = 0x7F ∧ fcType cap = 1 ∧ ((s.conn conn).sent.any (fun r => r.use == .connectData) || (s.conn conn).waiting.any (fun w => w.2 == .connectData)) = false ∧ s.fetching = true ∧ ((sglId cap = 0x40 ∨ sglId cap = 0x4F)) ∧ sglLen cap = 1024) ∧
    (∃ (s : State) (conn : Nat) (cap : List Byte) (c : Nat) (x : Controller), s.takesAdmin conn (isFabrics 0) cap c x ∧ fieldAt cap 44 4 = 0x14 ∧ fieldAt cap 48 4 &&& (0xFFFFFFFF ^^^ ccMask) = 0) ∧
    (∃ (s : State) (conn : Nat) (cap : List Byte) (c v : Nat) (x : Controller), s.takesAdmin conn (isFabrics 4) cap c x ∧ x.property (fieldAt cap 44 4) = some v) ∧
    (∃ (s : State) (c : Nat) (x : Controller), s.runs = true ∧ s.ctrl? c = some x ∧ x.shst = 1 ∧ s.shutdownLeft x = []) ∧
    (∃ (s : State) (conn : Nat) (cap : List Byte) (c : Nat) (x : Controller), s.takesAdmin conn (isAdmin 0x08) cap c x) := by
  refine ⟨⟨{ hostState 7 (capsuleIn 0x7F 9 1 [(39, [1]), (32, le 4 1024)] ++ zeros 1024) with nvme.controllers := [] }, (7), (2), (32), (capsuleIn 0x7F 9 1 [(39, [1]), (32, le 4 1024)] ++ zeros 1024), ([]), by decide⟩,
    ⟨{ hostState 7 (capsuleIn 0x7F 9 1 [(39, [0x40]), (32, le 3 1024)]) with nvme.controllers := [] }, (7), (2), (32), (capsuleIn 0x7F 9 1 [(39, [0x40]), (32, le 3 1024)]), ([]), by decide⟩,
    ⟨(hostState 5 (capsuleIn 0x7F 9 0 [(44, le 4 0x14), (48, le 4 0x460001)])), (5), (capsuleIn 0x7F 9 0 [(44, le 4 0x14), (48, le 4 0x460001)]), (1), (hostCtrl), by decide⟩,
    ⟨(hostState 5 (capsuleIn 0x7F 9 4 [(44, le 4 8)])), (5), (capsuleIn 0x7F 9 4 [(44, le 4 8)]), (1), (0x00020000), (hostCtrl), by decide⟩,
    ⟨{ packetState 0 [] with nvme.controllers := [(1, { hostCtrl with shst := 1 })] }, (1), { hostCtrl with shst := 1 }, by decide⟩,
    ⟨(hostState 5 (capsuleIn 0x08 9 0 [])), (5), (capsuleIn 0x08 9 0 []), (1), (hostCtrl), by decide⟩⟩

theorem witness_FabricsCommandsAct_2 :
    (∃ (s : State) (conn : Nat) (cap : List Byte) (c : Nat) (x : Controller), s.takesAdmin conn (isAdmin 0x18) cap c x) ∧
    (∃ (s : State) (conn : Nat) (cap : List Byte) (c : Nat) (x : Controller), s.takesAdmin conn (isAdmin 0x0C) cap c x ∧ x.aers.length < 4) ∧
    (∃ (s : State) (c : Nat) (x : Controller), s.runs = true ∧ s.ctrl? c = some x ∧ x.deadline < s.tick) := by
  refine ⟨⟨(hostState 5 (capsuleIn 0x18 9 0 [])), (5), (capsuleIn 0x18 9 0 []), (1), (hostCtrl), by decide⟩,
    ⟨(hostState 5 (capsuleIn 0x0C 9 0 [])), (5), (capsuleIn 0x0C 9 0 []), (1), (hostCtrl), by decide⟩,
    ⟨{ packetState 0 [] with now := 64, nvme.controllers := [(1, hostCtrl)] }, (1), (hostCtrl), by decide⟩⟩

theorem witness_NvmeAdminDataAct_1 :
    (∃ (s : State) (conn : Nat) (cap b : List Byte) (c : Nat) (x : Controller), s.takesAdmin conn (isAdmin 0x02) cap c x ∧ (s.taken conn).logPage x cap = .ok b ∧ logOffset cap % 4 = 0 ∧ logOffset cap ≤ b.length ∧ logLength cap ≤ 1048576 ∧ ((sglId cap = 0x40 ∨ sglId cap = 0x4F)) ∧ sglLen cap = logLength cap) ∧
    (∃ (s : State) (conn : Nat) (cap b : List Byte) (c : Nat) (x : Controller), s.takesAdmin conn (isAdmin 0x06) cap c x ∧ ((cdw cap 10 % 256 = 0 → ∀ n, s.ns? (sqNsid cap) = some n → s.nuseNeeds n = [])) ∧ (s.taken conn).identify c x cap = .ok b) ∧
    (∃ (s : State) (conn : Nat) (cap : List Byte) (c : Nat) (x y : Controller) (v : Nat), s.takesAdmin conn (isAdmin 0x09) cap c x ∧ x.setFeature cap = (0, v, y)) ∧
    (∃ (x : Controller) (cap : List Byte), bit (cdw cap 10) 31 = false ∧ cdw cap 10 % 256 = 7 ∧ x.granted = none ∧ x.opened = false) ∧
    (∃ (s : State) (conn : Nat) (cap : List Byte) (c v : Nat) (x : Controller), s.takesAdmin conn (isAdmin 0x0A) cap c x ∧ cdw cap 10 % 256 ≠ 0x81 ∧ x.getFeature cap = some v) ∧
    (∃ (s : State) (conn : Nat) (cap : List Byte) (c : Nat) (x : Controller), s.takesAdmin conn (isAdmin 0x0A) cap c x ∧ cdw cap 10 % 256 = 0x81) := by
  refine ⟨⟨(hostState 5 (capsuleIn 0x02 9 0 [(40, le 4 (4 + 65536 * 3)), (39, [0x40]), (32, le 3 16)])), (5), (capsuleIn 0x02 9 0 [(40, le 4 (4 + 65536 * 3)), (39, [0x40]), (32, le 3 16)]), (changedLog hostCtrl), (1), (hostCtrl), by refine ⟨by decide, rfl, by decide, by decide +kernel, by decide, by decide, by decide⟩⟩,
    ⟨(hostState 5 (capsuleIn 0x06 9 1 [(40, le 4 0x1C), (39, [0x40]), (32, le 3 4096)])), (5), (capsuleIn 0x06 9 1 [(40, le 4 0x1C), (39, [0x40]), (32, le 3 4096)]), (fit 4096 (le 8 1)), (1), (hostCtrl), by refine ⟨by decide, fun h => absurd h (by decide), rfl⟩⟩,
    ⟨(hostState 5 (capsuleIn 0x09 9 0 [(40, le 4 6), (44, le 4 1)])), (5), (capsuleIn 0x09 9 0 [(40, le 4 6), (44, le 4 1)]), (1), (hostCtrl), (hostCtrl), (0), by decide⟩,
    ⟨{ hostCtrl with opened := false }, (capsuleIn 0x09 9 0 [(40, le 4 7)]), by decide⟩,
    ⟨(hostState 5 (capsuleIn 0x0A 9 0 [(40, le 4 6)])), (5), (capsuleIn 0x0A 9 0 [(40, le 4 6)]), (1), (1), (hostCtrl), by decide⟩,
    ⟨(hostState 5 (capsuleIn 0x0A 9 0 [(40, le 4 0x81)])), (5), (capsuleIn 0x0A 9 0 [(40, le 4 0x81)]), (1), (hostCtrl), by decide⟩⟩

theorem witness_NvmeAdminDataAct_2 :
    (∃ (s : State) (conn : Nat) (cap data : List Byte), ((sglId cap = 0x40 ∨ sglId cap = 0x4F)) ∧ sglLen cap = data.length) := by
  refine ⟨{}, (0), (capsuleIn 0x0A 9 0 [(39, [0x4F]), (32, le 3 2)]), ([1, 2]), by decide⟩

theorem witness_EraseCommandsAct_1 :
    (∃ (s : State) (conn : Nat) (cap : List Byte) (c k : Nat) (x : Controller) (n : Namespace), s.takesAdmin conn (isAdmin 0x80) cap c x ∧ s.ns? (sqNsid cap) = some n ∧ x.subsys = some n.subsys ∧ s.owns n.domain = true ∧ s.eraseAbsent [sqNsid cap] = [] ∧ s.nvme.ana.getD n.domain 3 ≠ 3 ∧ s.nvme.ana.getD n.domain 3 ≠ 15 ∧ s.sanitizeRunning n.subsys = false ∧ s.nvme.erases.any (fun e => e.2.kind == 1 && e.2.target == sqNsid cap && e.2.state == 1) = false ∧ s.footing.active = false ∧ (s.taken conn).formatStatus n (sqNsid cap) (cdw cap 10 % 16) (bits (cdw cap 10) 7 5) (bits (cdw cap 10) 11 9) = none ∧ s.eraseSlot = some k) ∧
    (∃ (s : State) (conn : Nat) (cap : List Byte) (c k sub : Nat) (x : Controller), s.takesAdmin conn (fun cap => sqOpcode cap == 0x84 && cdw cap 10 % 8 == 2) cap c x ∧ x.subsys = some sub ∧ s.sanitizeStatus sub 2 true = none ∧ s.eraseSlot = some k ∧ s.eraseAbsent (s.nsOf sub) = []) ∧
    (∃ (s : State) (conn : Nat) (cap : List Byte) (c k sub : Nat) (x : Controller), s.takesAdmin conn (fun cap => sqOpcode cap == 0x84 && cdw cap 10 % 8 == 4) cap c x ∧ x.subsys = some sub ∧ s.sanitizeStatus sub 4 true = none ∧ s.eraseSlot = some k) ∧
    (∃ (s : State) (conn : Nat) (cap : List Byte) (c sub : Nat) (x : Controller), s.takesAdmin conn (fun cap => sqOpcode cap == 0x84 && cdw cap 10 % 8 != 2 && cdw cap 10 % 8 != 4) cap c x ∧ x.subsys = some sub ∧ cdw cap 10 % 8 = 1 ∧ s.sanitizeRunning sub = false ∧ (s.subsys sub).sstat = 3) ∧
    (∃ (s : State) (i : Nat) (e : EraseOp), s.erasing i = some e ∧ s.runs = true ∧ s.eraseBroken e = false ∧ e.phase < 3) ∧
    (∃ (s : State) (i : Nat) (e : EraseOp), s.erasing i = some e ∧ s.runs = true ∧ s.eraseBroken e = false ∧ s.erasePurged e = true) := by
  refine ⟨⟨{ hostState 5 (capsuleIn 0x80 9 1 []) with domains := [(0, { state := .owned })] }, (5), (capsuleIn 0x80 9 1 []), (1), (0), (hostCtrl), (hostNs), by decide⟩,
    ⟨{ hostState 5 (capsuleIn 0x84 9 0 [(40, le 4 2)]) with domains := [(0, { state := .owned })], nvme.subsystems := [(1, { flags := 2 })] }, (5), (capsuleIn 0x84 9 0 [(40, le 4 2)]), (1), (0), (1), (hostCtrl), by decide⟩,
    ⟨{ hostState 5 (capsuleIn 0x84 9 0 [(40, le 4 4)]) with domains := [(0, { state := .owned })], nvme.subsystems := [(1, { flags := 2 })], nvme.namespaces := [(1, { hostNs with keySlot := 3 })], orderCode := .a0f }, (5), (capsuleIn 0x84 9 0 [(40, le 4 4)]), (1), (0), (1), (hostCtrl), by decide⟩,
    ⟨{ hostState 5 (capsuleIn 0x84 9 0 [(40, le 4 1)]) with nvme.subsystems := [(1, { sstat := 3 })] }, (5), (capsuleIn 0x84 9 0 [(40, le 4 1)]), (1), (1), (hostCtrl), by decide⟩,
    ⟨{ packetState 0 [] with nvme.erases := [(2, { kind := 1, action := 0, target := 1, total := 0, startStamp := 0 })] }, (2), { kind := 1, action := 0, target := 1, total := 0, startStamp := 0 }, by decide⟩,
    ⟨{ packetState 0 [] with nvme.erases := [(2, { kind := 1, action := 0, target := 1, total := 0, startStamp := 0, phase := 3 })] }, (2), { kind := 1, action := 0, target := 1, total := 0, startStamp := 0, phase := 3 }, by decide⟩⟩

theorem witness_EraseCommandsAct_2 :
    (∃ (s : State) (i : Nat) (e : EraseOp), s.erasing i = some e ∧ s.eraseBroken e = true) ∧
    (∃ (s : State) (k : Nat) (e : EraseOp), e.phase = 1 ∧ e.done ≠ 0 ∧ min e.unmapUnits ((e.done / 1024 + 1) * 1024) ≠ e.unmapUnits) := by
  refine ⟨⟨{ packetState 0 [] with nvme.erases := [(2, { kind := 1, action := 0, target := 1, total := 0, startStamp := 0, phase := 2, stripes := [5] })], stripe.lost := [(5, { cause := 0, missing := 0, swept := false, stamp := 0 })] }, (2), { kind := 1, action := 0, target := 1, total := 0, startStamp := 0, phase := 2, stripes := [5] }, by decide⟩,
    ⟨{}, (0), { kind := 1, action := 0, target := 1, total := 5000, startStamp := 0, done := 1024 }, by decide⟩⟩

theorem witness_IoCommandsAct_1 :
    (∃ (s : State) (conn : Nat) (cap : List Byte) (c sub : Nat) (n : Namespace), s.takesIo conn 0 cap c sub ∧ s.ns? (sqNsid cap) = some n ∧ sqNsid cap ≠ 0xFFFFFFFF) ∧
    (∃ (s : State) (conn : Nat) (cap : List Byte) (c sub : Nat), s.takesIo conn 0 cap c sub ∧ sqNsid cap = 0xFFFFFFFF) ∧
    (∃ (s : State) (k : Nat) (c : Cmd), s.cmdOf? k = some c ∧ c.kind = .flush ∧ s.stillAwaited c = [] ∧ c.torn = false) ∧
    (∃ (s : State) (conn : Nat) (cap : List Byte) (c sub : Nat) (n : Namespace), s.takesIo conn 1 cap c sub ∧ s.ns? (sqNsid cap) = some n) ∧
    (∃ (s : State) (conn : Nat) (cap : List Byte) (c sub : Nat) (n : Namespace), s.takesIo conn 2 cap c sub ∧ s.ns? (sqNsid cap) = some n) ∧
    (∃ (s : State) (conn : Nat) (cap : List Byte) (c sub : Nat) (n : Namespace), s.takesIo conn 8 cap c sub ∧ s.ns? (sqNsid cap) = some n) := by
  refine ⟨⟨(hostState 6 (capsuleIn 0 9 1 [(39, [0x40])])), (6), (capsuleIn 0 9 1 [(39, [0x40])]), (1), (1), (hostNs), by decide⟩,
    ⟨(hostState 6 (capsuleIn 0 9 0xFFFFFFFF [(39, [0x40])])), (6), (capsuleIn 0 9 0xFFFFFFFF [(39, [0x40])]), (1), (1), by decide⟩,
    ⟨{ packetState 0 [] with nvme.cmds := [(3, { kind := .flush, conn := 6, cntlid := 1, cid := 9, nsid := 1, capsule := [], rank := 2, cls := 2 })] }, (3), { kind := .flush, conn := 6, cntlid := 1, cid := 9, nsid := 1, capsule := [], rank := 2, cls := 2 }, by decide⟩,
    ⟨(hostState 6 (capsuleIn 1 9 1 [(39, [0x40]), (32, le 3 4096)])), (6), (capsuleIn 1 9 1 [(39, [0x40]), (32, le 3 4096)]), (1), (1), (hostNs), by decide⟩,
    ⟨(hostState 6 (capsuleIn 2 9 1 [(39, [0x4F]), (32, le 3 4096)])), (6), (capsuleIn 2 9 1 [(39, [0x4F]), (32, le 3 4096)]), (1), (1), (hostNs), by decide⟩,
    ⟨(hostState 6 (capsuleIn 8 9 1 [(39, [0x40])])), (6), (capsuleIn 8 9 1 [(39, [0x40])]), (1), (1), (hostNs), by decide⟩⟩

theorem witness_IoCommandsAct_2 :
    (∃ (s : State) (conn : Nat) (cap : List Byte) (c sub : Nat) (n : Namespace), s.takesIo conn 9 cap c sub ∧ s.ns? (sqNsid cap) = some n) ∧
    (∃ (s : State) (k : Nat) (b : List Byte) (c : Cmd) (n : Namespace), s.cmdOf? k = some c ∧ s.ns? c.nsid = some n ∧ bit (cdw c.capsule 11) 2 = false ∧ ((List.range (b.length / 16)).map fun i => (fieldAt b (16 * i + 8) 8, fieldAt b (16 * i + 4) 4)).any (fun r => decide (n.nsze < r.1 + r.2)) = false) := by
  refine ⟨⟨(hostState 6 (capsuleIn 9 9 1 [(39, [0x40]), (32, le 3 16), (44, le 4 4)])), (6), (capsuleIn 9 9 1 [(39, [0x40]), (32, le 3 16), (44, le 4 4)]), (1), (1), (hostNs), by decide⟩,
    ⟨{ packetState 0 [] with nvme.namespaces := [(1, hostNs)], nvme.cmds := [(3, { kind := .dealloc, conn := 6, cntlid := 1, cid := 9, nsid := 1, capsule := [], rank := 2, cls := 2 })] }, (3), (zeros 16), { kind := .dealloc, conn := 6, cntlid := 1, cid := 9, nsid := 1, capsule := [], rank := 2, cls := 2 }, (hostNs), by decide⟩⟩

theorem witness_WritePathCommandsAct_1 :
    (∃ (s : State), s.runs = true ∧ s.power.drain = .none) ∧
    (∃ (s : State), s.nextWrite = none) ∧
    (∃ (s : State) (k : Nat) (c : Cmd), s.nextWrite = some (k, c)) ∧
    (∃ (s : State) (rank : Nat) (x : Nat × Cmd) (l : List (Nat × Cmd)), s.runs = true ∧ rank < 8 ∧ bit s.wp.stalled rank = false ∧ s.nvme.cmds.filter (fun x => x.2.waits && x.2.rank == rank && s.expired (x.2.since + ticksOf 100000000)) = x :: l) ∧
    (∃ (s : State) (k x : Nat) (c : Cmd) (w : SettWork), s.runs = true ∧ s.cmdOf? k = some c ∧ c.setts.get? x = some w ∧ c.fetched = true ∧ c.stage = 3 ∧ w.partial_ = true ∧ w.merged = false ∧ w.issued = false ∧ s.mergeClear k c x = true) ∧
    (∃ (s : State) (k u : Nat) (a : Bool) (c : Cmd), s.runs = true ∧ s.cmdOf? k = some c ∧ c.stage = 4 ∧ c.lookOf u a = .wanted ∧ (s.reduceOf c.domain).bucketLog2 = 0) := by
  refine ⟨⟨(packetState 0 []), by decide⟩,
    ⟨(packetState 0 []), by decide⟩,
    ⟨{ packetState 0 [] with nvme.cmds := [(3, { kind := .write, conn := 6, cntlid := 1, cid := 9, nsid := 1, capsule := [], rank := 2, cls := 2 })] }, (3), { kind := .write, conn := 6, cntlid := 1, cid := 9, nsid := 1, capsule := [], rank := 2, cls := 2 }, by decide⟩,
    ⟨{ packetState 0 [] with now := 200000000, nvme.cmds := [(3, { kind := .write, conn := 6, cntlid := 1, cid := 9, nsid := 1, capsule := [], rank := 2, cls := 2 })] }, (2), ((3, { kind := .write, conn := 6, cntlid := 1, cid := 9, nsid := 1, capsule := [], rank := 2, cls := 2 })), ([]), by decide⟩,
    ⟨{ packetState 0 [] with nvme.cmds := [(3, { kind := .write, conn := 6, cntlid := 1, cid := 9, nsid := 1, capsule := [], rank := 2, cls := 2, fetched := true, stage := 3, setts := [(7, { data := [], partial_ := true, merged := false })] })] }, (3), (7), { kind := .write, conn := 6, cntlid := 1, cid := 9, nsid := 1, capsule := [], rank := 2, cls := 2, fetched := true, stage := 3, setts := [(7, { data := [], partial_ := true, merged := false })] }, { data := [], partial_ := true, merged := false }, by decide⟩,
    ⟨{ packetState 0 [] with nvme.cmds := [(3, { kind := .write, conn := 6, cntlid := 1, cid := 9, nsid := 1, capsule := [], rank := 2, cls := 2, stage := 4, setts := [(7, { data := [], look := .wanted })] })], wp.reduce := [(0, { bucketLog2 := 0 })] }, (3), (7), (false), { kind := .write, conn := 6, cntlid := 1, cid := 9, nsid := 1, capsule := [], rank := 2, cls := 2, stage := 4, setts := [(7, { data := [], look := .wanted })] }, by decide⟩⟩

theorem witness_WritePathCommandsAct_2 :
    (∃ (s : State) (k u : Nat) (a : Bool) (c : Cmd) (b : Nat) (body : List Byte), s.runs = true ∧ s.cmdOf? k = some c ∧ c.stage = 4 ∧ c.lookOf u a = .wanted ∧ b = bucketOf (s.reduceOf c.domain).bucketLog2 (c.fpOf u a) ∧ (s.reduceOf c.domain).bucketLog2 ≠ 0 ∧ (s.indexPage c.domain (b / 8)).rebuilding = false ∧ (s.indexPage c.domain (b / 8)).body = some body ∧ ((∀ i < 16, ¬ (ixTag (entryOf body b i) = tagOf (c.fpOf u a) ∧ ixForm (entryOf body b i) ≠ 0)))) ∧
    (∃ (s : State) (k u : Nat) (a : Bool) (c : Cmd) (b i : Nat) (body : List Byte), s.runs = true ∧ s.cmdOf? k = some c ∧ c.stage = 4 ∧ c.lookOf u a = .wanted ∧ b = bucketOf (s.reduceOf c.domain).bucketLog2 (c.fpOf u a) ∧ (s.reduceOf c.domain).bucketLog2 ≠ 0 ∧ (s.indexPage c.domain (b / 8)).rebuilding = false ∧ (s.indexPage c.domain (b / 8)).body = some body ∧ findSlot body b (fun e => (if a then ixForm e == 2 else ixForm e == 1 || ixForm e == 3) && ixTag e == tagOf (c.fpOf u a) && ixKey e == ((s.ns? c.nsid).map Namespace.keySlot).getD 0xFF && decide (ixRefs e < 0xFFFFFFFF)) = some i ∧ s.moving (s.resolvePxa (ixPxa (entryOf body b i))) = false) ∧
    (∃ (s : State) (k u : Nat) (a : Bool) (c : Cmd) (bucket slot j : Nat) (e there : List Byte) (job : ReadJob), s.runs = true ∧ s.cmdOf? k = some c ∧ c.lookOf u a = .verify bucket slot e ∧ s.flash.jobs.find? (fun j => j.2.use == .verify k u a (ixRaw e) (ixForm e != 1) (ixSett e)) = some (j, job) ∧ job.done = true ∧ job.result = some there) ∧
    (∃ (s : State) (k u e : Nat) (c : Cmd) (w : SettWork), s.cmdOf? k = some c ∧ c.setts.get? u = some w ∧ w.job = .wanted e) ∧
    (∃ (s : State) (k : Nat) (c : Cmd), s.cmdOf? k = some c ∧ c.writes = true ∧ c.wsn = 0 ∧ c.reduced = true ∧ s.placeClear k c = true ∧ s.wsnFree = true ∧ s.power.drain = .none) ∧
    (∃ (s : State) (d page : Nat), s.runs = true ∧ (s.indexPage d page).rebuilding = true ∧ s.owns d = true ∧ (s.indexPage d page).queued = [] ∧ ((∀ x ∈ s.entryPages d, x.2.body.isSome = true))) := by
  refine ⟨⟨{ packetState 0 [] with nvme.cmds := [(3, { kind := .write, conn := 6, cntlid := 1, cid := 9, nsid := 1, capsule := [], rank := 2, cls := 2, stage := 4, setts := [(7, { data := [], look := .wanted, fp := [1] })] })], wp.reduce := [(0, { bucketLog2 := 16 })], wp.index := [(0, { body := some [] })] }, (3), (7), (false), { kind := .write, conn := 6, cntlid := 1, cid := 9, nsid := 1, capsule := [], rank := 2, cls := 2, stage := 4, setts := [(7, { data := [], look := .wanted, fp := [1] })] }, (1), ([]), by decide⟩,
    ⟨{ packetState 0 [] with nvme.cmds := [(3, { kind := .write, conn := 6, cntlid := 1, cid := 9, nsid := 1, capsule := [], rank := 2, cls := 2, stage := 4, setts := [(7, { data := [], look := .wanted, fp := [0] })] })], wp.reduce := [(0, { bucketLog2 := 16 })], wp.index := [(0, { body := some (zeros 30 ++ [1, 255]) })] }, (3), (7), (false), { kind := .write, conn := 6, cntlid := 1, cid := 9, nsid := 1, capsule := [], rank := 2, cls := 2, stage := 4, setts := [(7, { data := [], look := .wanted, fp := [0] })] }, (0), (0), (zeros 30 ++ [1, 255]), by decide⟩,
    ⟨{ packetState 0 [] with nvme.cmds := [(3, { kind := .write, conn := 6, cntlid := 1, cid := 9, nsid := 1, capsule := [], rank := 2, cls := 2, stage := 4, setts := [(7, { data := [], look := .verify 0 0 [] })] })], flash.jobs := [(4, { use := .verify 3 7 false false true 0, rank := 2, stripe := 0, off := 0, units := 1, need := [], want := [], done := true, result := some [1] })] }, (3), (7), (false), { kind := .write, conn := 6, cntlid := 1, cid := 9, nsid := 1, capsule := [], rank := 2, cls := 2, stage := 4, setts := [(7, { data := [], look := .verify 0 0 [] })] }, (0), (0), (4), ([]), ([1]), { use := .verify 3 7 false false true 0, rank := 2, stripe := 0, off := 0, units := 1, need := [], want := [], done := true, result := some [1] }, by decide⟩,
    ⟨{ packetState 0 [] with nvme.cmds := [(3, { kind := .write, conn := 6, cntlid := 1, cid := 9, nsid := 1, capsule := [], rank := 2, cls := 2, stage := 4, setts := [(7, { data := [], job := .wanted 0 })] })] }, (3), (7), (0), { kind := .write, conn := 6, cntlid := 1, cid := 9, nsid := 1, capsule := [], rank := 2, cls := 2, stage := 4, setts := [(7, { data := [], job := .wanted 0 })] }, { data := [], job := .wanted 0 }, by decide⟩,
    ⟨{ packetState 0 [] with nvme.cmds := [(3, { kind := .write, conn := 6, cntlid := 1, cid := 9, nsid := 1, capsule := [], rank := 2, cls := 2, stage := 6 })], run.wsnCeiling := 100 }, (3), { kind := .write, conn := 6, cntlid := 1, cid := 9, nsid := 1, capsule := [], rank := 2, cls := 2, stage := 6 }, by decide⟩,
    ⟨{ packetState 0 [] with domains := [(0, { state := .owned })], wp.index := [(5, { rebuilding := true })] }, (0), (5), by decide⟩⟩

theorem witness_WritePathCommandsAct_3 :
    (∃ (s : State) (d page : Nat), s.runs = true ∧ (s.indexPage d page).rebuilding = true ∧ s.owns d = true ∧ (s.entryPages d).any (fun x => x.2.body.isNone) = true) := by
  refine ⟨{ packetState 0 [] with domains := [(0, { state := .owned })], wp.index := [(5, { rebuilding := true })], map.layers := [(1, { kind := 1, levels := 1, root := 77, nsid := 1, createStamp := 0, nsze := 1, lbaf := 0, keySlot := 255 })], map.pages := [(77, { kind := 1, body := none })] }, (0), (5), by decide⟩

theorem witness_NvmeConfigPacketsAct_1 :
    (∃ (s : State) (op : PktOp) (p : Packet) (u : Subsystem), s.takes op 0x0300 p ∧ s.nvme.subsystems.get? (p.f 0 2) = some u ∧ ((u.nqn = p.bytes 4 256 ∨ s.nvme.controllers.any (fun c => c.2.subsys == some (p.f 0 2)) = false))) ∧
    (∃ (s : State) (op : PktOp) (p : Packet), s.takes op 0x0300 p ∧ s.nvme.subsystems.get? (p.f 0 2) = none) ∧
    (∃ (s : State) (op : PktOp) (p : Packet) (u : Subsystem), s.takes op 0x0301 p ∧ s.nvme.subsystems.get? (p.f 0 2) = some u ∧ s.nsOf (p.f 0 2) = [] ∧ s.nvme.controllers.any (fun c => c.2.subsys == some (p.f 0 2)) = false) ∧
    (∃ (s : State) (op : PktOp) (p : Packet) (u : Subsystem), s.takes op 0x0302 p ∧ s.nvme.subsystems.get? (p.f 0 2) = some u) ∧
    (∃ (s : State) (op : PktOp) (p : Packet) (n : Namespace), s.takes op 0x0303 p ∧ n = { subsys := p.f 4 2, domain := p.f 6 1, cls := p.f 7 1, nsze := p.f 8 8, lbaf := p.f 0x10 1, pi := p.f 0x11 1, tag := p.f 0x12 2, keySlot := p.f 0x14 1, nguid := p.bytes 0x18 16, eui := p.bytes 0x28 8 } ∧ s.ns? (p.f 0 4) = none ∧ s.nvme.subsystems.has n.subsys = true ∧ ((n.keySlot = 0xFF ∨ (s.noCipher = false ∧ (s.keySlot n.keySlot).kind = 1))) ∧ ((s.owns n.domain = false ∨ s.nsBytes + n.nsze * dataSize n.lbaf ≤ nsBytesLimit))) ∧
    (∃ (s : State) (op : PktOp) (p : Packet) (n : Namespace) (u : State), s.takes op 0x0304 p ∧ s.ns? (p.f 0 4) = some n ∧ s.nsErasing (p.f 0 4) n = false ∧ u = s.forgetErase 1 (p.f 0 4)) := by
  refine ⟨⟨{ packetState 0x0300 (le 2 1) with nvme.subsystems := [(1, {})] }, (runOp), (packetIn 0x0300 (le 2 1)), {}, by decide⟩,
    ⟨(packetState 0x0300 (le 2 1)), (runOp), (packetIn 0x0300 (le 2 1)), by decide⟩,
    ⟨{ packetState 0x0301 (le 2 1) with nvme.subsystems := [(1, {})] }, (runOp), (packetIn 0x0301 (le 2 1)), {}, by decide⟩,
    ⟨{ packetState 0x0302 (le 2 1) with nvme.subsystems := [(1, {})] }, (runOp), (packetIn 0x0302 (le 2 1)), {}, by decide⟩,
    ⟨{ packetState 0x0303 (le 4 1 ++ le 2 1 ++ [0, 2] ++ le 8 4096 ++ [0, 0, 0, 0, 255]) with nvme.subsystems := [(1, {})] }, (runOp), (packetIn 0x0303 (le 4 1 ++ le 2 1 ++ [0, 2] ++ le 8 4096 ++ [0, 0, 0, 0, 255])), { hostNs with nguid := zeros 16, eui := zeros 8 }, by decide⟩,
    ⟨{ packetState 0x0304 (le 4 1) with nvme.namespaces := [(1, hostNs)] }, (runOp), (packetIn 0x0304 (le 4 1)), (hostNs), (_), by exact ⟨by decide, by decide, by decide, rfl⟩⟩⟩

theorem witness_NvmeConfigPacketsAct_2 :
    (∃ (s : State) (op : PktOp) (p : Packet) (n : Namespace), s.takes op 0x0305 p ∧ s.ns? (p.f 0 4) = some n ∧ n.nsze ≤ p.f 8 8 ∧ p.f 8 8 % lbasPerSett n.lbaf = 0 ∧ s.nsBytes + (p.f 8 8 - n.nsze) * dataSize n.lbaf ≤ nsBytesLimit ∧ s.layer? n.domain n.layer = none) ∧
    (∃ (s : State) (op : PktOp) (p : Packet) (n : Namespace) (l : Layer), s.takes op 0x0305 p ∧ s.ns? (p.f 0 4) = some n ∧ n.nsze ≤ p.f 8 8 ∧ p.f 8 8 % lbasPerSett n.lbaf = 0 ∧ s.nsBytes + (p.f 8 8 - n.nsze) * dataSize n.lbaf ≤ nsBytesLimit ∧ s.layer? n.domain n.layer = some l) ∧
    (∃ (s : State) (op : PktOp) (p : Packet) (n : Namespace), s.takes op 0x0306 p ∧ s.ns? (p.f 0 4) = some n ∧ p.f 4 1 ≠ 1 ∧ n.cls ≠ 1) ∧
    (∃ (s : State) (op : PktOp) (p : Packet) (n : Namespace), s.takes op 0x0307 p ∧ s.ns? (p.f 0 4) = some n ∧ s.nuseNeeds n = []) ∧
    (∃ (s : State) (op : PktOp) (p : Packet) (x : Controller) (n : Nat), s.takes op 0x0308 p ∧ s.ctrl? (p.f 0 2) = some x ∧ x.subsys = some n) ∧
    (∃ (s : State) (op : PktOp) (p : Packet) (x : Controller), s.takes op 0x0309 p ∧ s.ctrl? (p.f 0 2) = some x) := by
  refine ⟨⟨{ packetState 0x0305 (le 4 1 ++ zeros 4 ++ le 8 8192) with nvme.namespaces := [(1, hostNs)] }, (runOp), (packetIn 0x0305 (le 4 1 ++ zeros 4 ++ le 8 8192)), (hostNs), by decide⟩,
    ⟨{ packetState 0x0305 (le 4 1 ++ zeros 4 ++ le 8 8192) with nvme.namespaces := [(1, { hostNs with layer := 1 })], map.layers := [(1, { kind := 1, levels := 1, nsid := 1, createStamp := 0, nsze := 4096, lbaf := 0, keySlot := 255 })] }, (runOp), (packetIn 0x0305 (le 4 1 ++ zeros 4 ++ le 8 8192)), { hostNs with layer := 1 }, { kind := 1, levels := 1, nsid := 1, createStamp := 0, nsze := 4096, lbaf := 0, keySlot := 255 }, by decide⟩,
    ⟨{ packetState 0x0306 (le 4 1 ++ [3]) with nvme.namespaces := [(1, hostNs)] }, (runOp), (packetIn 0x0306 (le 4 1 ++ [3])), (hostNs), by decide⟩,
    ⟨{ packetState 0x0307 (le 4 1) with nvme.namespaces := [(1, hostNs)] }, (runOp), (packetIn 0x0307 (le 4 1)), (hostNs), by decide⟩,
    ⟨{ packetState 0x0308 (le 2 1) with nvme.controllers := [(1, hostCtrl)] }, (runOp), (packetIn 0x0308 (le 2 1)), (hostCtrl), (1), by decide⟩,
    ⟨{ packetState 0x0309 (le 2 1) with nvme.controllers := [(1, hostCtrl)] }, (runOp), (packetIn 0x0309 (le 2 1)), (hostCtrl), by decide⟩⟩

theorem witness_NvmeConfigPacketsAct_3 :
    (∃ (s : State) (op : PktOp) (p : Packet), s.takes op 0x030A p ∧ p.f 0 2 < 1024 ∧ s.nvme.subsystems.has (p.f 0 2) = true ∧ bit (p.f 3 1) 4 = false) ∧
    (∃ (s : State) (op : PktOp) (p : Packet), s.takes op 0x030D p) := by
  refine ⟨⟨{ packetState 0x030A (le 2 1023) with nvme.subsystems := [(1023, {})] }, (runOp), (packetIn 0x030A (le 2 1023)), by decide⟩,
    ⟨(packetState 0x030D []), (runOp), (packetIn 0x030D []), by decide⟩⟩

theorem witness_EraseAndReducePacketsAct_1 :
    (∃ (s : State) (op : PktOp) (p : Packet) (n : Namespace) (k : Nat), s.takes op 0x030B p ∧ p.f 0 1 = 1 ∧ s.ns? (p.f 4 4) = some n ∧ s.owns n.domain = true ∧ s.nsErasing (p.f 4 4) n = false ∧ s.formatStatus n (p.f 4 4) n.lbaf n.pi (p.f 1 1) = none ∧ s.eraseSlot = some k ∧ s.eraseAbsent [p.f 4 4] = [] ∧ ((p.f 1 1 = 2 → s.keys.entropyFailed = false))) ∧
    (∃ (s : State) (op : PktOp) (p : Packet) (k : Nat), s.takes op 0x030B p ∧ p.f 0 1 ≠ 1 ∧ s.nvme.subsystems.has (p.f 4 4) = true ∧ ((s.nsOf (p.f 4 4)).all fun n => s.owns (((s.ns? n).map Namespace.domain).getD 256)) = true ∧ s.sanitizeRunning (p.f 4 4) = false ∧ ((p.f 1 1 = 2 ∨ (p.f 1 1 = 4 ∧ s.cryptoAllowed (p.f 4 4) = true))) ∧ s.eraseSlot = some k ∧ s.eraseAbsent (s.nsOf (p.f 4 4)) = [] ∧ ((p.f 1 1 = 4 → s.keys.entropyFailed = false))) ∧
    (∃ (s : State) (op : PktOp) (p : Packet), s.takes op 0x030C p) ∧
    (∃ (s : State) (op : PktOp) (p : Packet), s.takes op 0x0400 p ∧ s.owns (p.f 0 1) = true ∧ ((p.f 2 1 = 1 → (s.huffTable? (p.f 3 1)).isSome = true))) ∧
    (∃ (s : State) (op : PktOp) (p : Packet), s.takes op 0x0401 p ∧ s.owns (p.f 0 1) = true ∧ ((p.f 1 1 = 0 ∨ (16 ≤ p.f 1 1 ∧ p.f 1 1 ≤ 36))) ∧ ((p.f 1 1 = (s.askedSettings (p.f 0 1)).bucketLog2 ∨ (s.indexHolds (p.f 0 1) = false ∧ s.indexAbsent (p.f 0 1) = [])))) ∧
    (∃ (s : State) (op : PktOp) (p : Packet) (out : List Byte), s.takes op 0x0402 p ∧ p.f 9 1 ≠ 1 ∧ out = deflate (p.f 8 1) (p.f 9 1) [] (bit (p.f 0xB 1) 0) (slice (p.buffer op) 0 (p.f 0 4)) ∧ out.length ≤ p.dataLen - p.f 4 4) := by
  refine ⟨⟨{ packetState 0x030B ([1, 1] ++ zeros 2 ++ le 4 1) with nvme.namespaces := [(1, hostNs)], domains := [(0, { state := .owned })] }, (runOp), (packetIn 0x030B ([1, 1] ++ zeros 2 ++ le 4 1)), (hostNs), (0), by decide⟩,
    ⟨{ packetState 0x030B ([2, 2] ++ zeros 2 ++ le 4 1) with nvme.subsystems := [(1, {})] }, (runOp), (packetIn 0x030B ([2, 2] ++ zeros 2 ++ le 4 1)), (0), by decide⟩,
    ⟨(packetState 0x030C []), (runOp), (packetIn 0x030C []), by decide⟩,
    ⟨{ packetState 0x0400 [0, 6, 2, 0, 1] with domains := [(0, { state := .owned })] }, (runOp), (packetIn 0x0400 [0, 6, 2, 0, 1]), by decide⟩,
    ⟨{ packetState 0x0401 [0, 36] with domains := [(0, { state := .owned })] }, (runOp), (packetIn 0x0401 [0, 36]), by decide⟩,
    ⟨(packetState 0x0402 (le 4 0 ++ le 4 0 ++ [0, 0]) 64), { acc := 0, data := zeros 64 }, (packetIn 0x0402 (le 4 0 ++ le 4 0 ++ [0, 0]) 64), (deflate 0 0 [] false []), by refine ⟨by decide, by decide, rfl, by decide +kernel⟩⟩⟩

theorem witness_EraseAndReducePacketsAct_2 :
    (∃ (s : State) (op : PktOp) (p : Packet) (t : List Byte), s.takes op 0x0402 p ∧ p.f 9 1 = 1 ∧ s.huffTable? (p.f 0xA 1) = some t) ∧
    (∃ (s : State) (op : PktOp) (p : Packet) (out : List Byte), s.takes op 0x0403 p ∧ inflate (slice (p.buffer op) 0 (p.f 0 4)) = .ok out ∧ out.length ≤ p.dataLen - p.f 4 4) ∧
    (∃ (s : State) (op : PktOp) (p : Packet), s.takes op 0x0404 p) ∧
    (∃ (s : State) (op : PktOp) (p : Packet), s.takes op 0x0405 p ∧ p.f 0 1 ≠ 1) ∧
    (∃ (s : State) (op : PktOp) (p : Packet), s.takes op 0x0405 p ∧ p.f 0 1 = 1) ∧
    (∃ (s : State) (op : PktOp) (p : Packet) (bucket : Nat) (body : List Byte) (es : List (List Byte)), s.takes op 0x0406 p ∧ bucket = bucketOf (s.reduceOf (p.f 0 1)).bucketLog2 (p.bytes 4 32) ∧ (s.indexPage (p.f 0 1) (bucket / 8)).body = some body ∧ es = (((List.range 16).map fun i => entryOf body bucket i).filter fun e => ixForm e != 0 && ixTag e == tagOf (p.bytes 4 32))) := by
  refine ⟨⟨{ packetState 0x0402 (le 4 0 ++ le 4 0 ++ [0, 1]) 64 with templates.active := [(kindHuffman, { body := le 8 1 ++ zeros 328, digest := [], source := 0 })] }, { acc := 0, data := zeros 64 }, (packetIn 0x0402 (le 4 0 ++ le 4 0 ++ [0, 1]) 64), (zeros 328), by decide⟩,
    ⟨(packetState 0x0403 (le 4 5 ++ le 4 8) 64), { acc := 0, data := [1, 0, 0, 0xFF, 0xFF] }, (packetIn 0x0403 (le 4 5 ++ le 4 8) 64), ([]), by refine ⟨by decide, by rfl, by decide⟩⟩,
    ⟨(packetState 0x0404 []), (runOp), (packetIn 0x0404 []), by decide⟩,
    ⟨(packetState 0x0405 []), (runOp), (packetIn 0x0405 []), by decide⟩,
    ⟨(packetState 0x0405 [1]), (runOp), (packetIn 0x0405 [1]), by decide⟩,
    ⟨{ packetState 0x0406 [] 64 with wp.index := [(0, { body := some [] })], wp.reduce := [(0, { bucketLog2 := 16 })] }, (runOp), (packetIn 0x0406 [] 64), (0), ([]), ([]), by decide⟩⟩

theorem witness_EraseAndReducePacketsAct_3 :
    (∃ (s : State) (op : PktOp) (p : Packet), s.takes op 0x0407 p ∧ ((p.f 4 4 = 0 ∨ (64 ≤ p.f 4 4 ∧ p.f 4 4 ≤ 262144)))) := by
  refine ⟨(packetState 0x0407 (le 4 8 ++ le 4 262144)), (runOp), (packetIn 0x0407 (le 4 8 ++ le 4 262144)), by decide⟩

theorem witness_KeyCommandsAct_1 :
    (∃ (s : State) (op : PktOp) (p : Packet), s.takes op 0x0510 p ∧ s.keyLoadRefusal p = none ∧ p.f 1 1 = 0) ∧
    (∃ (s : State) (op : PktOp) (p : Packet) (kek : KeySlot) (rec_ : List Byte) (len : Nat), s.takes op 0x0510 p ∧ s.keyLoadRefusal p = none ∧ p.f 1 1 ≠ 0 ∧ kek = s.keySlot (p.f 2 1) ∧ rec_ = p.buffer op ∧ len = p.f 5 1 ∧ fieldAt rec_ 0 1 = 1 ∧ fieldAt rec_ 1 1 = p.f 3 1 ∧ fieldAt rec_ 2 1 = p.f 4 1 ∧ fieldAt rec_ 3 1 = len ∧ kek.kind = 3) ∧
    (∃ (s : State) (op : PktOp) (p : Packet), s.takes op 0x0511 p ∧ ((s.noCipher = false ∨ 3 < p.f 1 1)) ∧ keyLenOk (p.f 1 1) (p.f 3 1) = true ∧ (s.keySlot (p.f 0 1)).nsRefs = 0 ∧ s.keys.entropyFailed = false) ∧
    (∃ (s : State) (op : PktOp) (p : Packet), s.takes op 0x0512 p ∧ ((s.noCipher = false ∨ 3 < p.f 1 1)) ∧ keyLenOk (p.f 1 1) (p.f 3 1) = true ∧ (s.keySlot (p.f 0 1)).nsRefs = 0 ∧ p.f 4 1 ≠ 0xFE ∧ (s.keySlot (p.f 4 1)).kind = 6) ∧
    (∃ (s : State) (op : PktOp) (p : Packet), s.takes op 0x0512 p ∧ ((s.noCipher = false ∨ 3 < p.f 1 1)) ∧ keyLenOk (p.f 1 1) (p.f 3 1) = true ∧ (s.keySlot (p.f 0 1)).nsRefs = 0 ∧ p.f 4 1 = 0xFE) ∧
    (∃ (s : State) (op : PktOp) (p : Packet) (v kek : KeySlot) (iv aad cipher : List Byte), s.takes op 0x0513 p ∧ v = s.keySlot (p.f 0 1) ∧ kek = s.keySlot (p.f 1 1) ∧ s.noCipher = false ∧ bit s.keys.policy 1 = false ∧ v.kind ≠ 0 ∧ bit v.attributes 0 = true ∧ kek.kind = 3 ∧ 48 + v.key.length ≤ p.dataLen ∧ s.formIv (p.f 1 1) = some iv ∧ aad = wrapHeader v.kind v.attributes v.key.length iv ∧ cipher = fit v.key.length (gcmEnc kek.key iv v.key)) := by
  refine ⟨⟨(packetState 0x0510 [1, 0, 0, 5, 0, 32] 32), { acc := 0, data := zeros 32 }, (packetIn 0x0510 [1, 0, 0, 5, 0, 32] 32), by decide⟩,
    ⟨{ packetState 0x0510 [1, 1, 2, 5, 0, 32] 80 with orderCode := .a0f, head.headId := 1, keys.slots := [{}, {}, { kind := 3, key := zeros 32 }] }, { acc := 0, data := [1, 5, 0, 32] ++ zeros 76 }, (packetIn 0x0510 [1, 1, 2, 5, 0, 32] 80), { kind := 3, key := zeros 32 }, (fit 80 [1, 5, 0, 32]), (32), by decide⟩,
    ⟨(packetState 0x0511 [1, 5, 0, 32]), (runOp), (packetIn 0x0511 [1, 5, 0, 32]), by decide⟩,
    ⟨{ packetState 0x0512 [1, 5, 0, 32, 2, 1] with keys.slots := [{}, {}, { kind := 6, key := zeros 32 }] }, (runOp), (packetIn 0x0512 [1, 5, 0, 32, 2, 1]), by decide⟩,
    ⟨(packetState 0x0512 [1, 5, 0, 32, 0xFE, 1]), (runOp), (packetIn 0x0512 [1, 5, 0, 32, 0xFE, 1]), by decide⟩,
    ⟨{ packetState 0x0513 [1, 2] 80 with orderCode := .a0f, head.headId := 1, keys.slots := [{}, { kind := 5, attributes := 1, key := zeros 32 }, { kind := 3, key := zeros 32 }] }, { acc := 0, data := zeros 80 }, (packetIn 0x0513 [1, 2] 80), { kind := 5, attributes := 1, key := zeros 32 }, { kind := 3, key := zeros 32 }, (le 2 1 ++ zeros 10), (wrapHeader 5 1 32 (le 2 1 ++ zeros 10)), (fit 32 (gcmEnc (zeros 32) (le 2 1 ++ zeros 10) (zeros 32))), by refine ⟨by decide, rfl, rfl, by decide, by decide, by decide, by decide, by decide, by decide, by decide, rfl, rfl⟩⟩⟩

theorem witness_KeyCommandsAct_2 :
    (∃ (s : State) (op : PktOp) (p : Packet), s.takes op 0x0514 p ∧ (s.keySlot (p.f 0 1)).nsRefs = 0) ∧
    (∃ (s : State) (op : PktOp) (p : Packet) (v : KeySlot), s.takes op 0x0515 p ∧ v = s.keySlot (p.f 0 1)) ∧
    (∃ (s : State) (op : PktOp) (p : Packet), s.takes op 0x0516 p) ∧
    (∃ (s : State) (op : PktOp) (p : Packet) (v : KeySlot) (iv text aad cipher : List Byte), s.takes op 0x0520 p ∧ v = s.keySlot (p.f 0 1) ∧ s.noCipher = false ∧ p.f 1 1 = 0 ∧ v.kind = 2 ∧ align8 (p.f 4 4 + p.f 8 4) + p.f 8 4 + 28 ≤ p.dataLen ∧ p.f 2 1 ≠ 1 ∧ s.formIv (p.f 0 1) = some iv ∧ aad = slice (p.buffer op) 0 (p.f 4 4) ∧ text = slice (p.buffer op) (p.f 4 4) (p.f 8 4) ∧ cipher = fit (p.f 8 4) (gcmEnc v.key iv text)) ∧
    (∃ (s : State) (op : PktOp) (p : Packet) (v : KeySlot) (iv text aad cipher : List Byte), s.takes op 0x0520 p ∧ v = s.keySlot (p.f 0 1) ∧ s.noCipher = false ∧ p.f 1 1 = 0 ∧ v.kind = 2 ∧ align8 (p.f 4 4 + p.f 8 4) + p.f 8 4 + 28 ≤ p.dataLen ∧ p.f 2 1 = 1 ∧ iv = p.bytes 16 12 ∧ aad = slice (p.buffer op) 0 (p.f 4 4) ∧ text = slice (p.buffer op) (p.f 4 4) (p.f 8 4) ∧ cipher = fit (p.f 8 4) (gcmEnc v.key iv text)) ∧
    (∃ (s : State) (op : PktOp) (p : Packet) (v : KeySlot) (text aad : List Byte), s.takes op 0x0520 p ∧ v = s.keySlot (p.f 0 1) ∧ s.noCipher = false ∧ p.f 1 1 ≠ 0 ∧ v.kind = 2 ∧ align8 (p.f 4 4 + p.f 8 4) + 16 + p.f 8 4 ≤ p.dataLen ∧ p.f 2 1 ≠ 0 ∧ aad = slice (p.buffer op) 0 (p.f 4 4) ∧ text = slice (p.buffer op) (p.f 4 4) (p.f 8 4)) := by
  refine ⟨⟨(packetState 0x0514 [63]), (runOp), (packetIn 0x0514 [63]), by decide⟩,
    ⟨(packetState 0x0515 [1]), (runOp), (packetIn 0x0515 [1]), {}, by decide⟩,
    ⟨(packetState 0x0516 [3]), (runOp), (packetIn 0x0516 [3]), by decide⟩,
    ⟨{ packetState 0x0520 [1] 28 with orderCode := .a0f, head.headId := 1, keys.slots := [{}, { kind := 2, key := zeros 32 }] }, { acc := 0, data := zeros 28 }, (packetIn 0x0520 [1] 28), { kind := 2, key := zeros 32 }, (le 2 1 ++ zeros 10), ([]), ([]), ([]), by refine ⟨by decide, rfl, by decide, by decide, by decide, by decide, by decide, by decide, by decide, by decide, by decide⟩⟩,
    ⟨{ packetState 0x0520 [1, 0, 1] 28 with orderCode := .a0f, head.headId := 1, keys.slots := [{}, { kind := 2, key := zeros 32 }] }, { acc := 0, data := zeros 28 }, (packetIn 0x0520 [1, 0, 1] 28), { kind := 2, key := zeros 32 }, (zeros 12), ([]), ([]), ([]), by refine ⟨by decide, rfl, by decide, by decide, by decide, by decide, by decide, by decide, by decide, by decide, by decide⟩⟩,
    ⟨{ packetState 0x0520 [1, 1, 1] 28 with orderCode := .a0f, head.headId := 1, keys.slots := [{}, { kind := 2, key := zeros 32 }] }, { acc := 0, data := zeros 28 }, (packetIn 0x0520 [1, 1, 1] 28), { kind := 2, key := zeros 32 }, ([]), ([]), by decide⟩⟩

theorem witness_KeyCommandsAct_3 :
    (∃ (s : State) (test : Nat), s.runs = true ∧ ((test = 1 ∨ test = 2))) := by
  refine ⟨(packetState 0 []), (1), by decide⟩

theorem witness_MapEngineCommandsAct_1 :
    (∃ (s : State) (page j : Nat) (x : ReadJob) (g : Page), s.runs = true ∧ s.pageJob page = some (j, x) ∧ s.page? page = some g ∧ x.done = true) ∧
    (∃ (s : State) (w : Nat) (r : Staged), s.runs = true ∧ s.record? w = some r ∧ s.mayApply r = true ∧ r.deltas.flatMap (s.deltaNeeds r) = [] ∧ s.indexNeeds r = []) ∧
    (∃ (s : State) (nsid a key : Nat) (n : Namespace) (l : Layer) (m : ColdMerge), s.runs = true ∧ s.ns? nsid = some n ∧ s.layer? n.domain n.layer = some l ∧ 0 < s.map.mergeAge ∧ s.owns n.domain = true ∧ s.footing.active = false ∧ s.power.drain = .none ∧ s.coldOf nsid a = some (key, m)) ∧
    (∃ (s : State) (nsid a : Nat) (n : Namespace) (l : Layer), s.runs = true ∧ s.ns? nsid = some n ∧ s.layer? n.domain n.layer = some l ∧ 0 < s.map.mergeAge ∧ s.owns n.domain = true ∧ s.footing.active = false ∧ s.power.drain = .none ∧ s.coldOf nsid a = none ∧ s.leafNeeds l a ≠ []) ∧
    (∃ (s : State) (page t : Nat) (g : Page), s.runs = true ∧ s.page? page = some g ∧ g.dirty = some t ∧ t + ticksOf (s.map.writebackAge * 1000000000) < s.tick ∧ s.footing.active = false ∧ s.owns (mpnDomain page) = true ∧ s.power.drain = .none) ∧
    (∃ (s : State) (p : Nat) (g : Page), s.runs = true ∧ s.mapFull = true ∧ s.map.pages.filter (fun p => (p.2.kind == 1 || p.2.kind == 2) && p.2.pins == 0 && p.2.body.isSome) = [(p, g)] ∧ s.page? p = some g ∧ g.dirty = none ∧ g.writing = false ∧ g.pxa ≠ 0 ∧ s.map.hand = p) := by
  refine ⟨⟨{ packetState 0 [] with flash.jobs := [(4, { use := .mapPage 9, rank := 2, stripe := 0, off := 0, units := 1, need := [], want := [], done := true })], map.pages := [(9, { kind := 1 })] }, (9), (4), { use := .mapPage 9, rank := 2, stripe := 0, off := 0, units := 1, need := [], want := [], done := true }, { kind := 1 }, by decide +kernel⟩,
    ⟨{ packetState 0 [] with wp.log := [{ bareRecord 3 0 0 2 1 0 [] with wsn := 5, meta_ := true }], domains := [(0, { state := .owned })] }, (5), { bareRecord 3 0 0 2 1 0 [] with wsn := 5, meta_ := true }, by decide⟩,
    ⟨{ packetState 0 [] with nvme.namespaces := [(1, { hostNs with layer := 1 })], map.layers := [(1, { kind := 1, levels := 1, nsid := 1, createStamp := 0, nsze := 4096 })], map.mergeAge := 60, domains := [(0, { state := .owned })], map.merges := [(3, { nsid := 1, ashlar := 7, basis := 0 })] }, (1), (7), (3), { hostNs with layer := 1 }, { kind := 1, levels := 1, nsid := 1, createStamp := 0, nsze := 4096 }, { nsid := 1, ashlar := 7, basis := 0 }, by decide⟩,
    ⟨{ packetState 0 [] with nvme.namespaces := [(1, { hostNs with layer := 1 })], map.layers := [(1, { kind := 1, levels := 1, root := 9, nsid := 1, createStamp := 0, nsze := 4096 })], map.mergeAge := 60, domains := [(0, { state := .owned })], map.pages := [(9, { kind := 1, body := none })] }, (1), (7), { hostNs with layer := 1 }, { kind := 1, levels := 1, root := 9, nsid := 1, createStamp := 0, nsze := 4096 }, by decide⟩,
    ⟨{ packetState 0 [] with now := 10000000000, map.writebackAge := 1, map.pages := [(9, { kind := 1, dirty := some 0 })], domains := [(0, { state := .owned })] }, (9), (0), { kind := 1, dirty := some 0 }, by decide +kernel⟩,
    ⟨{ packetState 0 [] with map.area := 4096, map.pages := [(9, { kind := 1, pxa := 5, used := false })], map.hand := 9 }, (9), { kind := 1, pxa := 5, used := false }, by decide +kernel⟩⟩

theorem witness_MapEngineCommandsAct_2 :
    (∃ (s : State) (seq : Nat) (e : Spoil), s.runs = true ∧ s.map.spoil.find? (fun e => e.seq == seq) = some e ∧ s.map.spoil.any (fun x => x.mpn == e.mpn && x.sector == e.sector && decide (x.seq < seq)) = false) ∧
    (∃ (s : State) (nsid : Nat) (n : Namespace) (l : Layer), s.runs = true ∧ s.ns? nsid = some n ∧ s.layer? n.domain n.layer = some l ∧ s.map.pinning.contains nsid = true ∧ ((l.root ≠ 0 → s.absentPages 7 l.root = []))) ∧
    (∃ (s : State) (n m : Nat), s.runs = true ∧ s.owns (stripeDomainOf n) = true ∧ s.power.drain = .none ∧ s.map.sweeps.find? (fun x => x.1 == n) = some (n, m) ∧ ((∀ p ∈ s.entryPages (stripeDomainOf n), p.2.body.isSome = true ∧ s.entriesNaming n p.1 (p.2.body.getD []) = [])) ∧ s.staged.any (fun r => !r.applied && !r.dropped && r.marks == some n) = false) ∧
    (∃ (s : State) (d id : Nat) (l : Layer), s.runs = true ∧ s.layer? d id = some l ∧ l.kind = 3 ∧ s.owns d = true ∧ s.power.drain = .none ∧ l.root = 0 ∧ l.dropKey = false) ∧
    (∃ (s : State) (d id : Nat) (l : Layer), s.runs = true ∧ s.layer? d id = some l ∧ l.kind = 3 ∧ s.owns d = true ∧ s.power.drain = .none ∧ l.root ≠ 0 ∧ s.absentPages 7 l.root = [] ∧ l.dropKey = false) ∧
    (∃ (s : State) (d : Nat) (repair : Bool), s.runs = true ∧ s.owns d = true ∧ (s.mdom d).checking = some repair ∧ ((∀ p ∈ s.entryPages d, p.2.body.isSome = true))) := by
  refine ⟨⟨{ packetState 0 [] with map.spoil := [⟨9, 0, 4⟩] }, (4), (⟨9, 0, 4⟩), by decide⟩,
    ⟨{ packetState 0 [] with nvme.namespaces := [(1, { hostNs with layer := 1 })], map.layers := [(1, { kind := 1, levels := 1, nsid := 1, createStamp := 0, nsze := 4096 })], map.pinning := [1] }, (1), { hostNs with layer := 1 }, { kind := 1, levels := 1, nsid := 1, createStamp := 0, nsze := 4096 }, by decide⟩,
    ⟨{ packetState 0 [] with domains := [(0, { state := .owned })], map.sweeps := [(5, 2)] }, (5), (2), by decide⟩,
    ⟨{ packetState 0 [] with domains := [(0, { state := .owned })], map.layers := [(3, { kind := 3, levels := 1, nsid := 1, createStamp := 0, nsze := 4096 })] }, (0), (3), { kind := 3, levels := 1, nsid := 1, createStamp := 0, nsze := 4096 }, by decide⟩,
    ⟨{ packetState 0 [] with domains := [(0, { state := .owned })], map.layers := [(3, { kind := 3, levels := 1, root := 9, nsid := 1, createStamp := 0, nsze := 4096 })] }, (0), (3), { kind := 3, levels := 1, root := 9, nsid := 1, createStamp := 0, nsze := 4096 }, by decide⟩,
    ⟨{ packetState 0 [] with domains := [(0, { state := .owned })], map.domains := [(0, { checking := some true })] }, (0), (true), by decide⟩⟩

theorem witness_MapEngineCommandsAct_3 :
    (∃ (s : State) (nsid a : Nat), s.runs = true ∧ s.map.rechecks.contains (nsid, a) = true ∧ s.ns? nsid = none) ∧
    (∃ (s : State) (nsid a : Nat) (n : Namespace) (l : Layer), s.runs = true ∧ s.map.rechecks.contains (nsid, a) = true ∧ s.ns? nsid = some n ∧ s.layer? n.domain n.layer = some l ∧ s.owns n.domain = true ∧ s.leafNeeds l a ≠ []) ∧
    (∃ (s : State) (nsid a : Nat) (n : Namespace) (l : Layer), s.runs = true ∧ s.map.rechecks.contains (nsid, a) = true ∧ s.ns? nsid = some n ∧ s.layer? n.domain n.layer = some l ∧ s.owns n.domain = true ∧ s.leafNeeds l a = [] ∧ s.ashlarEntries l a = [] ∧ s.flash.jobs.any (fun j => (recheckUse nsid a j.2.use).isSome && !j.2.done) = false) := by
  refine ⟨⟨{ packetState 0 [] with map.rechecks := [(4, 7)] }, (4), (7), by decide⟩,
    ⟨{ packetState 0 [] with nvme.namespaces := [(1, { hostNs with layer := 1 })], map.layers := [(1, { kind := 1, levels := 1, root := 9, nsid := 1, createStamp := 0, nsze := 4096 })], domains := [(0, { state := .owned })], map.pages := [(9, { kind := 1, body := none })], map.rechecks := [(1, 7)] }, (1), (7), { hostNs with layer := 1 }, { kind := 1, levels := 1, root := 9, nsid := 1, createStamp := 0, nsze := 4096 }, by decide⟩,
    ⟨{ packetState 0 [] with nvme.namespaces := [(1, { hostNs with layer := 1 })], map.layers := [(1, { kind := 1, levels := 1, nsid := 1, createStamp := 0, nsze := 4096 })], domains := [(0, { state := .owned })], map.rechecks := [(1, 7)] }, (1), (7), { hostNs with layer := 1 }, { kind := 1, levels := 1, nsid := 1, createStamp := 0, nsze := 4096 }, by decide⟩⟩

theorem witness_MapPacketsAct_1 :
    (∃ (s : State) (op : PktOp) (p : Packet), s.takes op 0x0600 p ∧ ((p.f 0 4 = 0 ∨ (60 ≤ p.f 0 4 ∧ p.f 0 4 ≤ 86400)))) ∧
    (∃ (s : State) (op : PktOp) (p : Packet) (n : Namespace), s.takes op 0x0601 p ∧ s.ns? (p.f 0 4) = some n ∧ s.owns n.domain = true ∧ s.layersToCome < layerLimit) ∧
    (∃ (s : State) (p : Packet) (nsid op target : Nat) (n : Namespace) (u t : State), u = s.updMdom n.domain (fun m => { m with nextLayer := m.nextLayer + 1 }) ∧ t = (u.await p).closeStream n.domain 0 (u.classRank n.cls 2)) ∧
    (∃ (s : State) (op : PktOp) (p : Packet) (l : Layer), s.takes op 0x0602 p ∧ s.owns (p.f 0 1) = true ∧ s.layer? (p.f 0 1) (p.f 4 4) = some l ∧ l.kind ≠ 1 ∧ l.kind ≠ 3 ∧ bit l.flags 1 = false ∧ s.deleteStaged (p.f 0 1) (p.f 4 4) = false) ∧
    (∃ (s : State) (op : PktOp) (p : Packet) (n : Namespace) (y l : Layer), s.takes op 0x0603 p ∧ s.ns? (p.f 0 4) = some n ∧ s.owns n.domain = true ∧ s.layer? n.domain (p.f 4 4) = some y ∧ s.layer? n.domain n.layer = some l ∧ y.kind = 2 ∧ y.lbaf = n.lbaf ∧ y.keySlot = n.keySlot ∧ y.nsze ≤ n.nsze ∧ ((l.root ≠ 0 → s.absentPages 7 l.root = [])) ∧ s.layerEmpty (p.f 0 4) l = true ∧ s.layersToCome < layerLimit) ∧
    (∃ (s : State) (op : PktOp) (p : Packet) (n : Namespace) (y : Layer), s.takes op 0x0604 p ∧ s.ns? (p.f 0 4) = some n ∧ s.owns n.domain = true ∧ s.layer? n.domain (p.f 4 4) = some y ∧ y.kind = 2 ∧ y.nsid = p.f 0 4) := by
  refine ⟨⟨(packetState 0x0600 (le 4 86400)), (runOp), (packetIn 0x0600 (le 4 86400)), by decide⟩,
    ⟨{ packetState 0x0601 (le 4 1) with nvme.namespaces := [(1, { hostNs with layer := 1 })], domains := [(0, { state := .owned })] }, (runOp), (packetIn 0x0601 (le 4 1)), { hostNs with layer := 1 }, by decide⟩,
    ⟨{}, (packetIn 0x0601 []), (1), (9), (0), (hostNs), (_), (_), by exact ⟨rfl, rfl⟩⟩,
    ⟨{ packetState 0x0602 (le 4 0 ++ le 4 3) with domains := [(0, { state := .owned })], map.layers := [(3, { kind := 2, levels := 1, nsid := 1, createStamp := 0, nsze := 4096 })] }, (runOp), (packetIn 0x0602 (le 4 0 ++ le 4 3)), { kind := 2, levels := 1, nsid := 1, createStamp := 0, nsze := 4096 }, by decide⟩,
    ⟨{ packetState 0x0603 (le 4 1 ++ le 4 3) with nvme.namespaces := [(1, { hostNs with layer := 1 })], domains := [(0, { state := .owned })], map.layers := [(1, { kind := 1, levels := 1, nsid := 1, createStamp := 0, nsze := 4096 }), (3, { kind := 2, levels := 1, nsid := 2, createStamp := 0, nsze := 4096 })] }, (runOp), (packetIn 0x0603 (le 4 1 ++ le 4 3)), { hostNs with layer := 1 }, { kind := 2, levels := 1, nsid := 2, createStamp := 0, nsze := 4096 }, { kind := 1, levels := 1, nsid := 1, createStamp := 0, nsze := 4096 }, by decide⟩,
    ⟨{ packetState 0x0604 (le 4 1 ++ le 4 3) with nvme.namespaces := [(1, { hostNs with layer := 1 })], domains := [(0, { state := .owned })], map.layers := [(3, { kind := 2, levels := 1, nsid := 1, createStamp := 0, nsze := 4096 })] }, (runOp), (packetIn 0x0604 (le 4 1 ++ le 4 3)), { hostNs with layer := 1 }, { kind := 2, levels := 1, nsid := 1, createStamp := 0, nsze := 4096 }, by decide⟩⟩

theorem witness_MapPacketsAct_2 :
    (∃ (s : State) (op : PktOp) (p : Packet) (l : Layer), s.takes op 0x0605 p ∧ s.layer? (p.f 0 1) (p.f 4 4) = some l ∧ ((l.root ≠ 0 → s.absentPages 7 l.root = []))) ∧
    (∃ (s : State) (op : PktOp) (p : Packet) (ls : List (Nat × Layer)), s.takes op 0x0606 p ∧ ls = (s.map.layers.filter fun l => l.1 / 2 ^ 32 == p.f 0 1 && decide (p.f 4 4 ≤ l.1 % 2 ^ 32)).take (p.dataLen / 64)) ∧
    (∃ (s t : State) (op : PktOp) (p : Packet) (l : Layer) (leaf : Nat) (e : List Byte), s.takes op 0x0607 p ∧ s.layer? (p.f 0 1) (p.f 4 4) = some l ∧ t = s.touchPath (p.f 0 1) (p.f 4 4) (p.f 8 8) 0 (s.rankOf 13) ∧ t.leafNeeds l (p.f 8 8) = [] ∧ leaf = t.leafOf l (p.f 8 8) ∧ e = (if leaf = 0 then zeros 16 else rawEntry ((t.pageBody leaf).getD []) (p.f 8 8 % 256))) ∧
    (∃ (s : State) (op : PktOp) (p : Packet), s.takes op 0x0608 p ∧ s.owns (p.f 0 1) = true ∧ (s.mdom (p.f 0 1)).checking = none) ∧
    (∃ (s : State) (op : PktOp) (p : Packet) (count : (Page → Bool) → Nat) (ways : (CacheWay → Bool) → Nat), s.takes op 0x0609 p ∧ count = (fun f => (s.map.pages.filter fun x => f x.2).length) ∧ ways = (fun f => (s.map.sets.map fun x => (x.2.filter f).length).sum)) ∧
    (∃ (s : State) (op : PktOp) (p : Packet), s.takes op 0x060A p) := by
  refine ⟨⟨{ packetState 0x0605 (le 4 0 ++ le 4 3) with map.layers := [(3, { kind := 2, levels := 1, nsid := 1, createStamp := 0, nsze := 4096 })] }, (runOp), (packetIn 0x0605 (le 4 0 ++ le 4 3)), { kind := 2, levels := 1, nsid := 1, createStamp := 0, nsze := 4096 }, by decide⟩,
    ⟨(packetState 0x0606 []), (runOp), (packetIn 0x0606 []), ([]), by decide⟩,
    ⟨{ packetState 0x0607 (le 4 0 ++ le 4 3) with map.layers := [(3, { kind := 2, levels := 1, nsid := 1, createStamp := 0, nsze := 4096 })] }, (State.touchPath ((packetIn 0x0607 (le 4 0 ++ le 4 3)).f 0 1) ((packetIn 0x0607 (le 4 0 ++ le 4 3)).f 4 4) ((packetIn 0x0607 (le 4 0 ++ le 4 3)).f 8 8) 0 (State.rankOf { packetState 0x0607 (le 4 0 ++ le 4 3) with map.layers := [(3, { kind := 2, levels := 1, nsid := 1, createStamp := 0, nsze := 4096 })] } 13) { packetState 0x0607 (le 4 0 ++ le 4 3) with map.layers := [(3, { kind := 2, levels := 1, nsid := 1, createStamp := 0, nsze := 4096 })] }), (runOp), (packetIn 0x0607 (le 4 0 ++ le 4 3)), { kind := 2, levels := 1, nsid := 1, createStamp := 0, nsze := 4096 }, (0), (zeros 16), by refine ⟨by decide, by decide, rfl, by decide +kernel, by decide +kernel, by decide +kernel⟩⟩,
    ⟨{ packetState 0x0608 [0, 1] with domains := [(0, { state := .owned })] }, (runOp), (packetIn 0x0608 [0, 1]), by decide⟩,
    ⟨(packetState 0x0609 []), (runOp), (packetIn 0x0609 []), (_), (_), by exact ⟨by decide, rfl, rfl⟩⟩,
    ⟨(packetState 0x060A [1]), (runOp), (packetIn 0x060A [1]), by decide⟩⟩

theorem witness_MapPacketsAct_3 :
    (∃ (s : State) (op : PktOp) (p : Packet) (n : Namespace), s.takes op 0x060B p ∧ s.ns? (p.f 0 4) = some n ∧ s.owns n.domain = true ∧ p.f 8 8 < ashlarCount n.nsze n.lbaf) := by
  refine ⟨{ packetState 0x060B (le 8 1 ++ le 8 255) with nvme.namespaces := [(1, hostNs)], domains := [(0, { state := .owned })] }, (runOp), (packetIn 0x060B (le 8 1 ++ le 8 255)), (hostNs), by decide⟩

theorem witness_StripeEngineCommandsAct_1 :
    (∃ (s : State) (d t r : Nat) (y : Layout) (cells : List Nat), s.runs = true ∧ s.writesFor d = true ∧ t < 3 ∧ s.needsSegment d t = true ∧ s.footingRuns = true ∧ s.layout? (s.sdom d).layoutId = some y ∧ ((t = 0 → (s.sdom d).gcReserve * y.width < s.poolSize d)) ∧ s.findRow d y y.rows (if (s.sdom d).cursor < y.rows then (s.sdom d).cursor else 0) = some (r, .cells cells)) ∧
    (∃ (s : State) (d a t r : Nat) (y : Layout), s.runs = true ∧ s.writesFor d = true ∧ s.footing.active = false ∧ s.layout? (s.sdom d).layoutId = some y ∧ t < 3 ∧ s.needsSegment d t = true ∧ s.findRow d y y.rows (if (s.sdom d).cursor < y.rows then (s.sdom d).cursor else 0) = some (r, .claim a)) ∧
    (∃ (s : State) (d a i : Nat) (y : Layout), s.runs = true ∧ s.writesFor d = true ∧ s.footing.active = false ∧ s.layout? (s.sdom d).layoutId = some y ∧ ((∀ t < 3, s.needsSegment d t = false)) ∧ s.poolSize d + (s.claiming d).length < (s.sdom d).gcStop * y.width ∧ (s.sdom d).freeCeiling = 0 ∧ s.nextTurn y.modules y.modules.length (s.sdom d).turn = some (i, a)) ∧
    (∃ (s : State) (n : Nat) (t : Stripe), s.runs = true ∧ s.stripe.stripes.get? n = some t ∧ t.state = .open ∧ t.complete = true ∧ t.closing = false ∧ t.programs = [] ∧ t.handed = (s.segment t.segment).data + (s.segment t.segment).parity) ∧
    (∃ (s : State) (n : Nat) (t : Stripe) (since : Nat), s.runs = true ∧ s.stripe.stripes.get? n = some t ∧ t.state = .open ∧ t.complete = false ∧ t.since = some since ∧ since + ticksOf ((s.sdom (stripeDomainOf n)).closeAge * 1000000) < s.tick) ∧
    (∃ (s : State) (d : Nat) (j : Journal), s.runs = true ∧ s.holdsClaim d = true ∧ j = s.journal d ∧ ((j.open_.any (fun r => r.body.awaited) = true ∨ 63 ≤ j.open_.length)) ∧ j.trio ≠ [] ∧ j.window < windowBytes (s.sdom d)) := by
  refine ⟨⟨{ stripeState with stripe.domains := [(0, { layoutId := 1, gcReserve := 0, queues := [[{ off := 0, ext := { units := 1, kind := 1 }, source := .copy 0, bytes := [] }], [], []] })], flash.blocks := [(3, { place := .free 0 }), (4, { place := .free 0 })] }, (0), (0), (0), { id := 1, data := 1, parity := 1, rows := 1, modules := [3, 4], cells := [0, 0, 0xFF, 0, 1, 0, 0xFF, 0] }, ([3, 4]), by decide⟩,
    ⟨{ stripeState with stripe.domains := [(0, { layoutId := 1, gcReserve := 0, queues := [[{ off := 0, ext := { units := 1, kind := 1 }, source := .copy 0, bytes := [] }], [], []] })], flash.blocks := [(3, { place := .spare }), (4, { place := .free 0 })] }, (0), (3), (0), (0), { id := 1, data := 1, parity := 1, rows := 1, modules := [3, 4], cells := [0, 0, 0xFF, 0, 1, 0, 0xFF, 0] }, by decide⟩,
    ⟨{ stripeState with flash.blocks := [(3, { place := .spare }), (4, { place := .free 0 })] }, (0), (3), (0), { id := 1, data := 1, parity := 1, rows := 1, modules := [3, 4], cells := [0, 0, 0xFF, 0, 1, 0, 0xFF, 0] }, by decide⟩,
    ⟨{ packetState 0 [] with stripe.stripes := [(5, { complete := true })] }, (5), { complete := true }, by decide⟩,
    ⟨{ packetState 0 [] with now := 64000000, stripe.stripes := [(5, { since := some 0 })] }, (5), { since := some 0 }, (0), by decide⟩,
    ⟨{ stripeState with stripe.journals := [(0, { trio := [3], open_ := [⟨0, 0, .lostClear 5⟩] })] }, (0), { trio := [3], open_ := [⟨0, 0, .lostClear 5⟩] }, by decide⟩⟩

theorem witness_StripeEngineCommandsAct_2 :
    (∃ (s : State) (d : Nat) (f : JFrame) (rest : List JFrame), (s.journal d).flight = f :: rest ∧ s.frameDurable (s.journal d) f = false) ∧
    (∃ (s : State) (d m : Nat), (s.journal d).trio.find? (s.memberLost (s.journal d)) = some m ∧ ((List.range s.journalSet.length).map fun i => s.journalSet.getD ((d + i) % s.journalSet.length) 0).find? (fun x => s.usableJournal x && !(s.journal d).trio.contains x && !(s.journal d).bad.contains x) = none) ∧
    (∃ (s : State) (d m : Nat), s.runs = true ∧ (s.journal d).repair = some m ∧ (((s.journal d).kept ++ (s.journal d).flight).all fun f => f.acks.contains m) = true) ∧
    (∃ (s : State) (d : Nat), s.runs = true ∧ s.writesFor d = true ∧ s.footingRuns = true ∧ (s.sdom d).checkpointWanted = true ∧ ((s.journal d).open_.any (fun r => r.body.type == 10) || (s.journal d).flight.any fun f => f.records.any fun r => r.body.type == 10) = false ∧ s.dirtyPages d = [] ∧ s.anchorOut d = false ∧ (s.sdom d).anchorPxa ≠ 0) ∧
    (∃ (s : State) (d : Nat), s.runs = true ∧ s.writesFor d = true ∧ s.footingRuns = true ∧ (s.sdom d).checkpointWanted = true ∧ ((s.journal d).open_.any (fun r => r.body.type == 10) || (s.journal d).flight.any fun f => f.records.any fun r => r.body.type == 10) = false ∧ s.dirtyPages d ≠ []) ∧
    (∃ (s : State) (d : Nat) (image : LedgerImage), s.runs = true ∧ (s.domain d).state = .acquiring ∧ (s.domain d).replaying = true ∧ (s.domain d).journalDone = false ∧ (s.domain d).takeover = none) := by
  refine ⟨⟨{ stripeState with stripe.journals := [(0, { trio := [3], flight := [{ seq := 1, claim := 0, records := [] }] })] }, (0), { seq := 1, claim := 0, records := [] }, ([]), by decide⟩,
    ⟨{ stripeState with flash.modules := [], stripe.journals := [(0, { trio := [3] })] }, (0), (3), by decide⟩,
    ⟨{ stripeState with stripe.journals := [(0, { trio := [3], repair := some 3 })] }, (0), (3), by decide⟩,
    ⟨{ stripeState with stripe.domains := [(0, { layoutId := 1, checkpointWanted := true, anchorPxa := 9 })] }, (0), by decide⟩,
    ⟨{ stripeState with stripe.domains := [(0, { layoutId := 1, checkpointWanted := true, anchorPxa := 9 })], map.pages := [(7, { kind := 1, dirty := some 0 })] }, (0), by decide⟩,
    ⟨{ packetState 0 [] with domains := [(0, { state := .acquiring, replaying := true })] }, (0), {}, by decide⟩⟩

theorem witness_StripeEngineCommandsAct_3 :
    (∃ (s : State) (d g rank : Nat), s.runs = true ∧ s.owns d = true ∧ s.footing.active = false ∧ s.stripe.segments.find? (fun g => segmentDomain g.1 == d && g.2.evacuating && !g.2.byEvac && 0 < s.liveIn g.1) = none ∧ s.queuedVictim d = some (g, rank)) ∧
    (∃ (s : State) (g : Nat) (x : Segment), s.runs = true ∧ s.stripe.segments.get? g = some x ∧ x.evacuating = true ∧ x.state = .evacuating ∧ s.owns (segmentDomain g) = true ∧ s.footing.active = false ∧ s.liveIn g = 0 ∧ (s.rowsOf g).any (fun t => t.2.state == .open) = false ∧ x.cells.any s.addrMissing = false) ∧
    (∃ (s : State) (m : Nat), s.runs = true ∧ s.footing.active = false ∧ s.stripe.segments.any (fun g => s.owns (segmentDomain g.1) && (g.2.state == .sealed || g.2.state == .open) && (s.missingCells g.2).any fun c => bgModule (g.2.cells.getD c 0) == m && !g.2.missing.contains c) = true) ∧
    (∃ (s : State) (g : Nat), s.runs = true ∧ s.rebuildPick = some g ∧ s.stripe.journals.any (fun j => j.2.repair.isSome) = false ∧ s.footing.active = false) ∧
    (∃ (s : State) (g cell a : Nat), (s.segment g).byEvac = false ∧ s.weakBefore g (s.segment g).rebuildRow = none ∧ ((s.segment g).missing.filter fun c => !(s.segment g).replacement.has c) = [cell] ∧ s.replacementFor g cell = some a) ∧
    (∃ (s : State), s.stripe.segments.any (fun g => g.2.toRebuild) = false) := by
  refine ⟨⟨{ stripeState with stripe.domains := [(0, { layoutId := 1, victims := [(7, 4)] })], stripe.segments := [(7, { state := .sealed })] }, (0), (7), (4), by decide⟩,
    ⟨{ stripeState with stripe.segments := [(7, { state := .evacuating, evacuating := true, cells := [3, 4] })] }, (7), { state := .evacuating, evacuating := true, cells := [3, 4] }, by decide⟩,
    ⟨{ stripeState with flash.modules := [(4, { state := .attached })], stripe.segments := [(7, { state := .sealed, data := 1, parity := 1, cells := [3, 4] })] }, (3), by decide⟩,
    ⟨{ stripeState with stripe.segments := [(7, { state := .rebuilding })] }, (7), by decide⟩,
    ⟨{ stripeState with stripe.segments := [(7, { state := .rebuilding, layoutId := 1, cells := [9, 4], missing := [0] })], flash.blocks := [(3, { place := .free 0 })] }, (7), (0), (3), by decide⟩,
    ⟨(packetState 0 []), by decide⟩⟩

theorem witness_StripeEngineCommandsAct_4 :
    (∃ (s : State) (b : Rebuild), b = s.stripe.rebuild ∧ s.stripe.segments.any (fun g => g.2.toRebuild) = true ∧ b.progress = 0 ∧ 0 < b.floor ∧ 0 < b.gateMax ∧ b.gateMax ≤ 100 ∧ b.below < 99) ∧
    (∃ (s : State) (g : Nat), s.runs = true ∧ s.stripe.rebuild.gate = some g ∧ g < s.tick) := by
  refine ⟨⟨{ packetState 0 [] with stripe.segments := [(7, { state := .rebuilding })] }, { floor := 2000 }, by decide⟩,
    ⟨{ packetState 0 [] with now := 64, stripe.rebuild := { gate := some 0 } }, (0), by decide⟩⟩

theorem witness_StripePacketsAct_1 :
    (∃ (s : State) (op : PktOp) (p : Packet), s.takes op 0x0700 p ∧ s.owns (p.f 0 1) = true ∧ p.f 4 2 < p.f 6 2 ∧ p.f 6 2 ≤ 8192 ∧ p.f 8 2 < p.f 4 2 ∧ (s.layout? (p.f 1 1)).isSome = true) ∧
    (∃ (s : State) (op : PktOp) (p : Packet), s.takes op 0x0701 p) ∧
    (∃ (s : State) (op : PktOp) (p : Packet), s.takes op 0x0702 p ∧ s.owns (p.f 0 1) = true ∧ s.stripe.stripes.has (p.f 0 1 * 2 ^ 32 + p.f 4 4) = true) ∧
    (∃ (s : State) (op : PktOp) (p : Packet), s.takes op 0x0703 p ∧ s.owns (segmentDomain (p.f 0 4)) = true ∧ s.stripe.segments.has (p.f 0 4) = true) ∧
    (∃ (s : State) (op : PktOp) (p : Packet) (b : Rebuild), s.takes op 0x0704 p ∧ b = s.stripe.rebuild ∧ b.current = none) ∧
    (∃ (s : State) (op : PktOp) (p : Packet) (b : Rebuild) (g : Nat), s.takes op 0x0704 p ∧ b = s.stripe.rebuild ∧ b.current = some g) := by
  refine ⟨⟨{ stripeState with pcie := (packetState 0x0700 ([0, 1] ++ le 2 50 ++ le 2 8191 ++ le 2 8192 ++ le 2 8190)).pcie }, (runOp), (packetIn 0x0700 ([0, 1] ++ le 2 50 ++ le 2 8191 ++ le 2 8192 ++ le 2 8190)), by decide⟩,
    ⟨(packetState 0x0701 []), (runOp), (packetIn 0x0701 []), by decide⟩,
    ⟨{ stripeState with pcie := (packetState 0x0702 (le 4 0 ++ le 4 5)).pcie, stripe.stripes := [(5, {})] }, (runOp), (packetIn 0x0702 (le 4 0 ++ le 4 5)), by decide⟩,
    ⟨{ stripeState with pcie := (packetState 0x0703 (le 4 7)).pcie, stripe.segments := [(7, {})] }, (runOp), (packetIn 0x0703 (le 4 7)), by decide⟩,
    ⟨(packetState 0x0704 []), (runOp), (packetIn 0x0704 []), {}, by decide⟩,
    ⟨{ packetState 0x0704 [] with stripe.rebuild := { current := some 7 } }, (runOp), (packetIn 0x0704 []), { current := some 7 }, (7), by decide⟩⟩

theorem witness_StripePacketsAct_2 :
    (∃ (s : State) (op : PktOp) (p : Packet) (es : List (Nat × LostEntry)), s.takes op 0x0705 p ∧ s.owns (p.f 0 1) = true ∧ es = ((s.lostOf (p.f 0 1)).drop (p.f 4 4)).take (p.dataLen / 16)) ∧
    (∃ (s : State) (op : PktOp) (p : Packet) (e : LostEntry), s.takes op 0x0706 p ∧ s.owns (p.f 0 1) = true ∧ s.stripe.lost.get? (p.f 0 1 * 2 ^ 32 + p.f 4 4) = some e ∧ e.swept = true ∧ s.stripeNamed (p.f 0 1 * 2 ^ 32 + p.f 4 4) = false) ∧
    (∃ (s : State) (op : PktOp) (p : Packet), s.takes op 0x0707 p ∧ s.owns (p.f 0 1) = true ∧ p.f 1 1 ≠ 2) ∧
    (∃ (s : State) (op : PktOp) (p : Packet) (x : Segment), s.takes op 0x0707 p ∧ s.owns (p.f 0 1) = true ∧ p.f 1 1 = 2 ∧ s.stripe.segments.get? (p.f 4 4) = some x ∧ segmentDomain (p.f 4 4) = p.f 0 1 ∧ x.state = .sealed) ∧
    (∃ (s : State) (op : PktOp) (p : Packet), s.takes op 0x0708 p ∧ (s.module (p.f 0 2)).state ≠ .detached ∧ p.f 2 1 = 1) ∧
    (∃ (s : State) (op : PktOp) (p : Packet), s.takes op 0x0708 p ∧ (s.module (p.f 0 2)).state = .retiring ∧ p.f 2 1 ≠ 1) := by
  refine ⟨⟨{ stripeState with pcie := (packetState 0x0705 []).pcie }, (runOp), (packetIn 0x0705 []), ([]), by decide⟩,
    ⟨{ stripeState with pcie := (packetState 0x0706 (le 4 0 ++ le 4 5)).pcie, stripe.lost := [(5, { cause := 1, missing := 0, swept := true, stamp := 0 })] }, (runOp), (packetIn 0x0706 (le 4 0 ++ le 4 5)), { cause := 1, missing := 0, swept := true, stamp := 0 }, by decide⟩,
    ⟨{ stripeState with pcie := (packetState 0x0707 [0, 1]).pcie }, (runOp), (packetIn 0x0707 [0, 1]), by decide⟩,
    ⟨{ stripeState with pcie := (packetState 0x0707 ([0, 2, 0, 0] ++ le 4 7)).pcie, stripe.segments := [(7, { state := .sealed })] }, (runOp), (packetIn 0x0707 ([0, 2, 0, 0] ++ le 4 7)), { state := .sealed }, by decide⟩,
    ⟨{ stripeState with pcie := (packetState 0x0708 [3, 0, 1]).pcie }, (runOp), (packetIn 0x0708 [3, 0, 1]), by decide⟩,
    ⟨{ stripeState with pcie := (packetState 0x0708 [3, 0, 0]).pcie, flash.modules := [(3, { state := .retiring })] }, (runOp), (packetIn 0x0708 [3, 0, 0]), by decide⟩⟩

theorem witness_StripePacketsAct_3 :
    (∃ (s : State) (op : PktOp) (p : Packet) (j : Journal), s.takes op 0x0709 p ∧ s.owns (p.f 0 1) = true ∧ j = s.journal (p.f 0 1)) ∧
    (∃ (s : State) (op : PktOp) (p : Packet), s.takes op 0x070A p) := by
  refine ⟨⟨{ stripeState with pcie := (packetState 0x0709 []).pcie }, (runOp), (packetIn 0x0709 []), {}, by decide⟩,
    ⟨(packetState 0x070A [1]), (runOp), (packetIn 0x070A [1]), by decide⟩⟩

theorem witness_PlinthLinkCommandsAct_1 :
    (∃ (s : State) (l : Nat), s.runs = true ∧ (s.link l).state = .training ∧ s.power.clocksLost.getD 3 false = false) ∧
    (∃ (s : State) (l : Nat), s.runs = true ∧ (s.link l).state = .hello) ∧
    (∃ (s : State) (l m credits session : Nat), s.runs = true ∧ (s.link l).state = .hello ∧ (s.link l).session = session ∧ ((s.mesh = true ∨ (s.link l).module = m ∨ (s.link l).module = 0xFFFF)) ∧ (s.linksOf m).contains l = true) ∧
    (∃ (s : State) (l m credits session : Nat), s.runs = true ∧ (s.link l).state = .up ∧ s.mesh = true ∧ (s.link l).session = session ∧ (s.linksOf m).contains l = true ∧ (s.module m).sessions.get? l ≠ some session) ∧
    (∃ (s : State) (l cause : Nat), s.runs = true ∧ (s.link l).state = .up ∧ ((cause = 1 ∨ cause = 2))) ∧
    (∃ (s : State) (l : Nat), s.runs = true ∧ (s.link l).state = .up ∧ (s.link l).lastRx + 1024 < s.tick) := by
  refine ⟨⟨{ packetState 0 [] with flash.links := List.replicate 96 { state := .training } }, (95), by decide⟩,
    ⟨{ packetState 0 [] with flash.links := List.replicate 96 { state := .hello } }, (95), by decide⟩,
    ⟨{ packetState 0 [] with flash.links := List.replicate 96 { state := .hello, session := 7, module := 3 }, flash.modules := [(3, { state := .attached })] }, (3), (3), (64), (7), by decide⟩,
    ⟨{ packetState 0 [] with head.configuration := 2, flash.links := List.replicate 96 { state := .up, session := 7, module := 3 } }, (3), (99), (64), (7), by decide⟩,
    ⟨{ packetState 0 [] with flash.links := List.replicate 96 { state := .up } }, (0), (2), by decide⟩,
    ⟨{ packetState 0 [] with now := 65600, flash.links := List.replicate 96 { state := .up } }, (0), by decide⟩⟩

theorem witness_PlinthLinkCommandsAct_2 :
    (∃ (s : State) (l cause : Nat), s.mesh = false) ∧
    (∃ (s : State) (l : Nat), s.runs = true ∧ (s.link l).state = .up) ∧
    (∃ (s : State) (l : Nat), s.runs = true ∧ (s.link l).state = .up) ∧
    (∃ (s : State) (l v : Nat), s.runs = true ∧ (s.link l).state = .up) ∧
    (∃ (s : State) (l v : Nat), s.runs = true ∧ (s.link l).state = .up) ∧
    (∃ (s : State) (l tj load : Nat), s.runs = true ∧ (s.link l).state ≠ .disabled ∧ (s.link l).envelope ≠ some (tj, load)) := by
  refine ⟨⟨(packetState 0 []), (95), (2), by decide⟩,
    ⟨{ packetState 0 [] with flash.links := List.replicate 96 { state := .up } }, (0), by decide⟩,
    ⟨{ packetState 0 [] with flash.links := List.replicate 96 { state := .up } }, (0), by decide⟩,
    ⟨{ packetState 0 [] with flash.links := List.replicate 96 { state := .up } }, (0), (65535), by decide⟩,
    ⟨{ packetState 0 [] with flash.links := List.replicate 96 { state := .up } }, (0), (65535), by decide⟩,
    ⟨{ packetState 0 [] with flash.links := List.replicate 96 { state := .up, envelope := some (1, 1) } }, (0), (1), (2), by decide⟩⟩

theorem witness_PlinthLinkCommandsAct_3 :
    (∃ (s : State) (m d : Nat) (r : ReadReq), s.runs = true ∧ s.hasRoom m d 2 = true ∧ (s.die m d).op = none ∧ ((s.flash.reads.filter fun r => r.module == m && r.die == d).foldr insertRead []).find? s.guardAdmits = some r ∧ s.eraseRuns r.addr = false) ∧
    (∃ (s : State) (m d : Nat) (o : DieOp), s.runs = true ∧ (s.die m d).op = some o ∧ s.urgentRead m d = true ∧ (s.flash.cmds ++ s.flash.held).any (fun c => c.opcode == 5 && c.module == m && c.die == d) = false ∧ ((∀ c, s.cmd? m o.cmd = some c → c.deadline.isSome = true)) ∧ o.suspendedAt = none ∧ o.suspends < (s.opConfig m d).maxSuspends ∧ o.since + ticksOf ((s.opConfig m d).minRunUs * 1000) < s.tick) ∧
    (∃ (s : State) (m d t : Nat) (o : DieOp), s.runs = true ∧ (s.die m d).op = some o ∧ o.suspendedAt = some t ∧ t + ticksOf 1500000000 < s.tick) ∧
    (∃ (s : State) (m : Nat), s.runs = true ∧ s.anyLinkUp m = false ∧ ((∀ l ∈ s.linksOf m, (s.link l).downSince + ticksOf 2000000 < s.tick)) ∧ (s.flash.reads.any (fun r => r.module == m) || (s.flash.cmds ++ s.flash.held).any (fun c => c.module == m && c.opcode == 2)) = true) ∧
    (∃ (s : State) (m slot : Nat), s.power.brownout = false ∧ s.power.tripped = false) ∧
    (∃ (s : State) (m slot : Nat), (s.power.brownout || s.power.tripped) = true) := by
  refine ⟨⟨{ packetState 0 [] with flash.reads := [⟨4, 0, 3, 0, 3, 0, [0], 0, 1, 0⟩] }, (3), (0), (⟨4, 0, 3, 0, 3, 0, [0], 0, 1, 0⟩), by decide⟩,
    ⟨{ packetState 0 [] with now := 64000000, flash.reads := [⟨4, 0, 3, 0, 3, 0, [0], 0, 1, 0⟩], flash.modules := [(3, { dies := [(0, { op := some ⟨1, false, 0, 3, 0, 0, none, false⟩ })] })] }, (3), (0), (⟨1, false, 0, 3, 0, 0, none, false⟩), by decide⟩,
    ⟨{ packetState 0 [] with now := 6400000000, flash.modules := [(3, { dies := [(0, { op := some ⟨1, false, 0, 3, 0, 0, some 0, false⟩ })] })] }, (3), (0), (0), (⟨1, false, 0, 3, 0, 0, some 0, false⟩), by decide⟩,
    ⟨{ packetState 0 [] with now := 6400000000, flash.reads := [⟨4, 0, 3, 0, 3, 0, [0], 0, 1, 0⟩] }, (3), by decide⟩,
    ⟨(packetState 0 []), (3), (0), by decide⟩,
    ⟨{ packetState 0 [] with power := { brownout := true } }, (3), (0), by decide⟩⟩

theorem witness_PlinthLinkCommandsAct_4 :
    (∃ (s : State) (n : Nat) (t : Stripe), s.runs = true ∧ s.flash.config.scrubDays ≠ 0 ∧ s.stripe.stripes.find? (fun t => decide (s.flash.scrubNext ≤ t.1) && t.2.state == .closed && s.owns (stripeDomainOf t.1)) = some (n, t)) ∧
    (∃ (s : State), s.runs = true ∧ s.flash.config.scrubDays ≠ 0 ∧ s.stripe.stripes.find? (fun t => decide (s.flash.scrubNext ≤ t.1) && t.2.state == .closed && s.owns (stripeDomainOf t.1)) = none) := by
  refine ⟨⟨{ stripeState with stripe.stripes := [(5, { state := .closed })] }, (5), { state := .closed }, by decide⟩,
    ⟨(packetState 0 []), by decide⟩⟩

theorem witness_PlinthResponsesAct_1 :
    (∃ (s : State) (l m id a i j cell : Nat) (b : List Byte) (c : PlCmd), s.cmd? m id = some c ∧ c.use = .read j cell ∧ c.opcode = 2 ∧ a = c.attempt ∧ b.length = 4608 ∧ i = c.got ∧ i < c.reads.length) ∧
    (∃ (s : State) (r : PlResponse) (c : PlCmd) (j cell : Nat), s.takesAnswer r [2] c ∧ c.use = .read j cell ∧ r.status = 0 ∧ r.dataFrames = c.got ∧ c.bad = false ∧ c.got = c.reads.length ∧ c.probe = none ∧ r.readCount < c.config.readLimit) ∧
    (∃ (s : State) (r : PlResponse) (c : PlCmd) (n cell : Nat), s.takesAnswer r [3] c ∧ c.use = .program n cell ∧ r.status = 0) ∧
    (∃ (s : State) (r : PlResponse) (c : PlCmd) (a : Nat), s.takesAnswer r [4] c ∧ c.use = .erase a ∧ r.status = 0) ∧
    (∃ (s : State) (r : PlResponse) (c : PlCmd) (d q : Nat), s.takesAnswer r [12, 14] c ∧ c.use = .journal d q ∧ r.status = 0) ∧
    (∃ (s : State) (r : PlResponse) (c : PlCmd) (d : Nat), s.takesAnswer r [7] c ∧ c.use = .claim d) := by
  refine ⟨⟨{ packetState 0 [] with flash.cmds := [{ id := 9, module := 3, opcode := 2, use := .read 4 0, reads := [0] }] }, (3), (3), (9), (0), (0), (4), (0), (zeros 4608), { id := 9, module := 3, opcode := 2, use := .read 4 0, reads := [0] }, by refine ⟨by decide, rfl, rfl, rfl, by decide +kernel, rfl, by decide⟩⟩,
    ⟨{ packetState 0 [] with flash.cmds := [{ id := 9, module := 3, opcode := 2, use := .read 4 0 }] }, { link := 3, module := 3, cmdId := 9, status := 0 }, { id := 9, module := 3, opcode := 2, use := .read 4 0 }, (4), (0), by decide⟩,
    ⟨{ packetState 0 [] with flash.cmds := [{ id := 9, module := 3, opcode := 3, use := .program 5 0 }] }, { link := 3, module := 3, cmdId := 9, status := 0 }, { id := 9, module := 3, opcode := 3, use := .program 5 0 }, (5), (0), by decide⟩,
    ⟨{ packetState 0 [] with flash.cmds := [{ id := 9, module := 3, opcode := 4, use := .erase 3, addr := 3 }] }, { link := 3, module := 3, cmdId := 9, status := 0 }, { id := 9, module := 3, opcode := 4, use := .erase 3, addr := 3 }, (3), by decide⟩,
    ⟨{ packetState 0 [] with flash.cmds := [{ id := 9, module := 3, opcode := 12, use := .journal 0 1 }] }, { link := 3, module := 3, cmdId := 9, status := 0 }, { id := 9, module := 3, opcode := 12, use := .journal 0 1 }, (0), (1), by decide⟩,
    ⟨{ packetState 0 [] with flash.cmds := [{ id := 9, module := 3, opcode := 7, use := .claim 0 }] }, { link := 3, module := 3, cmdId := 9, status := 0 }, { id := 9, module := 3, opcode := 7, use := .claim 0 }, (0), by decide⟩⟩

theorem witness_PlinthResponsesAct_2 :
    (∃ (s : State) (r : PlResponse) (c : PlCmd) (d : Nat), s.takesAnswer r [7] c ∧ c.use = .present d ∧ r.status = 0) ∧
    (∃ (s : State) (r : PlResponse) (c : PlCmd) (a d : Nat), s.takesAnswer r [8, 9, 10] c ∧ c.use = .blockClaim a d ∧ r.status = 0) ∧
    (∃ (s : State) (r : PlResponse) (c : PlCmd), s.takesAnswer r [5, 6] c ∧ c.opcode = 5 ∧ r.status = 0) ∧
    (∃ (s : State) (r : PlResponse) (c : PlCmd), s.takesAnswer r [5, 6] c ∧ c.opcode = 6 ∧ r.status = 0) ∧
    (∃ (s : State) (r : PlResponse) (c : PlCmd) (data : List (List Byte)), s.takesAnswer r [1, 11, 13, 15] c ∧ c.use = .scan ∧ r.status = 0 ∧ r.dataFrames = data.length) ∧
    (∃ (s : State) (r : PlResponse) (c : PlCmd) (data : List (List Byte)), s.takesAnswer r [1, 11, 13, 15] c ∧ c.use = .identify ∧ r.status = 0 ∧ r.dataFrames = data.length ∧ (s.answered r c).moduleFits r.link c.module (fit 128 data.flatten) = true) := by
  refine ⟨⟨{ packetState 0 [] with flash.cmds := [{ id := 9, module := 3, opcode := 7, use := .present 0 }] }, { link := 3, module := 3, cmdId := 9, status := 0 }, { id := 9, module := 3, opcode := 7, use := .present 0 }, (0), by decide⟩,
    ⟨{ packetState 0 [] with flash.cmds := [{ id := 9, module := 3, opcode := 8, use := .blockClaim 3 0 }] }, { link := 3, module := 3, cmdId := 9, status := 0 }, { id := 9, module := 3, opcode := 8, use := .blockClaim 3 0 }, (3), (0), by decide⟩,
    ⟨{ packetState 0 [] with flash.cmds := [{ id := 9, module := 3, opcode := 5, use := .suspend }] }, { link := 3, module := 3, cmdId := 9, status := 0 }, { id := 9, module := 3, opcode := 5, use := .suspend }, by decide⟩,
    ⟨{ packetState 0 [] with flash.cmds := [{ id := 9, module := 3, opcode := 6, use := .resume }] }, { link := 3, module := 3, cmdId := 9, status := 0 }, { id := 9, module := 3, opcode := 6, use := .resume }, by decide⟩,
    ⟨{ packetState 0 [] with flash.cmds := [{ id := 9, module := 3, opcode := 11, use := .scan, count := 1 }] }, { link := 3, module := 3, cmdId := 9, status := 0 }, { id := 9, module := 3, opcode := 11, use := .scan, count := 1 }, ([]), by decide⟩,
    ⟨{ packetState 0 [] with flash.cmds := [{ id := 9, module := 0, opcode := 1, use := .identify }], flash.modules := [(0, { record := zeros 128 })] }, { link := 0, module := 0, cmdId := 9, status := 0 }, { id := 9, module := 0, opcode := 1, use := .identify }, ([]), by decide⟩⟩

theorem witness_PlinthResponsesAct_3 :
    (∃ (s : State) (m id : Nat) (c : PlCmd) (d : Nat), s.runs = true ∧ s.cmd? m id = some c ∧ c.deadline = some d ∧ d < s.tick) ∧
    (∃ (s : State) (m : Nat), s.runs = true ∧ (s.module m).identified = true ∧ (s.module m).scanned = false ∧ (s.module m).state = .detached ∧ s.scanOpen m = false) ∧
    (∃ (s : State) (d : Nat), s.runs = true ∧ (s.domain d).state = .acquiring ∧ (s.domain d).scanning = true ∧ s.attachedModules.any s.scanOpen = false) ∧
    (∃ (s : State) (m : Nat) (x : FModule), s.runs = true ∧ x = s.module m ∧ x.state = .detached ∧ x.identified = true ∧ x.scanned = true ∧ s.anyLinkUp m = true ∧ ((s.domains.filter fun d => d.2.state != .none && decide (0 < d.2.claim)).map Prod.fst).all (fun d => x.claimed.contains d) = true) ∧
    (∃ (s : State) (m cause : Nat), s.runs = true ∧ (s.module m).state ≠ .detached ∧ (((cause = 2 ∧ 8 ≤ (s.module m).exhausted) ∨ (cause = 1 ∧ s.anyLinkUp m = false ∧ ∀ l ∈ s.linksOf m, (s.link l).downSince + ticksOf (s.flash.config.detachMs * 1000000) < s.tick)))) := by
  refine ⟨⟨{ packetState 0 [] with now := 64, flash.cmds := [{ id := 9, module := 3, opcode := 11, use := .scan, deadline := some 0 }] }, (3), (9), { id := 9, module := 3, opcode := 11, use := .scan, deadline := some 0 }, (0), by decide⟩,
    ⟨{ packetState 0 [] with flash.modules := [(3, { identified := true })] }, (3), by decide⟩,
    ⟨{ packetState 0 [] with domains := [(0, { state := .acquiring, scanning := true })] }, (0), by decide⟩,
    ⟨{ packetState 0 [] with flash.modules := [(3, { identified := true, scanned := true })], flash.links := List.replicate 96 { state := .up } }, (3), { identified := true, scanned := true }, by decide⟩,
    ⟨{ packetState 0 [] with flash.modules := [(3, { state := .attached, exhausted := 8 })] }, (3), (2), by decide⟩⟩

theorem witness_FlashPacketsAct_1 :
    (∃ (s : State) (op : PktOp) (p : Packet), s.takes op 0x0800 p) ∧
    (∃ (s : State) (op : PktOp) (p : Packet) (l : Nat), s.takes op 0x0801 p ∧ l = p.f 0 1 ∧ ((s.mesh = true ∨ p.f 2 1 = 0)) ∧ (s.link l).state = .disabled ∧ p.f 1 1 = 1) ∧
    (∃ (s : State) (op : PktOp) (p : Packet) (l : Nat), s.takes op 0x0801 p ∧ l = p.f 0 1 ∧ ((s.mesh = true ∨ p.f 2 1 = 0)) ∧ (s.link l).state = .up ∧ (s.link l).plane = p.f 2 1 ∧ (s.link l).invert = p.f 3 1 ∧ p.f 1 1 = 0) ∧
    (∃ (s : State) (op : PktOp) (p : Packet), s.takes op 0x0801 p ∧ ((s.mesh = true ∨ p.f 2 1 = 0)) ∧ (s.link (p.f 0 1)).state ≠ .disabled ∧ (((s.link (p.f 0 1)).plane ≠ p.f 2 1 ∨ (s.link (p.f 0 1)).invert ≠ p.f 3 1))) ∧
    (∃ (s : State) (op : PktOp) (p : Packet) (k : Link), s.takes op 0x0802 p ∧ k = s.link (p.f 0 1)) ∧
    (∃ (s : State) (op : PktOp) (p : Packet) (x : FModule), s.takes op 0x0803 p ∧ x = s.module (p.f 0 2) ∧ x.ever = true) := by
  refine ⟨⟨(packetState 0x0800 (le 2 60 ++ le 2 14 ++ le 4 500000 ++ [1, 8] ++ le 2 500 ++ le 2 200 ++ zeros 2)), (runOp), (packetIn 0x0800 (le 2 60 ++ le 2 14 ++ le 4 500000 ++ [1, 8] ++ le 2 500 ++ le 2 200 ++ zeros 2)), by decide⟩,
    ⟨(packetState 0x0801 [95, 1, 0, 3]), (runOp), (packetIn 0x0801 [95, 1, 0, 3]), (95), by decide⟩,
    ⟨{ packetState 0x0801 [3, 0, 0, 0] with flash.links := List.replicate 96 { state := .up } }, (runOp), (packetIn 0x0801 [3, 0, 0, 0]), (3), by decide⟩,
    ⟨{ packetState 0x0801 [3, 1, 0, 1] with flash.links := List.replicate 96 { state := .up } }, (runOp), (packetIn 0x0801 [3, 1, 0, 1]), by decide⟩,
    ⟨(packetState 0x0802 [95, 1] 64), { acc := 0 }, (packetIn 0x0802 [95, 1] 64), {}, by decide⟩,
    ⟨{ packetState 0x0803 [3] 168 with flash.modules := [(3, { ever := true })] }, { acc := 0 }, (packetIn 0x0803 [3] 168), { ever := true }, by decide⟩⟩

theorem witness_FlashPacketsAct_2 :
    (∃ (s : State) (op : PktOp) (p : Packet), s.takes op 0x0803 p ∧ (s.module (p.f 0 2)).ever = false) ∧
    (∃ (s : State) (op : PktOp) (p : Packet), s.takes op 0x0804 p ∧ (s.module (p.f 0 2)).ever = true ∧ (s.module (p.f 0 2)).diePresent (p.f 2 1) = true) ∧
    (∃ (s : State) (op : PktOp) (p : Packet), s.takes op 0x0804 p ∧ (s.module (p.f 0 2)).ever = true ∧ (s.module (p.f 0 2)).diePresent (p.f 2 1) = false) ∧
    (∃ (s : State) (op : PktOp) (p : Packet) (entry : ReadLevel → List Byte), s.takes op 0x0805 p ∧ (s.module (p.f 0 2)).ever = true ∧ (s.module (p.f 0 2)).diePresent (p.f 2 1) = true ∧ ((∀ e, entry e = le 1 (boolNat e.valid) ++ le 1 e.band ++ fit 15 (e.offsets.flatMap signedByte) ++ [0]))) ∧
    (∃ (s : State) (op : PktOp) (p : Packet) (x : FModule), s.takes op 0x0806 p ∧ x = s.module (p.f 0 2) ∧ x.ever = true) ∧
    (∃ (s : State) (op : PktOp) (p : Packet), s.takes op 0x0807 p) := by
  refine ⟨⟨(packetState 0x0803 [3] 168), { acc := 0 }, (packetIn 0x0803 [3] 168), by decide⟩,
    ⟨{ packetState 0x0804 [3, 0, 0, 0, 0, 0, 1, 0] 16 with flash.modules := [(3, { ever := true, record := zeros 24 ++ [1] })] }, { acc := 0 }, (packetIn 0x0804 [3, 0, 0, 0, 0, 0, 1, 0] 16), by decide⟩,
    ⟨{ packetState 0x0804 [3, 0, 0, 0, 0, 0, 1, 0] 16 with flash.modules := [(3, { ever := true })] }, { acc := 0 }, (packetIn 0x0804 [3, 0, 0, 0, 0, 0, 1, 0] 16), by decide⟩,
    ⟨{ packetState 0x0805 [3] 288 with flash.modules := [(3, { ever := true, record := zeros 24 ++ [1] })] }, { acc := 0 }, (packetIn 0x0805 [3] 288), (fun e => le 1 (boolNat e.valid) ++ le 1 e.band ++ fit 15 (e.offsets.flatMap signedByte) ++ [0]), by refine ⟨by decide, rfl, by decide, fun _ => rfl⟩⟩,
    ⟨{ packetState 0x0806 [3] 32 with flash.modules := [(3, { ever := true })] }, { acc := 0 }, (packetIn 0x0806 [3] 32), { ever := true }, by decide⟩,
    ⟨(packetState 0x0807 [1] 192), { acc := 0 }, (packetIn 0x0807 [1] 192), by decide⟩⟩

theorem witness_HeadPacketsAct_1 :
    (∃ (s : State) (op : PktOp) (p : Packet), s.takes op 0x0900 p ∧ s.head.configuration = 0) ∧
    (∃ (s : State) (op : PktOp) (p : Packet), s.takes op 0x0900 p ∧ s.head.configuration ≠ 0) ∧
    (∃ (s : State) (op : PktOp) (p : Packet), s.takes op 0x0902 p ∧ s.head.configuration = 0) ∧
    (∃ (s : State) (op : PktOp) (p : Packet) (es : List (List Byte)) (ids : List Nat), s.takes op 0x0901 p ∧ es = (List.range (p.f 0 1)).map (fun i => slice (p.buffer op) (48 * i) 48) ∧ ids = es.map (fun e => fieldAt e 0 2) ∧ ((s.head.configuration = 1 → p.f 0 1 = 1)) ∧ ids.any (fun h => h = 0 || 16 < h) = false ∧ ids.eraseDups.length = p.f 0 1 ∧ ids.contains s.head.headId = false ∧ s.head.peers.any (fun x => !ids.contains x.1 && [0, 1, 2, 3].any fun l => (s.peerConn x.1 l).isSome) = false) ∧
    (∃ (s : State) (h lane n : Nat) (x : Peer), s.runs = true ∧ x = s.peer h ∧ n = (s.head.headId + h) % 2 ∧ s.head.configuration ≠ 0 ∧ s.head.peers.has h = true ∧ s.head.headId < h ∧ lane < 4 ∧ (s.lport (32 + n)).up = true ∧ s.net.conns.any (fun c => c.2.use == .peer h lane && (c.2.state == .ready || c.2.state == .connecting)) = false ∧ x.retryAt ≤ s.tick ∧ ((lane = 0 ∨ s.bindingWith h = true)) ∧ ((s.footing.active = true → s.footing.readService = true))) ∧
    (∃ (s : State) (op : PktOp) (p : Packet), s.takes op 0x0902 p ∧ s.head.configuration ≠ 0 ∧ s.draining = false ∧ s.head.joined = false ∧ s.footing.left = false) := by
  refine ⟨⟨(packetState 0x0900 [1, 0, 2, 0]), (runOp), (packetIn 0x0900 [1, 0, 2, 0]), by decide⟩,
    ⟨{ packetState 0x0900 [1, 0, 2, 0] with head.configuration := 1 }, (runOp), (packetIn 0x0900 [1, 0, 2, 0]), by decide⟩,
    ⟨(packetState 0x0902 []), (runOp), (packetIn 0x0902 []), by decide⟩,
    ⟨(packetState 0x0901 [1] 48), { acc := 0, data := [2, 0] ++ zeros 46 }, (packetIn 0x0901 [1] 48), ([fit 48 [2, 0]]), ([2]), by decide⟩,
    ⟨{ packetState 0 [] with head := { configuration := 1, headId := 1, peers := [(2, {})] }, net.lports := List.replicate 34 { up := true } }, (2), (0), (1), {}, by decide⟩,
    ⟨{ packetState 0x0902 [] with head := { configuration := 1, headId := 1 } }, (runOp), (packetIn 0x0902 []), by decide⟩⟩

theorem witness_HeadPacketsAct_2 :
    (∃ (s : State) (op : PktOp) (p : Packet), s.takes op 0x0902 p ∧ s.head.configuration ≠ 0 ∧ s.draining = false ∧ (s.head.joined = true ∨ s.footing.left = true)) ∧
    (∃ (s : State) (op : PktOp) (p : Packet), s.takes op 0x0903 p ∧ s.head.configuration ≠ 0 ∧ s.head.joined = true ∧ s.ownedDomains = []) ∧
    (∃ (s : State) (op : PktOp) (p : Packet), s.takes op 0x0903 p ∧ s.head.configuration ≠ 0 ∧ s.head.joined = true ∧ s.ownedDomains ≠ []) ∧
    (∃ (s : State) (op : PktOp) (p : Packet) (d : Nat), s.takes op 0x0904 p ∧ s.head.configuration ≠ 0 ∧ d = p.f 0 1 ∧ p.f 1 1 = 1 ∧ ((s.footing.active = true → s.footing.readService = true)) ∧ (s.domain d).state = .none ∧ ((s.activeHeads.contains (s.domain d).owner = true → (s.domain d).released = true)) ∧ s.activeHeads.contains (s.domain d).intent = false) ∧
    (∃ (s : State) (op : PktOp) (p : Packet) (d : Nat), s.takes op 0x0904 p ∧ s.head.configuration ≠ 0 ∧ d = p.f 0 1 ∧ p.f 1 1 = 2 ∧ s.domains.find? (fun x => x.2.releaseAcc == some op.acc) = none ∧ (s.domain d).state = .owned) ∧
    (∃ (s : State) (op : PktOp) (d : Nat) (x : Domain), s.domains.find? (fun x => x.2.releaseAcc == some op.acc) = some (d, x) ∧ x.state = .releasing ∧ s.domainBusy d = false) := by
  refine ⟨⟨{ packetState 0x0902 [] with head := { configuration := 1, headId := 1, joined := true } }, (runOp), (packetIn 0x0902 []), by decide⟩,
    ⟨{ packetState 0x0903 [] with head := { configuration := 1, headId := 1, joined := true } }, (runOp), (packetIn 0x0903 []), by decide⟩,
    ⟨{ packetState 0x0903 [] with head := { configuration := 1, headId := 1, joined := true }, domains := [(7, { state := .owned })] }, (runOp), (packetIn 0x0903 []), by decide⟩,
    ⟨{ packetState 0x0904 [7, 1] with head := { configuration := 1, headId := 1 } }, (runOp), (packetIn 0x0904 [7, 1]), (7), by decide⟩,
    ⟨{ packetState 0x0904 [7, 2] with head := { configuration := 1, headId := 1 }, domains := [(7, { state := .owned })] }, (runOp), (packetIn 0x0904 [7, 2]), (7), by decide⟩,
    ⟨{ packetState 0 [] with domains := [(7, { state := .releasing, releaseAcc := some 0 })] }, (runOp), (7), { state := .releasing, releaseAcc := some 0 }, by decide⟩⟩

theorem witness_HeadPacketsAct_3 :
    (∃ (s : State) (op : PktOp) (p : Packet) (x : Domain), s.takes op 0x0905 p ∧ s.head.configuration ≠ 0 ∧ x = s.domain (p.f 0 1)) ∧
    (∃ (s : State) (op : PktOp) (p : Packet) (entry : Nat × Peer → List Byte), s.takes op 0x0906 p ∧ ((∀ x, entry x = le 2 x.1 ++ le 1 x.2.state ++ le 1 (x.2.misses.getD 0 0) ++ le 1 (x.2.misses.getD 1 0) ++ zeros 3 ++ le 8 x.2.lastBeat))) ∧
    (∃ (s : State) (op : PktOp) (p : Packet), s.takes op 0x0907 p ∧ s.head.configuration ≠ 0 ∧ p.f 0 2 ≠ s.head.headId ∧ s.head.peers.has (p.f 0 2) = true) := by
  refine ⟨⟨{ packetState 0x0905 [7] 32 with head := { configuration := 1, headId := 1 } }, { acc := 0 }, (packetIn 0x0905 [7] 32), {}, by decide⟩,
    ⟨(packetState 0x0906 [] 288), { acc := 0 }, (packetIn 0x0906 [] 288), (fun x => le 2 x.1 ++ le 1 x.2.state ++ le 1 (x.2.misses.getD 0 0) ++ le 1 (x.2.misses.getD 1 0) ++ zeros 3 ++ le 8 x.2.lastBeat), by refine ⟨by decide, fun _ => rfl⟩⟩,
    ⟨{ packetState 0x0907 [2, 0] with head := { configuration := 1, headId := 1, peers := [(2, {})] } }, (runOp), (packetIn 0x0907 [2, 0]), by decide⟩⟩

theorem witness_RingFramesAct_1 :
    (∃ (s : State), s.runs = true ∧ s.head.joined = true ∧ s.head.beatAt ≤ s.tick) ∧
    (∃ (s : State) (f : RingFrame) (h : Nat), s.takesRing 1 f ∧ h = f.origin ∧ (s.peer h).state = 1 ∧ ((∀ u : State, u = s.ringTaken f → (u.peer h).state = 1 ∧ u.expired ((u.peer h).deadline.getD f.direction 0) = false))) ∧
    (∃ (s : State) (f : RingFrame), s.head.joined = true ∧ f.typ = 1 ∧ f.direction < 2 ∧ f.crcOk = true ∧ f.origin ≠ s.head.headId ∧ s.head.peers.has f.origin = true ∧ (s.peer f.origin).seqs.contains f.seq = true) ∧
    (∃ (s : State) (h d : Nat), (s.peer h).state = 1) ∧
    (∃ (s : State) (h d : Nat), s.runs = true ∧ s.head.joined = true ∧ s.head.peers.has h = true ∧ (s.peer h).state = 1 ∧ d < 2 ∧ (s.peer h).deadline.getD d 0 < s.tick) ∧
    (∃ (s : State) (f : RingFrame), s.takesRing 2 f ∧ (s.peer f.origin).state ≠ 1) := by
  refine ⟨⟨{ packetState 0 [] with head := { configuration := 1, headId := 1, joined := true } }, by decide⟩,
    ⟨{ packetState 0 [] with head := { configuration := 1, headId := 1, joined := true, peers := [(2, { state := 1 })] } }, { typ := 1, direction := 1, origin := 2, ttl := 16, seq := 9, crcOk := true, body := zeros 48 }, (2), by refine ⟨by decide, rfl, by decide, fun u h => by subst h; decide⟩⟩,
    ⟨{ packetState 0 [] with head := { configuration := 1, headId := 1, joined := true, peers := [(2, { state := 1, seqs := [9] })] } }, { typ := 1, direction := 1, origin := 2, ttl := 16, seq := 9, crcOk := true, body := zeros 48 }, by decide⟩,
    ⟨{ packetState 0 [] with head.peers := [(2, { state := 1 })] }, (2), (1), by decide⟩,
    ⟨{ packetState 0 [] with now := 640, head := { configuration := 1, headId := 1, joined := true, peers := [(2, { state := 1 })] } }, (2), (1), by decide⟩,
    ⟨{ packetState 0 [] with head := { configuration := 1, headId := 1, joined := true, peers := [(2, { state := 2 })] } }, { typ := 2, direction := 0, origin := 2, ttl := 1, seq := 1, crcOk := true, body := zeros 48 }, by decide⟩⟩

theorem witness_RingFramesAct_2 :
    (∃ (s : State) (f : RingFrame), s.takesRing 3 f ∧ ((s.ringTaken f).peer f.origin).state = 1 ∧ ((s.ringTaken f).peer f.origin).owned = 0) ∧
    (∃ (s : State) (f : RingFrame), s.takesRing 3 f ∧ ((s.ringTaken f).peer f.origin).state = 1 ∧ ((s.ringTaken f).peer f.origin).owned ≠ 0) ∧
    (∃ (s : State) (f : RingFrame), s.takesRing 4 f) ∧
    (∃ (s : State) (f : RingFrame) (d c : Nat), s.takesRing 5 f ∧ d = fieldAt f.body 0 1 ∧ c = fieldAt f.body 8 8) ∧
    (∃ (s : State) (f : RingFrame) (c : Nat), s.takesRing 6 f ∧ c = fieldAt f.body 8 8) ∧
    (∃ (s : State) (f : RingFrame), s.takesRing 7 f ∧ fieldAt f.body 0 2 ≠ (s.ringTaken f).head.headId ∧ (s.ringTaken f).head.peers.has (fieldAt f.body 0 2) = true) := by
  refine ⟨⟨{ packetState 0 [] with head := { configuration := 1, headId := 1, joined := true, peers := [(2, { state := 1 })] } }, { typ := 3, direction := 0, origin := 2, ttl := 1, seq := 1, crcOk := true, body := zeros 48 }, by decide⟩,
    ⟨{ packetState 0 [] with head := { configuration := 1, headId := 1, joined := true, peers := [(2, { state := 1, owned := 1 })] } }, { typ := 3, direction := 0, origin := 2, ttl := 1, seq := 1, crcOk := true, body := zeros 48 }, by decide⟩,
    ⟨{ packetState 0 [] with head := { configuration := 1, headId := 1, joined := true, peers := [(2, { state := 1 })] } }, { typ := 4, direction := 0, origin := 2, ttl := 1, seq := 1, crcOk := true, body := zeros 48 }, by decide⟩,
    ⟨{ packetState 0 [] with head := { configuration := 1, headId := 1, joined := true, peers := [(2, { state := 1 })] } }, { typ := 5, direction := 0, origin := 2, ttl := 1, seq := 1, crcOk := true, body := zeros 48 }, (0), (0), by decide⟩,
    ⟨{ packetState 0 [] with head := { configuration := 1, headId := 1, joined := true, peers := [(2, { state := 1 })] } }, { typ := 6, direction := 0, origin := 2, ttl := 1, seq := 1, crcOk := true, body := zeros 48 }, (0), by decide⟩,
    ⟨{ packetState 0 [] with head := { configuration := 1, headId := 1, joined := true, peers := [(2, { state := 1 }), (3, {})] } }, { typ := 7, direction := 0, origin := 2, ttl := 1, seq := 1, crcOk := true, body := fit 48 [3] }, by decide⟩⟩

theorem witness_MirrorMessagesAct_1 :
    (∃ (s t : State) (conn h lane : Nat) (m : PeerMsg) (b : List Byte) (rest : List (List Byte)), s.takesPeer conn 1 h lane m b rest ∧ t = s.peerTaken conn m rest ∧ t.areaOf h = none) ∧
    (∃ (s t : State) (conn h lane i : Nat) (m : PeerMsg) (b : List Byte) (rest : List (List Byte)), s.takesPeer conn 1 h lane m b rest ∧ t = s.peerTaken conn m rest ∧ t.areaOf h = some i ∧ (t.area i).records.has m.wsn = true) ∧
    (∃ (s t : State) (conn h lane i : Nat) (m : PeerMsg) (b r : List Byte) (rest : List (List Byte)), s.takesPeer conn 1 h lane m b rest ∧ t = s.peerTaken conn m rest ∧ t.areaOf h = some i ∧ (t.area i).records.has m.wsn = false ∧ r = t.readRegion i (256 * fieldAt m.body 0 4) (256 * fieldAt m.body 4 4) ∧ fieldAt r 8 8 = m.wsn ∧ fieldAt r 4 4 = fieldAt m.body 4 4 ∧ fieldAt m.body 8 4 = (crc32c r).toNat) ∧
    (∃ (s t : State) (conn h lane i : Nat) (m : PeerMsg) (b r : List Byte) (rest : List (List Byte)), s.takesPeer conn 1 h lane m b rest ∧ t = s.peerTaken conn m rest ∧ t.areaOf h = some i ∧ (t.area i).records.has m.wsn = false ∧ r = t.readRegion i (256 * fieldAt m.body 0 4) (256 * fieldAt m.body 4 4) ∧ ¬(fieldAt r 8 8 = m.wsn ∧ fieldAt r 4 4 = fieldAt m.body 4 4 ∧ fieldAt m.body 8 4 = (crc32c r).toNat)) ∧
    (∃ (s t : State) (conn h lane i d n q : Nat) (m : PeerMsg) (b : List Byte) (rest rs : List (List Byte)), s.takesPeer conn 3 h lane m b rest ∧ t = s.peerTaken conn m rest ∧ t.areaOf h = some i ∧ d = fieldAt m.body 0 1 ∧ n = fieldAt m.body 1 1 ∧ q = fieldAt m.body 8 8 ∧ ((t.area i).journal.getD d []).any (fun f => f.1 == q) = false ∧ rs = (List.range n).map (fun k => slice m.body (16 + 64 * k) 64)) ∧
    (∃ (s t : State) (conn h lane : Nat) (m : PeerMsg) (b : List Byte) (rest : List (List Byte)), s.takesPeer conn 4 h lane m b rest ∧ t = s.peerTaken conn m rest ∧ (t.areaOf h).isSome = true) := by
  refine ⟨⟨(peerState 1 (zeros 32)), ((peerState 1 (zeros 32)).peerTaken 7 (msgOf 1 (zeros 32)) []), (7), (2), (1), (msgOf 1 (zeros 32)), (peerBytes 1 (zeros 32)), ([]), by exact ⟨by decide +kernel, rfl, by decide +kernel⟩⟩,
    ⟨{ peerState 1 (zeros 32) with mirror.areas := [{ bound := some 2, records := [(4, (0, 1, 0))] }, {}] }, (State.peerTaken { peerState 1 (zeros 32) with mirror.areas := [{ bound := some 2, records := [(4, (0, 1, 0))] }, {}] } 7 (msgOf 1 (zeros 32)) []), (7), (2), (1), (0), (msgOf 1 (zeros 32)), (peerBytes 1 (zeros 32)), ([]), by exact ⟨by decide +kernel, rfl, by decide +kernel⟩⟩,
    ⟨{ peerState 1 noteBody with mirror.areas := [{ bound := some 2, mem := [(0, noteRecord)] }, {}] }, (State.peerTaken { peerState 1 noteBody with mirror.areas := [{ bound := some 2, mem := [(0, noteRecord)] }, {}] } 7 (msgOf 1 noteBody) []), (7), (2), (1), (0), (msgOf 1 noteBody), (peerBytes 1 noteBody), (noteRecord), ([]), by exact ⟨by decide +kernel, rfl, by decide +kernel⟩⟩,
    ⟨{ peerState 1 (zeros 32) with mirror.areas := [{ bound := some 2 }, {}] }, (State.peerTaken { peerState 1 (zeros 32) with mirror.areas := [{ bound := some 2 }, {}] } 7 (msgOf 1 (zeros 32)) []), (7), (2), (1), (0), (msgOf 1 (zeros 32)), (peerBytes 1 (zeros 32)), ([]), ([]), by exact ⟨by decide +kernel, rfl, by decide +kernel⟩⟩,
    ⟨{ peerState 3 (zeros 80) with mirror.areas := [{ bound := some 2 }, {}] }, (State.peerTaken { peerState 3 (zeros 80) with mirror.areas := [{ bound := some 2 }, {}] } 7 (msgOf 3 (zeros 80)) []), (7), (2), (1), (0), (0), (0), (0), (msgOf 3 (zeros 80)), (peerBytes 3 (zeros 80)), ([]), ([]), by exact ⟨by decide +kernel, rfl, by decide +kernel⟩⟩,
    ⟨{ peerState 4 (zeros 64) with mirror.areas := [{ bound := some 2 }, {}] }, (State.peerTaken { peerState 4 (zeros 64) with mirror.areas := [{ bound := some 2 }, {}] } 7 (msgOf 4 (zeros 64)) []), (7), (2), (1), (msgOf 4 (zeros 64)), (peerBytes 4 (zeros 64)), ([]), by exact ⟨by decide +kernel, rfl, by decide +kernel⟩⟩⟩

theorem witness_MirrorMessagesAct_2 :
    (∃ (s t : State) (conn h lane i : Nat) (m : PeerMsg) (b : List Byte) (rest : List (List Byte)), s.takesPeer conn 5 h lane m b rest ∧ t = s.peerTaken conn m rest ∧ t.areaOf h = some i) ∧
    (∃ (s t : State) (conn h lane i g : Nat) (r : Region) (m : PeerMsg) (b : List Byte) (rest : List (List Byte)), s.takesPeer conn 6 h lane m b rest ∧ t = s.peerTaken conn m rest ∧ t.areaOf h = none ∧ fieldAt m.body 0 1 = 1 ∧ t.freeArea? = some i ∧ fieldAt m.body 4 4 ≤ t.wp.logUnits ∧ g = ((t.net.regions.getD i {}).gen + 1) % 256 ∧ r = ⟨true, g, i * 2 ^ 40, 256 * fieldAt m.body 4 4, true, false, 1 + h, t.now :: recentStamps t.now (t.net.regions.getD i {}).reused⟩) ∧
    (∃ (s t : State) (conn h lane : Nat) (m : PeerMsg) (b : List Byte) (rest : List (List Byte)), s.takesPeer conn 6 h lane m b rest ∧ t = s.peerTaken conn m rest ∧ t.areaOf h = none ∧ fieldAt m.body 0 1 = 1 ∧ ((t.freeArea? = none ∨ t.wp.logUnits < fieldAt m.body 4 4))) ∧
    (∃ (s t : State) (conn h lane i : Nat) (m : PeerMsg) (b : List Byte) (rest : List (List Byte)), s.takesPeer conn 6 h lane m b rest ∧ t = s.peerTaken conn m rest ∧ t.areaOf h = some i ∧ t.takingOver h = false ∧ fieldAt m.body 0 1 = 0) ∧
    (∃ (s t u : State) (conn h lane : Nat) (m : PeerMsg) (b : List Byte) (rest : List (List Byte)), s.takesPeer conn 8 h lane m b rest ∧ t = s.peerTaken conn m rest ∧ u = (match t.areaOf h with | some i => if t.takingOver h then t else t.freeArea i | none => t)) := by
  refine ⟨⟨{ peerState 5 (zeros 8) with mirror.areas := [{ bound := some 2 }, {}] }, (State.peerTaken { peerState 5 (zeros 8) with mirror.areas := [{ bound := some 2 }, {}] } 7 (msgOf 5 (zeros 8)) []), (7), (2), (1), (0), (msgOf 5 (zeros 8)), (peerBytes 5 (zeros 8)), ([]), by exact ⟨by decide +kernel, rfl, by decide +kernel⟩⟩,
    ⟨(peerState 6 (fit 8 [1])), ((peerState 6 (fit 8 [1])).peerTaken 7 (msgOf 6 (fit 8 [1])) []), (7), (2), (1), (0), (1), (⟨true, 1, 0, 0, true, false, 3, [0]⟩), (msgOf 6 (fit 8 [1])), (peerBytes 6 (fit 8 [1])), ([]), by exact ⟨by decide +kernel, rfl, by decide +kernel⟩⟩,
    ⟨{ peerState 6 (fit 8 [1]) with mirror.areas := [] }, (State.peerTaken { peerState 6 (fit 8 [1]) with mirror.areas := [] } 7 (msgOf 6 (fit 8 [1])) []), (7), (2), (1), (msgOf 6 (fit 8 [1])), (peerBytes 6 (fit 8 [1])), ([]), by exact ⟨by decide +kernel, rfl, by decide +kernel⟩⟩,
    ⟨{ peerState 6 (zeros 8) with mirror.areas := [{ bound := some 2 }, {}] }, (State.peerTaken { peerState 6 (zeros 8) with mirror.areas := [{ bound := some 2 }, {}] } 7 (msgOf 6 (zeros 8)) []), (7), (2), (1), (0), (msgOf 6 (zeros 8)), (peerBytes 6 (zeros 8)), ([]), by exact ⟨by decide +kernel, rfl, by decide +kernel⟩⟩,
    ⟨(peerState 8 []), ((peerState 8 []).peerTaken 7 (msgOf 8 []) []), ((peerState 8 []).peerTaken 7 (msgOf 8 []) []), (7), (2), (1), (msgOf 8 []), (peerBytes 8 []), ([]), by exact ⟨by decide +kernel, rfl, rfl⟩⟩⟩

theorem witness_MirrorOwnerActs_1 :
    (∃ (s t : State) (conn h lane q : Nat) (w : MirrorMsg) (m : PeerMsg) (b : List Byte) (rest : List (List Byte)), s.takesPeer conn 2 h lane m b rest ∧ t = s.peerTaken conn m rest ∧ t.mirror.state ≠ .none ∧ t.mirror.peer = h ∧ q = fieldAt m.body 0 8 ∧ t.mirror.waits.find? (fun w => w.seq == q && w.lane == lane) = some w ∧ t.expired w.deadline = false) ∧
    (∃ (s t : State) (conn h lane : Nat) (m : PeerMsg) (b : List Byte) (rest : List (List Byte)), s.takesPeer conn 2 h lane m b rest ∧ t = s.peerTaken conn m rest ∧ ((t.mirror.state = .none ∨ t.mirror.peer ≠ h ∨ t.mirror.waits.find? (fun w => w.seq == fieldAt m.body 0 8 && w.lane == lane) = none))) ∧
    (∃ (s : State) (lane seq : Nat) (w : MirrorMsg), s.runs = true ∧ s.mirror.waits.find? (fun w => w.seq == seq && w.lane == lane) = some w ∧ w.deadline < s.tick) ∧
    (∃ (s : State), s.runs = true ∧ s.mirror.state ≠ .none ∧ s.tailUnit ≠ s.mirror.tailSent ∧ s.mirror.tailTick + ticksOf 10000000 ≤ s.tick) ∧
    (∃ (s t : State) (conn h lane : Nat) (m : PeerMsg) (b : List Byte) (rest : List (List Byte)), s.takesPeer conn 7 h lane m b rest ∧ t = s.peerTaken conn m rest ∧ t.mirror.candidate = some h ∧ fieldAt m.body 0 1 = 0) ∧
    (∃ (s t : State) (conn h lane : Nat) (m : PeerMsg) (b : List Byte) (rest : List (List Byte)), s.takesPeer conn 7 h lane m b rest ∧ t = s.peerTaken conn m rest ∧ t.mirror.candidate = some h ∧ fieldAt m.body 0 1 ≠ 0) := by
  refine ⟨⟨{ peerState 2 (zeros 16) with mirror.state := .live, mirror.peer := 2, mirror.waits := [⟨0, 1, .record 5, 100, 1⟩] }, (State.peerTaken { peerState 2 (zeros 16) with mirror.state := .live, mirror.peer := 2, mirror.waits := [⟨0, 1, .record 5, 100, 1⟩] } 7 (msgOf 2 (zeros 16)) []), (7), (2), (1), (0), (⟨0, 1, .record 5, 100, 1⟩), (msgOf 2 (zeros 16)), (peerBytes 2 (zeros 16)), ([]), by exact ⟨by decide +kernel, rfl, by decide +kernel⟩⟩,
    ⟨(peerState 2 (zeros 16)), ((peerState 2 (zeros 16)).peerTaken 7 (msgOf 2 (zeros 16)) []), (7), (2), (1), (msgOf 2 (zeros 16)), (peerBytes 2 (zeros 16)), ([]), by exact ⟨by decide +kernel, rfl, by decide +kernel⟩⟩,
    ⟨{ packetState 0 [] with now := 640, mirror.state := .live, mirror.waits := [⟨0, 1, .record 5, 0, 1⟩] }, (1), (0), (⟨0, 1, .record 5, 0, 1⟩), by decide⟩,
    ⟨{ packetState 0 [] with now := 640000000, mirror.state := .live, wp.head := 7 }, by decide⟩,
    ⟨{ peerState 7 (zeros 16) with mirror.candidate := some 2 }, (State.peerTaken { peerState 7 (zeros 16) with mirror.candidate := some 2 } 7 (msgOf 7 (zeros 16)) []), (7), (2), (1), (msgOf 7 (zeros 16)), (peerBytes 7 (zeros 16)), ([]), by exact ⟨by decide +kernel, rfl, by decide +kernel⟩⟩,
    ⟨{ peerState 7 (fit 16 [2]) with mirror.candidate := some 2 }, (State.peerTaken { peerState 7 (fit 16 [2]) with mirror.candidate := some 2 } 7 (msgOf 7 (fit 16 [2])) []), (7), (2), (1), (msgOf 7 (fit 16 [2])), (peerBytes 7 (fit 16 [2])), ([]), by exact ⟨by decide +kernel, rfl, by decide +kernel⟩⟩⟩

theorem witness_MirrorOwnerActs_2 :
    (∃ (s : State), s.runs = true ∧ s.mesh = false ∧ s.mirror.state = .none ∧ s.mirror.bound = false ∧ s.mirror.candidate = none ∧ s.mirror.retryAt ≤ s.tick ∧ s.activeHeads ≠ []) ∧
    (∃ (s : State), s.runs = true ∧ s.mirror.bound = true ∧ s.mirror.state = .none ∧ s.lanesReady s.mirror.peer = true) ∧
    (∃ (s : State), s.runs = true ∧ s.mirror.state = .resilvering ∧ s.mirror.resilver = [] ∧ s.mirror.resilverJournal = []) ∧
    (∃ (s t : State) (conn h lane : Nat) (m : PeerMsg) (b : List Byte) (rest : List (List Byte)), s.takesPeer conn 9 h lane m b rest ∧ t = s.peerTaken conn m rest) := by
  refine ⟨⟨{ packetState 0 [] with head := { configuration := 1, headId := 1, joined := true, peers := [(2, { state := 1 })] } }, by decide⟩,
    ⟨{ packetState 0 [] with mirror.bound := true, mirror.peer := 2, net.conns := [(7, { state := .ready, use := .peer 2 1 }), (8, { state := .ready, use := .peer 2 2 }), (9, { state := .ready, use := .peer 2 3 })] }, by decide⟩,
    ⟨{ packetState 0 [] with mirror.state := .resilvering, mirror.peer := 2 }, by decide⟩,
    ⟨(peerState 9 (zeros 8)), ((peerState 9 (zeros 8)).peerTaken 7 (msgOf 9 (zeros 8)) []), (7), (2), (1), (msgOf 9 (zeros 8)), (peerBytes 9 (zeros 8)), ([]), by exact ⟨by decide +kernel, rfl⟩⟩⟩

theorem witness_TakeoverActs :
    (∃ (s : State) (h : Nat) (t : Takeover) (ms : List Nat) (m : Nat), s.runs = true ∧ s.heads.takeovers.find? (fun t => t.failed == h && !t.probed) = some t ∧ t.deadline ≤ s.tick ∧ s.footing.active = false ∧ s.attachedModules = m :: ms ∧ s.ownedDomains ≠ []) ∧
    (∃ (s : State) (h : Nat) (t : Takeover) (ms : List Nat) (m : Nat), s.runs = true ∧ s.heads.takeovers.find? (fun t => t.failed == h && !t.probed) = some t ∧ t.deadline ≤ s.tick ∧ s.footing.active = false ∧ s.attachedModules = m :: ms ∧ s.ownedDomains = []) ∧
    (∃ (s : State) (d i h : Nat) (all rs : List (Nat × Nat × Nat × Nat)) (x : Nat × Bool × State), s.runs = true ∧ (s.domain d).takeover = some h ∧ s.liveArea h = some i ∧ (s.domain d).state = .acquiring ∧ (s.domain d).journalDone = true ∧ (s.domain d).mirrorDone = false ∧ all = (s.area i).records.filter (fun r => r.2.2.2 == d) ∧ rs = all.filter (fun r => !s.mirrorApplied d r.1 && !(s.area i).lost.contains r.1) ∧ x = s.replayRecords i d rs 0 ∧ all.any (fun r => !s.mirrorApplied d r.1 && (s.area i).lost.contains r.1) = false) ∧
    (∃ (s : State) (h : Nat) (t : Takeover) (u v : State), s.runs = true ∧ s.heads.takeovers.find? (fun t => t.failed == h) = some t ∧ t.started = true ∧ t.domains.all (s.replayEnded h) = true ∧ u = (t.domains.filter fun d => (s.domain d).state == .acquiring && (s.domain d).takeover == some h).foldl (fun u d => u.finishAcquire d) s ∧ v = (match u.liveArea h with | some i => u.freeArea i | none => u)) := by
  refine ⟨⟨{ packetState 0 [] with domains := [(7, { state := .owned })], flash.modules := [(3, { state := .attached })], heads.takeovers := [⟨2, [9], 0, 0, false, [], false, none, 0, false⟩] }, (2), (⟨2, [9], 0, 0, false, [], false, none, 0, false⟩), ([]), (3), by decide⟩,
    ⟨{ packetState 0 [] with flash.modules := [(3, { state := .attached })], heads.takeovers := [⟨2, [9], 0, 0, false, [], false, none, 0, false⟩] }, (2), (⟨2, [9], 0, 0, false, [], false, none, 0, false⟩), ([]), (3), by decide⟩,
    ⟨{ packetState 0 [] with domains := [(9, { state := .acquiring, journalDone := true, takeover := some 2 })], mirror.areas := [{ bound := some 2, liveAt := true }, {}], heads.takeovers := [⟨2, [9], 0, 0, true, [], false, none, 0, true⟩] }, (9), (0), (2), ([]), ([]), ((0, true, { packetState 0 [] with domains := [(9, { state := .acquiring, journalDone := true, takeover := some 2 })], mirror.areas := [{ bound := some 2, liveAt := true }, {}], heads.takeovers := [⟨2, [9], 0, 0, true, [], false, none, 0, true⟩] })), by exact ⟨by decide, by decide, by decide +kernel, by decide, by decide, by decide, by decide +kernel, by decide +kernel, rfl, by decide +kernel⟩⟩,
    ⟨{ packetState 0 [] with heads.takeovers := [⟨2, [], 0, 0, true, [], false, none, 0, true⟩] }, (2), (⟨2, [], 0, 0, true, [], false, none, 0, true⟩), { packetState 0 [] with heads.takeovers := [⟨2, [], 0, 0, true, [], false, none, 0, true⟩] }, { packetState 0 [] with heads.takeovers := [⟨2, [], 0, 0, true, [], false, none, 0, true⟩] }, by exact ⟨by decide, by decide +kernel, by decide, by decide +kernel, rfl, rfl⟩⟩⟩

theorem witness_ReplicationPacketsAct :
    (∃ (s t u : State) (op : PktOp) (p : Packet) (n : Namespace) (i c : Nat) (x : Session), s.takes op 0x0910 p ∧ s.head.configuration ≠ 0 ∧ p.f 0 1 = i ∧ s.ns? (p.f 4 4) = some n ∧ s.owns n.domain = true ∧ s.power.islands.getD 31 .asleep = .awake ∧ (s.session i).role = 0 ∧ ((p.f 2 1 = 1 → p.f 1 1 = 1 ∧ classOf n.cls ≠ 1)) ∧ ((bit (p.f 3 1) 0 = true → s.noCipher = false ∧ (s.keySlot (p.f 17 1)).kind = 2)) ∧ (if (p.bytes 40 16).all (· == 0) then some 0 else s.snapOf (p.f 4 4) n.domain (p.bytes 40 16)) = some c ∧ x = { role := p.f 1 1, mode := p.f 2 1, flags := p.f 3 1, nsid := p.f 4 4, tag := p.f 8 8, port := p.f 16 1, keySlot := p.f 17 1, timeout := p.f 20 4, ip := p.bytes 24 16, state := 1, common := c, baseLabel := p.bytes 40 16, conn := if p.f 1 1 = 1 then s.freeContext else none, dirty := decide (3 ≤ p.f 1 1) && (s.domain n.domain).tookOver } ∧ t = { s with heads.sessions := s.heads.sessions.set i x } ∧ u = (if c = 0 then t else t.replFlag n.domain c true)) ∧
    (∃ (s t u : State) (op : PktOp) (p : Packet) (i : Nat), s.takesSession op 0x0911 p i ∧ t = (((if (s.session i).sync = [] then s else s.breakSync i).rollTarget i).clearReplFlags i) ∧ u = { t with heads.sessions := t.heads.sessions.del i }) ∧
    (∃ (s t : State) (op : PktOp) (p : Packet) (i d : Nat) (l : Layer) (base : Option Layer) (rs : List DeltaRec), s.takesSession op 0x0912 p i ∧ (s.session i).role ≤ 2 ∧ (((s.session i).state = 1 ∨ ((s.session i).state = 3 ∧ (s.session i).role = 1 ∧ s.replReady (s.session i) = true))) ∧ p.f 4 4 = (s.session i).common ∧ d = ((s.ns? (s.session i).nsid).map Namespace.domain).getD 0 ∧ s.layer? d (p.f 8 4) = some l ∧ l.kind = 2 ∧ l.nsid = (s.session i).nsid ∧ base = (if p.f 4 4 = 0 then none else s.layer? d (p.f 4 4)) ∧ (l.root :: (base.map Layer.root).toList).flatMap (fun r => if r = 0 then [] else s.absentPages 7 r) = [] ∧ rs = s.deltaRecords base l ∧ t = ((s.replyOk p).replFlag d (p.f 8 4) true).updSession i (fun y => replStat 4 (coveredBytes rs) { y with state := 2, sending := p.f 8 4, records := rs, offers := y.offers.keep fun q _ => y.sync.has q, unanswered := 0, ended := false, delta := [0, 0, 0] })) ∧
    (∃ (s : State) (op : PktOp) (p : Packet) (i : Nat) (x : Session), s.takesSession op 0x0913 p i ∧ x = s.session i) ∧
    (∃ (s : State) (op : PktOp) (p : Packet) (i : Nat) (x : Session) (ms out : List (List Byte)), s.takesSession op 0x0914 p i ∧ x = s.session i ∧ ((x.role = 2 ∨ x.role = 4)) ∧ x.state ≠ 3 ∧ cutMessages (p.f 4 4 / 32 + 1) x.rxSeq ((p.buffer op).take (p.f 4 4)) = some ms ∧ out = fitMessages (p.dataLen - p.f 8 4) x.txq) ∧
    (∃ (s : State) (i q : Nat) (e : Nat × Nat × Nat), s.runs = true ∧ (s.session i).sync.get? q = some e ∧ e.2.2 < s.tick) := by
  refine ⟨⟨(replPacket 0x0910 0 0 (fit 56 (le 1 5 ++ le 1 2 ++ zeros 2 ++ le 4 1 ++ le 8 7))), (_), (_), (runOp), (packetIn 0x0910 (fit 56 (le 1 5 ++ le 1 2 ++ zeros 2 ++ le 4 1 ++ le 8 7))), (hostNs), (5), (0), (_), by exact ⟨by decide +kernel, by decide, by decide, by decide +kernel, by decide +kernel, by decide +kernel, by decide +kernel, by decide +kernel, by decide +kernel, by decide +kernel, rfl, rfl, rfl⟩⟩,
    ⟨(replPacket 0x0911 2 1 (zeros 4)), (_), (_), (runOp), (packetIn 0x0911 (zeros 4)), (0), by exact ⟨by decide +kernel, rfl, rfl⟩⟩,
    ⟨(replPacket 0x0912 2 1 (fit 12 (zeros 8 ++ le 4 3))), (_), (runOp), (packetIn 0x0912 (fit 12 (zeros 8 ++ le 4 3))), (0), (0), { kind := 2, levels := 1, nsid := 1, createStamp := 0, nsze := 0 }, (none), ([]), by exact ⟨by decide +kernel, by decide +kernel, by decide +kernel, by decide +kernel, by decide +kernel, by decide +kernel, by decide, by decide +kernel, by decide +kernel, by decide +kernel, by decide +kernel, rfl⟩⟩,
    ⟨(replPacket 0x0913 4 1 (zeros 4)), (runOp), (packetIn 0x0913 (zeros 4)), (0), { role := 4, nsid := 1, tag := 7, state := 1, rxq := [[]] }, by decide⟩,
    ⟨(replPacket 0x0914 4 1 (zeros 12)), (runOp), (packetIn 0x0914 (zeros 12)), (0), { role := 4, nsid := 1, tag := 7, state := 1, rxq := [[]] }, ([]), ([]), by decide⟩,
    ⟨{ packetState 0 [] with now := 640, heads.sessions := [(3, { role := 1, mode := 1, sync := [(9, (4, 5, 0))] })] }, (3), (9), ((4, 5, 0)), by decide⟩⟩

theorem witness_ReplicationMessagesAct_1 :
    (∃ (s u : State) (i : Nat) (m : PeerMsg) (b mine : List Byte) (n : Namespace), s.takesRepl i 0x20 m b ∧ u.ns? (u.session i).nsid = some n ∧ mine = (if (u.session i).common = 0 then zeros 16 else ((u.layer? n.domain (u.session i).common).map Layer.label).getD (zeros 16)) ∧ u = s.rollTarget i) ∧
    (∃ (s : State) (i n : Nat) (m : PeerMsg) (b : List Byte) (rs : List DeltaRec) (y : List Nat × List Nat × State), s.takesRepl i 0x21 m b ∧ n = fieldAt m.body 0 2 ∧ rs = (List.range n).map (fun k => parseDeltaRec (slice m.body (8 + 48 * k) 48)) ∧ (s.session i).receiving = true ∧ s.targetKey i = true ∧ 6 * n ≤ s.pagesFree ∧ s.targetRoom n 0 = true ∧ s.absentIndex i rs = [] ∧ y = s.takeRecords i rs) ∧
    (∃ (s t : State) (i q : Nat) (m : PeerMsg) (b : List Byte), s.takesRepl i 0x22 m b ∧ q = fieldAt m.body 0 8 ∧ (s.session i).offers.has q = true ∧ (s.session i).unanswered ≠ 0 ∧ t = s.updSession i (fun x => { x with unanswered := x.unanswered - 1 })) ∧
    (∃ (s : State) (i q k : Nat) (m : PeerMsg) (b : List Byte) (ks : List Nat) (r : DeltaRec), s.takesRepl i 0x23 m b ∧ q = fieldAt m.body 0 8 ∧ k = fieldAt m.body 8 1 ∧ (s.session i).wanted.get? q = some ks ∧ ((s.session i).offers.getD q [])[k]? = some r ∧ k ∈ ks ∧ s.targetRoom 1 (fieldAt m.body 12 4 / 256 + 1) = true) ∧
    (∃ (s t u : State) (i id : Nat) (m : PeerMsg) (b : List Byte) (n : Namespace), s.takesRepl i 0x24 m b ∧ s.ns? (s.session i).nsid = some n ∧ (s.session i).receiving = true ∧ ((∀ w ∈ (s.session i).wanted, (s.session i).syncIn.has w.1 = true)) ∧ s.layersToCome < layerLimit ∧ (s.staged.any fun r => !r.applied && !r.dropped && r.nsid == (s.session i).nsid && r.deltas.any fun d => d.op == 15) = false ∧ id = (s.mdom n.domain).nextLayer ∧ t = s.updMdom n.domain (fun m => { m with nextLayer := m.nextLayer + 1 }) ∧ u = t.closeStream n.domain 0 (t.rankOf 16)) ∧
    (∃ (s : State) (i : Nat) (m : PeerMsg) (b : List Byte), s.takesRepl i 0x25 m b ∧ (s.session i).state = 2 ∧ fieldAt m.body 0 1 = 0) := by
  refine ⟨⟨(replState 4 2 0x20 (zeros 48)), (_), (0), (replMsg 0x20 (zeros 48)), (replBytes 0x20 (zeros 48)), (zeros 16), (hostNs), by exact ⟨by decide +kernel, by decide +kernel, by decide +kernel, rfl⟩⟩,
    ⟨{ replState 4 2 0x21 (zeros 8) with wp.limit := 10000, run.wsnCeiling := 100, nvme.namespaces := [(1, { subsys := 1, domain := 0, cls := 2, nsze := 4096, lbaf := 0, pi := 0, tag := 0, keySlot := 0xFF, nguid := [], eui := [] })] }, (0), (0), (replMsg 0x21 (zeros 8)), (replBytes 0x21 (zeros 8)), ([]), (([], [], { replState 4 2 0x21 (zeros 8) with wp.limit := 10000, run.wsnCeiling := 100, nvme.namespaces := [(1, { subsys := 1, domain := 0, cls := 2, nsze := 4096, lbaf := 0, pi := 0, tag := 0, keySlot := 0xFF, nguid := [], eui := [] })] })), by exact ⟨by decide +kernel, by decide +kernel, by decide +kernel, by decide +kernel, by decide +kernel, by decide +kernel, by decide +kernel, by decide +kernel, rfl⟩⟩,
    ⟨{ replState 2 2 0x22 (zeros 16) with heads.sessions := [(0, { role := 2, nsid := 1, tag := 7, state := 2, rxq := [replBytes 0x22 (zeros 16)], offers := [(0, [])], unanswered := 1 })] }, (State.updSession 0 (fun x => { x with unanswered := x.unanswered - 1 }) { replState 2 2 0x22 (zeros 16) with heads.sessions := [(0, { role := 2, nsid := 1, tag := 7, state := 2, rxq := [replBytes 0x22 (zeros 16)], offers := [(0, [])], unanswered := 1 })] }), (0), (0), (replMsg 0x22 (zeros 16)), (replBytes 0x22 (zeros 16)), by exact ⟨by decide +kernel, by decide +kernel, by decide +kernel, by decide +kernel, rfl⟩⟩,
    ⟨{ replState 4 2 0x23 (zeros 16) with wp.limit := 10000, run.wsnCeiling := 100, heads.sessions := [(0, { role := 4, nsid := 1, tag := 7, state := 2, rxq := [replBytes 0x23 (zeros 16)], offers := [(0, [{ ashlar := 0, op := 7 }])], wanted := [(0, [0])] })] }, (0), (0), (0), (replMsg 0x23 (zeros 16)), (replBytes 0x23 (zeros 16)), ([0]), { ashlar := 0, op := 7 }, by decide⟩,
    ⟨(replState 4 2 0x24 []), ((replState 4 2 0x24 []).updMdom 0 (fun m => { m with nextLayer := m.nextLayer + 1 })), (State.closeStream 0 0 7 ((replState 4 2 0x24 []).updMdom 0 (fun m => { m with nextLayer := m.nextLayer + 1 }))), (0), (1), (replMsg 0x24 []), (replBytes 0x24 []), (hostNs), by exact ⟨by decide +kernel, by decide +kernel, by decide +kernel, by decide +kernel, by decide +kernel, by decide +kernel, by decide +kernel, rfl, rfl⟩⟩,
    ⟨{ replState 2 2 0x25 (zeros 8) with heads.sessions := [(0, { role := 2, nsid := 1, tag := 7, state := 2, sending := 3, rxq := [replBytes 0x25 (zeros 8)] })] }, (0), (replMsg 0x25 (zeros 8)), (replBytes 0x25 (zeros 8)), by decide⟩⟩

theorem witness_ReplicationMessagesAct_2 :
    (∃ (s : State) (i : Nat) (m : PeerMsg) (b : List Byte), s.takesRepl i 0x25 m b ∧ (s.session i).state = 2 ∧ fieldAt m.body 0 1 ≠ 0) ∧
    (∃ (s t : State) (i q k w due : Nat) (m : PeerMsg) (b : List Byte), s.takesRepl i 0x27 m b ∧ (s.session i).sync.find? (fun e => e.2.2.1 == m.wsn) = some (q, k, w, due) ∧ t = s.updSession i (fun x => { x with sync := x.sync.del q, offers := x.offers.del q })) ∧
    (∃ (s : State) (i : Nat) (m : PeerMsg) (b : List Byte), s.takesRepl i 0x26 m b ∧ ((parseSync (bit m.flags 0) m.body = none ∨ s.targetKey i = false))) ∧
    (∃ (s : State) (i : Nat) (m : PeerMsg) (b : List Byte) (rs : List DeltaRec) (y : List Nat × List Nat × State), s.takesRepl i 0x26 m b ∧ parseSync (bit m.flags 0) m.body = some (rs, []) ∧ s.targetKey i = true ∧ 6 * rs.length ≤ s.pagesFree ∧ s.targetRoom rs.length 0 = true ∧ s.absentIndex i rs = [] ∧ y = s.takeRecords i rs ∧ ((∀ k ∈ y.2.1, ∃ r, rs[k]? = some r ∧ r.offer = true))) := by
  refine ⟨⟨{ replState 2 2 0x25 (fit 8 [3]) with heads.sessions := [(0, { role := 2, nsid := 1, tag := 7, state := 2, sending := 3, rxq := [replBytes 0x25 (fit 8 [3])] })] }, (0), (replMsg 0x25 (fit 8 [3])), (replBytes 0x25 (fit 8 [3])), by decide⟩,
    ⟨{ replState 1 1 0x27 (zeros 16) with heads.sessions := [(0, { role := 1, mode := 1, nsid := 1, tag := 7, state := 1, rxq := [replBytes 0x27 (zeros 16)], sync := [(9, (5, 4, 0))] })] }, (State.updSession 0 (fun x => { x with sync := x.sync.del 9, offers := x.offers.del 9 }) { replState 1 1 0x27 (zeros 16) with heads.sessions := [(0, { role := 1, mode := 1, nsid := 1, tag := 7, state := 1, rxq := [replBytes 0x27 (zeros 16)], sync := [(9, (5, 4, 0))] })] }), (0), (9), (5), (4), (0), (replMsg 0x27 (zeros 16)), (replBytes 0x27 (zeros 16)), by exact ⟨by decide +kernel, by decide +kernel, rfl⟩⟩,
    ⟨(replState 4 1 0x26 (zeros 1)), (0), (replMsg 0x26 (zeros 1)), (replBytes 0x26 (zeros 1)), by decide⟩,
    ⟨{ replState 4 1 0x26 [] with wp.limit := 10000, run.wsnCeiling := 100 }, (0), (replMsg 0x26 []), (replBytes 0x26 []), ([]), (([], [], { replState 4 1 0x26 [] with wp.limit := 10000, run.wsnCeiling := 100 })), by exact ⟨by decide +kernel, by decide +kernel, by decide +kernel, by decide +kernel, by decide +kernel, by decide +kernel, rfl, by decide +kernel⟩⟩⟩

theorem witness_StartupActs_1 :
    (∃ (s : State) (lost : List Nat) (bad weak : List (Nat × Nat)), s.romMayStart = true) ∧
    (∃ (s : State), s.runs = true ∧ s.mason.boot = .chosen) ∧
    (∃ (s : State) (dimms : List DimmReport) (headerOk sectionsOk : Bool), s.direct.phase = 2 ∧ s.mason.boot = .running ∧ s.fetching = true ∧ s.dram.trained = false) ∧
    (∃ (s t : State) (hods hs : List Nat) (ways ws : List (Nat × Nat)) (sram : Bool) (channels cs : List Nat) (engines es : List (Nat × Nat)) (lanes ls : List Nat) (n : Nat), s.direct.phase = 3 ∧ s.fetching = true ∧ hs = (hods.filter fun h => decide (h < 64)).eraseDups ∧ ws = (ways.filter fun w => decide (w.1 < 1536) && decide (w.2 < 16)).eraseDups ∧ cs = (channels.filter fun c => decide (c < 12) && (s.dramChannel c).dimm == .trained).eraseDups ∧ es = (engines.filter fun e => decide (64 ≤ e.1) && decide (e.1 ≤ 75)).eraseDups ∧ ls = (lanes.filter fun l => decide (l < 144)).eraseDups ∧ n = hs.length + ws.length + boolNat sram + cs.length + es.length + ls.length ∧ t = es.foldl (fun s e => s.failEngine e) (cs.foldl (fun s c => s.failChannel c) (ws.foldl (fun s w => s.failWay w) (hs.foldl (fun s h => s.failHod h) s.freed)))) ∧
    (∃ (s : State), s.direct.phase = 4 ∧ s.fetching = true ∧ s.wp.logUnits = 0) ∧
    (∃ (s : State), s.direct.phase = 4 ∧ s.fetching = true ∧ s.wp.logUnits ≠ 0 ∧ s.head.configuration = 0) := by
  refine ⟨⟨{ power := { internalReset := false, sampled := true, pwrGood := true } }, ([]), ([]), ([]), by decide⟩,
    ⟨{ packetState 0 [] with mason.boot := .chosen }, by decide⟩,
    ⟨{ packetState 0 [] with direct.phase := 2, mason.boot := .running }, ([]), (true), (true), by decide⟩,
    ⟨{ packetState 0 [] with direct.phase := 3 }, (State.failHod 63 (State.freed { packetState 0 [] with direct.phase := 3 })), ([63, 64]), ([63]), ([]), ([]), (false), ([]), ([]), ([]), ([]), ([143, 144]), ([143]), (2), by exact ⟨by decide, by decide, by decide +kernel, rfl, rfl, rfl, by decide +kernel, by decide, rfl⟩⟩,
    ⟨{ packetState 0 [] with direct.phase := 4 }, by decide⟩,
    ⟨{ packetState 0 [] with direct.phase := 4, wp.logUnits := 256 }, by decide⟩⟩

theorem witness_StartupActs_2 :
    (∃ (s : State), s.direct.phase = 4 ∧ s.fetching = true ∧ s.wp.logUnits ≠ 0 ∧ s.head.configuration ≠ 0 ∧ s.mason.serviceBy = none) ∧
    (∃ (s : State) (d : Nat), s.direct.phase = 4 ∧ s.fetching = true ∧ s.wp.logUnits ≠ 0 ∧ s.head.configuration ≠ 0 ∧ s.mason.serviceBy = some d) ∧
    (∃ (s : State) (memory : Bool) (loc : Nat), s.coreRuns = true ∧ s.power.selfRefreshing = false) ∧
    (∃ (s : State), s.coreRuns = true ∧ s.power.selfRefreshing = false ∧ s.mason.lastBeat + 100000000 ≤ s.now) ∧
    (∃ (s t : State) (cause loc : Nat), t = s.granted.writeSummary { header := s.dumpHeader 4 cause 6 ⟨0, 0, loc, s.now, zeros 32⟩ (s.power.drain != .none || s.power.pdown != .none) }) := by
  refine ⟨⟨{ packetState 0 [] with direct.phase := 4, wp.logUnits := 256, head.configuration := 1 }, by decide⟩,
    ⟨{ packetState 0 [] with direct.phase := 4, wp.logUnits := 256, head.configuration := 1, mason.serviceBy := some 5 }, (5), by decide⟩,
    ⟨{ packetState 0 [] with mason.boot := .running }, (true), (0), by decide⟩,
    ⟨{ packetState 0 [] with mason.boot := .running, now := 100000000 }, by decide⟩,
    ⟨{ packetState 0 [] with mason.boot := .running }, (_), (6), (0), by exact rfl⟩⟩

theorem witness_MemoryAndTimersAct_1 :
    (∃ (s : State) (a n g : Nat) (set : List Nat), set = (List.range 12).filter (fun c => bit s.trainedSet c) ∧ n = set.length ∧ n ≠ 0 ∧ a < s.dramBytes ∧ g = a / 256) ∧
    (∃ (s : State) (a : Nat), s.dramBytes ≤ a) ∧
    (∃ (s : State) (channel lines : Nat) (hits : List LintelHit), s.dump.stage = .none ∧ channel < 12 ∧ (s.dramChannel channel).dimm = .trained ∧ s.dram.scrubHours ≠ 0) ∧
    (∃ (s : State) (island : Nat) (hits : List LintelHit), s.dump.stage = .none ∧ island < 37 ∧ s.power.islands.getD island .asleep = .awake) ∧
    (∃ (s : State) (hits : List LintelHit) (ps : List ParityHit), s.dump.stage = .none ∧ s.power.islands.getD 20 .asleep = .awake) ∧
    (∃ (s : State) (failure : Nat), s.power.firmwareRunning = true ∧ s.run.lastCheckpoint + 2 ^ 34 ≤ s.now) := by
  refine ⟨⟨{ packetState 0 [] with dram.trained := true, dram.channels := List.replicate 12 { dimm := .trained, capacity := 2 ^ 34 } }, (256 * 13 + 64), (12), (13), ([0, 1, 2, 3, 4, 5, 6, 7, 8, 9, 10, 11]), by decide⟩,
    ⟨(packetState 0 []), (0), by decide⟩,
    ⟨{ packetState 0 [] with dram.channels := List.replicate 12 { dimm := .trained } }, (11), (1), ([]), by decide⟩,
    ⟨{ packetState 0 [] with power.islands := List.replicate 37 .awake }, (36), ([]), by decide⟩,
    ⟨{ packetState 0 [] with power.islands := List.replicate 37 .awake }, ([]), ([]), by decide⟩,
    ⟨{ packetState 0 [] with now := 2 ^ 34 }, (1), by decide⟩⟩

theorem witness_MemoryAndTimersAct_2 :
    (∃ (s : State) (d : Nat), s.runs = true ∧ d < 256 ∧ s.nvme.ana.getD d 3 = 15 ∧ (s.domain d).state = .acquiring ∧ s.nvme.anaSince.getD d 0 + ticksOf 30000000000 < s.tick) ∧
    (∃ (s u : State) (h : Nat) (t : Task), h < 64 ∧ (s.hod h).disabled = false ∧ ((s.takeTask h true = some (t, u) ∨ (s.takeTask h true = none ∧ s.takeTask h false = some (t, u))))) ∧
    (∃ (s : State) (h : Nat) (urgent : Bool) (t : Task) (rest : List Task), ((s.hod h).deque urgent).reverse = t :: rest) ∧
    (∃ (s : State) (h v : Nat) (urgent : Bool) (t : Task) (rest : List Task), (s.hod h).deque urgent = [] ∧ (victims h).find? (fun v => !((s.hod v).deque urgent).isEmpty) = some v ∧ (s.hod v).deque urgent = t :: rest) := by
  refine ⟨⟨{ packetState 0 [] with now := 2 ^ 35, domains := [(255, { state := .acquiring })], nvme.ana := List.replicate 256 15 }, (255), by decide⟩,
    ⟨{ packetState 0 [] with mason.hods := { urgent := [⟨0x20, 4, true, 0, 0, 40⟩] } :: List.replicate 63 {} }, { packetState 0 [] with mason.hods := {} :: List.replicate 63 {} }, (0), (⟨0x20, 4, true, 0, 0, 40⟩), by exact ⟨by decide, by decide +kernel, Or.inl rfl⟩⟩,
    ⟨{ packetState 0 [] with mason.hods := { urgent := [⟨0x20, 4, true, 0, 0, 40⟩] } :: List.replicate 63 {} }, (0), (true), (⟨0x20, 4, true, 0, 0, 40⟩), ([]), by decide⟩,
    ⟨{ packetState 0 [] with mason.hods := {} :: { urgent := [⟨0x20, 4, true, 0, 0, 40⟩] } :: List.replicate 62 {} }, (0), (1), (true), (⟨0x20, 4, true, 0, 0, 40⟩), ([]), by decide⟩⟩

theorem witness_TemplatePacketsAct_1 :
    (∃ (s : State) (op : PktOp) (p : Packet), s.takes op 0x0100 p ∧ s.templates.bankBusy = true) ∧
    (∃ (s : State) (op : PktOp) (p : Packet) (bank : Tab Template), s.takes op 0x0100 p ∧ s.templates.bankBusy = false ∧ p.dataLen = p.f 4 4 ∧ fit 32 (sha 1 (p.buffer op)) = p.bytes 8 32 ∧ templateFault s.mesh (p.f 0 1) (p.buffer op) = none ∧ bank = s.templates.load.set (p.f 0 1) { body := p.buffer op, digest := p.bytes 8 32, source := 2 }) ∧
    (∃ (s : State) (op : PktOp) (p : Packet) (o : Nat), s.takes op 0x0100 p ∧ s.templates.bankBusy = false ∧ p.dataLen = p.f 4 4 ∧ fit 32 (sha 1 (p.buffer op)) = p.bytes 8 32 ∧ templateFault s.mesh (p.f 0 1) (p.buffer op) = some o) ∧
    (∃ (s : State) (op : PktOp) (p : Packet), s.takes op 0x0101 p ∧ s.templates.bankBusy = false ∧ s.templates.load ≠ [] ∧ p.f 0 4 = s.templates.epoch + 1) ∧
    (∃ (s : State) (op : PktOp) (p : Packet), s.takes op 0x0102 p ∧ s.templates.bankBusy = false) ∧
    (∃ (s : State) (op : PktOp) (p : Packet) (bank : Tab Template), s.takes op 0x0103 p ∧ s.templates.bankBusy = false ∧ bank = ([1, 2, 3, 4, 5].filter fun k => bit (p.f 0 1) (k - 1)).foldl (fun b k => b.set k (s.generated k)) s.templates.load) := by
  refine ⟨⟨(packetState 0x0100 (zeros 40)), (runOp), (packetIn 0x0100 (zeros 40)), by decide⟩,
    ⟨{ packetState 0x0100 ranksLoad 32 with templates.epoch := 1 }, { runOp with data := ranksBody, dma := true }, (packetIn 0x0100 ranksLoad 32), ([(5, { body := ranksBody, digest := fit 32 (sha 1 ranksBody), source := 2 })]), by exact ⟨by decide +kernel, by decide, by decide +kernel, by decide +kernel, by decide +kernel, by decide +kernel⟩⟩,
    ⟨{ packetState 0x0100 (fit 40 (le 1 5 ++ zeros 3 ++ le 4 32 ++ fit 32 (sha 1 (zeros 32)))) 32 with templates.epoch := 1 }, { runOp with data := zeros 32, dma := true }, (packetIn 0x0100 (fit 40 (le 1 5 ++ zeros 3 ++ le 4 32 ++ fit 32 (sha 1 (zeros 32)))) 32), (3), by exact ⟨by decide +kernel, by decide, by decide +kernel, by decide +kernel, by decide +kernel⟩⟩,
    ⟨{ packetState 0x0101 (fit 40 (le 4 2)) with templates.epoch := 1, templates.load := [(5, { body := zeros 32, digest := zeros 32, source := 2 })] }, (runOp), (packetIn 0x0101 (fit 40 (le 4 2))), by decide⟩,
    ⟨{ packetState 0x0102 [] with templates.epoch := 1 }, (runOp), (packetIn 0x0102 []), by decide⟩,
    ⟨{ packetState 0x0103 (zeros 4) with templates.epoch := 1 }, (runOp), (packetIn 0x0103 (zeros 4)), ([]), by decide⟩⟩

theorem witness_TemplatePacketsAct_2 :
    (∃ (s : State), s.oldBankDrained = true) ∧
    (∃ (s : State) (op : PktOp) (p : Packet), s.takes op 0x0104 p) ∧
    (∃ (s : State) (op : PktOp) (p : Packet), s.takes op 0x0105 p) ∧
    (∃ (s : State) (op : PktOp) (p : Packet), s.takes op 0x0106 p) := by
  refine ⟨⟨{ packetState 0 [] with templates.epoch := 2, templates.draining := some [], flash.frameEpoch := 2 }, by decide⟩,
    ⟨(packetState 0x0104 (zeros 4)), (runOp), (packetIn 0x0104 (zeros 4)), by decide⟩,
    ⟨(packetState 0x0105 []), (runOp), (packetIn 0x0105 []), by decide⟩,
    ⟨(packetState 0x0106 []), (runOp), (packetIn 0x0106 []), by decide⟩⟩

theorem witness_VaultPacketsAct_1 :
    (∃ (s : State) (op : PktOp) (p : Packet), s.takes op 0x0B00 p) ∧
    (∃ (s : State) (op : PktOp) (p : Packet) (bad : List Nat) (weak : List (Nat × Nat)), s.takes op 0x0B01 p ∧ s.mason.lowering = true) ∧
    (∃ (s : State) (op : PktOp) (p : Packet), s.takes op 0x0B01 p ∧ s.mason.lowering = false ∧ readable (p.f 0 1) s.bootRec.level = true ∧ p.f 4 8 + p.dataLen ≤ 64 * (partitionSpan (p.f 0 1)).2 * 4096) ∧
    (∃ (s : State) (op : PktOp) (p : Packet) (bad : List Nat) (weak : List (Nat × Nat)), s.takes op 0x0B01 p ∧ s.mason.lowering = false ∧ readable (p.f 0 1) s.bootRec.level = false) ∧
    (∃ (s : State) (op : PktOp) (p : Packet), s.takes op 0x0B02 p ∧ s.mason.lowering = false ∧ s.canProgram = true ∧ s.bootRec.level ≤ p.f 0 1) ∧
    (∃ (s : State) (op : PktOp) (p : Packet), s.takes op 0x0B02 p ∧ s.mason.lowering = false ∧ s.vaultReady = true ∧ p.f 0 1 < s.bootRec.level ∧ p.f 1 1 = 0xA5) := by
  refine ⟨⟨(packetState 0x0B00 []), (runOp), (packetIn 0x0B00 []), by decide⟩,
    ⟨{ packetState 0x0B01 (zeros 12) with mason.lowering := true }, (runOp), (packetIn 0x0B01 (zeros 12)), ([]), ([]), by decide⟩,
    ⟨(packetState 0x0B01 ([5] ++ zeros 11)), (runOp), (packetIn 0x0B01 ([5] ++ zeros 11)), by decide⟩,
    ⟨(packetState 0x0B01 ([2] ++ zeros 11)), (runOp), (packetIn 0x0B01 ([2] ++ zeros 11)), ([]), ([]), by decide⟩,
    ⟨{ packetState 0x0B02 [2, 0] with power.vbus := 9000 }, (runOp), (packetIn 0x0B02 [2, 0]), by decide⟩,
    ⟨{ packetState 0x0B02 [0, 0xA5] with power.vbus := 9000 }, (runOp), (packetIn 0x0B02 [0, 0xA5]), by decide⟩⟩

theorem witness_VaultPacketsAct_2 :
    (∃ (s : State), s.mason.lowering = true ∧ s.vaultReady = true) ∧
    (∃ (s : State) (l : Nat) (rest : List Nat), s.vault.weak = l :: rest ∧ l < 16) ∧
    (∃ (s : State) (l n : Nat) (rest : List Nat) (v : Vault), s.vault.weak = l :: rest ∧ 16 ≤ l ∧ s.vault.takeSpare = some (n, v) ∧ s.vaultReady = true) ∧
    (∃ (s : State) (b c : LogBlock) (rest : List LogBlock), s.vault.log = b :: c :: rest ∧ s.vault.logErased < 64 ∧ s.vaultReady = true ∧ ((∀ t, s.vault.lastReclaim = some t → t + 100000000 ≤ s.now))) ∧
    (∃ (s : State) (op : PktOp) (p : Packet) (n : Nat), s.takes op 0x0B03 p ∧ s.mason.lowering = false ∧ s.openSlot = some n ∧ s.digest.grant34 = none) ∧
    (∃ (s : State) (op : PktOp) (p : Packet) (slot : Nat), s.takes op 0x0B03 p ∧ s.mason.lowering = false ∧ s.openSlot = none ∧ slot = (if p.f 0 1 = 0xFF then (if s.bootRec.active = 0 then 1 else 0) else p.f 0 1) ∧ s.slotInUse slot = false ∧ manifestFault (p.buffer op) (p.buffer op).length = none ∧ manifestEncrypted (p.buffer op) = false ∧ s.bootRec.level ≠ 2 ∧ (s.chan 34).state = .free ∧ s.digest.taken34 = false ∧ s.vaultReady = true) := by
  refine ⟨⟨{ packetState 0 [] with mason.lowering := true, power.vbus := 9000 }, by decide⟩,
    ⟨{ packetState 0 [] with mason.vault.weak := [3] }, (3), ([]), by decide⟩,
    ⟨{ packetState 0 [] with mason.vault.weak := [60], mason.vault.spareUsed := 2000, mason.vault.returned := [7000], power.vbus := 9000 }, (60), (7000), ([]), { weak := [60], spareUsed := 2000 }, by exact ⟨rfl, by decide, if_neg (show ¬ 6192 + Config.factoryBadBlocks + 2000 < 8192 by omega), by decide⟩⟩,
    ⟨{ packetState 0 [] with mason.vault.log := [{ block := 0 }, { block := 1 }], mason.vault.logGone := List.range 4090, power.vbus := 9000 }, { block := 0 }, { block := 1 }, ([]), by exact ⟨by decide, by decide +kernel, by decide, by intro t h; cases h⟩⟩,
    ⟨{ packetState 0x0B03 (zeros 1) with mason.vault.boot.slots := [1, 0] }, (runOp), (packetIn 0x0B03 (zeros 1)), (0), by decide⟩,
    ⟨{ packetState 0x0B03 (zeros 1) 416 with power.vbus := 9000 }, { runOp with data := manifestBody, dma := true }, (packetIn 0x0B03 (zeros 1) 416), (0), by decide⟩⟩

theorem witness_VaultPacketsAct_3 :
    (∃ (s : State) (op : PktOp) (p : Packet) (failure slot : Nat) (plain : List Byte), s.takes op 0x0B04 p ∧ s.mason.lowering = false ∧ s.updateSlot (p.f 0 4) = some slot ∧ p.f 4 2 < chunkCount (s.image slot).manifest ∧ p.dataLen = chunkLen (s.image slot).manifest (p.f 4 2) + (if manifestEncrypted (s.image slot).manifest then 16 else 0) ∧ (s.image slot).holds (p.f 4 2) = false ∧ chunkPlain (s.image slot).manifest (p.f 4 2) (p.buffer op) = some plain ∧ fit 32 (sha 1 plain) = slice (s.image slot).manifest (384 + 32 * p.f 4 2) 32 ∧ s.vaultReady = true ∧ (s.writeBlock (imageBlock slot + 1 + p.f 4 2) failure).1 = true) ∧
    (∃ (s : State) (op : PktOp) (p : Packet) (failure : Nat), s.takes op 0x0B04 p ∧ s.mason.lowering = false ∧ s.updateSlot (p.f 0 4) = none) ∧
    (∃ (s : State) (op : PktOp) (p : Packet), s.takes op 0x0B05 p ∧ s.mason.lowering = false) ∧
    (∃ (s : State) (op : PktOp) (p : Packet) (slot : Nat) (t : State), s.takes op 0x0B06 p ∧ s.mason.lowering = false ∧ s.updateSlot (p.f 0 4) = some slot ∧ chunkCount (s.image slot).manifest ≤ (s.image slot).held.length ∧ s.canProgram = true ∧ t = { s with mason.vault.boot := { s.bootRec.setSlot slot 2 with pending := slot, attempts := 0, seq := s.bootRec.seq + 1 }, mason.closedUpdate := s.direct.recoveryBoot }) ∧
    (∃ (s : State) (op : PktOp) (p : Packet) (slot : Nat), s.takes op 0x0B06 p ∧ s.mason.lowering = false ∧ s.updateSlot (p.f 0 4) = some slot ∧ (s.image slot).held.length < chunkCount (s.image slot).manifest) ∧
    (∃ (s : State) (op : PktOp) (p : Packet) (slot : Nat), s.takes op 0x0B07 p ∧ s.mason.lowering = false ∧ s.updateSlot (p.f 0 4) = some slot ∧ s.canProgram = true) := by
  refine ⟨⟨{ packetState 0x0B04 (zeros 6) 32 with power.vbus := 9000, mason.vault.boot.slots := [1, 0], mason.vault.images := [{ manifest := manifestBody }, {}] }, { runOp with data := zeros 32, dma := true }, (packetIn 0x0B04 (zeros 6) 32), (0), (0), (zeros 32), by decide⟩,
    ⟨(packetState 0x0B04 (zeros 6)), (runOp), (packetIn 0x0B04 (zeros 6)), (0), by decide⟩,
    ⟨(packetState 0x0B05 []), (runOp), (packetIn 0x0B05 []), by decide⟩,
    ⟨{ packetState 0x0B06 (zeros 4) with power.vbus := 9000, mason.vault.boot.slots := [1, 0] }, (runOp), (packetIn 0x0B06 (zeros 4)), (0), (_), by exact ⟨by decide, by decide, by decide, by decide, by decide, rfl⟩⟩,
    ⟨{ packetState 0x0B06 (zeros 4) with mason.vault.boot.slots := [1, 0], mason.vault.images := [{ manifest := manifestBody }, {}] }, (runOp), (packetIn 0x0B06 (zeros 4)), (0), by decide⟩,
    ⟨{ packetState 0x0B07 (zeros 4) with power.vbus := 9000, mason.vault.boot.slots := [1, 0] }, (runOp), (packetIn 0x0B07 (zeros 4)), (0), by decide⟩⟩

theorem witness_VaultPacketsAct_4 :
    (∃ (s : State) (op : PktOp) (p : Packet), s.takes op 0x0B08 p ∧ s.mason.lowering = false ∧ s.direct.phase = 5 ∧ s.bootRec.slot s.mason.slot = 3 ∧ s.canProgram = true ∧ s.openSlot = none) ∧
    (∃ (s : State) (op : PktOp) (p : Packet), s.takes op 0x0B09 p ∧ s.mason.lowering = false ∧ s.canProgram = true) ∧
    (∃ (s : State) (op : PktOp) (p : Packet), s.takes op 0x0B0A p ∧ s.mason.lowering = false) := by
  refine ⟨⟨{ packetState 0x0B08 [] with power.vbus := 9000, direct.phase := 5, mason.slot := 0, mason.vault.boot.slots := [3, 0] }, (runOp), (packetIn 0x0B08 []), by decide⟩,
    ⟨{ packetState 0x0B09 [0] with power.vbus := 9000 }, (runOp), (packetIn 0x0B09 [0]), by decide⟩,
    ⟨(packetState 0x0B0A []), (runOp), (packetIn 0x0B0A []), by decide⟩⟩

theorem witness_FaultPacketsAct_1 :
    (∃ (s : State) (f : FatalFault), s.dump.fault = some f ∧ s.dump.stage = .none ∧ s.power.internalReset = false) ∧
    (∃ (s : State) (m : DumpImage) (faults : List (Nat × Nat)) (failed : List Nat) (h : DumpHeader), s.dump.image = some m ∧ s.dump.stage = .copying ∧ s.power.internalReset = false ∧ h = m.header.ended failed s.dump.second s.now) ∧
    (∃ (s : State) (m : DumpImage) (t : State), s.dump.image = some m ∧ s.dump.stage = .copied ∧ s.power.internalReset = false ∧ s.power.selfRefreshing = false ∧ t = s.writeSummary { header := m.header, image := some m }) ∧
    (∃ (s : State) (op : PktOp) (p : Packet), s.takes op 0x0C00 p) ∧
    (∃ (s : State) (op : PktOp) (p : Packet), s.takes op 0x0C01 p) ∧
    (∃ (s : State) (op : PktOp) (p : Packet) (rs : List ErrorRecord), s.takes op 0x0C02 p ∧ rs = (s.events.errors.filter fun r => decide (p.f 0 8 < r.lastStamp) || s.events.waits r)) := by
  refine ⟨⟨{ packetState 0 [] with dump.fault := some { event := 0x0A02, region := 3, location := 0, stamp := 0, params := [] } }, { event := 0x0A02, region := 3, location := 0, stamp := 0, params := [] }, by decide⟩,
    ⟨{ packetState 0 [] with dump.stage := .copying, dump.image := some { header := headerOne, errors := [], events := [] } }, { header := headerOne, errors := [], events := [] }, ([]), ([5]), (_), by exact ⟨by decide, by decide, by decide, rfl⟩⟩,
    ⟨{ packetState 0 [] with dump.stage := .copied, dump.image := some { header := headerOne, errors := [], events := [] } }, { header := headerOne, errors := [], events := [] }, (_), by exact ⟨by decide, by decide, by decide, by decide, rfl⟩⟩,
    ⟨(packetState 0x0C00 []), (runOp), (packetIn 0x0C00 []), by decide⟩,
    ⟨(packetState 0x0C01 (zeros 4)), (runOp), (packetIn 0x0C01 (zeros 4)), by decide⟩,
    ⟨(packetState 0x0C02 (zeros 8)), (runOp), (packetIn 0x0C02 (zeros 8)), ([]), by decide⟩⟩

theorem witness_FaultPacketsAct_2 :
    (∃ (s : State) (op : PktOp) (p : Packet) (m : DumpImage), s.takes op 0x0C03 p ∧ s.heldDump = some m ∧ m.header.seq = p.f 0 8) ∧
    (∃ (s : State) (op : PktOp) (p : Packet), s.takes op 0x0C03 p ∧ s.heldDump = none) ∧
    (∃ (s : State) (op : PktOp) (p : Packet), s.takes op 0x0C04 p) ∧
    (∃ (s : State) (op : PktOp) (p : Packet), s.takes op 0x0C05 p) ∧
    (∃ (s : State) (op : PktOp) (p : Packet), s.takes op 0x0C06 p ∧ s.footing.active = true ∧ s.footingMayEnd = true) ∧
    (∃ (s : State) (op : PktOp) (p : Packet), s.takes op 0x0C06 p ∧ s.footing.active = false) := by
  refine ⟨⟨{ packetState 0x0C03 (le 8 1) with dump.state := 2, dump.image := some { header := headerOne, errors := [], events := [] } }, (runOp), (packetIn 0x0C03 (le 8 1)), { header := headerOne, errors := [], events := [] }, by decide⟩,
    ⟨(packetState 0x0C03 (zeros 8)), (runOp), (packetIn 0x0C03 (zeros 8)), by decide⟩,
    ⟨(packetState 0x0C04 []), (runOp), (packetIn 0x0C04 []), by decide⟩,
    ⟨(packetState 0x0C05 [0xA5]), (runOp), (packetIn 0x0C05 [0xA5]), by decide⟩,
    ⟨{ packetState 0x0C06 [] with footing.active := true, footing.cause := 5 }, (runOp), (packetIn 0x0C06 []), by decide⟩,
    ⟨(packetState 0x0C06 []), (runOp), (packetIn 0x0C06 []), by decide⟩⟩

theorem witness_FaultPacketsAct_3 :
    (∃ (s : State) (op : PktOp) (p : Packet), s.takes op 0x0C07 p ∧ (s.bootRec.level = 0 ∨ s.power.bootMode = 2)) := by
  refine ⟨{ packetState 0x0C07 (zeros 2) with mason.vault.boot.level := 0 }, (runOp), (packetIn 0x0C07 (zeros 2)), by decide⟩

theorem witness_EmptyQueueLetsTimePass :
    (∃ (s : State), s.pending = []) ∧
    (∃ (s : State), s.now % 64 = 0) := by
  refine ⟨⟨{}, by decide⟩,
    ⟨{ now := 128 }, by decide⟩⟩

theorem witness_EveryStepKeepsTheEventBounds :
    (∃ (s t : State), s.Inv ∧ step s = .next t) := by
  refine ⟨{}, { now := 1 }, by exact ⟨by decide, rfl⟩⟩

theorem witness_FullBacklogLosesOrDisplaces :
    (∃ (v : Events) (e : Event), v.backlog.length < 1024) ∧
    (∃ (v : Events) (e : Event), 1024 ≤ v.backlog.length ∧ e.severity < 2) ∧
    (∃ (v : Events) (e m : Event) (before after : List Event), 1024 ≤ v.backlog.length ∧ 2 ≤ e.severity ∧ v.backlog = before ++ m :: after ∧ m.severity < 2 ∧ ((∀ x ∈ before, 2 ≤ x.severity))) ∧
    (∃ (v : Events) (e : Event), 1024 ≤ v.backlog.length ∧ 2 ≤ e.severity ∧ ((∀ x ∈ v.backlog, 2 ≤ x.severity))) := by
  refine ⟨⟨{}, (⟨1, 0, 0, 1, 0, 0, [], true⟩), by decide⟩,
    ⟨{ backlog := List.replicate 1024 ⟨1, 3, 0, 1, 0, 0, [], true⟩ }, (⟨1, 1, 0, 1, 0, 0, [], true⟩), by decide +kernel⟩,
    ⟨{ backlog := ⟨7, 1, 0, 1, 0, 0, [], true⟩ :: List.replicate 1023 ⟨1, 3, 0, 1, 0, 0, [], true⟩ }, (⟨1, 2, 0, 1, 0, 0, [], true⟩), (⟨7, 1, 0, 1, 0, 0, [], true⟩), ([]), (List.replicate 1023 ⟨1, 3, 0, 1, 0, 0, [], true⟩), by refine ⟨by decide +kernel, by decide, rfl, by decide, by simp⟩⟩,
    ⟨{ backlog := List.replicate 1024 ⟨1, 3, 0, 1, 0, 0, [], true⟩ }, (⟨1, 3, 0, 1, 0, 0, [], true⟩), by decide +kernel⟩⟩

theorem witness_ErrorRecordsMergeOrReplace :
    (∃ (v : Events) (code sev cls island stamp loc : Nat) (ps : List Byte), v.errors.length ≤ 4096) := by
  refine ⟨{}, (1), (2), (2), (0), (0), (0), ([]), by decide⟩

theorem witness_EvictionSparesWaitingAndFatalRecords :
    (∃ (v : Events) (l rest : List ErrorRecord), v.evict l = some rest) := by
  refine ⟨{}, ([⟨1, 2, 2, 0, 1, 0, 0, 0, [], [1]⟩]), ([]), by decide⟩

theorem witness_OrderedPacketsStartAlone :
    (∃ (l : List Packet) (p : Packet), p ∈ startedIn l ∧ p.ordered = true) ∧
    (∃ (before after : List Packet) (q p : Packet), q.ordered = true ∧ before ≠ [] ∧ p ∈ startedIn (before ++ q :: after)) := by
  refine ⟨⟨([{ packetIn 0 [] with ordered := true }]), { packetIn 0 [] with ordered := true }, by decide⟩,
    ⟨([packetIn 0 []]), ([]), { packetIn 0 [] with ordered := true }, (packetIn 0 []), by decide⟩⟩

theorem witness_ReadyPacketIsFirstOnItsObject :
    (∃ (s : State) (op : PktOp) (opcode : Nat) (p : Packet), s.ready op opcode = some p) := by
  refine ⟨(packetState 0 []), (runOp), (0), (packetIn 0 []), by decide⟩

theorem witness_ContestGrantsLowestRankEarliestTick :
    (∃ (l : List (Nat × KsRequest)) (q : Nat × KsRequest), bestOf l = some q) := by
  refine ⟨([(2, ⟨2, 5, 1, 63⟩), (2, ⟨2, 4, 9, 63⟩)]), ((2, ⟨2, 4, 9, 63⟩)), by decide⟩

theorem witness_RanksZeroAndOneStand :
    (∃ (prio rank : Nat), rank < 2) ∧
    (∃ (v rank e : Nat), 2 ≤ rank ∧ effectiveRank (ksPrioStored v) rank = some e) := by
  refine ⟨⟨(0), (1), by decide⟩,
    ⟨(0xFF), (7), (7), by decide⟩⟩

theorem witness_LittleEndianFieldsReadBack :
    (∃ (die island tile macr word sym depth : Nat), die < 8 ∧ island < 64 ∧ tile < 256 ∧ macr < 256 ∧ word < 2 ^ 23 ∧ sym < 256 ∧ depth < 16) := by
  refine ⟨(7), (63), (255), (255), (8388607), (255), (15), by decide⟩

theorem witness_CounterModeDecryptsWhatItEncrypted :
    (∃ (key iv b : List Byte), key.length = 32) := by
  refine ⟨(zeros 32), (zeros 12), ([1, 2, 3]), by decide⟩

theorem witness_ReplyIsWrittenAtTheTail :
    (∃ (s : State) (n : Nat) (p : PendingReply), (s.ring n).refused = false ∧ s.dma = true ∧ (s.ring n).irqEn = false) ∧
    (∃ (s : State) (n : Nat) (p : PendingReply), (s.ring n).refused = false ∧ s.dma = false) ∧
    (∃ (s : State) (n : Nat) (p : PendingReply), (s.ring n).refused = true) := by
  refine ⟨⟨(packetState 0 []), (0), (⟨0, 0, 0, [], 0, 0, 0, false, 0⟩), by decide⟩,
    ⟨{}, (15), (⟨0, 0, 0, [], 0, 0, 0, false, 0⟩), by decide⟩,
    ⟨{ pcie.rings := [{ refused := true }] }, (0), (⟨0, 0, 0, [], 0, 0, 0, false, 0⟩), by decide⟩⟩

theorem witness_PacketThatMayNotRunOrFails :
    (∃ (s : State) (op : PktOp), s.ready op 0 = none) ∧
    (∃ (s : State) (op : PktOp) (p : Packet) (l : BitVec 64), s.ready op 0x24 = some p ∧ op.internal = some l) ∧
    (∃ (s : State) (op : PktOp) (p : Packet), s.ready op 0 = some p ∧ op.internal = none ∧ 0 < p.dataLen ∧ (op.dma && s.dma) = false) := by
  refine ⟨⟨{}, (runOp), by decide⟩,
    ⟨(packetState 0x24 []), { acc := 0, internal := some 0 }, (packetIn 0x24 []), (0), by decide⟩,
    ⟨(packetState 0 [] 8), { acc := 0, dma := false }, (packetIn 0 [] 8), by decide⟩⟩

end Sys2Proof.Tests
end

section
/-! The byte order of R7 and the bit places of a location code (R13): what is written is read back. -/

namespace Sys2Proof.Proofs
open Sys2Proof.Machine

@[simp] theorem le_length (n v : Nat) : (le n v).length = n := by
  induction n generalizing v with
  | zero => rfl
  | succ n ih => simp [le, ih]

/-- The first byte is the remainder by 256, and the bytes after it are those of the quotient. -/
theorem ofLe_le (n v : Nat) : ofLe (le n v) = v % 256 ^ n := by
  induction n generalizing v with
  | zero => simp [le, ofLe, Nat.mod_one]
  | succ n ih =>
    calc ofLe (le (n + 1) v)
        = v % 256 + 256 * ofLe (le n (v / 256)) := by simp [le, ofLe]
      _ = v % 256 + 256 * (v / 256 % 256 ^ n) := by rw [ih]
      _ = v % 256 ^ (n + 1) := by rw [Nat.pow_succ', Nat.mod_mul]

/-- A field between the bits above it and the bits below it is read back, when it and the part below fit their
places. -/
theorem bits_eq_of_split {v hi lo field : Nat} (above low : Nat)
    (hv : v = (above * 2 ^ (hi + 1 - lo) + field) * 2 ^ lo + low) (hlow : low < 2 ^ lo)
    (hfield : field < 2 ^ (hi + 1 - lo)) : bits v hi lo = field := by
  have hshift : v / 2 ^ lo = above * 2 ^ (hi + 1 - lo) + field := by
    rw [hv, Nat.mul_comm, Nat.mul_add_div (Nat.two_pow_pos lo), Nat.div_eq_of_lt hlow, Nat.add_zero]
  rw [bits, hshift, Nat.mul_comm, Nat.mul_add_mod, Nat.mod_eq_of_lt hfield]

/-- Each field of a location code lies between the code of the fields above it, whose lower fields are 0, and the code
of the fields below it, whose upper fields are 0; the latter stays below the field's place. (R13) -/
theorem bits_location {die island tile macr word sym depth : Nat} (hdie : die < 8) (hisland : island < 64)
    (htile : tile < 256) (hmacr : macr < 256) (hword : word < 2 ^ 23) (hsym : sym < 256) (hdepth : depth < 16) :
    bits (location die island tile macr word sym depth) 63 61 = die ∧
    bits (location die island tile macr word sym depth) 60 55 = island ∧
    bits (location die island tile macr word sym depth) 54 47 = tile ∧
    bits (location die island tile macr word sym depth) 46 39 = macr ∧
    bits (location die island tile macr word sym depth) 38 16 = word ∧
    bits (location die island tile macr word sym depth) 15 8 = sym ∧
    bits (location die island tile macr word sym depth) 3 0 = depth ∧
    bits (location die island tile macr word sym depth) 7 4 = 0 := by
  refine ⟨?die, ?island, ?tile, ?macr, ?word, ?sym, ?depth, ?reserved⟩
  case die =>
    exact bits_eq_of_split 0 (location 0 island tile macr word sym depth)
      (by unfold location; omega) (by unfold location; omega) hdie
  case island =>
    exact bits_eq_of_split (location die 0 0 0 0 0 0 / 2 ^ 61) (location 0 0 tile macr word sym depth)
      (by unfold location; omega) (by unfold location; omega) hisland
  case tile =>
    exact bits_eq_of_split (location die island 0 0 0 0 0 / 2 ^ 55) (location 0 0 0 macr word sym depth)
      (by unfold location; omega) (by unfold location; omega) htile
  case macr =>
    exact bits_eq_of_split (location die island tile 0 0 0 0 / 2 ^ 47) (location 0 0 0 0 word sym depth)
      (by unfold location; omega) (by unfold location; omega) hmacr
  case word =>
    exact bits_eq_of_split (location die island tile macr 0 0 0 / 2 ^ 39) (location 0 0 0 0 0 sym depth)
      (by unfold location; omega) (by unfold location; omega) hword
  case sym =>
    exact bits_eq_of_split (location die island tile macr word 0 0 / 2 ^ 16) (location 0 0 0 0 0 0 depth)
      (by unfold location; omega) (by unfold location; omega) hsym
  case depth =>
    exact bits_eq_of_split (location die island tile macr word sym 0 / 2 ^ 4) 0
      (by unfold location; omega) (by decide) hdepth
  case reserved =>
    exact bits_eq_of_split (location die island tile macr word sym 0 / 2 ^ 8) (location 0 0 0 0 0 0 depth)
      (by unfold location; omega) (by unfold location; omega) (by decide)

/-- Settles O56: `ofLe_le` for the bytes, `bits_location` for the fields of a location code. -/
theorem littleEndianFieldsReadBack : Obligations.LittleEndianFieldsReadBack := by
  unfold Obligations.LittleEndianFieldsReadBack
  exact ⟨fun n v => ⟨le_length n v, ofLe_le n v⟩, fun _ _ _ _ _ _ _ => bits_location⟩

end Sys2Proof.Proofs
end

section
/-! With no command waiting a step is one nanosecond of the stamp counter (R29, R31). -/

namespace Sys2Proof.Proofs
open Sys2Proof.Machine

/-- Settles O44: the branch of `step` for the empty queue, and the arithmetic of 64 counts to a tick. -/
theorem emptyQueueLetsTimePass : Obligations.EmptyQueueLetsTimePass := by
  unfold Obligations.EmptyQueueLetsTimePass
  refine ⟨fun s hempty => ?step, fun s haligned => ?ticks⟩
  case step => simp only [step, hempty]
  case ticks =>
    simp only [State.tick]
    omega

end Sys2Proof.Proofs
end

section
/-! The commands of the write path: admission, merging, look-ups, verification, compression, placement and the
rebuild of an index page (R161 to R182). -/

namespace Sys2Proof.Proofs
open Sys2Proof.Machine Sys2Proof.Laws

@[simp] theorem fit_length (n : Nat) (bs : List Byte) : (fit n bs).length = n := by simp [fit, zeros]

/-- A data-path command whose condition holds while the data path runs takes its effect. -/
theorem dataIf_of_runs {c : Bool} {s : State} (hruns : s.runs = true) (hc : c = true) (t : State) : dataIf c s t = .next t :=
  dataIf_of_true (by simp [hruns, hc]) t

/-! ### Admission (R161, R162) -/

theorem considerWrites_one_of_none {s : State} (hnone : s.nextWrite = none) : s.considerWrites 1 = s := by
  simp only [State.considerWrites, hnone]

theorem considerWrites_one_of_some {s : State} {k : Nat} {c : Cmd} (hsome : s.nextWrite = some (k, c)) :
    s.considerWrites 1 = if s.admissible c then s.admit_ k else s := by
  simp only [State.considerWrites, hsome]

theorem exec_writeAdmit {s : State} (hruns : s.runs = true) (hdrain : s.power.drain = .none) :
    exec .writeAdmit s = .next (s.considerWrites 1) :=
  dataIf_of_runs hruns (by simp [hdrain]) _

theorem exec_writeStalledExpiry {s : State} {rank : Nat} {x : Nat × Cmd} {l : List (Nat × Cmd)} (hruns : s.runs = true)
    (hrank : rank < 8) (hstalled : bit s.wp.stalled rank = false)
    (hlate : s.nvme.cmds.filter (fun x => x.2.waits && x.2.rank == rank && s.expired (x.2.since + ticksOf 100000000)) = x :: l) :
    exec (.writeStalledExpiry rank) s = .next (({ s with wp.stalled := s.wp.stalled + 2 ^ rank } : State).raise Ev.writeStalled
      (le 1 rank ++ le 4 ((s.tick - x.2.since) * 64 / 1000000))) := by
  change execWriteStalledExpiry rank s = _
  simp only [execWriteStalledExpiry, hlate]
  exact dataIf_of_runs hruns (by simp [hrank, hstalled]) _

/-! ### Merging and look-ups (R165, R166, R170, R174) -/

theorem exec_mergeReadIssue {s : State} {k x : Nat} {c : Cmd} {w : SettWork} (hruns : s.runs = true)
    (hcmd : s.cmdOf? k = some c) (hsett : c.setts.get? x = some w) (hfetched : c.fetched = true) (hstage : c.stage = 3)
    (hpartial : w.partial_ = true) (hmerged : w.merged = false) (hissued : w.issued = false)
    (hclear : s.mergeClear k c x = true) : exec (.mergeReadIssue k x) s = .next (s.startMerge k x) := by
  change execMergeReadIssue k x s = _
  simp only [execMergeReadIssue, hcmd, hsett, Option.getD_some]
  exact dataIf_of_runs hruns (by simp [hfetched, hstage, hpartial, hmerged, hissued, hclear]) _

/-- No entry of a bucket satisfies a test that asks for the tag and a form in use, when none holds that tag in use. -/
theorem findSlot_eq_none {body : List Byte} {b : Nat} {good : List Byte → Bool} {tag : List Byte}
    (hgood : ∀ e, good e = true → ixTag e = tag ∧ ixForm e ≠ 0)
    (hmiss : ∀ i < 16, ¬ (ixTag (entryOf body b i) = tag ∧ ixForm (entryOf body b i) ≠ 0)) : findSlot body b good = none := by
  simp only [findSlot, List.find?_eq_none, List.mem_range]
  exact fun i hi h => hmiss i hi (hgood _ h)

section lookup
variable {s : State} {k u b i : Nat} {a : Bool} {c : Cmd} {body : List Byte} (hruns : s.runs = true) (hcmd : s.cmdOf? k = some c)
  (hstage : c.stage = 4) (hlook : c.lookOf u a = .wanted)
include hruns hcmd hstage hlook

theorem exec_indexLookup_unindexed (hindex : (s.reduceOf c.domain).bucketLog2 = 0) :
    exec (.indexLookup k u a) s =
      .next (((s.updNCmd k fun c => c.setLook u a .unindexed).wpCount 8 1).decide_ k).trimIndex := by
  change execIndexLookup k u a s = _
  simp only [execIndexLookup, hcmd, hindex, decide_true, Bool.true_or, if_true]
  exact dataIf_of_runs hruns (by simp [hstage, hlook]) _

variable (hb : b = bucketOf (s.reduceOf c.domain).bucketLog2 (c.fpOf u a))
  (hindex : (s.reduceOf c.domain).bucketLog2 ≠ 0) (hvalid : (s.indexPage c.domain (b / 8)).rebuilding = false)
  (hbody : (s.indexPage c.domain (b / 8)).body = some body)
include hb hindex hvalid hbody

theorem exec_indexLookup_miss
    (hmiss : ∀ i < 16, ¬ (ixTag (entryOf body b i) = tagOf (c.fpOf u a) ∧ ixForm (entryOf body b i) ≠ 0)) :
    exec (.indexLookup k u a) s =
      .next (((s.updNCmd k fun c => c.setLook u a .miss).wpCount 5 1).decide_ k).trimIndex := by
  subst hb
  change execIndexLookup k u a s = _
  simp only [execIndexLookup, hcmd, hindex, hvalid, hbody, decide_false, Bool.or_false, Bool.false_eq_true, if_false]
  rw [findSlot_eq_none (tag := tagOf (c.fpOf u a)) (fun e he => ?_) hmiss]
  · exact dataIf_of_runs hruns (by simp [hstage, hlook]) _
  · simp only [Bool.and_eq_true, beq_iff_eq] at he
    refine ⟨he.1.1.2, fun hform => ?_⟩
    simp [hform] at he

theorem exec_indexLookup_hit
    (hslot : findSlot body b (fun e => (if a then ixForm e == 2 else ixForm e == 1 || ixForm e == 3) &&
      ixTag e == tagOf (c.fpOf u a) && ixKey e == ((s.ns? c.nsid).map Namespace.keySlot).getD 0xFF &&
      decide (ixRefs e < 0xFFFFFFFF)) = some i)
    (hstill : s.moving (s.resolvePxa (ixPxa (entryOf body b i))) = false) :
    exec (.indexLookup k u a) s = .next (s.lookHit k u a c b i (entryOf body b i)).trimIndex := by
  subst hb
  change execIndexLookup k u a s = _
  simp only [execIndexLookup, hcmd, hindex, hvalid, hbody, hslot, hstill, decide_false, Bool.or_false,
    Bool.false_eq_true, if_false]
  exact dataIf_of_runs hruns (by simp [hstage, hlook]) _

end lookup

/-! ### Verification, compression and placement (R166, R175, R176, R178, R182) -/

/-- The verification whose bytes have arrived, the two outcomes still to be told apart. -/
theorem exec_byteCompareVerify {s : State} {k u : Nat} {a : Bool} {c : Cmd} {bucket slot j : Nat} {e there : List Byte}
    {job : ReadJob} (hruns : s.runs = true) (hcmd : s.cmdOf? k = some c) (hlook : c.lookOf u a = .verify bucket slot e)
    (hjob : s.flash.jobs.find? (fun j => j.2.use == .verify k u a (ixRaw e) (ixForm e != 1) (ixSett e)) = some (j, job))
    (hdone : job.done = true) (hresult : job.result = some there) :
    exec (.byteCompareVerify k u a) s = .next (State.trimIndex (State.decide_ k (
      if (if a then there else settIn (ixForm e != 1) (ixSett e) there) = c.unitData u a
      then (((({ s with flash.jobs := s.flash.jobs.del j } : State).wpCount 9 1).updNCmd k fun c =>
        c.setLook u a (.hit bucket slot e)).wpCount (if a then 3 else 4) 1)
      else (((((({ s with flash.jobs := s.flash.jobs.del j } : State).wpCount 9 1).dropHold c.domain bucket slot).updNCmd k
        fun c => c.setLook u a .unindexed).wpCount 10 1).raise Ev.dedupCollision
          (le 1 c.domain ++ le 8 bucket ++ le 1 slot))))) := by
  change execByteCompareVerify k u a s = _
  simp only [execByteCompareVerify, hcmd, hlook, hjob, hresult]
  exact dataIf_of_runs hruns hdone _

theorem exec_compressionJobEnd_sett {s : State} {k u e : Nat} {c : Cmd} {w : SettWork} (hcmd : s.cmdOf? k = some c)
    (hsett : c.setts.get? u = some w) (hjob : w.job = .wanted e) :
    ∃ (raw : Bool) (clen : Nat) (b : List Byte) (t : State),
      (raw, clen, b) = s.stored c.reduce (s.bankAt e) (((s.ns? c.nsid).map Namespace.keySlot).getD 0xFF) (fit 4096 w.data) ∧
      t = (((s.updNCmd k fun c => { c with setts := c.setts.upd u fun w => { w with job := .done raw clen b } }).wpCount 12
        4096).wpCount 13 b.length).wpCount 14 (boolNat raw) ∧
      exec (.compressionJobEnd k u false) s = .next (if c.reduce.tableMissing (s.bankAt e) then t.wpCount 16 1 else t) := by
  have hdata : c.unitData u false = fit 4096 w.data := by simp only [Cmd.unitData, hsett]; rfl
  rcases hstored : s.stored c.reduce (s.bankAt e) (((s.ns? c.nsid).map Namespace.keySlot).getD 0xFF) (fit 4096 w.data)
    with ⟨raw, clen, b⟩
  refine ⟨raw, clen, b, _, rfl, rfl, ?_⟩
  change execCompressionJobEnd k u false s = _
  simp only [execCompressionJobEnd, hcmd, hsett, hjob, hdata, fit_length, hstored, Option.map_some, Option.getD_some,
    Job.waits, Bool.false_eq_true, if_false, if_true]

theorem exec_stagingPlace {s : State} {k : Nat} {c : Cmd} (hcmd : s.cmdOf? k = some c) (hwrites : c.writes = true)
    (hwsn : c.wsn = 0) (hreduced : c.reduced = true) (hclear : s.placeClear k c = true) (hfree : s.wsnFree = true)
    (hdrain : s.power.drain = .none) :
    exec (.stagingPlace k) s = .next ((((s.placeWrite k).syncWrite k).ceilingCheck).considerWrites 64).trimIndex := by
  change execStagingPlace k s = _
  simp only [execStagingPlace, hcmd, hwrites, hwsn, hreduced, hclear, hfree, hdrain]
  rfl

/-! ### Rebuilding an index page (R174) -/

theorem exec_indexPageRebuild {s : State} {d page : Nat} (hruns : s.runs = true)
    (hrebuild : (s.indexPage d page).rebuilding = true) (howns : s.owns d = true)
    (hpresent : ∀ x ∈ s.entryPages d, x.2.body.isSome = true) :
    exec (.indexPageRebuild d page) s = .next ((s.updIndexPage d page fun p =>
        { p with body := some (rebuildBody (s.indexEntries d page)).1, dirty := true, rebuilding := false, queued := [] }).raise
      Ev.indexPageRebuilt (le 1 d ++ le 8 page ++ le 4 (rebuildBody (s.indexEntries d page)).2)) := by
  have habsent : (s.entryPages d).filter (fun x => x.2.body.isNone) = [] := by
    simp only [List.filter_eq_nil_iff]
    intro x hx
    simp [Option.isNone_eq_false_iff.mpr (hpresent x hx)]
  change execIndexPageRebuild d page s = _
  simp only [execIndexPageRebuild, habsent]
  exact dataIf_of_runs hruns (by simp [hrebuild, howns]) _

theorem exec_indexPageRebuild_absent {s : State} {d page : Nat} (hruns : s.runs = true)
    (hrebuild : (s.indexPage d page).rebuilding = true) (howns : s.owns d = true)
    (habsent : (s.entryPages d).any (fun x => x.2.body.isNone) = true) :
    exec (.indexPageRebuild d page) s =
      .next (s.fetchPages (((s.entryPages d).filter fun x => x.2.body.isNone).map Prod.fst) (s.rankOf 17)) := by
  have hne : (((s.entryPages d).filter fun x => x.2.body.isNone).map Prod.fst).isEmpty = false := by
    simpa using habsent
  change execIndexPageRebuild d page s = _
  simp only [execIndexPageRebuild, hne, Bool.not_false, if_true]
  exact dataIf_of_runs hruns (by simp [hrebuild, howns]) _

/-- Settles O20: one lemma per clause, each the branch of its command that the clause's hypotheses choose. -/
theorem writePathCommandsAct : Obligations.WritePathCommandsAct := by
  unfold Obligations.WritePathCommandsAct
  exact ⟨fun _ => exec_writeAdmit, fun _ => considerWrites_one_of_none, fun _ _ _ => considerWrites_one_of_some,
    fun _ _ _ _ => exec_writeStalledExpiry, fun _ _ _ _ _ => exec_mergeReadIssue,
    fun _ _ _ _ _ => exec_indexLookup_unindexed, fun _ _ _ _ _ _ _ => exec_indexLookup_miss,
    fun _ _ _ _ _ _ _ _ => exec_indexLookup_hit, fun _ _ _ _ _ _ _ _ _ _ _ => exec_byteCompareVerify,
    fun _ _ _ _ _ _ => exec_compressionJobEnd_sett, fun _ _ _ => exec_stagingPlace,
    fun _ _ _ hruns hrebuild howns _ => exec_indexPageRebuild hruns hrebuild howns,
    fun _ _ _ => exec_indexPageRebuild_absent⟩

end Sys2Proof.Proofs
end

section
/-! The configuration packets of class 0x03: subsystems, namespaces, controllers, health and discovery entries (R130,
R142, R155 to R157, R200). -/

namespace Sys2Proof.Proofs
open Sys2Proof.Machine Sys2Proof.Laws

theorem onSubsys_of_some {s : State} {p : Packet} {u : Subsystem} (hsub : s.nvme.subsystems.get? (p.f 0 2) = some u)
    (f : Nat → Subsystem → State → State) : s.onSubsys p f = f (p.f 0 2) u s := by
  simp only [State.onSubsys, hsub]

theorem onNamespace_of_some {s : State} {p : Packet} {n : Namespace} (hns : s.ns? (p.f 0 4) = some n)
    (f : Nat → Namespace → State → State) : s.onNamespace p f = f (p.f 0 4) n s := by
  simp only [State.onNamespace, hns]

/-! ### What a key reference and the record of an erase leave alone (R154, R200) -/

theorem owns_congr {s t : State} (hdomains : t.domains = s.domains) (d : Nat) : t.owns d = s.owns d := by
  simp only [State.owns, hdomains]

@[simp] theorem refKey_domains (k : Nat) (up : Bool) (s : State) : (s.refKey k up).domains = s.domains := by
  unfold State.refKey; split <;> rfl

@[simp] theorem refKey_nvme (k : Nat) (up : Bool) (s : State) : (s.refKey k up).nvme = s.nvme := by
  unfold State.refKey; split <;> rfl

@[simp] theorem showErase_domains (e : EraseOp) (s : State) : (s.showErase e).domains = s.domains := by
  unfold State.showErase; split <;> rfl

@[simp] theorem recallErase_domains (kind target : Nat) (s : State) : (s.recallErase kind target).domains = s.domains := by
  simp only [State.recallErase]
  split
  · rfl
  · exact showErase_domains ..

@[simp] theorem refKey_owns (k : Nat) (up : Bool) (s : State) (d : Nat) : (s.refKey k up).owns d = s.owns d :=
  owns_congr (refKey_domains ..) d

@[simp] theorem recallErase_owns (kind target : Nat) (s : State) (d : Nat) :
    (s.recallErase kind target).owns d = s.owns d :=
  owns_congr (recallErase_domains ..) d

/-! ### Subsystems (R155, R157) -/

section packets
variable {s : State} {op : PktOp} {p : Packet}

theorem exec_subsysConfig_known {u : Subsystem} (ht : s.takes op 0x0300 p)
    (hsub : s.nvme.subsystems.get? (p.f 0 2) = some u)
    (hname : u.nqn = p.bytes 4 256 ∨ s.nvme.controllers.any (fun c => c.2.subsys == some (p.f 0 2)) = false) :
    exec (.subsysConfig op) s = .next (({ s with nvme.subsystems := s.nvme.subsystems.set (p.f 0 2) { u with
                                             flags := p.f 2 2
                                             nqn := p.bytes 4 256
                                             sn := p.bytes 260 20
                                             mn := p.bytes 280 40
                                             fr := p.bytes 320 8 } } : State).replyOk p) := by
  have hfree : ((u.nqn != p.bytes 4 256) && s.nvme.controllers.any fun c => c.2.subsys == some (p.f 0 2)) = false := by
    rcases hname with hname | hname <;> simp [hname]
  change execSubsysConfig op s = _
  rw [execSubsysConfig, packetRun_takes ht]
  simp only [hsub, hfree]
  rfl

theorem exec_subsysConfig_new (ht : s.takes op 0x0300 p) (hsub : s.nvme.subsystems.get? (p.f 0 2) = none) :
    exec (.subsysConfig op) s = .next ((({ s with nvme.subsystems := s.nvme.subsystems.set (p.f 0 2) {
                                             stats := s.nvme.saved.getD (p.f 0 2) (List.replicate 6 0)
                                             flags := p.f 2 2
                                             nqn := p.bytes 4 256
                                             sn := p.bytes 260 20
                                             mn := p.bytes 280 40
                                             fr := p.bytes 320 8 } } : State).recallErase 2 (p.f 0 2)).replyOk p) := by
  change execSubsysConfig op s = _
  rw [execSubsysConfig, packetRun_takes ht]
  simp only [hsub]
  rfl

theorem exec_subsysDelete {u : Subsystem} (ht : s.takes op 0x0301 p) (hsub : s.nvme.subsystems.get? (p.f 0 2) = some u)
    (hempty : s.nsOf (p.f 0 2) = []) (hidle : s.nvme.controllers.any (fun c => c.2.subsys == some (p.f 0 2)) = false) :
    exec (.subsysDelete op) s =
      .next ((({ s with nvme.subsystems := s.nvme.subsystems.del (p.f 0 2) } : State).forgetErase 2 (p.f 0 2)).replyOk p) := by
  refine (packetRun_takes ht _).trans ?_
  rw [onSubsys_of_some hsub]
  simp only [hempty, hidle]
  rfl

theorem exec_subsysHosts {u : Subsystem} (ht : s.takes op 0x0302 p) (hsub : s.nvme.subsystems.get? (p.f 0 2) = some u) :
    exec (.subsysHosts op) s = .next ((s.updSubsys (p.f 0 2) fun u =>
      { u with hosts := (List.range (p.f 2 2)).map fun i => slice (p.buffer op) (256 * i) 256 }).replyOk p) :=
  (packetRun_takes ht _).trans (by rw [onSubsys_of_some hsub])

/-! ### Namespaces (R19, R130, R157, R200, R217) -/

theorem exec_nsCreate {n : Namespace} (ht : s.takes op 0x0303 p)
    (hn : n = { subsys := p.f 4 2, domain := p.f 6 1, cls := p.f 7 1, nsze := p.f 8 8, lbaf := p.f 0x10 1, pi := p.f 0x11 1,
                tag := p.f 0x12 2, keySlot := p.f 0x14 1, nguid := p.bytes 0x18 16, eui := p.bytes 0x28 8 })
    (hnew : s.ns? (p.f 0 4) = none) (hsub : s.nvme.subsystems.has n.subsys = true)
    (hkey : n.keySlot = 0xFF ∨ (s.noCipher = false ∧ (s.keySlot n.keySlot).kind = 1))
    (hsize : s.owns n.domain = false ∨ s.nsBytes + n.nsze * dataSize n.lbaf ≤ nsBytesLimit) :
    exec (.nsCreate op) s = .next (((if s.owns n.domain
        then ((({ s with nvme.namespaces := s.nvme.namespaces.set (p.f 0 4) n } : State).recallErase 1 (p.f 0 4)).refKey n.keySlot true).giveLayer (p.f 0 4)
        else (({ s with nvme.namespaces := s.nvme.namespaces.set (p.f 0 4) n } : State).recallErase 1 (p.f 0 4)).refKey n.keySlot true).startPinning (p.f 0 4)).replyOk p) := by
  subst hn
  simp only at hsub hkey hsize
  have hcipher : (s.noCipher && decide (p.f 0x14 1 ≠ 0xFF)) = false := by
    rcases hkey with hkey | ⟨hkey, -⟩ <;> simp [hkey]
  have husage : (decide (p.f 0x14 1 ≠ 0xFF) && decide ((s.keySlot (p.f 0x14 1)).kind ≠ 1)) = false := by
    rcases hkey with hkey | ⟨-, hkey⟩ <;> simp [hkey]
  have hroom : (s.owns (p.f 6 1) && decide (nsBytesLimit < s.nsBytes + p.f 8 8 * dataSize (p.f 0x10 1))) = false := by
    rcases hsize with hsize | hsize <;> simp [hsize]
  change execNsCreate op s = _
  rw [execNsCreate, packetRun_takes ht]
  simp only [hcipher, husage, hroom, hnew, hsub]
  simp only [refKey_owns, recallErase_owns]
  rfl

theorem exec_nsDelete {n : Namespace} {u : State} (ht : s.takes op 0x0304 p) (hns : s.ns? (p.f 0 4) = some n)
    (hidle : s.nsErasing (p.f 0 4) n = false) (hu : u = s.forgetErase 1 (p.f 0 4)) :
    ∃ t : State, exec (.nsDelete op) s = .next (t.pruneGhosts.replyOk p) ∧ (u.owns n.domain = false →
      t.nvme.namespaces = (u.nvme.namespaces.del (p.f 0 4)).set (u.ghostId (p.f 0 4)) { n with subsys := 65536 }) := by
  have hexec : execNsDelete op s = _ := packetRun_takes ht _
  change ∃ t : State, execNsDelete op s = _ ∧ _
  rw [hexec, onNamespace_of_some hns]
  simp only [hidle, ← hu, Bool.false_eq_true, if_false]
  refine ⟨_, rfl, fun howns => ?_⟩
  rw [if_neg]
  · simp only [refKey_nvme]
    rfl
  · intro hlayered
    have hown : u.owns n.domain = true := (Bool.and_eq_true_iff.mp hlayered).1
    simp [howns] at hown

/-- A growth that fits: the definition is stored, and a head layer that exists is raised to the new size. -/
theorem exec_nsResize_grown {n : Namespace} (ht : s.takes op 0x0305 p) (hns : s.ns? (p.f 0 4) = some n)
    (hgrows : n.nsze ≤ p.f 8 8) (hwhole : p.f 8 8 % lbasPerSett n.lbaf = 0)
    (hsize : s.nsBytes + (p.f 8 8 - n.nsze) * dataSize n.lbaf ≤ nsBytesLimit) :
    exec (.nsResize op) s = .next (State.replyOk p (State.nsChanged (p.f 0 4) n.subsys (match s.layer? n.domain n.layer with
      | none => { s with nvme.namespaces := s.nvme.namespaces.set (p.f 0 4) { n with nsze := p.f 8 8 } }
      | some l => (({ s with nvme.namespaces := s.nvme.namespaces.set (p.f 0 4) { n with nsze := p.f 8 8 } } : State).updLayer
          n.domain n.layer fun l => { l with nsze := p.f 8 8 }).growLayer n.domain n.layer
            (levelsFor (ashlarCount (p.f 8 8) n.lbaf) - l.levels)))) := by
  have hroom : (s.owns n.domain && decide (nsBytesLimit < s.nsBytes + (p.f 8 8 - n.nsze) * dataSize n.lbaf)) = false := by
    simp [hsize]
  change execNsResize op s = _
  rw [execNsResize, packetRun_takes ht, onNamespace_of_some hns]
  simp only [Nat.not_lt.mpr hgrows, hwhole, hroom]
  rfl

theorem exec_nsResize_unmapped {n : Namespace} (ht : s.takes op 0x0305 p) (hns : s.ns? (p.f 0 4) = some n)
    (hgrows : n.nsze ≤ p.f 8 8) (hwhole : p.f 8 8 % lbasPerSett n.lbaf = 0)
    (hsize : s.nsBytes + (p.f 8 8 - n.nsze) * dataSize n.lbaf ≤ nsBytesLimit) (hlayer : s.layer? n.domain n.layer = none) :
    exec (.nsResize op) s = .next ((({ s with nvme.namespaces := s.nvme.namespaces.set (p.f 0 4) { n with nsze := p.f 8 8 } } : State).nsChanged
      (p.f 0 4) n.subsys).replyOk p) := by
  rw [exec_nsResize_grown ht hns hgrows hwhole hsize, hlayer]

theorem exec_nsResize_mapped {n : Namespace} {l : Layer} (ht : s.takes op 0x0305 p) (hns : s.ns? (p.f 0 4) = some n)
    (hgrows : n.nsze ≤ p.f 8 8) (hwhole : p.f 8 8 % lbasPerSett n.lbaf = 0)
    (hsize : s.nsBytes + (p.f 8 8 - n.nsze) * dataSize n.lbaf ≤ nsBytesLimit) (hlayer : s.layer? n.domain n.layer = some l) :
    exec (.nsResize op) s = .next ((((({ s with nvme.namespaces := s.nvme.namespaces.set (p.f 0 4) { n with nsze := p.f 8 8 } } : State).updLayer
      n.domain n.layer fun l => { l with nsze := p.f 8 8 }).growLayer n.domain n.layer
        (levelsFor (ashlarCount (p.f 8 8) n.lbaf) - l.levels)).nsChanged (p.f 0 4) n.subsys).replyOk p) := by
  rw [exec_nsResize_grown ht hns hgrows hwhole hsize, hlayer]

theorem exec_nsSetClass {n : Namespace} (ht : s.takes op 0x0306 p) (hns : s.ns? (p.f 0 4) = some n) (hto : p.f 4 1 ≠ 1)
    (hfrom : n.cls ≠ 1) : exec (.nsSetClass op) s =
      .next (({ s with nvme.namespaces := s.nvme.namespaces.set (p.f 0 4) { n with cls := p.f 4 1 } } : State).replyOk p) := by
  change execNsSetClass op s = _
  rw [execNsSetClass, packetRun_takes ht, onNamespace_of_some hns]
  simp only [hto, hfrom, decide_false, Bool.false_and, Bool.and_false, Bool.false_eq_true, if_false]

theorem exec_nsQuery {n : Namespace} (ht : s.takes op 0x0307 p) (hns : s.ns? (p.f 0 4) = some n)
    (hpresent : s.nuseNeeds n = []) :
    exec (.nsQuery op) s = .next (s.freed.reply p St.ok 0 (fit 64 (n.record (p.f 0 4) ++ le 8 (s.nuse n) ++
      le 1 (s.nvme.ana.getD n.domain 3) ++ le 1 (s.eraseStateOf (p.f 0 4) n)))) := by
  change execNsQuery op s = _
  rw [execNsQuery, packetRun_takes ht, onNamespace_of_some hns]
  simp only [hpresent]
  rfl

/-! ### Controllers, health and discovery (R135, R142, R155, R157) -/

theorem exec_ctrlQuery {x : Controller} {n : Nat} (ht : s.takes op 0x0308 p) (hctrl : s.ctrl? (p.f 0 2) = some x)
    (hsub : x.subsys = some n) :
    exec (.ctrlQuery op) s = .next (s.freed.reply p St.ok 0 (fit 512 (le 2 n ++ fit 256 x.host ++ le 4 x.katoMs ++
      le 2 x.queues.length ++ le 1 x.lport ++ le 1 (boolNat x.wce)))) := by
  change execCtrlQuery op s = _
  rw [execCtrlQuery, packetRun_takes ht]
  simp only [hctrl, hsub]

theorem exec_ctrlTeardown {x : Controller} (ht : s.takes op 0x0309 p) (hctrl : s.ctrl? (p.f 0 2) = some x) :
    exec (.ctrlTeardown op) s = .next ((s.endController (p.f 0 2) 4).replyOk p) := by
  change execCtrlTeardown op s = _
  rw [execCtrlTeardown, packetRun_takes ht]
  simp only [hctrl]

theorem exec_healthSet (ht : s.takes op 0x030A p) (hone : p.f 0 2 < 1024) (hsub : s.nvme.subsystems.has (p.f 0 2) = true)
    (hkept : bit (p.f 3 1) 4 = false) :
    exec (.healthSet op) s = .next ((s.updSubsys (p.f 0 2) fun u =>
      { u with
        warnings := (u.warnings ||| p.f 2 1) &&& (0xFF ^^^ p.f 3 1)
        spare := p.f 4 1
        threshold := p.f 5 1
        used := p.f 6 1 }).healthCheck.replyOk p) := by
  have hall : p.f 0 2 ≠ 0xFFFF := by omega
  change execHealthSet op s = _
  rw [execHealthSet, packetRun_takes ht]
  simp only [hall, hsub, hkept, Bool.or_false, Bool.and_false, Bool.not_true, Bool.false_eq_true, if_false]

theorem exec_discLogSet (ht : s.takes op 0x030D p) :
    exec (.discLogSet op) s = .next (({ s with
      nvme.discovery := s.nvme.discovery.set (p.f 0 1) ((List.range (p.f 2 2)).map fun i => slice (p.buffer op) (1024 * i) 1024),
      nvme.genctr := s.nvme.genctr + 1 } : State).replyOk p) := by
  change execDiscLogSet op s = _
  rw [execDiscLogSet, packetRun_takes ht]

end packets

/-- Settles O21: one lemma per clause; the growth of a namespace with and without its head layer is one lemma read
twice, and what a key reference leaves alone settles the owner in NS_CREATE and NS_DELETE. -/
theorem nvmeConfigPacketsAct : Obligations.NvmeConfigPacketsAct := by
  unfold Obligations.NvmeConfigPacketsAct
  exact ⟨fun _ _ _ _ => exec_subsysConfig_known, fun _ _ _ => exec_subsysConfig_new, fun _ _ _ _ => exec_subsysDelete,
    fun _ _ _ _ => exec_subsysHosts, fun _ _ _ _ => exec_nsCreate, fun _ _ _ _ _ => exec_nsDelete,
    fun _ _ _ _ => exec_nsResize_unmapped, fun _ _ _ _ _ => exec_nsResize_mapped, fun _ _ _ _ => exec_nsSetClass,
    fun _ _ _ _ => exec_nsQuery, fun _ _ _ _ _ => exec_ctrlQuery, fun _ _ _ _ => exec_ctrlTeardown,
    fun _ _ _ => exec_healthSet, fun _ _ _ => exec_discLogSet⟩

end Sys2Proof.Proofs
end

section
/-! The owner's side of mirroring: acknowledgements, failed sends, tails, the bind and re-silvering (R16, R28, R31,
R334 to R337, R354). -/

namespace Sys2Proof.Proofs
open Sys2Proof.Machine Sys2Proof.Laws

/-! ### Acknowledgements and failed sends (R31, R334) -/

theorem mirrorFailed_eq (s : State) (w : MirrorMsg) :
    s.mirrorFailed w = if s.head.mirrorRetries ≤ w.sends then s.loseMirror 1 else s.mirrorAgain w (w.sends + 1) := rfl

section messages
variable {s t : State} {conn h lane : Nat} {m : PeerMsg} {b : List Byte} {rest : List (List Byte)}

/-- An acknowledgement in time, its four answers still to be told apart. -/
theorem exec_mirrorAck_of_wait {q : Nat} {w : MirrorMsg} (ht : s.takesPeer conn 2 h lane m b rest)
    (htaken : t = s.peerTaken conn m rest) (hstate : t.mirror.state ≠ .none) (hpeer : t.mirror.peer = h)
    (hq : q = fieldAt m.body 0 8) (hwait : t.mirror.waits.find? (fun w => w.seq == q && w.lane == lane) = some w)
    (htime : t.expired w.deadline = false) :
    exec (.mirrorAck conn) s = .next (if fieldAt m.body 8 1 = 0 then t.mirrorHeld w
      else if fieldAt m.body 8 1 = 1 then t.mirrorFailed w
      else if fieldAt m.body 8 1 = 3 then State.mirrorAgain w w.sends (match t.widestJournal with
        | some d => t.updSdom d fun x => { x with checkpointWanted := true }
        | none => t)
      else t.loseMirror 1) := by
  change execMirrorAck conn s = _
  rw [execMirrorAck, peerRun_takes ht, ← htaken]
  subst hq
  simp only [hstate, hpeer, hwait, htime, ne_eq, not_true_eq_false, decide_false, Bool.or_false, Bool.false_eq_true,
    if_false] <;> rfl

theorem exec_mirrorAck_ignored (ht : s.takesPeer conn 2 h lane m b rest) (htaken : t = s.peerTaken conn m rest)
    (hnone : t.mirror.state = .none ∨ t.mirror.peer ≠ h ∨
      t.mirror.waits.find? (fun w => w.seq == fieldAt m.body 0 8 && w.lane == lane) = none) :
    exec (.mirrorAck conn) s = .next t := by
  change execMirrorAck conn s = _
  rw [execMirrorAck, peerRun_takes ht, ← htaken]
  rcases hnone with hnone | hnone | hnone
  · simp only [hnone, decide_true, Bool.true_or, if_true]
  · simp only [hnone, ne_eq, not_false_eq_true, decide_true, Bool.or_true, if_true]
  · simp only [hnone, ite_self]

theorem exec_bindReply_bound (ht : s.takesPeer conn 7 h lane m b rest) (htaken : t = s.peerTaken conn m rest)
    (hasked : t.mirror.candidate = some h) (hgood : fieldAt m.body 0 1 = 0) :
    ∃ u : State, exec (.bindReply conn) s = .next (if u.lanesReady h then u.startResilver else u) ∧
      u = { t with mirror := { t.mirror with
        candidate := none
        refused := []
        bound := true
        peer := h
        key := fieldAt m.body 4 4
        va := fieldAt m.body 8 8
        lostRaised := false } } := by
  refine ⟨_, ?_, rfl⟩
  change execBindReply conn s = _
  rw [execBindReply, peerRun_takes ht, ← htaken]
  simp only [hasked, hgood, ne_eq, not_true_eq_false, if_false, if_true]

theorem exec_bindReply_refused (ht : s.takesPeer conn 7 h lane m b rest) (htaken : t = s.peerTaken conn m rest)
    (hasked : t.mirror.candidate = some h) (hbad : fieldAt m.body 0 1 ≠ 0) :
    exec (.bindReply conn) s =
      .next (State.tryBind { t with mirror.candidate := none, mirror.refused := t.mirror.refused ++ [h] }) := by
  change execBindReply conn s = _
  rw [execBindReply, peerRun_takes ht, ← htaken]
  simp only [hasked, hbad, ne_eq, not_true_eq_false, if_false]

theorem exec_resyncReply (ht : s.takesPeer conn 9 h lane m b rest) (htaken : t = s.peerTaken conn m rest) :
    exec (.resyncReply conn) s = .next (State.tryBind (State.ceilingCheck { t with
      mirror.resync := some (max (t.mirror.resync.getD 0) m.wsn)
      wp.wsn := max t.wp.wsn m.wsn })) := by
  change execResyncReply conn s = _
  rw [execResyncReply, peerRun_takes ht, ← htaken]

end messages

theorem exec_mirrorAckExpiry {s : State} {lane seq : Nat} {w : MirrorMsg} (hruns : s.runs = true)
    (hwait : s.mirror.waits.find? (fun w => w.seq == seq && w.lane == lane) = some w) (hlate : w.deadline < s.tick) :
    exec (.mirrorAckExpiry lane seq) s = .next (s.mirrorFailed w) := by
  change execMirrorAckExpiry lane seq s = _
  simp only [execMirrorAckExpiry, hwait]
  exact dataIf_of_runs hruns (decide_eq_true hlate) _

/-! ### Tails, the bind and re-silvering (R16, R335, R337) -/

section intervals
variable {s : State} (hruns : s.runs = true)
include hruns

theorem exec_tailInterval (hstate : s.mirror.state ≠ .none) (hmoved : s.tailUnit ≠ s.mirror.tailSent)
    (hdue : s.mirror.tailTick + ticksOf 10000000 ≤ s.tick) :
    ∃ t : State, exec .tailInterval s = .next { t with mirror.tailSent := s.tailUnit, mirror.tailTick := s.tick } ∧
      t = (s.sendMessage s.mirror.peer 0 5 s.tailWsn (le 4 s.tailUnit ++ zeros 4)).2 :=
  ⟨_, dataIf_of_runs hruns (by simp [hstate, hmoved, hdue]) _, rfl⟩

theorem exec_mirrorBindRetry (hpair : s.mesh = false) (hstate : s.mirror.state = .none) (hunbound : s.mirror.bound = false)
    (hfree : s.mirror.candidate = none) (hdue : s.mirror.retryAt ≤ s.tick) (hheads : s.activeHeads ≠ []) :
    exec .mirrorBindRetry s =
      .next (State.tryBind { s with mirror.retryAt := s.tick + ticksOf 1000000000, mirror.refused := [] }) :=
  dataIf_of_runs hruns (by simp [hpair, hstate, hunbound, hfree, hdue, hheads]) _

theorem exec_resilverComplete_ready (hbound : s.mirror.bound = true) (hstate : s.mirror.state = .none)
    (hlanes : s.lanesReady s.mirror.peer = true) : exec .resilverComplete s = .next s.startResilver := by
  change execResilverComplete s = _
  simp only [execResilverComplete, hbound, hstate, BEq.rfl, Bool.and_self, if_true]
  exact dataIf_of_runs hruns hlanes _

theorem exec_resilverComplete_live (hstate : s.mirror.state = .resilvering) (hdone : s.mirror.resilver = [])
    (hjournal : s.mirror.resilverJournal = []) :
    exec .resilverComplete s = .next (State.raise Ev.mirrorLive (le 2 s.mirror.peer ++ le 8 s.mirror.resilvered)
      { s with mirror.state := .live, nvme.cmds := s.nvme.cmds.mapVals fun c => if c.writes then { c with late := true } else c }) := by
  have hnotyet : (s.mirror.bound && s.mirror.state == .none) = false := by simp [hstate]
  change execResilverComplete s = _
  simp only [execResilverComplete, hnotyet, Bool.false_eq_true, if_false]
  exact dataIf_of_runs hruns (by simp [hstate, hdone, hjournal]) _

end intervals

/-- Settles O34: one lemma per clause, the messages by `peerRun_takes`, the intervals by the conditions of their
rules. -/
theorem mirrorOwnerActs : Obligations.MirrorOwnerActs := by
  unfold Obligations.MirrorOwnerActs
  exact ⟨fun _ _ _ _ _ _ _ _ _ _ => exec_mirrorAck_of_wait, fun _ _ _ _ _ _ _ _ => exec_mirrorAck_ignored,
    fun _ _ _ _ => exec_mirrorAckExpiry, mirrorFailed_eq, fun _ => exec_tailInterval,
    fun _ _ _ _ _ _ _ _ => exec_bindReply_bound, fun _ _ _ _ _ _ _ _ => exec_bindReply_refused,
    fun _ => exec_mirrorBindRetry, fun _ => exec_resilverComplete_ready, fun _ => exec_resilverComplete_live,
    fun _ _ _ _ _ _ _ _ => exec_resyncReply⟩

end Sys2Proof.Proofs
end

section
/-! Replication sessions: opened, closed, sent, reported and pumped by their packets, and the end of a synchronous wait
(R31, R356 to R364). -/

namespace Sys2Proof.Proofs
open Sys2Proof.Machine Sys2Proof.Laws

section packets
variable {s t u : State} {op : PktOp} {p : Packet} {i : Nat}

/-- A configured head goes on with a packet of class 0x09. -/
theorem configured_of_ne (hconf : s.head.configuration ≠ 0) (f : State → State) : s.configured p f = f s := by
  simp only [State.configured, if_neg hconf]

theorem ownerOnly_of_owns {d : Nat} (howns : s.owns d = true) (f : State → State) : s.ownerOnly p d f = f s := by
  simp only [State.ownerOnly, howns, if_true]

theorem exec_replOpen {n : Namespace} {c : Nat} {x : Session} (ht : s.takes op 0x0910 p) (hconf : s.head.configuration ≠ 0)
    (hi : p.f 0 1 = i) (hns : s.ns? (p.f 4 4) = some n) (howns : s.owns n.domain = true)
    (hawake : s.power.islands.getD 31 .asleep = .awake) (hidle : (s.session i).role = 0)
    (hmode : p.f 2 1 = 1 → p.f 1 1 = 1 ∧ classOf n.cls ≠ 1)
    (hcipher : bit (p.f 3 1) 0 = true → s.noCipher = false ∧ (s.keySlot (p.f 17 1)).kind = 2)
    (hbase : (if (p.bytes 40 16).all (· == 0) then some 0 else s.snapOf (p.f 4 4) n.domain (p.bytes 40 16)) = some c)
    (hx : x = { role := p.f 1 1, mode := p.f 2 1, flags := p.f 3 1, nsid := p.f 4 4, tag := p.f 8 8, port := p.f 16 1,
                keySlot := p.f 17 1, timeout := p.f 20 4, ip := p.bytes 24 16, state := 1, common := c,
                baseLabel := p.bytes 40 16, conn := if p.f 1 1 = 1 then s.freeContext else none,
                dirty := decide (3 ≤ p.f 1 1) && (s.domain n.domain).tookOver })
    (htabled : t = { s with heads.sessions := s.heads.sessions.set i x })
    (hflagged : u = (if c = 0 then t else t.replFlag n.domain c true)) :
    exec (.replOpen op) s = .next (State.replyOk p (if p.f 1 1 = 1 then
      u.activeConnect (.repl i) (p.f 16 1) none (p.bytes 24 16) (fieldAt (u.subRecord (p.f 16 1)) 0x23 1 % 8)
        (fieldAt (u.subRecord (p.f 16 1)) 0x22 1 % 64) (le 2 0x5250 ++ le 8 (p.f 8 8)) else u)) := by
  have hmode' : (decide (p.f 2 1 = 1) && (decide (p.f 1 1 ≠ 1) || decide (classOf n.cls = 1))) = false := by
    by_cases h : p.f 2 1 = 1
    · obtain ⟨hrole, hclass⟩ := hmode h
      simp [hrole, hclass]
    · simp [h]
  have hpart : (bit (p.f 3 1) 0 && s.noCipher) = false := by
    cases h : bit (p.f 3 1) 0
    · rfl
    · exact (hcipher h).1
  have hkind : (bit (p.f 3 1) 0 && decide ((s.keySlot (p.f 17 1)).kind ≠ 2)) = false := by
    cases h : bit (p.f 3 1) 0
    · rfl
    · simp [(hcipher h).2]
  subst hi hx htabled hflagged
  change execReplOpen op s = _
  rw [execReplOpen, packetRun_takes ht, configured_of_ne hconf]
  simp only [hns, ownerOnly_of_owns howns, hawake, hidle, hmode', hpart, hkind, hbase, ne_eq, not_true_eq_false,
    Bool.false_eq_true, if_false]

theorem exec_replClose (ht : s.takesSession op 0x0911 p i)
    (hended : t = (((if (s.session i).sync = [] then s else s.breakSync i).rollTarget i).clearReplFlags i))
    (hdropped : u = { t with heads.sessions := t.heads.sessions.del i }) :
    exec (.replClose op) s = .next (State.replyOk p (match (s.session i).conn with
      | some c => if (u.conn c).state = .connecting then u.freeConn c else u.disconnect c
      | none => u)) := by
  subst hended hdropped
  change execReplClose op s = _
  rw [execReplClose, onSession_takes ht]
  simp only [List.isEmpty_iff] <;> rfl

theorem exec_replSend {d : Nat} {l : Layer} {base : Option Layer} {rs : List DeltaRec} (ht : s.takesSession op 0x0912 p i)
    (hrole : (s.session i).role ≤ 2)
    (hstate : (s.session i).state = 1 ∨
      ((s.session i).state = 3 ∧ (s.session i).role = 1 ∧ s.replReady (s.session i) = true))
    (hcommon : p.f 4 4 = (s.session i).common)
    (hd : d = ((s.ns? (s.session i).nsid).map Namespace.domain).getD 0) (hlayer : s.layer? d (p.f 8 4) = some l)
    (hkind : l.kind = 2) (hnsid : l.nsid = (s.session i).nsid)
    (hbase : base = (if p.f 4 4 = 0 then none else s.layer? d (p.f 4 4)))
    (hpresent : (l.root :: (base.map Layer.root).toList).flatMap (fun r => if r = 0 then [] else s.absentPages 7 r) = [])
    (hrs : rs = s.deltaRecords base l)
    (hkept : t = ((s.replyOk p).replFlag d (p.f 8 4) true).updSession i (fun y => replStat 4 (coveredBytes rs) { y with
      state := 2, sending := p.f 8 4, records := rs, offers := y.offers.keep fun q _ => y.sync.has q, unanswered := 0,
      ended := false, delta := [0, 0, 0] })) :
    exec (.replSend op) s = .next ((t.replSend i 0x20 0 0 (fit 16 ((base.map Layer.label).getD (zeros 16)) ++
      fit 16 l.label ++ le 8 l.nsze ++ le 1 (t.reduceOf d).bucketLog2 ++ zeros 7)).pumpDelta i) := by
  have hready : (decide (2 < (s.session i).role) || !(decide ((s.session i).state = 1) ||
      (decide ((s.session i).state = 3) && decide ((s.session i).role = 1) && s.replReady (s.session i)))) = false := by
    rcases hstate with h | ⟨h, hone, hconn⟩
    · simp [h, hrole]
    · simp [h, hone, hconn]
  subst hkept hrs hd
  change execReplSend op s = _
  rw [execReplSend, onSession_takes ht]
  simp only [hready, hcommon, hlayer, hkind, hnsid, ne_eq, not_true_eq_false, decide_false, Bool.or_self,
    Bool.false_eq_true, if_false]
  simp only [← hcommon, ← hbase, hpresent, List.isEmpty_nil, Bool.not_true, Bool.false_eq_true, if_false]

theorem exec_replStatus {x : Session} (ht : s.takesSession op 0x0913 p i) (hx : x = s.session i) :
    exec (.replStatus op) s = .next (s.reply p St.ok 64
      (fit 64 (le 1 x.role ++ le 1 x.state ++ zeros 2 ++ le 4 x.common ++ x.counts.flatMap (le 8)))) := by
  subst hx
  change execReplStatus op s = _
  rw [execReplStatus, onSession_takes ht]

theorem exec_replPump {x : Session} {ms out : List (List Byte)} (ht : s.takesSession op 0x0914 p i) (hx : x = s.session i)
    (hrole : x.role = 2 ∨ x.role = 4) (hstate : x.state ≠ 3)
    (hcut : cutMessages (p.f 4 4 / 32 + 1) x.rxSeq ((p.buffer op).take (p.f 4 4)) = some ms)
    (hout : out = fitMessages (p.dataLen - p.f 8 4) x.txq) :
    exec (.replPump op) s = .next ((s.updSession i fun y =>
      { y with rxq := y.rxq ++ ms, rxSeq := y.rxSeq + ms.length, txq := y.txq.drop out.length }).replyAt p
        St.ok out.flatten.length (p.f 8 4) out.flatten) := by
  have hpumped : (decide (x.role ≠ 2) && decide (x.role ≠ 4)) = false := by
    rcases hrole with h | h <;> simp [h]
  subst hx hout
  change execReplPump op s = _
  rw [execReplPump, onSession_takes ht]
  simp only [hpumped, hstate, hcut, Bool.false_eq_true, if_false]

end packets

theorem exec_syncTimeoutExpiry {s : State} {i q : Nat} {e : Nat × Nat × Nat} (hruns : s.runs = true)
    (hwait : (s.session i).sync.get? q = some e) (hlate : e.2.2 < s.tick) :
    exec (.syncTimeoutExpiry i q) s = .next (s.breakSync i) := by
  change execSyncTimeoutExpiry i q s = _
  simp only [execSyncTimeoutExpiry, hwait]
  exact dataIf_of_runs hruns (decide_eq_true hlate) _

/-- Settles O36: one lemma per packet, each past its checks by the session it names, and one for the expiry. -/
theorem replicationPacketsAct : Obligations.ReplicationPacketsAct := by
  unfold Obligations.ReplicationPacketsAct
  exact ⟨fun _ _ _ _ _ _ _ _ _ => exec_replOpen, fun _ _ _ _ _ _ => exec_replClose,
    fun _ _ _ _ _ _ _ _ _ => exec_replSend, fun _ _ _ _ _ => exec_replStatus, fun _ _ _ _ _ _ _ => exec_replPump,
    fun _ _ _ _ => exec_syncTimeoutExpiry⟩

end Sys2Proof.Proofs
end

section
/-! Replication messages at source and target: deltas, offers, needs, extents and synchronous writes (R31, R170, R330,
R357 to R363). -/

namespace Sys2Proof.Proofs
open Sys2Proof.Machine Sys2Proof.Laws

section messages
variable {s t u : State} {i : Nat} {m : PeerMsg} {b : List Byte}

/-- A session message that is taken and whose effect has used it leaves the session's queue. -/
theorem replRun_used {kind : Nat} (ht : s.takesRepl i kind m b) {effect : PeerMsg → State → Bool × State}
    (heffect : effect m s = (true, t)) : replRun i kind s effect = .next (t.replTaken i m) := by
  rw [replRun_takes ht effect (by rw [heffect]), heffect]

/-! ### At the source (R359 to R361, R363) -/

theorem exec_needs {q : Nat} (ht : s.takesRepl i 0x22 m b) (hq : q = fieldAt m.body 0 8)
    (hoffered : (s.session i).offers.has q = true) (hopen : (s.session i).unanswered ≠ 0)
    (hcounted : t = s.updSession i (fun x => { x with unanswered := x.unanswered - 1 })) :
    exec (.needs i) s = .next (State.replTaken i m ((t.readNeeds i q (fieldAt m.body 8 8)).offersDone i q)) := by
  subst hq hcounted
  change execNeeds i s = _
  rw [execNeeds]
  exact replRun_used ht (by simp only [hoffered, hopen, Bool.not_true, decide_false, Bool.or_self, Bool.false_eq_true,
    if_false])

theorem exec_deltaDone_good (ht : s.takesRepl i 0x25 m b) (hsending : (s.session i).state = 2)
    (hgood : fieldAt m.body 0 1 = 0) :
    ∃ t u : State, exec (.deltaDone i) s = .next (State.replTaken i m (u.raise Ev.replDeltaDone
        (le 1 i ++ le 4 (s.session i).sending ++ le 8 ((s.session i).delta.getD 2 0)))) ∧
      t = (s.replFlag (((s.ns? (s.session i).nsid).map Namespace.domain).getD 0) (s.session i).common false).replFlag
        (((s.ns? (s.session i).nsid).map Namespace.domain).getD 0) (s.session i).sending true ∧
      u = t.updSession i fun x => { x with common := x.sending, sending := 0, state := 1, records := [], unanswered := 0 } := by
  refine ⟨_, _, ?_, rfl, rfl⟩
  change execDeltaDone i s = _
  rw [execDeltaDone]
  exact replRun_used ht (by simp only [hsending, hgood, ne_eq, not_true_eq_false, if_false, if_true])

theorem exec_deltaDone_bad (ht : s.takesRepl i 0x25 m b) (hsending : (s.session i).state = 2)
    (hbad : fieldAt m.body 0 1 ≠ 0) :
    exec (.deltaDone i) s = .next (State.replTaken i m (s.failSession i 2 (fieldAt m.body 0 1))) := by
  change execDeltaDone i s = _
  rw [execDeltaDone]
  exact replRun_used ht (by simp only [hsending, hbad, ne_eq, not_true_eq_false, if_false])

theorem exec_syncAck {q k w due : Nat} (ht : s.takesRepl i 0x27 m b)
    (hwait : (s.session i).sync.find? (fun e => e.2.2.1 == m.wsn) = some (q, k, w, due))
    (hended : t = s.updSession i (fun x => { x with sync := x.sync.del q, offers := x.offers.del q })) :
    exec (.syncAck i) s = .next (State.replTaken i m (if s.expired due then s.breakSync i
      else if fieldAt m.body 8 8 ≠ 0 then s.readNeeds i q (fieldAt m.body 8 8)
      else if fieldAt m.body 0 1 ≠ 0 then s
      else if (t.session i).sync.any (fun e => e.2.1 == k) then t
      else (t.updNCmd k fun c => { c with syncWait := false }).settleWrites)) := by
  subst hended
  change execSyncAck i s = _
  rw [execSyncAck]
  refine replRun_used ht ?_
  simp only [hwait]
  split
  · rfl
  split
  · rfl
  split
  · rfl
  split <;> rfl

/-! ### A delta at the target (R357, R359 to R361) -/

theorem exec_deltaBegin {mine : List Byte} {n : Namespace} (ht : s.takesRepl i 0x20 m b)
    (hns : u.ns? (u.session i).nsid = some n)
    (hmine : mine = (if (u.session i).common = 0 then zeros 16
      else ((u.layer? n.domain (u.session i).common).map Layer.label).getD (zeros 16)))
    (hrolled : u = s.rollTarget i) :
    ∃ t : State, exec (.deltaBegin i) s = .next (State.replTaken i m (if slice m.body 0 16 ≠ mine then t.abortDelta i 1
        else if n.nsze < fieldAt m.body 32 8 then t.abortDelta i 3 else t)) ∧
      t = u.updSession i fun x => { x with
        state := 2
        ended := false
        sending := 0
        baseLabel := slice m.body 0 16
        newLabel := slice m.body 16 16
        bucketLog2 := fieldAt m.body 40 1
        offers := []
        wanted := [] } := by
  subst hrolled
  refine ⟨_, ?_, rfl⟩
  change execDeltaBegin i s = _
  rw [execDeltaBegin]
  refine replRun_used ht ?_
  simp only [hns, ← hmine]
  split
  · rfl
  split <;> rfl

theorem exec_offers {n : Nat} {rs : List DeltaRec} {y : List Nat × List Nat × State} (ht : s.takesRepl i 0x21 m b)
    (hn : n = fieldAt m.body 0 2) (hrs : rs = (List.range n).map (fun k => parseDeltaRec (slice m.body (8 + 48 * k) 48)))
    (hreceiving : (s.session i).receiving = true) (hkey : s.targetKey i = true) (hpages : 6 * n ≤ s.pagesFree)
    (hroom : s.targetRoom n 0 = true) (hpresent : s.absentIndex i rs = []) (hy : y = s.takeRecords i rs) :
    exec (.offers i) s = .next (State.replTaken i m ((y.2.2.updSession i fun x => if y.2.1.isEmpty then { x with dirty := true }
      else { x with dirty := true, offers := x.offers.set m.seq rs, wanted := x.wanted.set m.seq y.2.1 }).replSend i 0x22 0 0
        (le 8 m.seq ++ le 8 (needBits y.2.1)))) := by
  subst hy hn
  change execOffers i s = _
  rw [execOffers]
  refine replRun_used ht ?_
  simp only [← hrs, hreceiving, hkey, Nat.not_lt.mpr hpages, hroom, hpresent, List.isEmpty_nil, Bool.not_true,
    Bool.false_eq_true, if_false]

theorem exec_extent {q k : Nat} {ks : List Nat} {r : DeltaRec} (ht : s.takesRepl i 0x23 m b) (hq : q = fieldAt m.body 0 8)
    (hk : k = fieldAt m.body 8 1) (hwanted : (s.session i).wanted.get? q = some ks)
    (hrecord : ((s.session i).offers.getD q [])[k]? = some r) (hasked : k ∈ ks)
    (hroom : s.targetRoom 1 (fieldAt m.body 12 4 / 256 + 1) = true) :
    exec (.extent i) s = .next (State.replTaken i m (match (s.openWire i (bit m.flags 0) m.body).bind fun b => s.stageExtent i r b with
      | none => if (s.session i).syncIn.has q then s.replSend i 0x27 ((((s.session i).syncIn.get? q).map Prod.fst).getD 0) 0 (le 1 1 ++ zeros 15) else s.abortDelta i 2
      | some y => (y.2.updSession i fun x => { x with
          wanted := if (ks.filter (· != k)).isEmpty then x.wanted.del q else x.wanted.set q (ks.filter (· != k))
          offers := if (ks.filter (· != k)).isEmpty then x.offers.del q else x.offers
          syncIn := x.syncIn.upd q fun e => (e.1, e.2.1 ++ [y.1], e.2.2 - 1) }).settleSync)) := by
  subst hq hk
  change execExtent i s = _
  rw [execExtent]
  refine replRun_used ht ?_
  simp only [hwanted, hrecord, List.contains_iff_mem.mpr hasked, hroom, Bool.not_true, Bool.false_eq_true, if_false]
  cases (s.openWire i (bit m.flags 0) m.body).bind fun b => s.stageExtent i r b with
  | none => cases (s.session i).syncIn.has (fieldAt m.body 0 8) <;> rfl
  | some y => rfl

theorem exec_deltaEnd {id : Nat} {n : Namespace} (ht : s.takesRepl i 0x24 m b)
    (hns : s.ns? (s.session i).nsid = some n) (hreceiving : (s.session i).receiving = true)
    (hcomplete : ∀ w ∈ (s.session i).wanted, (s.session i).syncIn.has w.1 = true) (hroom : s.layersToCome < layerLimit)
    (hsettled : (s.staged.any fun r => !r.applied && !r.dropped && r.nsid == (s.session i).nsid &&
      r.deltas.any fun d => d.op == 15) = false)
    (hid : id = (s.mdom n.domain).nextLayer)
    (hnumbered : t = s.updMdom n.domain (fun m => { m with nextLayer := m.nextLayer + 1 }))
    (hclosed : u = t.closeStream n.domain 0 (t.rankOf 16)) :
    exec (.deltaEnd i) s = .next (State.replTaken i m ((u.stageMap n.domain (s.session i).nsid (u.rankOf 16)
      [{ ashlar := id, op := 9, target := n.layer }] none).updSession i fun x =>
        { x with ended := true, sending := n.layer })) := by
  have hnone : ((s.session i).wanted.any fun w => !(s.session i).syncIn.has w.1) = false := by
    simpa using hcomplete
  subst hid hnumbered hclosed
  change execDeltaEnd i s = _
  rw [execDeltaEnd]
  refine replRun_used ht ?_
  simp only [hns, hreceiving, hnone, Nat.not_le.mpr hroom, hsettled, Bool.not_true, Bool.false_eq_true, if_false]

/-! ### Synchronous writes at the target (R363) -/

theorem exec_syncWrite_refused (ht : s.takesRepl i 0x26 m b)
    (hbad : parseSync (bit m.flags 0) m.body = none ∨ s.targetKey i = false) :
    exec (.syncWrite i) s = .next (State.replTaken i m (s.replSend i 0x27 m.wsn 0 (le 1 1 ++ zeros 15))) := by
  change execSyncWrite i s = _
  rw [execSyncWrite]
  refine replRun_used ht ?_
  cases hparse : parseSync (bit m.flags 0) m.body with
  | none => rfl
  | some w =>
    have hkey : s.targetKey i = false := hbad.resolve_left (by simp [hparse])
    simp only [hkey, Bool.not_false, Bool.true_or, if_true]

theorem exec_syncWrite_placed {rs : List DeltaRec} {y : List Nat × List Nat × State} (ht : s.takesRepl i 0x26 m b)
    (hparse : parseSync (bit m.flags 0) m.body = some (rs, [])) (hkey : s.targetKey i = true)
    (hpages : 6 * rs.length ≤ s.pagesFree) (hroom : s.targetRoom rs.length 0 = true) (hpresent : s.absentIndex i rs = [])
    (hy : y = s.takeRecords i rs) (hoffers : ∀ k ∈ y.2.1, ∃ r, rs[k]? = some r ∧ r.offer = true) :
    ∃ t : State, exec (.syncWrite i) s = .next (State.replTaken i m (if y.2.1 = [] then t.settleSync
        else t.replSend i 0x27 m.wsn 0 (zeros 8 ++ le 8 (needBits y.2.1)))) ∧
      t = y.2.2.updSession i fun x => { x with
        syncIn := x.syncIn.set m.seq (m.wsn, y.1, y.2.1.length)
        offers := if y.2.1.isEmpty then x.offers else x.offers.set m.seq rs
        wanted := if y.2.1.isEmpty then x.wanted else x.wanted.set m.seq y.2.1 } := by
  have hdata : (y.2.1.filter fun k => ((rs[k]?).map fun r => !r.offer).getD false) = [] := by
    simp only [List.filter_eq_nil_iff]
    intro k hk
    obtain ⟨r, hr, hoffer⟩ := hoffers k hk
    simp [hr, hoffer]
  have hneed : (y.2.1.filter fun k => !([] : List Nat).contains k) = y.2.1 := by simp
  refine ⟨_, ?_, rfl⟩
  change execSyncWrite i s = _
  rw [execSyncWrite]
  refine replRun_used ht ?_
  simp only [hparse, hkey, Nat.not_lt.mpr hpages, List.map_nil, List.sum_nil, hroom, hpresent, ← hy, hdata, hneed,
    List.zip_nil_left, List.foldl_nil, List.isEmpty_nil, Bool.not_true, decide_false, Bool.or_self, Bool.false_eq_true,
    if_false, List.isEmpty_iff]

end messages

/-- Settles O37: one lemma per message and outcome, each the used message of `replRun_used`. -/
theorem replicationMessagesAct : Obligations.ReplicationMessagesAct := by
  unfold Obligations.ReplicationMessagesAct
  exact ⟨fun _ _ _ _ _ _ _ => exec_deltaBegin, fun _ _ _ _ _ _ _ => exec_offers, fun _ _ _ _ _ _ => exec_needs,
    fun _ _ _ _ _ _ _ _ => exec_extent, fun _ _ _ _ _ _ _ _ => exec_deltaEnd, fun _ _ _ _ => exec_deltaDone_good,
    fun _ _ _ _ => exec_deltaDone_bad, fun _ _ _ _ _ _ _ _ _ => exec_syncAck, fun _ _ _ _ => exec_syncWrite_refused,
    fun _ _ _ _ _ _ => exec_syncWrite_placed⟩

end Sys2Proof.Proofs
end

section
/-! DRAM addresses, the patrol and the sweeps, the checkpoint interval, the Change timer and the hods (R30, R145, R369,
R376, R414, R415). -/

namespace Sys2Proof.Proofs
open Sys2Proof.Machine Sys2Proof.Laws

/-! ### DRAM addresses, the patrol and the sweeps (R369, R376) -/

theorem dramPlace_of_lt {s : State} {a n g : Nat} {set : List Nat}
    (hset : set = (List.range 12).filter (fun c => bit s.trainedSet c)) (hn : n = set.length) (hsome : n ≠ 0)
    (ha : a < s.dramBytes) (hg : g = a / 256) :
    s.dramPlace a = some { granule := g, channel := set.getD (g % n) 0, offset := g / n * 256 + a % 256, sub := a / 64 % 2 } := by
  subst hg
  simp only [State.dramPlace, ← hset, ← hn, ha, Nat.pos_of_ne_zero hsome, decide_true, Bool.and_self, if_true]

theorem dramPlace_of_le {s : State} {a : Nat} (ha : s.dramBytes ≤ a) : s.dramPlace a = none := by
  simp only [State.dramPlace, Nat.not_lt.mpr ha, decide_false, Bool.false_and, Bool.false_eq_true, if_false]

theorem exec_dramPatrolScrub {s : State} {channel lines : Nat} {hits : List LintelHit} (hdump : s.dump.stage = .none)
    (hchannel : channel < 12) (htrained : (s.dramChannel channel).dimm = .trained) (hhours : s.dram.scrubHours ≠ 0) :
    exec (.dramPatrolScrub channel lines hits) s = .next (State.lintelHits hits
      (s.setDramChannel channel { s.dramChannel channel with scrubbed := (s.dramChannel channel).scrubbed + lines })) :=
  onlyIf_of_true (by simp [hdump, hchannel, htrained, hhours]) _ _

theorem exec_sramSweep_guarded {s : State} {island : Nat} {hits : List LintelHit} (hdump : s.dump.stage = .none)
    (hisland : island < 37) (hawake : s.power.islands.getD island .asleep = .awake) :
    exec (.sramSweep island hits none) s =
      .next (State.lintelHits hits { s with dram.sramSweeps := s.dram.sramSweeps + 1 }) :=
  onlyIf_of_true (by simp only [hdump, hisland, hawake]; rfl) _ _

theorem exec_sramSweep_metadata {s : State} {hits : List LintelHit} {ps : List ParityHit} (hdump : s.dump.stage = .none)
    (hawake : s.power.islands.getD 20 .asleep = .awake) :
    exec (.sramSweep 20 hits (some ps)) s =
      .next (ps.foldl (fun s h => s.parityHit h) { s with dram.mcacheSweeps := s.dram.mcacheSweeps + 1 }) :=
  onlyIf_of_true (by simp only [hdump, hawake]; rfl) _ _

/-! ### The checkpoint interval and the Change timer (R30, R145) -/

theorem exec_stampCheckpointInterval {s : State} {failure : Nat} (hruns : s.power.firmwareRunning = true)
    (hdue : s.run.lastCheckpoint + 2 ^ 34 ≤ s.now) :
    exec (.stampCheckpointInterval failure) s =
      .next (((if failure = 0 then s else s.logFault failure).stampCheckpoint false).placeHeld) :=
  onlyIf_of_true (by simp only [hruns, hdue, decide_true, Bool.and_self]) _ _

theorem exec_anattExpiry {s : State} {d : Nat} (hruns : s.runs = true) (hd : d < 256) (hchange : s.nvme.ana.getD d 3 = 15)
    (hacquiring : (s.domain d).state = .acquiring)
    (hlate : s.nvme.anaSince.getD d 0 + ticksOf 30000000000 < s.tick) :
    exec (.anattExpiry d) s = .next (s.setAna d 3) :=
  dataIf_of_runs hruns (by simp only [hd, hchange, hacquiring, State.expired, anatt, hlate, decide_true]; rfl) _

/-! ### The hods (R414, R415) -/

section hods
variable {s : State} {h : Nat} {t : Task}

/-- A hod in service runs the task it finds, urgent first. -/
theorem exec_hodFindWork {u : State} (hh : h < 64) (hservice : (s.hod h).disabled = false)
    (hfound : s.takeTask h true = some (t, u) ∨ (s.takeTask h true = none ∧ s.takeTask h false = some (t, u))) :
    exec (.hodFindWork h) s = .next (u.runTask h t).startWaiting := by
  have hmay : (decide (h < 64) && !(s.hod h).disabled) = true := by simp [hh, hservice]
  change execHodFindWork h s = _
  rcases hfound with hfound | ⟨hnone, hfound⟩
  · simp only [execHodFindWork, hfound]
    exact onlyIf_of_true hmay _ _
  · simp only [execHodFindWork, hnone, hfound]
    exact onlyIf_of_true hmay _ _

variable {urgent : Bool} {rest : List Task}

theorem takeTask_own (hown : ((s.hod h).deque urgent).reverse = t :: rest) :
    s.takeTask h urgent = some (t, s.updHod h fun x => x.setDeque urgent rest.reverse) := by
  simp only [State.takeTask, hown]

theorem takeTask_stolen {v : Nat} (hempty : (s.hod h).deque urgent = [])
    (hvictim : (victims h).find? (fun v => !((s.hod v).deque urgent).isEmpty) = some v)
    (holdest : (s.hod v).deque urgent = t :: rest) :
    ∃ u : State, s.takeTask h urgent = some (t, u.updHod h fun x => { x with steals := x.steals + 1 }) ∧
      u = s.updHod v fun x => { x.setDeque urgent rest with stolen := x.stolen + 1 } := by
  refine ⟨_, ?_, rfl⟩
  simp only [State.takeTask, hempty, List.reverse_nil, hvictim, holdest]

end hods

/-- Settles O39: the place of an address, and one lemma per command past the condition of its rule. -/
theorem memoryAndTimersAct : Obligations.MemoryAndTimersAct := by
  unfold Obligations.MemoryAndTimersAct
  exact ⟨fun _ _ _ _ _ => dramPlace_of_lt, fun _ _ => dramPlace_of_le, fun _ _ _ _ => exec_dramPatrolScrub,
    fun _ _ _ => exec_sramSweep_guarded, fun _ _ _ => exec_sramSweep_metadata, fun _ _ => exec_stampCheckpointInterval,
    fun _ _ => exec_anattExpiry, fun _ _ _ _ => exec_hodFindWork, fun _ _ _ _ _ => takeTask_own,
    fun _ _ _ _ _ _ => takeTask_stolen⟩

end Sys2Proof.Proofs
end

section
/-! The template packets and what the hods and the self-test report (R22 to R25, R413, R417 to R421). -/

namespace Sys2Proof.Proofs
open Sys2Proof.Machine Sys2Proof.Laws

section packets
variable {s : State} {op : PktOp} {p : Packet} {bank : Tab Template} {o : Nat}

/-! ### Loading a template (R23, R419) -/

theorem exec_templateLoad_busy (ht : s.takes op 0x0100 p) (hbusy : s.templates.bankBusy = true) :
    exec (.templateLoad op) s = .next (s.fail p St.templateBankBusy) := by
  change execTemplateLoad op s = _
  rw [execTemplateLoad, packetRun_takes ht]
  simp only [hbusy, if_true]

section checked
variable (ht : s.takes op 0x0100 p) (hfree : s.templates.bankBusy = false) (hlength : p.dataLen = p.f 4 4)
  (hdigest : fit 32 (sha 1 (p.buffer op)) = p.bytes 8 32)
include ht hfree hlength hdigest

theorem exec_templateLoad_good (hgood : templateFault s.mesh (p.f 0 1) (p.buffer op) = none)
    (hbank : bank = s.templates.load.set (p.f 0 1) { body := p.buffer op, digest := p.bytes 8 32, source := 2 }) :
    exec (.templateLoad op) s = .next (if 10485760 < bankBytes bank then s.fail p St.templateBankFull
      else State.replyOk p { s with templates.load := bank }) := by
  subst hbank
  change execTemplateLoad op s = _
  rw [execTemplateLoad, packetRun_takes ht]
  simp only [hfree, hlength, hdigest, hgood, bankLimit, ne_eq, not_true_eq_false, Bool.false_eq_true, if_false]

theorem exec_templateLoad_fault (hfault : templateFault s.mesh (p.f 0 1) (p.buffer op) = some o) :
    exec (.templateLoad op) s = .next (s.reply p St.templateInvalid o []) := by
  change execTemplateLoad op s = _
  rw [execTemplateLoad, packetRun_takes ht]
  simp only [hfree, hlength, hdigest, hfault, ne_eq, not_true_eq_false, Bool.false_eq_true, if_false]

end checked

/-! ### Commit, discard and generate (R24, R419 to R421) -/

theorem exec_templateCommit (ht : s.takes op 0x0101 p) (hfree : s.templates.bankBusy = false)
    (hloaded : s.templates.load ≠ []) (hepoch : p.f 0 4 = s.templates.epoch + 1) :
    exec (.templateCommit op) s = .next (if p.bytes 8 32 = setDigest s.templates.load then State.replyOk p s.switchEpoch
      else s.fail p St.setDigest) := by
  change execTemplateCommit op s = _
  rw [execTemplateCommit, packetRun_takes ht]
  simp only [hfree, List.isEmpty_eq_false_iff.mpr hloaded, hepoch, ne_eq, not_true_eq_false, Bool.false_eq_true, if_false,
    ite_not]

theorem exec_templateDiscard (ht : s.takes op 0x0102 p) (hfree : s.templates.bankBusy = false) :
    exec (.templateDiscard op) s = .next (State.replyOk p { s with templates.load := [] }) := by
  change execTemplateDiscard op s = _
  rw [execTemplateDiscard, packetRun_takes ht]
  simp only [hfree, Bool.false_eq_true, if_false]

theorem exec_templateGenerate (ht : s.takes op 0x0103 p) (hfree : s.templates.bankBusy = false)
    (hbank : bank = ([1, 2, 3, 4, 5].filter fun k => bit (p.f 0 1) (k - 1)).foldl (fun b k => b.set k (s.generated k)) s.templates.load) :
    exec (.templateGenerate op) s = .next (State.reply p St.ok 0 (fit 32 (sha 1 (bank.vals.flatMap Template.digest)))
      { s with templates.load := bank }) := by
  change execTemplateGenerate op s = _
  rw [execTemplateGenerate, packetRun_takes ht]
  simp only [hfree, Bool.false_eq_true, if_false, templateKinds, ← hbank, setDigest]

/-! ### The reports (R421) -/

theorem exec_templateQuery (ht : s.takes op 0x0104 p) : exec (.templateQuery op) s = .next (s.reply p St.ok 0
    (if p.f 0 1 = 0 then bankRecord s.templates.epoch (if s.templates.epoch = 0 then 0 else 2) s.templates.active
     else match s.templates.draining with
     | some old => bankRecord (s.templates.epoch - 1) 3 old
     | none => if s.templates.load.isEmpty then bankRecord 0 0 [] else bankRecord (s.templates.epoch + 1) 1 s.templates.load)) := by
  change execTemplateQuery op s = _
  rw [execTemplateQuery]
  exact packetRun_takes ht _

theorem exec_hodStatus (ht : s.takes op 0x0105 p) : exec (.hodStatus op) s = .next (s.reply p St.ok 0 (s.mason.hods.flatMap fun h =>
    le 1 (if h.disabled then 2 else 0) ++ zeros 1 ++ le 2 h.urgent.length ++ le 2 h.background.length ++ zeros 2 ++ le 8 h.tasks ++ le 8 h.steals ++ le 8 h.stolen)) := by
  change execHodStatus op s = _
  rw [execHodStatus, packetRun_takes ht]

theorem exec_selfTestResult (ht : s.takes op 0x0106 p) : exec (.selfTestResult op) s = .next (s.reply p St.ok 0
    (le 4 s.mason.test.run ++ le 4 s.mason.test.failed ++ le 8 ((s.disabledHods.map fun h => 2 ^ h).sum) ++
      le 16 s.mason.test.engines ++ le 24 s.mason.test.lanes ++ le 2 s.mason.test.channels ++ zeros 6)) := by
  change execSelfTestResult op s = _
  rw [execSelfTestResult, packetRun_takes ht]

end packets

/-! ### The end of an old bank (R22, R25) -/

theorem oldBankDrained_iff (s : State) : s.oldBankDrained = true ↔
    s.templates.draining.isSome = true ∧ s.flash.frameEpoch = s.templates.epoch ∧ s.oldStripes = [] ∧ s.oldJobs = false := by
  simp only [State.oldBankDrained, Bool.and_eq_true, beq_iff_eq, List.isEmpty_iff, Bool.not_eq_true', and_assoc]

theorem exec_templateBankDrained {s : State} (hdrained : s.oldBankDrained = true) :
    exec .templateBankDrained s = .next (State.raise Ev.templateEpochRetired (le 4 (s.templates.epoch - 1))
      { s with templates.draining := none, templates.load := [] }) :=
  onlyIf_of_true hdrained _ _

/-- Settles O40: one lemma per packet and outcome, past the checks in the order of R419. -/
theorem templatePacketsAct : Obligations.TemplatePacketsAct := by
  unfold Obligations.TemplatePacketsAct
  exact ⟨fun _ _ _ => exec_templateLoad_busy, fun _ _ _ _ => exec_templateLoad_good,
    fun _ _ _ _ => exec_templateLoad_fault, fun _ _ _ => exec_templateCommit, fun _ _ _ => exec_templateDiscard,
    fun _ _ _ _ => exec_templateGenerate, fun _ => exec_templateBankDrained, oldBankDrained_iff,
    fun _ _ _ => exec_templateQuery, fun _ _ _ => exec_hodStatus, fun _ _ _ => exec_selfTestResult⟩

end Sys2Proof.Proofs
end

section
/-! The supply: power-on, brown-out, low and failing VBUS, the end of the rails, and the drain that a failing supply
begins (R39, R40, R46, R48, R56, R457, R458). -/

namespace Sys2Proof.Proofs
open Sys2Proof.Machine Sys2Proof.Laws

section supply
variable {s : State} {vbus : Nat}

/-! ### The supply as measured (R61) -/

@[simp] theorem measured_power_vbus (vbus : Nat) (s : State) : (s.measured vbus).power.vbus = vbus := rfl

/-- A measurement stores VBUS as given and two free readings within their 16 bits, and changes nothing else. -/
theorem measured_spec (s : State) (vbus : Nat) : ∃ t : State, s.measured vbus = t ∧ t.power.vbus = vbus ∧
    t.power.ibus < 2 ^ 16 ∧ t.power.pbus < 2 ^ 16 ∧
    { t with power := { t.power with vbus := s.power.vbus, ibus := s.power.ibus, pbus := s.power.pbus } } = s :=
  ⟨_, rfl, rfl, Nat.mod_lt _ (by decide), Nat.mod_lt _ (by decide), rfl⟩

/-! ### Power-on and the end of internal reset (R39, R56) -/

theorem exec_powerOn (hoff : s.power.standbyRail = false) (hvbus : 8700 ≤ vbus) :
    ∃ t, exec (.powerOn vbus) s = .next t ∧ t.power.standbyRail = true ∧ t.power.vbus = vbus ∧ t.power.internalReset = true ∧
      t.power.bypassClosed = true ∧ t.power.coreRails = false ∧ t.mason.vault = s.mason.vault := by
  refine ⟨_, onlyIf_of_true (by simp [hoff, hvbus]) _ _, ?_⟩
  simp [State.setPower, Power.kept]

theorem exec_coreRailsInRegulation (hrail : s.power.standbyRail = true) (hstandby : s.power.standby = false)
    (hcore : s.power.coreRails = false) (hramps : s.rampsDone = true) :
    exec .coreRailsInRegulation s = .next { s with power := { s.power with
      coreRails := true, pwrGood := true, autoAt := if s.power.resetL then some (s.tick + ticksOf 1000000) else none } } :=
  onlyIf_of_true (by simp [hrail, hstandby, hcore, hramps]) _ _

theorem exec_autoResetRelease {straps : BitVec 6} {d : Nat} (hauto : s.power.autoAt = some d) (hlate : d < s.tick)
    (hreset : s.power.internalReset = true) : exec (.autoResetRelease straps) s = .next (s.release straps) := by
  change execAutoResetRelease straps s = _
  simp only [execAutoResetRelease, hauto]
  exact onlyIf_of_true (by simp [State.expired, hlate, hreset]) _ _

/-! ### Low VBUS and brown-out (R39, R40, R458) -/

theorem exec_vbusLow (hrail : s.power.standbyRail = true) (harmed : s.power.lowArmed = true) (hvbus : vbus < 9000) :
    exec (.vbusLow vbus) s =
      .next (({ s with power := { s.power with lowArmed := false } }.measured vbus).raiseEarly Ev.vbusLow (le 2 vbus)) :=
  onlyIf_of_true (by simp [hrail, harmed, hvbus]) _ _

theorem exec_vbusRiseAbove9v5 (hrail : s.power.standbyRail = true) (hvbus : 9500 < vbus) :
    exec (.vbusRiseAbove9v5 vbus) s = .next ({ s with power := { s.power with lowArmed := true } }.measured vbus) :=
  onlyIf_of_true (by simp [hrail, hvbus]) _ _

theorem exec_brownout (hrail : s.power.standbyRail = true) (hvbus : vbus < 8000) :
    exec (.brownout vbus) s =
      .next (({ s with power := { s.power with brownout := true, brownoutSeen := true } }.measured vbus).raiseEarly
        Ev.brownout (le 2 vbus)).supplyFails :=
  onlyIf_of_true (by simp [hrail, hvbus]) _ _

theorem exec_brownoutRelease (hbrown : s.power.brownout = true) (hvbus : 8500 ≤ vbus) :
    exec (.brownoutRelease vbus) s = .next ((List.range 96).foldl (fun t l => t.flushLink l)
      ({ s with power := { s.power with brownout := false } }.measured vbus)) :=
  onlyIf_of_true (by simp [hbrown, hvbus]) _ _

/-! ### The end of the rails, and a supply that fails (R39, R46, R48) -/

theorem exec_vbusStop (hrail : s.power.standbyRail = true) (hvbus : vbus < 7000) :
    ∃ t, exec (.vbusStop vbus) s = .next t ∧ t.power.standbyRail = false ∧ t.power.coreRails = false ∧ t.power.pwrGood = false ∧
      t.power.bypassClosed = true ∧ t.power.vbus = vbus ∧ t.mason.vault = s.mason.vault := by
  refine ⟨_, onlyIf_of_true (by simp [hrail, hvbus]) _ _, ?_⟩
  simp [Power.kept]

theorem exec_vbusFail (hrail : s.power.standbyRail = true) (hpdown : s.power.pdown = .none) :
    exec .vbusFail s = .next { s with power := { s.power with vbusFail := true } }.supplyFails := by
  refine (onlyIf_of_true hrail _ _).trans ?_
  rw [if_pos hpdown]
  rfl

/-- A drain that may start raises its event, is in its first stage, and then drops what staging does not hold. -/
theorem supplyFails_of_mayDrain (hmay : s.mayDrain = true) :
    ∃ u : State, s.supplyFails = u.dropUnstaged.dropAdmin ∧ u.power.drain = .quiesce ∧ u.power.drainBytes = 256 * s.wp.occupancy ∧
      u.power.drainStart = s.now ∧ u.power.vbusFailSeen = true ∧ u.direct.phase = 7 ∧
      u.events = (s.raise Ev.vbusFail (le 8 (256 * s.wp.occupancy))).events :=
  ⟨_, if_pos hmay, rfl, rfl, rfl, rfl, rfl, rfl⟩

theorem supplyFails_of_not_mayDrain (hmay : s.mayDrain = false) : s.supplyFails = s := by
  simp [State.supplyFails, hmay]

/-- No power-down sequence runs where a drain may start. -/
theorem pdown_of_mayDrain (hmay : s.mayDrain = true) : s.power.pdown = .none := by
  simp only [State.mayDrain, Bool.and_eq_true, beq_iff_eq] at hmay
  obtain ⟨⟨⟨_, hpdown⟩, _⟩, _⟩ := hmay
  exact hpdown

theorem exec_vbusFail_of_mayDrain (hrail : s.power.standbyRail = true) (hmay : s.mayDrain = true) :
    ∃ t u : State, exec .vbusFail s = .next t ∧ t = u.dropUnstaged.dropAdmin ∧ u.power.drain = .quiesce ∧
      u.power.drainBytes = 256 * s.wp.occupancy ∧ u.direct.phase = 7 := by
  have hmay' : State.mayDrain { s with power := { s.power with vbusFail := true } } = true := hmay
  obtain ⟨u, hu, hdrain, hbytes, _, _, hphase, _⟩ := supplyFails_of_mayDrain hmay'
  exact ⟨_, u, exec_vbusFail hrail (pdown_of_mayDrain hmay), hu, hdrain, hbytes, hphase⟩

end supply

/-- Settles O1: one lemma per supply command past its condition. -/
theorem supplyCommandsAct : Obligations.SupplyCommandsAct := by
  unfold Obligations.SupplyCommandsAct
  exact ⟨fun _ _ => exec_powerOn, fun _ => exec_coreRailsInRegulation,
    fun _ _ _ hauto hlate hreset => ⟨_, exec_autoResetRelease hauto hlate hreset, rfl, rfl, rfl, rfl, rfl, rfl⟩,
    fun _ _ => exec_vbusLow, fun _ _ => exec_vbusRiseAbove9v5, fun _ _ => exec_brownout, fun _ _ => exec_brownoutRelease,
    measured_spec, fun _ _ => exec_vbusStop, fun _ => exec_vbusFail⟩

/-- Settles O2: the two cases of a failing supply, and the command that reports one. -/
theorem drainBeginsOnSupplyFailure : Obligations.DrainBeginsOnSupplyFailure := by
  unfold Obligations.DrainBeginsOnSupplyFailure
  exact ⟨fun _ => supplyFails_of_mayDrain, fun _ => supplyFails_of_not_mayDrain, fun _ => exec_vbusFail_of_mayDrain⟩

end Sys2Proof.Proofs
end

section
/-! The stages of a drain, phase plans and island ramps (R42 to R44, R46, R47). -/

namespace Sys2Proof.Proofs
open Sys2Proof.Machine Sys2Proof.Laws

section drain
variable {s : State}

/-! ### The stages of a drain (R46, R47) -/

theorem exec_drainQuiesceEnd (hdrain : s.power.drain = .quiesce) (hlate : s.power.drainStart + 20000 ≤ s.now) :
    ∃ t u : State, exec .drainQuiesceEnd s = .next t ∧ t = ((State.loseMirror 5 u).sleepAllBut drainIslands).closeStaged ∧
      u.power.drain = .draining ∧ u.pcie.linkUp = false :=
  ⟨_, _, onlyIf_of_true (by simp [hdrain, hlate]) _ _, rfl, rfl, rfl⟩

theorem exec_drainedStateEnter (hdrain : s.power.drain = .draining) (hsettled : s.drainSettled = true) :
    exec .drainedStateEnter s = .next s.enterDrained :=
  onlyIf_of_true (by simp [hdrain, hsettled]) _ _

/-! ### Phase plans (R44) -/

theorem exec_loadBandCrossing {band : Nat} (hcore : s.power.coreRails = true) (hband : band < 6)
    (hother : band ≠ s.power.loadBand) :
    exec (.loadBandCrossing band) s =
      .next ({ s with power := { s.power with loadBand := band, rederiving := !s.planFits band } }.measured s.power.vbus) :=
  onlyIf_of_true (by simp [hcore, hband, hother]) _ _

/-- An event raised before stamps are granted waits in the power state. -/
theorem raiseEarly_of_not_stamps (hstamps : s.power.stamps = false) (code : Nat) (params : List Byte) :
    s.raiseEarly code params = { s with power := { s.power with early := s.power.early ++ [(code, params)] } } := by
  simp only [State.raiseEarly, hstamps, Bool.false_eq_true, if_false]
  rfl

theorem exec_phasePlanRederived (hrederiving : s.power.rederiving = true) (hplan : s.power.plans.has s.power.loadBand = true)
    (hstamps : s.power.stamps = false) :
    ∃ t, exec .phasePlanRederived s = .next t ∧ t.power.rederiving = false ∧ t.power.loadBand = s.power.loadBand ∧
      (t.power.plans.get? s.power.loadBand).map (fun p => (p.vbusBand, p.tjBand)) = some (s.vbusBand, s.tjBand) := by
  refine ⟨_, onlyIf_of_true hrederiving _ _, ?_⟩
  rw [if_pos hplan, raiseEarly_of_not_stamps (by exact hstamps)]
  exact ⟨rfl, rfl, by simp [State.setPower, Tab.get?_set_self]⟩

/-! ### Islands (R42, R43) -/

theorem exec_islandWakeAdmit {w : Nat × Nat} {rest : List (Nat × Nat)} (hqueue : s.power.wakeQueue = w :: rest) :
    exec .islandWakeAdmit s = .next (if s.rampWeight + Config.weight w.1 ≤ Config.rampLimit then
      { s with power := { s.power with wakeQueue := rest, islands := s.power.islands.set w.1 (.ramp false) } } else s) := by
  change execIslandWakeAdmit s = _
  simp only [execIslandWakeAdmit, hqueue, onlyIf_next, decide_eq_true_eq]
  rfl

theorem exec_islandRampEnd {i : Nat} {back : Bool} (hramp : s.island i = .ramp back) :
    exec (.islandRampEnd i) s = .next ((s.setIsland i (if back then .asleep else .awake)).settleIsland i) := by
  change execIslandRampEnd i s = _
  simp only [execIslandRampEnd, hramp]

end drain

/-- Settles O3: one lemma per command past its condition. -/
theorem drainIslandsAndPlans : Obligations.DrainIslandsAndPlans := by
  unfold Obligations.DrainIslandsAndPlans
  exact ⟨fun _ => exec_drainQuiesceEnd, fun _ => exec_drainedStateEnter, fun _ _ => exec_loadBandCrossing,
    fun _ => exec_phasePlanRederived, fun _ _ _ hqueue _ => exec_islandWakeAdmit hqueue,
    fun _ _ _ hramp _ => exec_islandRampEnd hramp⟩

end Sys2Proof.Proofs
end

section
/-! The power packets and the ends of the power-down sequence (R42, R43, R50, R57, R65, R405, R460). -/

namespace Sys2Proof.Proofs
open Sys2Proof.Machine Sys2Proof.Laws

section packets
variable {s : State} {op : PktOp} {p : Packet}

/-! ### Islands and the power record (R42, R43, R65) -/

/-- A field that is 0 in its low `n` bits names none of `n` islands. -/
theorem filter_bit_eq_nil {v n : Nat} (hv : v % 2 ^ n = 0) : (List.range n).filter (fun i => bit v i) = [] := by
  refine List.filter_eq_nil_iff.mpr fun i hi => ?_
  have hlow : (v % 2 ^ n).testBit i = bit v i := by simp [Nat.testBit_mod_two_pow, List.mem_range.mp hi, bit]
  simp [← hlow, hv]

theorem exec_islandPower_empty (ht : s.takes op 0x0020 p) (hwake : p.f 8 1 = 1) (hmask : p.f 0 8 % 2 ^ 37 = 0) :
    exec (.islandPower op) s = .next (s.replyOk p) := by
  change execIslandPower op s = _
  rw [execIslandPower, packetRun_takes ht]
  simp only [filter_bit_eq_nil hmask, hwake, beq_self_eq_true, Bool.not_true, Bool.false_and, Bool.false_eq_true, if_false,
    List.foldl_nil, List.filter_nil, List.isEmpty_nil, if_true]

theorem exec_powerStatus (ht : s.takes op 0x0021 p) :
    exec (.powerStatus op) s = .next (s.reply p St.ok 64 s.powerRecord) :=
  packetRun_takes ht _

/-! ### The staging limit (R50, R65) -/

theorem exec_holdupConfig_within (ht : s.takes op 0x0022 p) (hlimit : p.f 0 8 ≤ 256 * s.wp.logUnits) :
    ∃ t : State, exec (.holdupConfig op) s = .next (State.replyOk p t) ∧
      t = (({ s with power := { s.power with stagingLimit := p.f 0 8 }, wp.limit := p.f 0 8 / 256 } : State).stagingLevel.stagingClose.placeHeld.healthCheck).considerWrites 1 := by
  refine ⟨_, ?_, rfl⟩
  change execHoldupConfig op s = _
  rw [execHoldupConfig, packetRun_takes ht]
  simp only [Nat.not_lt.mpr hlimit, if_false]
  rfl

theorem exec_holdupConfig_above (ht : s.takes op 0x0022 p) (hlimit : 256 * s.wp.logUnits < p.f 0 8) :
    exec (.holdupConfig op) s = .next (s.failField p St.outOfRange 0) := by
  change execHoldupConfig op s = _
  rw [execHoldupConfig, packetRun_takes ht]
  simp only [hlimit, if_true]

/-! ### The power-down sequence and the software reset (R57, R65, R405, R460) -/

theorem exec_chipPowerDown (ht : s.takes op 0x0023 p) (hdraining : s.draining = false) :
    exec (.chipPowerDown op) s = .next (State.await p { s with power := { s.power with
      pdown := .settling, pdownAcc := p.acc, pdownDeadline := s.tick + ticksOf 50000000 } }) := by
  change execChipPowerDown op s = _
  rw [execChipPowerDown, packetRun_takes ht]
  simp only [hdraining, Bool.false_eq_true, if_false]
  rfl

theorem exec_powerDownCommandsSettled (hpdown : s.power.pdown = .settling) (hruns : s.runs = true)
    (hsettled : s.commandsSettled = true ∨ s.power.pdownDeadline < s.tick) :
    ∃ t u : State, exec .powerDownCommandsSettled s = .next t ∧ t = u.closeStaged ∧ u.power.pdown = .draining := by
  have hdue : (s.commandsSettled || s.expired s.power.pdownDeadline) = true := by simpa [State.expired] using hsettled
  exact ⟨_, _, onlyIf_of_true (by simp [hpdown, hruns, hdue]) _ _, rfl, rfl⟩

theorem exec_powerDownDrainDone (hpdown : s.power.pdown = .draining) (hruns : s.runs = true) (hsettled : s.drainSettled = true) :
    ∃ t, exec .powerDownDrainDone s = .next t ∧ t.power.standby = true ∧ t.power.coreRails = false ∧ t.power.pwrGood = false ∧
      t.power.internalReset = true ∧ t.power.tripped = false := by
  refine ⟨_, onlyIf_of_true (by simp [hpdown, hruns, hsettled]) _ _, ?_⟩
  obtain ⟨hstandby, htripped, hcore, hgood, hreset, _⟩ := enterStandby_power s.anyTrained false
    (State.replyTo s.power.pdownAcc St.ok 0 [] (s.stampCheckpoint true)).leaveRing
  exact ⟨hstandby, hcore, hgood, hreset, htripped⟩

theorem exec_chipReset (ht : s.takes op 0x0024 p) (hrecovery : s.direct.recoveryBoot = false) :
    exec (.chipReset op) s =
      .next (State.replyOk p { s with power := { s.power with swResetAt := some (s.tick + ticksOf 1000000) } }) := by
  change execChipReset op s = _
  rw [execChipReset, packetRun_takes ht]
  simp only [hrecovery, Bool.false_and, Bool.false_eq_true, if_false]
  rfl

end packets

/-- Settles O4: one lemma per packet and outcome, and one per end of the power-down sequence. -/
theorem powerPacketsAct : Obligations.PowerPacketsAct := by
  unfold Obligations.PowerPacketsAct
  exact ⟨fun _ _ _ => exec_islandPower_empty, fun _ _ _ => exec_powerStatus, fun _ _ _ => exec_holdupConfig_within,
    fun _ _ _ => exec_holdupConfig_above, fun _ _ _ => exec_chipPowerDown, fun _ => exec_powerDownCommandsSettled,
    fun _ => exec_powerDownDrainDone, fun _ _ _ => exec_chipReset⟩

end Sys2Proof.Proofs
end

section
/-! Reset pins, internal reset, clocks, PERST and the PCIe resets (R47, R52 to R56, R67, R74, R460). -/

namespace Sys2Proof.Proofs
open Sys2Proof.Machine Sys2Proof.Laws

section resets
variable {s : State}

/-! ### Resets and their pins (R47, R53 to R56, R460) -/

theorem exec_softwareResetExpiry {d : Nat} (hscheduled : s.power.swResetAt = some d) (hlate : d < s.tick) :
    exec .softwareResetExpiry s = .next (State.takeReset 1 { s with power := { s.power with swResetAt := none } }) := by
  change execSoftwareResetExpiry s = _
  simp only [execSoftwareResetExpiry, hscheduled]
  exact onlyIf_of_true (by simp [State.expired, hlate]) _ _

theorem exec_resetPinAssert (hpin : s.power.resetL = true) (hstandby : s.power.standby = false) (hcore : s.power.coreRails = true) :
    exec .resetPinAssert s =
      .next (State.takeReset 0 ({ s with power := { s.power with resetL := false, autoAt := none } }.setBypass true)) := by
  refine (onlyIf_of_true hpin _ _).trans ?_
  simp only [hstandby, hcore, Bool.false_and, Bool.false_eq_true, if_false, if_true]
  rfl

theorem exec_internalResetBegin (hrefreshing : s.power.selfRefreshing = true) :
    exec .internalResetBegin s = .next (s.enterReset true) :=
  onlyIf_of_true hrefreshing _ _

/-- RESET_L raised with PWR_GOOD high and no automatic release due ends internal reset. -/
theorem exec_resetPinRelease {straps : BitVec 6} (hreset : s.power.internalReset = true) (hgood : s.power.pwrGood = true)
    (hauto : s.power.autoAt = none) :
    exec (.resetPinRelease straps) s =
      .next (({ s with power := { s.power with resetL := true } } : State).tapRelease.release straps) := by
  change execResetPinRelease straps s = _
  simp only [execResetPinRelease, hreset, hgood, hauto, Option.isNone_none, Bool.and_self, if_true]
  rfl

/-- A release samples the straps and ends internal reset; the level of RESET_L stays. -/
theorem release_power (straps : BitVec 6) (s : State) : (s.release straps).power.resetL = s.power.resetL ∧
    (s.release straps).power.internalReset = false ∧ (s.release straps).power.straps = straps ∧
      (s.release straps).power.sampled = true :=
  ⟨rfl, rfl, rfl, rfl⟩

theorem exec_resetPinRelease_power {straps : BitVec 6} (hreset : s.power.internalReset = true) (hgood : s.power.pwrGood = true)
    (hauto : s.power.autoAt = none) :
    ∃ t, exec (.resetPinRelease straps) s = .next t ∧ t.power.resetL = true ∧ t.power.internalReset = false ∧
      t.power.straps = straps ∧ t.power.sampled = true := by
  obtain ⟨hpin, hended, hstraps, hsampled⟩ :=
    release_power straps ({ s with power := { s.power with resetL := true } } : State).tapRelease
  exact ⟨_, exec_resetPinRelease hreset hgood hauto, hpin.trans (tapRelease_power_resetL _), hended, hstraps, hsampled⟩

/-! ### Clocks (R52) -/

/-- While the data path does not run the loss of a clock takes nothing down. -/
theorem exec_clockLoss_stopped {clock : Nat} (hrail : s.power.standbyRail = true) (hclock : clock < 5)
    (hpresent : s.power.clocksLost.getD clock false = false) (hstopped : s.runs = false) :
    exec (.clockLoss clock) s = .next
      ({ s with power := { s.power with clocksLost := s.power.clocksLost.set clock true } }.raiseEarly Ev.clockLoss (le 1 clock)) := by
  refine (onlyIf_of_true (by simp only [hrail, hclock, hpresent]; rfl) _ _).trans ?_
  rw [if_neg (by simp [hstopped])]
  rfl

theorem exec_clockRestored_quiet {clock : Nat} (hquiet : clock < 2 ∨ clock = 3)
    (hlost : s.power.clocksLost.getD clock false = true) :
    exec (.clockRestored clock) s =
      .next { s with power := { s.power with clocksLost := s.power.clocksLost.set clock false } } := by
  have hclock : clock < 5 := by omega
  have hpcie : (clock == 2) = false := beq_eq_false_iff_ne.mpr (by omega)
  have hmason : clock ≠ 4 := by omega
  refine (onlyIf_of_true (by simp only [hclock, hlost]; rfl) _ _).trans ?_
  simp only [hpcie, hmason, Bool.false_and, Bool.false_eq_true, if_false]
  rfl

/-! ### PERST, the PCIe reset and DMA (R47, R53, R56, R67, R74) -/

/-- PCIE_PERST_L raised: the endpoint answers and its link is up exactly while the core runs, its clock is there and no
drain has begun. -/
theorem exec_pciePerstLRise {up : Bool} (hlow : s.pcie.perstHigh = false)
    (hup : up = (s.coreRuns && !s.power.clocksLost.getD 2 false && s.power.drain == .none)) :
    exec .pciePerstLRise s = .next { s with pcie.perstHigh := true, pcie.answers := up, pcie.linkUp := up } := by
  subst hup
  exact onlyIf_of_true (by simp [hlow]) _ _

theorem exec_pciePerstLRise_link (hlow : s.pcie.perstHigh = false) :
    ∃ t, exec .pciePerstLRise s = .next t ∧ t.pcie.perstHigh = true ∧
      (s.coreRuns = true → s.power.clocksLost.getD 2 false = false → s.power.drain = .none → t.pcie.linkUp = true ∧ t.pcie.answers = true) ∧
      (s.coreRuns = false → t.pcie.linkUp = false) ∧ t.pcie.rings = s.pcie.rings ∧ t.power = s.power := by
  refine ⟨_, exec_pciePerstLRise hlow rfl, rfl, fun hcore hclock hdrain => ?up, fun hcore => ?down, rfl, rfl⟩
  case up => simp only [hcore, hclock, hdrain]; exact ⟨rfl, rfl⟩
  case down => simp only [hcore, Bool.false_and]

theorem exec_pcieReset_linkDown (hreset : s.power.internalReset = false) (hdrain : s.power.drain = .none) :
    exec (.pcieReset .linkDown) s = .next s.pcieReset := by
  refine (if_neg (by simp [hdrain])).trans ?_
  exact onlyIf_of_true (by simp [hreset]) _ _

theorem exec_pcieReset_held (hdrain : s.power.drain = .quiesce ∨ s.power.drain = .draining) :
    exec (.pcieReset .linkDown) s = .next { s with power := { s.power with held := s.power.held.set 2 true } } :=
  if_pos (by simpa using hdrain)

theorem exec_busMasterOrDStateChange (bme d0 : Bool) (s : State) :
    exec (.busMasterOrDStateChange bme d0) s = .next (if !s.dma && (bme && d0 && s.pcie.linkUp) then
      State.resumeDma { s with pcie := { s.pcie with bme := bme, d0 := d0 } }
    else { s with pcie := { s.pcie with bme := bme, d0 := d0 } }) := rfl

theorem exec_busMasterOrDStateChange_stays {bme d0 : Bool} (hstays : s.dma = true ∨ (bme && d0 && s.pcie.linkUp) = false) :
    exec (.busMasterOrDStateChange bme d0) s = .next { s with pcie := { s.pcie with bme := bme, d0 := d0 } } := by
  rw [exec_busMasterOrDStateChange, if_neg (by rcases hstays with h | h <;> simp only [h] <;> simp)]

theorem exec_busMasterOrDStateChange_resumes (hstopped : s.dma = false) (hlink : s.pcie.linkUp = true) :
    exec (.busMasterOrDStateChange true true) s =
      .next (State.resumeDma { s with pcie := { s.pcie with bme := true, d0 := true } }) := by
  rw [exec_busMasterOrDStateChange, if_pos (by simp [hstopped, hlink])]

end resets

/-- Settles O5: one lemma per command, the held and the taken PCIe reset and the two outcomes of the DMA bits apart. -/
theorem resetClockCommandsAct : Obligations.ResetClockCommandsAct := by
  unfold Obligations.ResetClockCommandsAct
  exact ⟨fun _ _ => exec_softwareResetExpiry, fun _ => exec_resetPinAssert,
    fun _ hrefreshing => ⟨_, exec_internalResetBegin hrefreshing, enterReset_internalReset _ _, enterReset_selfRefresh _,
      enterReset_bypassClosed _ _, enterReset_vault _ _, enterReset_image _ _⟩,
    fun _ _ => exec_resetPinRelease_power, fun _ => exec_pciePerstLRise_link, fun _ _ => exec_clockLoss_stopped,
    fun _ _ => exec_clockRestored_quiet, fun _ => exec_pcieReset_linkDown, fun _ => exec_pcieReset_held,
    fun _ _ _ => exec_busMasterOrDStateChange_stays, fun _ => exec_busMasterOrDStateChange_resumes⟩

end Sys2Proof.Proofs
end

section
/-! The thermal alert and trip, SMBus writes and TAP shifts (R60 to R64). -/

namespace Sys2Proof.Proofs
open Sys2Proof.Machine Sys2Proof.Laws

section sideband
variable {s : State}

/-! ### Thermal alert and trip (R63) -/

theorem exec_thermalAlertAssert {sensor : Nat} {temp : W16} (hrail : s.power.standbyRail = true) (hsensor : sensor < 18)
    (hquiet : s.power.thermAlert = false) (hhot : s.power.thermSet.toInt ≤ (s.setTemp sensor temp).tjMax) :
    ∃ t u : State, exec (.thermalAlertAssert sensor temp) s = .next t ∧ t = u.healthCheck ∧
      u = ({ s.setTemp sensor temp with power := { (s.setTemp sensor temp).power with thermAlert := true } }.raiseEarly Ev.thermalAlert
        (le 2 ((s.setTemp sensor temp).tjMax % 65536).toNat ++ le 1 sensor)) :=
  ⟨_, _, onlyIf_of_true (by simp [hrail, hsensor, hquiet, hhot]) _ _, rfl, rfl⟩

theorem exec_thermalAlertRelease {temps : List W16} (halert : s.power.thermAlert = true) (hlength : temps.length = 18)
    (hcool : State.tjMax { s with power := { s.power with temps := temps, thermAlert := false } } <
      s.power.thermSet.toInt - 16 * s.power.thermHyst.toNat) :
    exec (.thermalAlertRelease temps) s =
      .next (State.healthCheck { s with power := { s.power with temps := temps, thermAlert := false } }) :=
  onlyIf_of_true (by
    simp only [halert, hlength, beq_self_eq_true, Bool.true_and, decide_eq_true_eq]
    exact hcool) _ _

@[simp] theorem wakeIsland_power_drain (i : Nat) (s : State) : (s.wakeIsland i).power.drain = s.power.drain := by
  unfold State.wakeIsland
  repeat' split
  all_goals rfl

@[simp] theorem wakeAll_power_drain (s : State) : s.wakeAll.power.drain = s.power.drain := by
  unfold State.wakeAll
  refine foldl_keeps _ (fun t => t.power.drain) (fun t i => ?_) _ s
  repeat' split
  · rfl
  · rfl
  · exact wakeIsland_power_drain i t

/-- A reset ends whatever drain has begun. -/
@[simp] theorem enterReset_drain (refresh : Bool) (s : State) : (s.enterReset refresh).power.drain = .none := by
  simp [State.enterReset, State.setPower, Power.kept]

theorem enterStandby_drain (refresh trip : Bool) (s : State) : (s.enterStandby refresh trip).power.drain = .none := by
  simp only [State.enterStandby, State.setPower, Power.railsOff, enterReset_drain]

theorem enterStandby_tripSeen (refresh : Bool) (s : State) : (s.enterStandby refresh true).power.tripSeen = true := by
  simp only [State.enterStandby, State.setPower, Bool.or_true]

theorem exec_thermalTrip {sensor : Nat} {temp : W16} (hrail : s.power.standbyRail = true) (hsensor : sensor < 18)
    (huntripped : s.power.tripped = false) (hhot : 1792 ≤ temp.toInt) :
    ∃ t, exec (.thermalTrip sensor temp) s = .next t ∧ t.power.standby = true ∧ t.power.tripped = true ∧ t.power.tripSeen = true ∧
      t.power.coreRails = false ∧ t.power.standbyRail = true ∧ t.power.drain = .none := by
  refine ⟨_, onlyIf_of_true (by simp [hrail, hsensor, huntripped, hhot]) _ _, ?_⟩
  obtain ⟨hstandby, htripped, hcore, _, _, hkept⟩ := enterStandby_power false true (s.setTemp sensor temp)
  exact ⟨hstandby, htripped, enterStandby_tripSeen _ _, hcore, hkept.trans hrail, enterStandby_drain _ _ _⟩

/-! ### SMBus writes (R61, R62) -/

theorem exec_smbStatusClear {v : Byte} (hrail : s.power.standbyRail = true) :
    exec (.smbStatusClear v) s = .next { s with power := { s.power with
      vbusFailSeen := s.power.vbusFailSeen && !v.getLsbD 2, brownoutSeen := s.power.brownoutSeen && !v.getLsbD 3,
      tripSeen := s.power.tripSeen && !v.getLsbD 5 } } :=
  onlyIf_of_true hrail _ _

theorem exec_smbRegisterWrite {code : Nat} {v : W16} (hrail : s.power.standbyRail = true) :
    exec (.smbRegisterWrite code v) s = .next (s.smbWrite code v) :=
  onlyIf_of_true hrail _ _

theorem smbWrite_thermSet {v : W16} (hlow : 960 ≤ v.toNat) (hhigh : v.toNat ≤ 1680) :
    s.smbWrite 0x0A v = { s with power := { s.power with thermSet := v } } :=
  if_pos (by simp [hlow, hhigh])

theorem smbWrite_thermHyst {v : W16} (hlow : 1 ≤ v.toNat) (hhigh : v.toNat ≤ 20) :
    s.smbWrite 0x0B v = { s with power := { s.power with thermHyst := v.setWidth 8 } } :=
  if_pos (by simp [hlow, hhigh])

/-! ### The TAP (R64) -/

/-- With RESET_L high or PWR_GOOD low the TAP drives no pin, whatever its instruction. -/
theorem tapDrives_eq_false (hheld : s.power.resetL = true ∨ s.power.pwrGood = false) : s.tapDrives = false := by
  rcases hheld with h | h <;> simp [State.tapDrives, h]

theorem exec_tapInstruction {ir : Byte} {shiftIn : List Bool} (hrail : s.power.standbyRail = true)
    (hheld : s.power.resetL = true ∨ s.power.pwrGood = false) (hdriven : s.power.tapDriven = none) :
    exec (.tapInstruction (some ir) shiftIn) s = .next { s with
      free := s.free + 1,
      power := { s.power with
        tapIr := ir,
        tapData := if (tapOf ir).boundary then (s.tapCapture (tapOf ir) ++ shiftIn).drop shiftIn.length else s.power.tapData },
      out := .tap ((s.tapCapture (tapOf ir) ++ shiftIn).take shiftIn.length) :: s.out } := by
  refine (onlyIf_of_true hrail _ _).trans (congrArg _ ?_)
  simp only [State.tapShift]
  rw [tapDrives_eq_false (by exact hheld)]
  simp only [Bool.false_eq_true, if_false, State.emit, State.setPower, State.freed, hdriven, if_true]

theorem exec_tapInstruction_reset {shiftIn : List Bool} (hrail : s.power.standbyRail = true) :
    exec (.tapInstruction none shiftIn) s =
      .next { s with power := { s.power with tapIr := Config.tapCode 1, tapDriven := none } } :=
  onlyIf_of_true hrail _ _

end sideband

/-- Settles O6: one lemma per command, the registers of an SMBus write by their codes. -/
theorem thermalAndSidebandCommandsAct : Obligations.ThermalAndSidebandCommandsAct := by
  unfold Obligations.ThermalAndSidebandCommandsAct
  refine ⟨fun _ _ _ => exec_thermalAlertAssert, fun _ _ => exec_thermalAlertRelease, fun _ _ _ => exec_thermalTrip,
    fun _ _ => exec_smbStatusClear, fun s v hrail => ⟨?alertMask, ?tjSel, fun hlow hhigh => ?thermSet, fun hlow hhigh => ?thermHyst, ?readOnly⟩,
    fun _ _ _ => exec_tapInstruction, fun _ _ => exec_tapInstruction_reset⟩
  case alertMask => exact exec_smbRegisterWrite hrail
  case tjSel => exact exec_smbRegisterWrite hrail
  case thermSet => rw [exec_smbRegisterWrite hrail, smbWrite_thermSet hlow hhigh]
  case thermHyst => rw [exec_smbRegisterWrite hrail, smbWrite_thermHyst hlow hhigh]
  case readOnly => exact exec_smbRegisterWrite hrail

end Sys2Proof.Proofs
end

section
/-! The common packets, the direct registers and the heartbeat (R11, R13, R53, R86, R89 to R91). -/

namespace Sys2Proof.Proofs
open Sys2Proof.Machine Sys2Proof.Laws

section common
variable {s : State} {op : PktOp} {p : Packet}

/-! ### The common packets (R86, R89) -/

theorem exec_nop (ht : s.takes op 0x0000 p) : exec (.nop op) s = .next (s.replyOk p) :=
  packetRun_takes ht _

theorem exec_chipIdentify (ht : s.takes op 0x0001 p) :
    exec (.chipIdentify op) s = .next (s.reply p St.ok 256 s.identity) := by
  change execChipIdentify op s = _
  rw [execChipIdentify, packetRun_takes ht]

theorem exec_stampRead (ht : s.takes op 0x0002 p) : exec (.stampRead op) s = .next (s.reply p St.ok s.now []) :=
  packetRun_takes ht _

theorem exec_eventConfig_one (ht : s.takes op 0x0003 p) (hone : p.f 0 2 = 1) :
    exec (.eventConfig op) s = .next (State.replyOk p { s with
      events := { s.events with masked := setMask s.events.masked (p.f 4 2) (p.f 6 1) } }) := by
  change execEventConfig op s = _
  rw [execEventConfig, packetRun_takes ht]
  simp only [hone, List.range_one, List.foldl_cons, List.foldl_nil, Nat.mul_zero, Nat.add_zero]

theorem exec_eventCounts (ht : s.takes op 0x0004 p) :
    exec (.eventCounts op) s = .next (s.reply p St.ok (8 * p.f 2 2)
      ((List.range (p.f 2 2)).flatMap fun i => le 8 (s.events.counters.getD (p.f 0 2 + i) 0))) := by
  change execEventCounts op s = _
  rw [execEventCounts, packetRun_takes ht]

/-! ### The direct registers (R90, R91) -/

theorem exec_stampLoRead (s : State) : exec .stampLoRead s = .next { s with
    direct.stampHi := BitVec.ofNat 32 (s.now / 2 ^ 32), out := .readData (s.now % 2 ^ 32) :: s.out } := rfl

theorem exec_dumpWindowBaseWrite (s : State) (v : W64) : exec (.dumpWindowBaseWrite v) s =
    .next { s with direct.dumpWindowBase := BitVec.ofNat 64 (v.toNat / 2 ^ 28 * 2 ^ 28) } := rfl

/-- Offset 0x18 of BAR1 is no KS_PRIO register and no last-word register: it is SCRATCH. -/
theorem exec_registerWrite_scratch (s : State) (v : W64) :
    exec (.registerWrite 1 0x18 4 v) s = .next { s with direct.scratch := v.setWidth 32 } := by
  have hprio : indexOf 0x100 4 256 0x18 = none := by decide
  have hlast : indexOf 0x1008 0x20 32 0x18 = none := by decide
  change execRegisterWrite 1 0x18 4 v s = _
  simp only [execRegisterWrite, State.bar1Write, hprio, hlast]
  rfl

theorem exec_registerWrite_bar2 (s : State) (off size : Nat) (v : W64) : exec (.registerWrite 2 off size v) s = .next s := rfl

theorem exec_chipStateHeartbeatTick (hcore : s.coreRuns = true) (hdue : s.mason.lastBeat + 1000000 ≤ s.now) :
    exec .chipStateHeartbeatTick s =
      .next { s with direct.heartbeat := s.direct.heartbeat + 1, mason.lastBeat := s.now } :=
  onlyIf_of_true (by simp [hcore, hdue]) _ _

end common

/-- Settles O9: one lemma per packet, register and timer. -/
theorem commonPacketsAct : Obligations.CommonPacketsAct := by
  unfold Obligations.CommonPacketsAct
  exact ⟨fun _ _ _ => exec_nop, fun _ _ _ => exec_chipIdentify, fun _ _ _ => exec_stampRead,
    fun _ _ _ => exec_eventConfig_one, fun _ _ _ => exec_eventCounts, exec_stampLoRead, exec_dumpWindowBaseWrite,
    exec_registerWrite_scratch, exec_registerWrite_bar2, fun _ => exec_chipStateHeartbeatTick⟩

end Sys2Proof.Proofs
end

section
/-! Port links, frames and priority pauses (R52, R95 to R97, R106, R108, R116). -/

namespace Sys2Proof.Proofs
open Sys2Proof.Machine Sys2Proof.Laws

section ports
variable {s : State} {l : Nat}

/-! ### Links (R52, R95, R96, R116) -/

/-- A link whose lanes all have stored settings trains none of them. -/
theorem exec_portLinkUp_stored (hruns : s.runs = true) (hl : l < 34) (henabled : s.lportEnabled l = true)
    (hdown : (s.lport l).up = false) (hclock : s.power.clocksLost.getD (if l < 16 then 0 else 1) false = false)
    (hdrain : s.power.drain = .none)
    (hstored : (lanesOf (s.eth (physOf l)).mode (subOf l)).all (fun k => ((s.eth (physOf l)).envelope.getD k none).isSome) = true) :
    ∃ t : State, exec (.portLinkUp l) s = .next
        (((t.net.conns.filter fun x => x.2.state == .ready && !(t.lport x.2.lport).up && x.2.other == some l).map Prod.fst).foldl
          (fun u i => u.changePath i) t) ∧
      t = ((s.updLport l fun x => { x with up := true }).raiseFrom (3 + physOf l / 2) Ev.portUp
        (le 1 l ++ le 1 (s.eth (physOf l)).mode)).pumpPort l := by
  refine ⟨_, ?_, rfl⟩
  change execPortLinkUp l s = _
  refine (dataIf_of_runs hruns (by simp only [hl, henabled, hdown, hclock, hdrain]; rfl) _).trans ?_
  rw [List.foldlRecOn (motive := (· = s)) _ _ rfl fun t ht k hk => ?_]
  subst ht
  obtain ⟨e, he⟩ := Option.isSome_iff_exists.mp (List.all_eq_true.mp hstored k hk)
  simp only [he]

theorem exec_portLinkDown (hruns : s.runs = true) (hl : l < 34) (hup : (s.lport l).up = true) :
    exec (.portLinkDown l) s = .next (s.linkDown l) :=
  dataIf_of_runs hruns (by simp [hl, hup]) _

theorem exec_serdesEnvelopeCrossing {port lane : Nat} {e : Nat × Nat} (hruns : s.runs = true) (hport : port < 10)
    (hstored : (s.eth port).envelope.getD lane none = some e) (hmoved : e ≠ (s.tjBand, s.power.loadBand))
    (hup : ((List.range 4).filter fun k => (lanesOf (s.eth port).mode k).contains lane).any
      (fun k => (s.lport ((if port < 8 then 4 * port else 24 + port) + k)).up) = true) :
    exec (.serdesEnvelopeCrossing port lane) s = .next (State.raiseFrom (3 + port / 2) Ev.serdesEnvelope
      (le 1 port ++ le 1 lane ++ le 1 e.1 ++ le 1 e.2 ++ le 1 s.tjBand ++ le 1 s.power.loadBand)
      ((s.updPort port fun x => { x with envelope := x.envelope.set lane (some (s.tjBand, s.power.loadBand)) }).logRecord 18
        (4 * port + lane) (le 1 s.tjBand ++ le 1 s.power.loadBand))) := by
  change execSerdesEnvelopeCrossing port lane s = _
  simp only [execSerdesEnvelopeCrossing, hstored]
  exact dataIf_of_runs hruns (by simp only [hport, hup, bne_iff_ne.mpr hmoved]; rfl) _

/-! ### Frames (R97) -/

theorem exec_frameReceive {f : EthFrame} (hruns : s.runs = true) (hl : l < 34) (hup : (s.lport l).up = true) :
    exec (.frameReceive l f) s = .next (s.frameReceive l f) :=
  dataIf_of_runs hruns (by simp [hl, hup]) _

theorem frameReceive_of_bad_fcs {f : EthFrame} (hfcs : f.fcsOk = false) :
    s.frameReceive l f = (((s.portCount l 0 1).portCount l 1 f.bytes.length).portCount l 2 1) :=
  if_pos (by simp [hfcs])

/-! ### Priority pauses (R106, R108) -/

theorem exec_pfcFrameReceive {enabled : Nat} {quanta : List Nat} (hruns : s.runs = true) (hl : l < 34)
    (hup : (s.lport l).up = true) :
    exec (.pfcFrameReceive l enabled quanta) s = .next (((s.portCount l 0 1).portCount l 1 60).pfcReceive l enabled quanta) :=
  dataIf_of_runs hruns (by simp [hl, hup]) _

theorem exec_pfcPauseExpiry {prio d : Nat} (hruns : s.runs = true) (hpaused : (s.lport l).pause.getD prio none = some d)
    (hlate : d < s.tick) :
    ∃ t : State, exec (.pfcPauseExpiry l prio) s = .next (t.pumpPort l) ∧
      t = s.updLport l fun x => { x with
        pause := x.pause.set prio none, pausedAt := x.pausedAt.set prio none,
        longRaised := if bit x.longRaised prio then x.longRaised - 2 ^ prio else x.longRaised } := by
  refine ⟨_, ?_, rfl⟩
  change execPfcPauseExpiry l prio s = _
  simp only [execPfcPauseExpiry, hpaused]
  exact dataIf_of_runs hruns (by simp [State.expired, hlate]) _

theorem exec_pfcPauseLongExpiry {prio d : Nat} (hruns : s.runs = true) (hl : l < 34)
    (honce : bit (s.lport l).longRaised prio = false) (hpaused : (s.lport l).pausedAt.getD prio none = some d)
    (hlate : d + ticksOf 100000000 < s.tick) :
    exec (.pfcPauseLongExpiry l prio) s = .next (State.raiseFrom (3 + physOf l / 2) Ev.pfcPausedLong (le 1 l ++ le 1 prio)
      (s.updLport l fun x => { x with longRaised := x.longRaised + 2 ^ prio })) := by
  change execPfcPauseLongExpiry l prio s = _
  simp only [execPfcPauseLongExpiry, hpaused]
  exact dataIf_of_runs hruns (by simp only [State.expired, hl, honce, hlate]; rfl) _

end ports

/-- Settles O12: one lemma per command past its condition, and the frame whose FCS is bad. -/
theorem portCommandsAct : Obligations.PortCommandsAct := by
  unfold Obligations.PortCommandsAct
  exact ⟨fun _ _ => exec_portLinkUp_stored, fun _ _ => exec_portLinkDown, fun _ _ _ _ => exec_serdesEnvelopeCrossing,
    fun _ _ _ => exec_frameReceive, fun _ _ _ => frameReceive_of_bad_fcs, fun _ _ _ _ => exec_pfcFrameReceive,
    fun _ _ _ _ => exec_pfcPauseExpiry, fun _ _ _ _ => exec_pfcPauseLongExpiry⟩

end Sys2Proof.Proofs
end

section
/-! What reset leaves (R39, R54, R58, R61, R62, R72, R75, R88 to R90, R429, R457). -/

namespace Sys2Proof.Proofs
open Sys2Proof.Machine

theorem reset_power : State.reset.power.internalReset = true ∧ State.reset.power.pwrGood = false ∧
    State.reset.power.bypassClosed = true ∧ State.reset.power.thermSet = 0x0640 ∧ State.reset.power.thermHyst = 5 ∧
    State.reset.power.alertMask = 0 ∧ State.reset.power.tjSel = 0 :=
  ⟨rfl, rfl, rfl, rfl, rfl, rfl, rfl⟩

/-- The sixteen ring pairs are one pair's reset value, DISABLED. -/
theorem reset_rings : (∀ r ∈ State.reset.pcie.rings, r.state = .disabled) ∧ State.reset.pcie.rings.length = 16 := by
  refine ⟨fun r hr => ?_, List.length_replicate⟩
  rw [show r = {} from List.eq_of_mem_replicate hr]

theorem reset_ksPrio : ∀ v ∈ State.reset.direct.ksPrio, v = 0xFF :=
  fun _ => List.eq_of_mem_replicate

theorem reset_events : State.reset.events.backlog = [] ∧ State.reset.events.errors = [] ∧ State.reset.events.masked = [] :=
  ⟨rfl, rfl, rfl⟩

/-- Settles O45: the reset values by group. -/
theorem resetHoldsTheListedValues : Obligations.ResetHoldsTheListedValues := by
  unfold Obligations.ResetHoldsTheListedValues
  obtain ⟨hreset, hgood, hbypass, hset, hhyst, hmask, hsel⟩ := reset_power
  obtain ⟨hrings, hcount⟩ := reset_rings
  obtain ⟨hbacklog, herrors, hmasked⟩ := reset_events
  exact ⟨rfl, hreset, hgood, hbypass, hset, hhyst, hmask, hsel, hrings, hcount, rfl, reset_ksPrio, hbacklog, herrors, hmasked,
    rfl, rfl, rfl⟩

end Sys2Proof.Proofs
end

section
/-! Connection management: the messages of the CM state machine, its timers and the fetch of a context (R101 to R103,
R105, R123). -/

namespace Sys2Proof.Proofs
open Sys2Proof.Machine Sys2Proof.Laws

section contexts
variable {s : State} {i : Nat}

theorem cmExpired_of_late {d : Nat} (hdeadline : (s.conn i).cmDeadline = some d) (hlate : d < s.tick) :
    s.cmExpired (s.conn i) = true := by
  simp only [State.cmExpired, hdeadline]
  exact decide_eq_true hlate

/-- With no REQ answered with MRA there is none to serve. -/
theorem serveWaiting_of_mra_nil (hmra : s.net.mra = []) : s.serveWaiting = s := by
  simp only [State.serveWaiting, hmra, List.length_nil, State.serveMra]

/-- A CM timer's expiry is a matter of the clock and its deadline. -/
theorem cmExpired_congr {t : State} {c x : Conn} (htick : t.tick = s.tick) (hdeadline : c.cmDeadline = x.cmDeadline) :
    t.cmExpired c = s.cmExpired x := by
  simp only [State.cmExpired, State.expired, hdeadline, htick]

/-- A message in time is only counted at its port. -/
theorem cmAnswer_of_not_expired (htime : s.cmExpired (s.conn i) = false)
    (hkept : (s.conn i).cmDeadline = ((s.cmArrives (s.conn i).lport (s.conn i).ip).conn i).cmDeadline) :
    s.cmAnswer i = s.cmArrives (s.conn i).lport (s.conn i).ip :=
  if_neg (Bool.eq_false_iff.mp ((cmExpired_congr rfl hkept.symm).trans htime))

/-! ### REQ, REP, RTU and REJ (R103, R105) -/

/-- A REQ that no CONNECTING context knows is served while the rate allows and no other waits. -/
theorem exec_cmReqReceive_new {t : State} {q : CmReq} (ht : t = s.cmArrives q.lport q.srcIp) (hruns : s.runs = true)
    (hup : (s.lport q.lport).up = true) (haddress : s.portAddress q.lport q.dstIp = true) (hmra : t.net.mra = [])
    (hnew : (t.net.conns.find? fun x =>
      x.2.state == .connecting && !x.2.active && x.2.remoteQpn == q.qpn && x.2.ip == q.srcIp && x.2.port == q.lport) = none)
    (hrate : t.recentCount + t.connecting < establishRate) :
    exec (.cmReqReceive q) s = .next (t.serveReq q) := by
  change execCmReqReceive q s = _
  rw [execCmReqReceive, ← ht, serveWaiting_of_mra_nil hmra]
  simp only [hnew, hmra, decide_eq_false (Nat.not_le.mpr hrate), List.contains_nil, List.isEmpty_nil, Bool.not_true,
    Bool.or_self, Bool.false_eq_true, if_false]
  exact dataIf_of_runs hruns (by simp [hup, haddress]) _

theorem exec_cmRepReceive {qpn psn mtu : Nat} {mac : List Byte} (hruns : s.runs = true)
    (hstate : (s.conn i).state = .connecting) (hactive : (s.conn i).active = true)
    (hstill : ((s.cmAnswer i).conn i).state = .connecting) :
    ∃ t u : State, exec (.cmRepReceive i ⟨qpn, mac⟩ psn mtu) s = .next t ∧ t = (u.becomeReady i).serveWaiting ∧
      u = (((s.cmAnswer i).updConn i fun c => { c with
        remoteQpn := qpn, epsn := psn % 2 ^ 24, pmtu := min c.pmtu (s.pathMtu c.port mtu), mac := mac }).connCm i "RTU" 0 []) := by
  refine ⟨_, _, ?_, rfl, rfl⟩
  change execCmRepReceive i ⟨qpn, mac⟩ psn mtu s = _
  simp only [execCmRepReceive, hstill, if_true]
  exact dataIf_of_runs hruns (by simp [hstate, hactive]) _

theorem exec_cmRtuReceive (hruns : s.runs = true) (hstate : (s.conn i).state = .connecting)
    (hpassive : (s.conn i).active = false) (hstill : ((s.cmAnswer i).conn i).state = .connecting) :
    exec (.cmRtuReceive i) s = .next ((s.cmAnswer i).becomeReady i).serveWaiting := by
  change execCmRtuReceive i s = _
  simp only [execCmRtuReceive, hstill, if_true]
  exact dataIf_of_runs hruns (by simp [hstate, hpassive]) _

theorem exec_cmRejReceive (hruns : s.runs = true) (hstate : (s.conn i).state = .connecting) :
    exec (.cmRejReceive i) s = .next ((s.cmArrives (s.conn i).lport (s.conn i).ip).connectFailed i) :=
  dataIf_of_runs hruns (by simp [hstate]) _

/-! ### The CM timer (R103) -/

/-- A CM timer that has run out takes its expiry, and then the REQs that wait. -/
theorem exec_cmRetryExpiry {d : Nat} (hruns : s.runs = true) (hstate : (s.conn i).state = .connecting)
    (hdeadline : (s.conn i).cmDeadline = some d) (hlate : d < s.tick) :
    exec (.cmRetryExpiry i) s = .next (s.cmExpiry i).serveWaiting :=
  dataIf_of_runs hruns (by simp [hstate, cmExpired_of_late hdeadline hlate]) _

/-! ### DREQ, DREP and TIMEWAIT (R102, R103) -/

theorem exec_cmDreqReceive_ready (hstate : (s.conn i).state = .ready) :
    exec (.cmDreqReceive i) s =
      .next ((((s.cmArrives (s.conn i).lport (s.conn i).ip).timewait i).connCm i "DREP" 0 []).leftReady i 1) :=
  if_pos hstate

theorem exec_cmDrepReceive (hruns : s.runs = true) (hstate : (s.conn i).state = .disconnecting) :
    exec (.cmDrepReceive i) s = .next ((s.cmArrives (s.conn i).lport (s.conn i).ip).timewait i) :=
  dataIf_of_runs hruns (by simp [hstate]) _

theorem exec_dreqRetryExpiry_last (hruns : s.runs = true) (hstate : (s.conn i).state = .disconnecting)
    (hlate : s.cmExpired (s.conn i) = true) (hnone : (s.conn i).cmRetries = 0) :
    exec (.dreqRetryExpiry i) s = .next (s.timewait i) := by
  change execDreqRetryExpiry i s = _
  simp only [execDreqRetryExpiry, hnone, if_true]
  exact dataIf_of_runs hruns (by simp [hstate, hlate]) _

/-- A freed context keeps its next generation, and is forgotten when that is the first again. -/
theorem freeConn_eq : s.freeConn i = { s with
    net.conns := (if (s.conn i).gen = 7 then s.net.conns.del i else if (s.conn i).gen + 1 = 1 then s.net.conns.del i
      else s.net.conns.set i { gen := (s.conn i).gen + 1 }) } := by
  unfold State.freeConn
  by_cases hlast : (s.conn i).gen = 7
  · simp only [hlast, if_true]
  · simp only [if_neg hlast]
    split <;> rfl

theorem exec_timewaitExpiry (hruns : s.runs = true) (hstate : (s.conn i).state = .timewait)
    (hlate : s.cmExpired (s.conn i) = true) :
    exec (.timewaitExpiry i) s = .next { s with
      net.conns := (if (s.conn i).gen = 7 then s.net.conns.del i else if (s.conn i).gen + 1 = 1 then s.net.conns.del i
        else s.net.conns.set i { gen := (s.conn i).gen + 1 }) } := by
  rw [← freeConn_eq]
  exact dataIf_of_runs hruns (by simp [hstate, hlate]) _

/-! ### The fetch of a context (R123) -/

theorem exec_contextFetchComplete {p : RcPacket} {ps : List RcPacket} (hruns : s.runs = true)
    (hheld : (s.conn i).held = p :: ps) :
    exec (.contextFetchComplete i) s = .next ((List.range 34).foldl (fun t lp => (t.rcResume lp (t.lport lp).rxq.length).flowCheck lp)
      ((p :: ps).foldl (fun t p =>
        if (t.conn i).state = .free || (t.conn i).gen ≠ qpnGen p.qpn then t.netCount 7 1 else t.rcResident i p)
        ((s.updConn i fun c => { c with held := [] }).makeResident i))) := by
  change execContextFetchComplete i s = _
  rw [execContextFetchComplete, hheld]
  exact dataIf_of_runs hruns rfl _

end contexts

/-- Settles O14: one lemma per clause; the two outcomes of a CM retry are the two of `State.cmExpiry`. -/
theorem connectionManagementAct : Obligations.ConnectionManagementAct := by
  unfold Obligations.ConnectionManagementAct
  refine ⟨fun _ _ _ => exec_cmReqReceive_new, fun _ _ _ _ _ _ => exec_cmRepReceive, fun _ _ => exec_cmRtuReceive,
    fun _ _ => cmAnswer_of_not_expired, fun _ _ => exec_cmRejReceive,
    fun s i d hruns hstate hdeadline hlate hleft => ?again, fun s i d hruns hstate hdeadline hlate hnone => ?failed,
    fun _ _ => exec_cmDreqReceive_ready, fun _ _ => exec_cmDrepReceive, fun _ _ => exec_dreqRetryExpiry_last,
    fun _ _ => exec_timewaitExpiry, fun _ _ _ _ => exec_contextFetchComplete⟩
  case again =>
    rw [exec_cmRetryExpiry hruns hstate hdeadline hlate]
    simp only [State.cmExpiry, if_neg hleft]
  case failed =>
    rw [exec_cmRetryExpiry hruns hstate hdeadline hlate]
    simp only [State.cmExpiry, if_pos hnone]

end Sys2Proof.Proofs
end

section
/-! The RC transport: packets received, timers and the rate control (R99, R104, R110 to R115, R120). -/

namespace Sys2Proof.Proofs
open Sys2Proof.Machine Sys2Proof.Laws

/-! ### Packets received (R99, R104, R111, R114, R115, R120) -/

section received
variable {s : State} {k : RcPacket} (hruns : s.runs = true) (hup : (s.lport k.lport).up = true)
  (henabled : s.lportEnabled k.lport = true)
include hruns hup henabled

/-- A packet of a command's kind on an enabled port that is up is received. -/
theorem rcRun_of_up {fits : Bool} (hfits : fits = true) : rcRun k fits s = .next (s.rcReceive k) :=
  dataIf_of_runs hruns (by simp [hfits, hup, henabled]) _

theorem exec_rcRequestReceive (hop : k.op < 13) : exec (.rcRequestReceive k) s = .next (s.rcReceive k) :=
  rcRun_of_up hruns hup henabled (by simp [isRequestPacket]; omega)

theorem exec_rcAckReceive (hop : k.op = 17) (hack : k.aeth = .ack) : exec (.rcAckReceive k) s = .next (s.rcReceive k) :=
  rcRun_of_up hruns hup henabled (by simp [hop, hack])

theorem exec_rcSeqNakReceive (hop : k.op = 17) (hnak : k.aeth = .seqNak) :
    exec (.rcSeqNakReceive k) s = .next (s.rcReceive k) :=
  rcRun_of_up hruns hup henabled (by simp [hop, hnak])

theorem exec_rcRnrNakReceive (hop : k.op = 17) (hrnr : ∃ n, k.aeth = .rnr n) :
    exec (.rcRnrNakReceive k) s = .next (s.rcReceive k) := by
  obtain ⟨n, hn⟩ := hrnr
  exact rcRun_of_up hruns hup henabled (by simp [hop, hn])

theorem exec_rcErrorNakReceive (hop : k.op = 17) (haccess : k.aeth = .remoteAccess) :
    exec (.rcErrorNakReceive k) s = .next (s.rcReceive k) :=
  rcRun_of_up hruns hup henabled (by simp [hop, haccess])

theorem exec_rdmaReadResponseReceive (hfirst : 13 ≤ k.op) (hlast : k.op ≤ 16) :
    exec (.rdmaReadResponseReceive k) s = .next (s.rcReceive k) :=
  rcRun_of_up hruns hup henabled (by simp [hfirst, hlast])

end received

/-! ### The timers of a connection (R112, R113, R115) -/

section timers
variable {s : State} {i d : Nat} (hruns : s.runs = true) (hready : (s.conn i).state = .ready)
include hruns hready

theorem exec_ackCoalesceExpiry (hdue : (s.conn i).ackDue = some d) (htime : d ≤ s.now) :
    exec (.ackCoalesceExpiry i) s = .next (s.sendAck i) :=
  dataIf_of_runs hruns (by simp [hready, hdue, htime]) _

theorem exec_rnrTimerExpiry (huntil : (s.conn i).rnrUntil = some d) (hlate : d < s.tick) :
    exec (.rnrTimerExpiry i) s =
      .next (((s.updConn i fun c => { c with rnrUntil := none }).resendFrom i (s.conn i).rnrPsn).pump i) :=
  dataIf_of_runs hruns (by simp [hready, huntil, State.expired, hlate]) _

theorem exec_retransmitTimerExpiry (hsent : (s.conn i).sent ≠ []) (hdeadline : (s.conn i).deadline = some d)
    (hlate : d < s.tick) :
    ∃ u : State, exec (.retransmitTimerExpiry i) s = .next (if (s.conn i).retries = 0 then (s.netCount 5 1).connError i 1
        else if s.canSend (s.conn i) then u else u.updConn i fun c => { c with resendTimed := true }) ∧
      u = ((s.netCount 5 1).updConn i fun c => { c with
        retries := (s.conn i).retries - 1, nakSeen := [], deadline := some (s.tick + (s.conn i).period) }).resendFrom i
          (s.conn i).oldest := by
  have hdue : s.ackLate i = true := by simp [State.ackLate, hready, hsent, hdeadline, State.expired, hlate]
  exact ⟨_, dataIf_of_runs hruns hdue _, rfl⟩

end timers

/-! ### Rate control (R110) -/

/-- The first CNP of a connection that reacts to congestion cuts its rate. -/
theorem exec_cnpReceive_first {s : State} {l q : Nat} (hruns : s.runs = true) (hup : (s.lport l).up = true)
    (henabled : s.lportEnabled l = true) (hready : (s.conn (qpnIndex q)).state = .ready)
    (hgen : (s.conn (qpnIndex q)).gen = qpnGen q) (hecn : bit s.net.config.ecnEnable 0 = true)
    (hfirst : (s.conn (qpnIndex q)).cnpAt = none) :
    exec (.cnpReceive l ⟨q, true, true⟩) s = .next ((((s.portCount l 0 1).portCount l 1 (s.frameBytes l (s.conn (qpnIndex q)).ip 16 0)).portCount l 26 1).updConn (qpnIndex q) fun _ => { s.conn (qpnIndex q) with
      target := (s.conn (qpnIndex q)).rate,
      rate := s.boundRate (s.conn (qpnIndex q)) ((s.conn (qpnIndex q)).rate - (s.conn (qpnIndex q)).rate * (s.conn (qpnIndex q)).alpha / 131072),
      alpha := (65536 - s.net.config.alphaGain) * (s.conn (qpnIndex q)).alpha / 65536 + s.net.config.alphaGain,
      step := 0, rateAt := s.now, sentBytes := 0, alphaAt := s.now, cnpAt := some s.now }) := by
  change execCnpReceive l ⟨q, true, true⟩ s = _
  simp only [execCnpReceive, hready, hgen, hecn, hfirst, Bool.not_true, Bool.false_eq_true, if_false, ne_eq,
    not_true_eq_false, decide_false, Bool.or_self, reduceCtorEq]
  exact dataIf_of_runs hruns (by simp [hup, henabled]) _

section rates
variable {s : State} {i : Nat} (hruns : s.runs = true) (hready : (s.conn i).state = .ready)
  (hecn : bit s.net.config.ecnEnable 0 = true)
include hruns hready hecn

theorem exec_rateTimerExpiry_bytes (hsent : 1024 * s.net.config.byteCounter ≤ (s.conn i).sentBytes) :
    ∃ t, exec (.rateTimerExpiry i) s = .next (s.updConn i fun _ => t) ∧ t.step = min ((s.conn i).step + 1) 255 ∧
      (s.now < (s.conn i).rateAt + 1000 * s.net.config.rateTimer →
        t.rateAt = (s.conn i).rateAt ∧ t.sentBytes = (s.conn i).sentBytes - 1024 * s.net.config.byteCounter) ∧
      ((s.conn i).rateAt + 1000 * s.net.config.rateTimer ≤ s.now → t.rateAt = s.now ∧ t.sentBytes = (s.conn i).sentBytes) ∧ t.rate = s.boundRate (s.conn i) (((s.conn i).rate + t.target) / 2) ∧
      t.target = (s.conn i).target + (if 10 < t.step then s.net.config.haiRate else if 5 < t.step then s.net.config.aiRate else 0) := by
  refine ⟨_, dataIf_of_runs hruns (by simp [hready, hecn, hsent]) _, rfl, fun hearly => ?bytes, fun hlate => ?timer, rfl, rfl⟩
  case bytes => simp only [decide_eq_false (Nat.not_le.mpr hearly), Bool.false_eq_true, if_false, and_self]
  case timer => simp only [decide_eq_true hlate, if_true, and_self]

theorem exec_alphaTimerExpiry (hlate : (s.conn i).alphaAt + 1000 * s.net.config.alphaTimer ≤ s.now) :
    exec (.alphaTimerExpiry i) s = .next (s.updConn i fun _ => { s.conn i with
      alpha := (65536 - s.net.config.alphaGain) * (s.conn i).alpha / 65536, alphaAt := s.now }) :=
  dataIf_of_runs hruns (by simp [hready, hecn, hlate]) _

end rates

/-- Settles O15: the six receive commands are `rcRun_of_up` with their opcodes, the timers their conditions. -/
theorem reliableTransportAct : Obligations.ReliableTransportAct := by
  unfold Obligations.ReliableTransportAct
  refine ⟨fun s k hruns hup henabled => ⟨?request, ?ack, ?seqNak, ?rnrNak, ?errorNak, ?readResponse⟩,
    fun _ _ _ => exec_ackCoalesceExpiry, fun _ _ _ => exec_rnrTimerExpiry, fun _ _ _ => exec_retransmitTimerExpiry,
    fun _ _ _ => exec_cnpReceive_first, fun _ _ => exec_rateTimerExpiry_bytes, fun _ _ => exec_alphaTimerExpiry⟩
  case request => exact exec_rcRequestReceive hruns hup henabled
  case ack => exact exec_rcAckReceive hruns hup henabled
  case seqNak => exact exec_rcSeqNakReceive hruns hup henabled
  case rnrNak => exact exec_rcRnrNakReceive hruns hup henabled
  case errorNak => exact exec_rcErrorNakReceive hruns hup henabled
  case readResponse => exact exec_rdmaReadResponseReceive hruns hup henabled

end Sys2Proof.Proofs
end

section
/-! Plinth links, their credits and keepalives, READs and suspends of the dies, slots and the scrub (R95, R290, R292,
R294, R295, R300, R307, R311 to R313, R321, R324). -/

namespace Sys2Proof.Proofs
open Sys2Proof.Machine Sys2Proof.Laws

/-! ### A link trained, in HELLO and UP (R95, R290, R292, R294, R295) -/

/-- What a module's session does to its link: a session of its own, its identity when it is detached, the frames due. -/
theorem helloFrom_spec (s : State) (l m : Nat) : ∃ t : State, s.helloFrom l m = State.flushLink l (if (t.module m).state = .detached
      then t.issue { id := 0, module := m, opcode := 1, use := .identify } else t) ∧
    t = (s.newSession m).updModule m fun x => { x with sessions := x.sessions.set l (s.link l).session } :=
  ⟨_, rfl, rfl⟩

/-- In Pair a lost link has no other to move its frames to. -/
theorem moveWaiting_of_pair {s : State} (hpair : s.mesh = false) (l : Nat) : s.moveWaiting l = s := by
  simp only [State.moveWaiting, hpair, Bool.false_and, Bool.false_eq_true, if_false]

theorem linkLost_of_pair {s : State} {l cause : Nat} (hpair : s.mesh = false) :
    s.linkLost l cause = State.raiseFrom (linkIsland l) Ev.plinthLinkDown (le 1 l ++ le 1 cause)
      { s.updLink l (fun k => { k with state := .training, session := s.now, downSince := s.tick }) with now := s.now + 1 } := by
  have htrain : (s.updLink l fun k => { k with downSince := s.tick }).train l =
      { s.updLink l (fun k => { k with state := .training, session := s.now, downSince := s.tick }) with now := s.now + 1 } := by
    rw [State.train, updLink_updLink]
    rfl
  rw [State.linkLost, htrain]
  refine moveWaiting_of_pair ?_ l
  rw [State.mesh, raiseFrom_head]
  exact hpair

section links
variable {s : State} {l m credits session tj load cause v : Nat} (hruns : s.runs = true)
include hruns

theorem exec_plinthLinkTrained (htraining : (s.link l).state = .training) (hclock : s.power.clocksLost.getD 3 false = false) :
    exec (.plinthLinkTrained l) s = .next (s.updLink l fun k => { k with state := .hello }) :=
  dataIf_of_runs hruns (by simp only [htraining, hclock]; rfl) _

theorem exec_helloInterval (hhello : (s.link l).state = .hello) :
    exec (.helloInterval l) s = .next ((s.emit (.plinthHello l (s.link l).session s.head.headId 64)).updLink l fun k => k.count 0 1) :=
  dataIf_of_runs hruns (beq_iff_eq.mpr hhello) _

/-- The answer of a link in HELLO from a module that is where it was brings the link UP. -/
theorem exec_plinthHelloAnswer_hello (hhello : (s.link l).state = .hello)
    (hsession : (s.link l).session = session)
    (hsame : s.mesh = true ∨ (s.link l).module = m ∨ (s.link l).module = 0xFFFF) (hfits : (s.linksOf m).contains l = true) :
    exec (.plinthHelloAnswer l m credits session) s = .next (State.helloFrom l m (State.raiseFrom (linkIsland l) Ev.plinthLinkUp
      (le 1 l ++ le 2 m) (s.updLink l fun k => { k with
        state := .up
        module := m
        seq := 0
        limit := credits % 65536
        rxSeq := 0
        freed := 0
        lastRx := s.tick }))) := by
  have hkept : (!s.mesh && (s.link l).module != 0xFFFF && (s.link l).module != m) = false := by
    rcases hsame with h | h | h <;> simp [h]
  change execPlinthHelloAnswer l m credits session s = _
  simp only [execPlinthHelloAnswer, hhello, hkept, hfits, reduceCtorEq, decide_false, Bool.false_and, Bool.false_eq_true,
    if_true, if_false]
  exact dataIf_of_runs hruns (by simp [hsession]) _

/-- In Mesh an UP link takes the session of a further module. -/
theorem exec_plinthHelloAnswer_up (hup : (s.link l).state = .up) (hmesh : s.mesh = true)
    (hsession : (s.link l).session = session) (hfits : (s.linksOf m).contains l = true)
    (hnew : (s.module m).sessions.get? l ≠ some session) :
    exec (.plinthHelloAnswer l m credits session) s = .next (s.helloFrom l m) := by
  change execPlinthHelloAnswer l m credits session s = _
  simp only [execPlinthHelloAnswer, hup, hmesh, hsession, hfits, bne_iff_ne.mpr hnew, decide_true, Bool.and_self, if_true]
  exact dataIf_of_runs hruns rfl _

theorem exec_plinthEnvelopeCrossing (henabled : (s.link l).state ≠ .disabled)
    (hmoved : (s.link l).envelope ≠ some (tj, load)) :
    exec (.plinthEnvelopeCrossing l tj load) s = .next (State.raiseFrom (linkIsland l) Ev.plinthEnvelope (le 1 l ++ le 1 ((s.link l).envelope.getD (0, 0)).1 ++
        le 1 ((s.link l).envelope.getD (0, 0)).2 ++ le 1 tj ++ le 1 load)
      ((s.updLink l fun k => { k with envelope := some (tj, load) }).logRecord 18 (48 + l) (le 1 tj ++ le 1 load))) :=
  dataIf_of_runs hruns (by rw [bne_iff_ne.mpr henabled, bne_iff_ne.mpr hmoved]; rfl) _

variable (hup : (s.link l).state = .up)
include hup

theorem exec_plinthLinkLoss (hcause : cause = 1 ∨ cause = 2) :
    exec (.plinthLinkLoss l cause) s = .next (s.linkLost l cause) :=
  dataIf_of_runs hruns (by simpa [hup] using hcause) _

theorem exec_plinthSilenceExpiry (hsilent : (s.link l).lastRx + 1024 < s.tick) :
    exec (.plinthSilenceExpiry l) s = .next (s.linkLost l 3) :=
  dataIf_of_runs hruns (by simp [State.quietLink, State.expired, hup, hsilent]) _

theorem exec_keepaliveInterval :
    exec (.keepaliveInterval l) s = .next ((s.emit (.plinthKeepalive l (s.link l).seq)).updLink l fun k => k.count 0 1) :=
  dataIf_of_runs hruns (beq_iff_eq.mpr hup) _

theorem exec_creditInterval :
    exec (.creditInterval l) s = .next ((s.emit (.plinthCredit l (((s.link l).rxSeq + 64) % 65536))).updLink l fun k => { k.count 0 1 with freed := 0 }) :=
  dataIf_of_runs hruns (beq_iff_eq.mpr hup) _

theorem exec_plinthCreditReceive_credit :
    exec (.plinthCreditReceive l false v) s = .next (((s.heard l 0).updLink l fun k => { k with limit := v % 65536 }).flushLink l) :=
  dataIf_of_runs hruns (beq_iff_eq.mpr hup) _

theorem exec_plinthCreditReceive_keepalive :
    exec (.plinthCreditReceive l true v) s = .next (s.heard l ((v % 65536 + 65536 - (s.link l).rxSeq) % 65536)) :=
  dataIf_of_runs hruns (beq_iff_eq.mpr hup) _

end links

/-! ### READs, suspends and resumes of a die (R300, R311 to R313, R324) -/

/-- A filter keeps nothing when no element passes its test. -/
theorem isEmpty_filter_eq_not_any {α : Type} (l : List α) (test : α → Bool) : (l.filter test).isEmpty = !l.any test := by
  rw [Bool.eq_iff_iff]
  simp

section dies
variable {s : State} {m d t : Nat} {r : ReadReq} {o : DieOp} (hruns : s.runs = true)
include hruns

/-- The first READ that the guard admits goes to a free die, counted as a probe when it is one. -/
theorem exec_readIssue (hroom : s.hasRoom m d 2 = true) (hidle : (s.die m d).op = none)
    (hfirst : ((s.flash.reads.filter fun r => r.module == m && r.die == d).foldr insertRead []).find? s.guardAdmits = some r)
    (hstays : s.eraseRuns r.addr = false) :
    ∃ t : State, exec (.readIssue m d) s = .next (t.maybeResume m d) ∧
      t = State.issue { id := 0, module := m, opcode := 2, die := d, addr := r.addr, page := r.page, rank := r.rank,
                         use := .read r.job r.cell, reads := r.words, mode := r.mode, entry := s.levelEntry r,
                         probe := (s.offsetsFor r).2, offsets := (s.offsetsFor r).1 }
        (if (s.offsetsFor r).2.isSome then State.countProbe m d (s.levelEntry r) { s with flash.reads := s.flash.reads.filter fun q => q != r }
         else { s with flash.reads := s.flash.reads.filter fun q => q != r }) := by
  refine ⟨_, ?_, rfl⟩
  change execReadIssue m d s = _
  simp only [execReadIssue, hidle, hfirst, hstays, Bool.false_eq_true, if_false]
  exact dataIf_of_runs hruns hroom _

theorem exec_suspendTrigger (hop : (s.die m d).op = some o) (hurgent : s.urgentRead m d = true)
    (hunasked : (s.flash.cmds ++ s.flash.held).any (fun c => c.opcode == 5 && c.module == m && c.die == d) = false)
    (hstarted : ∀ c, s.cmd? m o.cmd = some c → c.deadline.isSome = true) (hrunning : o.suspendedAt = none)
    (hleft : o.suspends < (s.opConfig m d).maxSuspends) (hminimum : o.since + ticksOf ((s.opConfig m d).minRunUs * 1000) < s.tick) :
    exec (.suspendTrigger m d) s = .next (State.flashCount 8 ((s.updDie m d fun x => { x with op := x.op.map fun o => { o with suspends := o.suspends + 1 } }).issue
      { id := 0, module := m, opcode := 5, die := d, use := .suspend })) := by
  change execSuspendTrigger m d s = _
  simp only [execSuspendTrigger, hop, hurgent, hunasked, hrunning]
  refine dataIf_of_runs hruns ?_ _
  cases hcmd : s.cmd? m o.cmd with
  | none => simp [hleft, State.expired, hminimum]
  | some c => simp [hstarted c hcmd, hleft, State.expired, hminimum]

theorem exec_suspendAgeExpiry (hop : (s.die m d).op = some o) (hsuspended : o.suspendedAt = some t)
    (hlate : t + ticksOf 1500000000 < s.tick) : exec (.suspendAgeExpiry m d) s = .next (s.queueResume m d) :=
  dataIf_of_runs hruns (by simp [hop, hsuspended, State.expired, hlate]) _

theorem exec_linksDownReadExpiry (hdown : s.anyLinkUp m = false)
    (hlong : ∀ l ∈ s.linksOf m, (s.link l).downSince + ticksOf 2000000 < s.tick)
    (hreads : (s.flash.reads.any (fun r => r.module == m) || (s.flash.cmds ++ s.flash.held).any (fun c => c.module == m && c.opcode == 2)) = true) :
    exec (.linksDownReadExpiry m) s = .next (State.sendHeld m (((s.flash.cmds ++ s.flash.held).filter fun c => c.module == m && c.opcode == 2).foldl (fun s c => s.failPl c)
      ((s.flash.reads.filter fun r => r.module == m).foldl (fun s r => s.wordsBad r.job r.cell r.words false)
        { s with
          flash.reads := s.flash.reads.filter fun r => r.module != m,
          flash.cmds := s.flash.cmds.filter fun c => !(c.module == m && c.opcode == 2),
          flash.held := s.flash.held.filter fun c => !(c.module == m && c.opcode == 2) }))) := by
  refine dataIf_of_runs hruns ?_ _
  have hexpired : ((s.linksOf m).all fun l => s.expired ((s.link l).downSince + ticksOf 2000000)) = true :=
    List.all_eq_true.mpr fun l hl => decide_eq_true (hlong l hl)
  have hsome : (!((s.flash.reads.filter fun r => r.module == m).isEmpty &&
      ((s.flash.cmds ++ s.flash.held).filter fun c => c.module == m && c.opcode == 2).isEmpty)) = true := by
    rw [isEmpty_filter_eq_not_any, isEmpty_filter_eq_not_any, Bool.not_and, Bool.not_not, Bool.not_not]
    exact hreads
  simp only [hdown, hexpired, hsome, Bool.not_false, Bool.and_self]

end dies

/-! ### Schedule frames and slots (R307, R311) -/

theorem exec_scheduleFrameStart (s : State) : exec .scheduleFrameStart s = .next { s with
    flash.slot := 0, flash.frameEpoch := if s.templates.switchStamp ≤ s.now then s.templates.epoch else s.flash.frameEpoch } := rfl

theorem exec_slotStart_powered {s : State} {m slot : Nat} (hsupply : s.power.brownout = false) (hcool : s.power.tripped = false) :
    exec (.slotStart m slot) s = .next (State.admitStarts m (bodyOf s.flashBank kindTokens) (budgetOf (bodyOf s.flashBank kindTokens) m)
      (sortStarts (s.flash.starts.filter fun x => x.module == m && s.startAllowed x &&
        (x.deferred || x.opcode == 6 || x.opcode == 12 || (mayStart (bodyOf s.flashBank kindSchedule) m x.die slot && s.startable x))))
      { s with flash.slot := slot }) := by
  change execSlotStart m slot s = _
  simp only [execSlotStart, hsupply, hcool, Bool.or_self, Bool.false_eq_true, if_false]

theorem exec_slotStart_stopped {s : State} {m slot : Nat} (hstopped : (s.power.brownout || s.power.tripped) = true) :
    exec (.slotStart m slot) s = .next { s with flash.slot := slot } := by
  change execSlotStart m slot s = _
  simp only [execSlotStart, hstopped, if_true]

/-! ### The scrub (R321) -/

section scrub
variable {s : State} {n : Nat} {t : Stripe} (hruns : s.runs = true) (hdays : s.flash.config.scrubDays ≠ 0)
include hruns hdays

theorem exec_flashScrubVisit_next
    (hnext : s.stripe.stripes.find? (fun t => decide (s.flash.scrubNext ≤ t.1) && t.2.state == .closed && s.owns (stripeDomainOf t.1)) = some (n, t)) :
    ∃ u : State, exec .flashScrubVisit s = .next (((u.startWords (.scrub n 3) (s.rankOf 17) n (allWords (s.segment t.segment))).settle u.flash.nextJob).startJob
        0x23 (s.rankOf 17) 1) ∧
      u = { s with
        flash.scrubNext := n + 1,
        flash.scrub := (s.flash.scrub.1 + (allWords (s.segment t.segment)).length, s.flash.scrub.2.1, s.flash.scrub.2.2) } := by
  refine ⟨_, ?_, rfl⟩
  change execFlashScrubVisit s = _
  simp only [execFlashScrubVisit, hnext]
  exact dataIf_of_runs hruns (bne_iff_ne.mpr hdays) _

theorem exec_flashScrubVisit_end
    (hnone : s.stripe.stripes.find? (fun t => decide (s.flash.scrubNext ≤ t.1) && t.2.state == .closed && s.owns (stripeDomainOf t.1)) = none) :
    exec .flashScrubVisit s = .next (State.raise Ev.scrubPassDone (le 8 s.flash.scrub.1 ++ le 4 s.flash.scrub.2.1 ++ le 4 s.flash.scrub.2.2)
      { s with flash.scrubNext := 0, flash.scrub := (0, 0, 0) }) := by
  change execFlashScrubVisit s = _
  simp only [execFlashScrubVisit, hnone]
  exact dataIf_of_runs hruns (bne_iff_ne.mpr hdays) _

end scrub

/-- Settles O28: one lemma per command past its condition, and what a module's session and a lost link do. -/
theorem plinthLinkCommandsAct : Obligations.PlinthLinkCommandsAct := by
  unfold Obligations.PlinthLinkCommandsAct
  exact ⟨fun _ _ => exec_plinthLinkTrained, fun _ _ => exec_helloInterval, fun _ _ _ _ _ => exec_plinthHelloAnswer_hello,
    fun _ _ _ _ _ => exec_plinthHelloAnswer_up, helloFrom_spec, fun _ _ _ => exec_plinthLinkLoss,
    fun _ _ => exec_plinthSilenceExpiry, fun _ _ _ => linkLost_of_pair, fun _ _ => exec_keepaliveInterval,
    fun _ _ => exec_creditInterval, fun _ _ _ => exec_plinthCreditReceive_credit,
    fun _ _ _ => exec_plinthCreditReceive_keepalive, fun _ _ _ _ => exec_plinthEnvelopeCrossing,
    fun _ _ _ _ => exec_readIssue, fun _ _ _ _ => exec_suspendTrigger, fun _ _ _ _ _ => exec_suspendAgeExpiry,
    fun _ _ => exec_linksDownReadExpiry, exec_scheduleFrameStart, fun _ _ _ => exec_slotStart_powered,
    fun _ _ _ => exec_slotStart_stopped, fun _ _ _ => exec_flashScrubVisit_next, fun _ => exec_flashScrubVisit_end⟩

end Sys2Proof.Proofs
end

section
/-! Heads and peers configured and connected, the ring joined and left, domains acquired, released and queried (R125,
R328, R329, R339, R340, R344, R346, R347, R355, R364, R365). -/

namespace Sys2Proof.Proofs
open Sys2Proof.Machine Sys2Proof.Laws

section packets
variable {s : State} {op : PktOp} {p : Packet}

/-! ### The head and its peers (R105, R125, R328, R329, R355) -/

theorem exec_headConfig_first (ht : s.takes op 0x0900 p) (hnone : s.head.configuration = 0) :
    exec (.headConfig op) s = .next (({ s with head := { s.head with
      configuration := p.f 0 1
      headId := p.f 2 2
      hbInterval := if p.f 4 2 = 0 then 1024 else p.f 4 2
      hbMisses := if p.f 6 1 = 0 then 8 else p.f 6 1
      mirrorRetries := if p.f 7 1 = 0 then 3 else p.f 7 1
      ackTicks := if p.f 8 4 = 0 then 15625 else p.f 8 4
      takeoverDelay := if p.f 12 4 = 0xFFFFFFFF then 4 else p.f 12 4 } }).replyOk p) := by
  change execHeadConfig op s = _
  rw [execHeadConfig, packetRun_takes ht]
  simp only [hnone, ne_eq, not_true_eq_false, if_false]

theorem exec_headConfig_again (ht : s.takes op 0x0900 p) (hconf : s.head.configuration ≠ 0) :
    exec (.headConfig op) s = .next (s.fail p St.headConfigured) := by
  change execHeadConfig op s = _
  rw [execHeadConfig, packetRun_takes ht, if_pos hconf]

theorem exec_peerTable {es : List (List Byte)} {ids : List Nat} (ht : s.takes op 0x0901 p)
    (hes : es = (List.range (p.f 0 1)).map (fun i => slice (p.buffer op) (48 * i) 48))
    (hids : ids = es.map (fun e => fieldAt e 0 2)) (hpair : s.head.configuration = 1 → p.f 0 1 = 1)
    (hrange : ids.any (fun h => h = 0 || 16 < h) = false) (hdistinct : ids.eraseDups.length = p.f 0 1)
    (hothers : ids.contains s.head.headId = false)
    (hkept : s.head.peers.any (fun x => !ids.contains x.1 && [0, 1, 2, 3].any fun l => (s.peerConn x.1 l).isSome) = false) :
    exec (.peerTable op) s = .next (({ s with head.peers := es.foldl (fun (t : Tab Peer) e => t.set (fieldAt e 0 2)
      { s.peer (fieldAt e 0 2) with ip4 := [slice e 4 4, slice e 8 4], ip6 := [slice e 16 16, slice e 32 16] }) [] }).replyOk p) := by
  have hcount : (decide (s.head.configuration = 1) && decide (p.f 0 1 ≠ 1)) = false := by
    simpa using hpair
  subst hids hes
  change execPeerTable op s = _
  rw [execPeerTable, packetRun_takes ht]
  simp only [hcount, hrange, hdistinct, hothers, hkept, ne_eq, not_true_eq_false, decide_false, Bool.or_self,
    Bool.false_eq_true, if_false]

end packets

/-- The lower head connects over the plane of both numbers when that plane's port is up. -/
theorem exec_peerConnectRetry {s : State} {h lane n : Nat} {x : Peer} (hruns : s.runs = true) (hx : x = s.peer h)
    (hn : n = (s.head.headId + h) % 2) (hconf : s.head.configuration ≠ 0) (hlisted : s.head.peers.has h = true)
    (hlower : s.head.headId < h) (hlane : lane < 4) (hup : (s.lport (32 + n)).up = true)
    (hidle : s.net.conns.any (fun c => c.2.use == .peer h lane && (c.2.state == .ready || c.2.state == .connecting)) = false)
    (hdue : x.retryAt ≤ s.tick) (hwanted : lane = 0 ∨ s.bindingWith h = true)
    (hserves : s.footing.active = true → s.footing.readService = true) :
    exec (.peerConnectRetry h lane) s = .next (s.activeConnect (.peer h lane) (32 + n) (some (33 - n))
      (if (x.ip4.getD n []).all (· == 0) then x.ip6.getD n [] else x.ip4.getD n []) (lanePcp lane)
      (fieldAt (s.subRecord (32 + n)) 0x22 1 % 64) (le 1 lane)) := by
  have hbinds : (lane == 0 || s.bindingWith h) = true := by simpa using hwanted
  have hopen : (s.footing.active && !s.footing.readService) = false := by simpa using hserves
  subst hx
  change execPeerConnectRetry h lane s = _
  simp only [execPeerConnectRetry, ← hn, hup, if_true]
  exact dataIf_of_runs hruns (by simp [hconf, hlisted, hlower, hlane, hidle, hdue, hbinds, hopen]) _

section packets
variable {s : State} {op : PktOp} {p : Packet}

/-! ### The coping ring (R328, R344) -/

theorem exec_ringJoin_unconfigured (ht : s.takes op 0x0902 p) (hnone : s.head.configuration = 0) :
    exec (.ringJoin op) s = .next (s.fail p St.headNotConfigured) := by
  change execRingJoin op s = _
  rw [execRingJoin, packetRun_takes ht, State.configured, if_pos hnone]

theorem exec_ringJoin (ht : s.takes op 0x0902 p) (hconf : s.head.configuration ≠ 0) (hquiet : s.draining = false)
    (hout : s.head.joined = false) (hallowed : s.footing.left = false) :
    ∃ t u : State, exec (.ringJoin op) s = .next (State.replyOk p (State.tryBind (State.askResync (State.raise Ev.ringJoined (le 2 t.head.headId) t)))) ∧
      t = State.ringSend 2 (le 1 u.head.configuration) { u with
        head.joined := true
        head.ringSeq := 0
        head.beatAt := s.tick + s.head.hbInterval
        head.peers := u.head.peers.mapVals fun x => { x with asked := false } } ∧
      u = if s.mayOpenBypass then s.setBypass false else s := by
  refine ⟨_, _, ?_, rfl, rfl⟩
  change execRingJoin op s = _
  rw [execRingJoin, packetRun_takes ht, configured_of_ne hconf]
  simp only [hquiet, hout, hallowed, Bool.or_self, Bool.false_eq_true, if_false]

theorem exec_ringJoin_refused (ht : s.takes op 0x0902 p) (hconf : s.head.configuration ≠ 0) (hquiet : s.draining = false)
    (hbarred : s.head.joined = true ∨ s.footing.left = true) :
    exec (.ringJoin op) s = .next (s.fail p St.ringState) := by
  have hstate : (s.head.joined || s.footing.left) = true := by simpa using hbarred
  change execRingJoin op s = _
  rw [execRingJoin, packetRun_takes ht, configured_of_ne hconf]
  simp only [hquiet, hstate, Bool.false_eq_true, if_true, if_false]

theorem exec_ringLeave (ht : s.takes op 0x0903 p) (hconf : s.head.configuration ≠ 0) (hin : s.head.joined = true)
    (hfree : s.ownedDomains = []) : exec (.ringLeave op) s = .next (s.leaveRing.replyOk p) := by
  change execRingLeave op s = _
  rw [execRingLeave, packetRun_takes ht, configured_of_ne hconf]
  simp only [hin, hfree, List.isEmpty_nil, Bool.not_true, Bool.false_eq_true, if_false]

theorem exec_ringLeave_owner (ht : s.takes op 0x0903 p) (hconf : s.head.configuration ≠ 0) (hin : s.head.joined = true)
    (howner : s.ownedDomains ≠ []) : exec (.ringLeave op) s = .next (s.fail p St.domainState) := by
  have hsome : s.ownedDomains.isEmpty = false := List.isEmpty_eq_false_iff.mpr howner
  change execRingLeave op s = _
  rw [execRingLeave, packetRun_takes ht, configured_of_ne hconf]
  simp only [hin, hsome, Bool.not_true, Bool.not_false, Bool.false_eq_true, if_true, if_false]

/-! ### Domains acquired and released (R339, R340) -/

theorem exec_domainAcquire {d : Nat} (ht : s.takes op 0x0904 p) (hconf : s.head.configuration ≠ 0) (hd : d = p.f 0 1)
    (haction : p.f 1 1 = 1) (hserves : s.footing.active = true → s.footing.readService = true)
    (hnone : (s.domain d).state = .none)
    (hfree : s.activeHeads.contains (s.domain d).owner = true → (s.domain d).released = true)
    (hunclaimed : s.activeHeads.contains (s.domain d).intent = false) :
    exec (.domainAcquire op) s = .next ((s.replyOk p).acquire d none) := by
  have hopen : (s.footing.active && !s.footing.readService) = false := by simpa using hserves
  have hunowned : (s.activeHeads.contains (s.domain d).owner && !(s.domain d).released) = false := by simpa using hfree
  subst hd
  change execDomainAcquire op s = _
  rw [execDomainAcquire, packetRun_takes ht, configured_of_ne hconf]
  simp only [haction, hopen, hnone, hunowned, hunclaimed, ne_eq, not_true_eq_false, decide_false, Bool.or_self,
    Bool.false_eq_true, if_false]

theorem exec_domainRelease_first {d : Nat} (ht : s.takes op 0x0904 p) (hconf : s.head.configuration ≠ 0) (hd : d = p.f 0 1)
    (haction : p.f 1 1 = 2) (hnew : s.domains.find? (fun x => x.2.releaseAcc == some op.acc) = none)
    (howned : (s.domain d).state = .owned) :
    exec (.domainRelease op) s = .next (State.replyOk p (State.closeDomain d (s.rankOf 11)
      (((s.updDomain d fun x => { x with state := .releasing, releaseAcc := some p.acc, checkpointing := false }).setAna d 15).endFlushes d))) := by
  subst hd
  change execDomainRelease op s = _
  simp only [execDomainRelease, hnew]
  rw [packetRun_takes ht, configured_of_ne hconf]
  simp only [haction, howned, ne_eq, not_true_eq_false, if_false]
  rfl

/-- A later run of a release does what is still due: the records, the checkpoint, the end. -/
theorem exec_domainRelease_later {d : Nat} {x : Domain}
    (hunder : s.domains.find? (fun x => x.2.releaseAcc == some op.acc) = some (d, x)) (hreleasing : x.state = .releasing)
    (hidle : s.domainBusy d = false) :
    exec (.domainRelease op) s = if s.domainStaged d then .next (s.closeDomain d (s.rankOf 11))
      else if x.checkpointing = false then .next ((s.updDomain d fun x => { x with checkpointing := true }).updSdom d fun y => { y with checkpointWanted := true })
      else .next (if s.runs && !(s.sdom d).checkpointWanted then s.finishRelease d else s) := by
  change execDomainRelease op s = _
  simp only [execDomainRelease, hunder, hreleasing, hidle, dataIf_next, ne_eq, not_true_eq_false, Bool.false_eq_true,
    if_false, Bool.not_eq_true']

theorem acquire_spec (d : Nat) (h : Option Nat) (s : State) : ∃ t : State, s.acquire d h =
      State.tryClaim d (State.ringSend 4 (le 1 d ++ zeros 7 ++ le 8 ((t.domain d).epoch + 1)) t) ∧
    t = State.setAna d 15 (s.updDomain d fun x => { x with
      state := .acquiring
      tries := 0
      takeover := h
      journalDone := false
      mirrorDone := false
      mirrorLeft := 0
      highWsn := 0
      scanning := false
      replaying := false }) :=
  ⟨_, rfl, rfl⟩

/-! ### Queries and the forced failover (R346, R364) -/

theorem exec_domainQuery {x : Domain} (ht : s.takes op 0x0905 p) (hconf : s.head.configuration ≠ 0)
    (hx : x = s.domain (p.f 0 1)) :
    exec (.domainQuery op) s = .next (s.reply p St.ok 32 (le 1 (p.f 0 1) ++ le 1 x.state.code ++ le 2 x.owner ++ zeros 4 ++ le 8 x.claim ++
      le 8 (max x.highWsn (s.wp.applied.getD (p.f 0 1) 0)) ++ le 8 (s.replayLeft (p.f 0 1)))) := by
  subst hx
  change execDomainQuery op s = _
  rw [execDomainQuery, packetRun_takes ht, configured_of_ne hconf]

theorem exec_headStatus {entry : Nat × Peer → List Byte} (ht : s.takes op 0x0906 p)
    (hentry : ∀ x, entry x = le 2 x.1 ++ le 1 x.2.state ++ le 1 (x.2.misses.getD 0 0) ++ le 1 (x.2.misses.getD 1 0) ++ zeros 3 ++ le 8 x.2.lastBeat) :
    exec (.headStatus op) s = .next (s.reply p St.ok 288 (fit 288 (le 1 (boolNat s.head.joined) ++ le 1 s.head.lostDir ++ le 2 s.mirror.peer ++
      le 1 (if s.mirror.state = .none then 0 else if s.mirror.state = .resilvering then 1 else 2) ++
      le 1 (s.mirror.areas.filter fun a => a.bound.isSome).length ++ zeros 26 ++ s.head.peers.flatMap entry))) := by
  obtain rfl := funext hentry
  change execHeadStatus op s = _
  rw [execHeadStatus, packetRun_takes ht]
  cases hstate : s.mirror.state <;> simp only [hstate, reduceCtorEq, if_true, if_false]

theorem exec_failoverForce (ht : s.takes op 0x0907 p) (hconf : s.head.configuration ≠ 0) (hother : p.f 0 2 ≠ s.head.headId)
    (hlisted : s.head.peers.has (p.f 0 2) = true) :
    exec (.failoverForce op) s = .next ((s.declareFailed (p.f 0 2) 3).replyOk p) := by
  change execFailoverForce op s = _
  rw [execFailoverForce, packetRun_takes ht, configured_of_ne hconf]
  simp only [hother, hlisted, decide_false, Bool.not_true, Bool.or_self, Bool.false_eq_true, if_false]

end packets

/-- Settles O31: one lemma per packet and refusal; a release is its first run, then the later runs found by their accept
stamp. -/
theorem headPacketsAct : Obligations.HeadPacketsAct := by
  unfold Obligations.HeadPacketsAct
  exact ⟨fun _ _ _ => exec_headConfig_first, fun _ _ _ => exec_headConfig_again, fun _ _ _ => exec_ringJoin_unconfigured,
    fun _ _ _ _ _ => exec_peerTable, fun _ _ _ _ _ => exec_peerConnectRetry, fun _ _ _ => exec_ringJoin,
    fun _ _ _ => exec_ringJoin_refused, fun _ _ _ => exec_ringLeave, fun _ _ _ => exec_ringLeave_owner,
    fun _ _ _ _ => exec_domainAcquire, fun s d h => acquire_spec d h s, fun _ _ _ _ => exec_domainRelease_first,
    fun _ _ _ _ => exec_domainRelease_later, fun _ _ _ _ => exec_domainQuery, fun _ _ _ _ => exec_headStatus,
    fun _ _ _ => exec_failoverForce⟩

end Sys2Proof.Proofs
end

section
/-! The mirror peer's side: notes, journal and progress mirrors, tails, the bind and resynchronisation (R119, R154,
R330, R331, R333 to R337, R354). -/

namespace Sys2Proof.Proofs
open Sys2Proof.Machine Sys2Proof.Laws

section messages
variable {s t : State} {conn h lane : Nat} {m : PeerMsg} {b : List Byte} {rest : List (List Byte)}

/-! ### MIRROR_NOTE (R333) -/

section note
variable {i : Nat} {r : List Byte} (ht : s.takesPeer conn 1 h lane m b rest) (htaken : t = s.peerTaken conn m rest)
include ht htaken

theorem exec_mirrorNote_unbound (harea : t.areaOf h = none) :
    exec (.mirrorNote conn) s = .next (t.mirrorAck h lane m 2) := by
  change execMirrorNote conn s = _
  rw [execMirrorNote, peerRun_takes ht, ← htaken]
  simp only [harea]

variable (harea : t.areaOf h = some i)
include harea

theorem exec_mirrorNote_held (hheld : (t.area i).records.has m.wsn = true) :
    exec (.mirrorNote conn) s = .next (t.mirrorAck h lane m 0) := by
  change execMirrorNote conn s = _
  rw [execMirrorNote, peerRun_takes ht, ← htaken]
  simp only [harea, hheld, if_true]

variable (hnew : (t.area i).records.has m.wsn = false)
  (hr : r = t.readRegion i (256 * fieldAt m.body 0 4) (256 * fieldAt m.body 4 4))
include hnew hr

theorem exec_mirrorNote_good (hwsn : fieldAt r 8 8 = m.wsn) (hunits : fieldAt r 4 4 = fieldAt m.body 4 4)
    (hcrc : fieldAt m.body 8 4 = (crc32c r).toNat) :
    exec (.mirrorNote conn) s = .next ((State.freeTail i (fieldAt m.body 16 4) (fieldAt m.body 24 8) (State.updPeer h (fun p => { p with seenWsn := max p.seenWsn m.wsn })
      (t.updArea i fun a => { a with records := a.records.set m.wsn (fieldAt m.body 0 4, fieldAt m.body 4 4, fieldAt m.body 12 1) }))).mirrorAck h lane m 0) := by
  change execMirrorNote conn s = _
  rw [execMirrorNote, peerRun_takes ht, ← htaken]
  simp only [harea, hnew, ← hr, hwsn, hunits, hcrc, decide_true, Bool.and_self, Bool.false_eq_true, if_true, if_false]

theorem exec_mirrorNote_bad
    (hbad : ¬(fieldAt r 8 8 = m.wsn ∧ fieldAt r 4 4 = fieldAt m.body 4 4 ∧ fieldAt m.body 8 4 = (crc32c r).toNat)) :
    exec (.mirrorNote conn) s = .next ((t.freeTail i (fieldAt m.body 16 4) (fieldAt m.body 24 8)).mirrorAck h lane m 1) := by
  have hfails : (decide (fieldAt r 8 8 = m.wsn) && decide (fieldAt r 4 4 = fieldAt m.body 4 4) &&
      decide (fieldAt m.body 8 4 = (crc32c r).toNat)) = false := by
    rw [Bool.eq_false_iff]
    simpa only [ne_eq, Bool.and_eq_true, decide_eq_true_eq, and_assoc] using hbad
  change execMirrorNote conn s = _
  rw [execMirrorNote, peerRun_takes ht, ← htaken]
  simp only [harea, hnew, ← hr, hfails, Bool.false_eq_true, if_false]

end note

/-! ### Mirrored journal frames and progress records, and the tail (R154, R333, R335) -/

theorem exec_journalMirror {i d n q : Nat} {rs : List (List Byte)} (ht : s.takesPeer conn 3 h lane m b rest)
    (htaken : t = s.peerTaken conn m rest) (harea : t.areaOf h = some i) (hd : d = fieldAt m.body 0 1)
    (hn : n = fieldAt m.body 1 1) (hq : q = fieldAt m.body 8 8)
    (hnew : ((t.area i).journal.getD d []).any (fun f => f.1 == q) = false)
    (hrs : rs = (List.range n).map (fun k => slice m.body (16 + 64 * k) 64)) :
    exec (.journalMirror conn) s = .next (if t.wp.logUnits * 64 < (t.area i).journalBytes + 64 * n then t.mirrorAck h lane m 3
      else (t.updArea i fun a => { a with journal := a.journal.set d (((t.area i).journal.getD d [] ++ [(q, rs)]).filter fun f => decide ((((rs.filterMap parseRecord).filterMap fun r =>
        match r.body with
        | .checkpoint _ _ x => some x
        | _ => none).foldl max 0) ≤ f.1)) }).mirrorAck h lane m 0) := by
  subst hd hn hq hrs
  change execJournalMirror conn s = _
  rw [execJournalMirror, peerRun_takes ht, ← htaken]
  simp only [harea, hnew, Bool.false_eq_true, if_false] <;> rfl

theorem exec_progressMirror (ht : s.takesPeer conn 4 h lane m b rest) (htaken : t = s.peerTaken conn m rest)
    (harea : (t.areaOf h).isSome = true) :
    exec (.progressMirror conn) s = .next (State.mirrorAck h lane m 0
      { t with mirror.progress := t.mirror.progress.set (fieldAt m.body 0 1 * 2 ^ 32 + fieldAt m.body 4 4) (fit 64 m.body) }) := by
  have hbound : (t.areaOf h).isNone = false := by
    rw [← Option.not_isSome, harea]
    rfl
  change execProgressMirror conn s = _
  rw [execProgressMirror, peerRun_takes ht, ← htaken]
  simp only [hbound, Bool.false_eq_true, if_false]

theorem exec_tail {i : Nat} (ht : s.takesPeer conn 5 h lane m b rest) (htaken : t = s.peerTaken conn m rest)
    (harea : t.areaOf h = some i) : exec (.tail conn) s = .next (t.freeTail i (fieldAt m.body 0 4) m.wsn) := by
  change execTail conn s = _
  rw [execTail, peerRun_takes ht, ← htaken]
  simp only [harea]

/-! ### MIRROR_BIND (R331) -/

section bind
variable {i g : Nat} {r : Region} (ht : s.takesPeer conn 6 h lane m b rest) (htaken : t = s.peerTaken conn m rest)
include ht htaken

theorem exec_mirrorBind_unbind (harea : t.areaOf h = some i) (hquiet : t.takingOver h = false)
    (haction : fieldAt m.body 0 1 = 0) :
    exec (.mirrorBind conn) s = .next ((t.freeArea i).sendMessage h 0 7 0 (le 1 0 ++ zeros 3 ++ le 4 0 ++ le 8 0)).2 := by
  change execMirrorBind conn s = _
  rw [execMirrorBind, peerRun_takes ht, ← htaken]
  simp only [harea, hquiet, haction, ne_eq, Nat.zero_ne_one, not_false_eq_true, Bool.false_eq_true, if_true, if_false]

variable (harea : t.areaOf h = none) (haction : fieldAt m.body 0 1 = 1)
include harea haction

theorem exec_mirrorBind_bound (hfree : t.freeArea? = some i)
    (hfits : fieldAt m.body 4 4 ≤ t.wp.logUnits) (hg : g = ((t.net.regions.getD i {}).gen + 1) % 256)
    (hr : r = ⟨true, g, i * 2 ^ 40, 256 * fieldAt m.body 4 4, true, false, 1 + h, t.now :: recentStamps t.now (t.net.regions.getD i {}).reused⟩) :
    exec (.mirrorBind conn) s = .next (State.sendMessage h 0 7 0 (le 1 0 ++ zeros 3 ++ le 4 (256 * i + g) ++ le 8 (i * 2 ^ 40))
      (State.updArea i (fun _ => { bound := some h, units := fieldAt m.body 4 4 }) { t with net.regions := t.net.regions.set i r })).2 := by
  subst hr hg
  change execMirrorBind conn s = _
  rw [execMirrorBind, peerRun_takes ht, ← htaken]
  simp only [harea, haction, hfree, Nat.not_lt.mpr hfits, ne_eq, not_true_eq_false, if_false]

/-- A bind finds no free area, or areas too small for its log. -/
theorem exec_mirrorBind_refused (hrefused : t.freeArea? = none ∨ t.wp.logUnits < fieldAt m.body 4 4) :
    exec (.mirrorBind conn) s = .next (t.sendMessage h 0 7 0 (le 1 (if t.freeArea? = none then 2 else 4) ++ zeros 3 ++ le 4 0 ++ le 8 0)).2 := by
  change execMirrorBind conn s = _
  rw [execMirrorBind, peerRun_takes ht, ← htaken]
  simp only [harea, haction, ne_eq, not_true_eq_false, if_false]
  cases hfree : t.freeArea? with
  | none => simp only [if_true]
  | some i =>
    have hsmall : t.wp.logUnits < fieldAt m.body 4 4 := hrefused.resolve_left (by simp [hfree])
    simp only [hsmall, reduceCtorEq, if_true, if_false]

end bind

/-! ### RESYNC_QUERY (R354) -/

theorem exec_resyncQuery {u : State} (ht : s.takesPeer conn 8 h lane m b rest) (htaken : t = s.peerTaken conn m rest)
    (hu : u = (match t.areaOf h with | some i => if t.takingOver h then t else t.freeArea i | none => t)) :
    exec (.resyncQuery conn) s = .next (u.sendMessage h 0 9 (max (u.peer h).seenWsn (u.peer h).highWsn)
      (le 1 (boolNat (u.areaOf h).isSome) ++ zeros 7)).2 := by
  subst hu htaken
  have hexec : execResyncQuery conn s = _ := peerRun_takes ht _
  exact hexec

end messages

/-- Settles O33: one lemma per answer, each the branch that the area, the record and the action of the message choose. -/
theorem mirrorMessagesAct : Obligations.MirrorMessagesAct := by
  unfold Obligations.MirrorMessagesAct
  exact ⟨fun _ _ _ _ _ _ _ _ => exec_mirrorNote_unbound, fun _ _ _ _ _ _ _ _ _ => exec_mirrorNote_held,
    fun _ _ _ _ _ _ _ _ _ _ => exec_mirrorNote_good, fun _ _ _ _ _ _ _ _ _ _ => exec_mirrorNote_bad,
    fun _ _ _ _ _ _ _ _ _ _ _ _ _ => exec_journalMirror, fun _ _ _ _ _ _ _ _ => exec_progressMirror,
    fun _ _ _ _ _ _ _ _ _ => exec_tail, fun _ _ _ _ _ _ _ _ _ _ _ => exec_mirrorBind_bound,
    fun _ _ _ _ _ _ _ _ => exec_mirrorBind_refused, fun _ _ _ _ _ _ _ _ _ => exec_mirrorBind_unbind,
    fun _ _ _ _ _ _ _ _ _ => exec_resyncQuery⟩

end Sys2Proof.Proofs
end

section
/-! Fabrics and admin commands: what the taking of a capsule leaves alone, Connect, properties, keep-alive, abort and
asynchronous event requests (R132 to R138, R149). -/

namespace Sys2Proof.Proofs
open Sys2Proof.Machine Sys2Proof.Laws

/-! ### A capsule taken, and its descriptor (R137, R144) -/

@[simp] theorem taken_nvme (s : State) (conn : Nat) : (s.taken conn).nvme = s.nvme := rfl

@[simp] theorem taken_footing (s : State) (conn : Nat) : (s.taken conn).footing = s.footing := rfl

@[simp] theorem taken_ns? (s : State) (conn nsid : Nat) : (s.taken conn).ns? nsid = s.ns? nsid := rfl

@[simp] theorem taken_ctrl? (s : State) (conn c : Nat) : (s.taken conn).ctrl? c = s.ctrl? c := rfl

@[simp] theorem taken_nsOf (s : State) (conn sub : Nat) : (s.taken conn).nsOf sub = s.nsOf sub := rfl

@[simp] theorem taken_classRank (s : State) (conn cls k : Nat) : (s.taken conn).classRank cls k = s.classRank cls k := rfl

@[simp] theorem taken_eraseSlot (s : State) (conn : Nat) : (s.taken conn).eraseSlot = s.eraseSlot := rfl

@[simp] theorem taken_sanitizeRunning (s : State) (conn sub : Nat) :
    (s.taken conn).sanitizeRunning sub = s.sanitizeRunning sub := rfl

@[simp] theorem taken_sanitizeBroken (s : State) (conn sub : Nat) :
    (s.taken conn).sanitizeBroken sub = s.sanitizeBroken sub := rfl

@[simp] theorem taken_sanitizeStatus (s : State) (conn sub action : Nat) (host : Bool) :
    (s.taken conn).sanitizeStatus sub action host = s.sanitizeStatus sub action host := rfl

theorem keyedSgl_iff (cap : List Byte) : keyedSgl cap = true ↔ sglId cap = 0x40 ∨ sglId cap = 0x4F := by
  simp [keyedSgl]

theorem runs_of_fetching {s : State} (hfetch : s.fetching = true) : s.runs = true := by
  simp only [State.fetching, Bool.and_eq_true] at hfetch
  exact hfetch.1.1

/-! ### Connect (R132, R133) -/

section connect
variable {s : State} {conn q n : Nat} {cap : List Byte} {rest : List (List Byte)}
  (huse : (s.conn conn).use = .nvme q n) (hinbox : (s.conn conn).inbox = cap :: rest)
  (hready : (s.conn conn).state = .ready) (hnone : s.ctrlOf conn = none) (hop : sqOpcode cap = 0x7F) (htype : fcType cap = 1)
  (hidle : ((s.conn conn).sent.any (fun r => r.use == .connectData) ||
    (s.conn conn).waiting.any (fun w => w.2 == .connectData)) = false)
  (hfetch : s.fetching = true) (hlen : sglLen cap = 1024)
include huse hinbox hready hnone hop htype hidle hfetch hlen

/-- A Connect of 1,024 bytes that may run: where its data stands decides what it does. -/
theorem exec_fabricsConnect_of_fits (hid : keyedSgl cap = true ∨ sglId cap = 0x01) :
    exec (.fabricsConnect conn) s = .next (
      if keyedSgl cap then s.granted.post conn (.read (sglAddr cap) (sglKey cap) 1024) .connectData
      else if cap.length < 64 + sglAddr cap + 1024 then
        ((s.granted.popCapsule conn).refuseCapsule conn cap Nv.sglLength).afterConnect conn
      else s.granted.connect conn (slice cap (64 + sglAddr cap) 1024)) := by
  have htyped : (!keyedSgl cap && sglId cap != 0x01) = false := by
    rcases hid with hid | hid <;> simp [hid]
  have hconnect : isConnect cap = true := by simp [isConnect, hop, htype]
  change execFabricsConnect conn s = _
  simp only [execFabricsConnect, hinbox]
  refine (dataIf_of_runs (runs_of_fetching hfetch) (by simp [huse, hready, hnone, hconnect, hidle, hfetch]) _).trans ?_
  rw [keyedSgl] at htyped ⊢
  simp only [htyped, hlen, Bool.false_eq_true, ne_eq, not_true_eq_false, if_false]

theorem exec_fabricsConnect_inCapsule (hid : sglId cap = 0x01) (hfits : 64 + sglAddr cap + 1024 ≤ cap.length) :
    exec (.fabricsConnect conn) s = .next (s.granted.connect conn (slice cap (64 + sglAddr cap) 1024)) := by
  have hplain : keyedSgl cap = false := by simp [keyedSgl, hid]
  rw [exec_fabricsConnect_of_fits huse hinbox hready hnone hop htype hidle hfetch hlen (.inr hid), hplain,
    if_neg Bool.false_ne_true, if_neg (Nat.not_lt.mpr hfits)]

theorem exec_fabricsConnect_keyed (hid : sglId cap = 0x40 ∨ sglId cap = 0x4F) :
    exec (.fabricsConnect conn) s = .next (s.granted.post conn (.read (sglAddr cap) (sglKey cap) 1024) .connectData) := by
  have hkeyed : keyedSgl cap = true := (keyedSgl_iff cap).mpr hid
  rw [exec_fabricsConnect_of_fits huse hinbox hready hnone hop htype hidle hfetch hlen (.inl hkeyed), if_pos hkeyed]

end connect

/-! ### Properties, keep-alive, abort and asynchronous event requests (R134, R136, R138, R149) -/

section capsules
variable {s : State} {conn c : Nat} {cap : List Byte} {x : Controller}

theorem exec_propertySet_cc (ht : s.takesAdmin conn (isFabrics 0) cap c x) (hcc : fieldAt cap 44 4 = 0x14)
    (hmask : fieldAt cap 48 4 &&& (0xFFFFFFFF ^^^ ccMask) = 0) :
    exec (.propertySet conn) s =
      .next (((s.taken conn).writeCc c (fieldAt cap 48 4)).complete conn (sqCid cap) 0 0 (sglInv cap)) := by
  change execPropertySet conn s = _
  rw [execPropertySet, adminRun_takes ht]
  simp only [hcc, hmask, ne_eq, not_true_eq_false, decide_false, Bool.or_self, Bool.false_eq_true, if_false]

theorem exec_propertyGet {v : Nat} (ht : s.takesAdmin conn (isFabrics 4) cap c x)
    (hv : x.property (fieldAt cap 44 4) = some v) :
    exec (.propertyGet conn) s = .next ((s.taken conn).complete conn (sqCid cap) 0 v (sglInv cap)) := by
  change execPropertyGet conn s = _
  rw [execPropertyGet, adminRun_takes ht]
  simp only [hv]

theorem property_values (x : Controller) : x.property 0 = some 0x201E0103FF ∧ x.property 0x08 = some 0x00020000 ∧
    x.property 0x14 = some x.cc ∧ x.property 0x1C = some (boolNat x.rdy + 2 * boolNat x.cfs + 4 * x.shst) :=
  ⟨rfl, rfl, rfl, rfl⟩

theorem exec_abort (ht : s.takesAdmin conn (isAdmin 0x08) cap c x) :
    exec (.abort conn) s = .next ((s.taken conn).complete conn (sqCid cap) 0 1 (sglInv cap)) :=
  adminRun_takes ht _

theorem exec_keepAlive (ht : s.takesAdmin conn (isAdmin 0x18) cap c x) :
    exec (.keepAlive conn) s = .next ((s.taken conn).complete conn (sqCid cap) 0 0 (sglInv cap)) :=
  adminRun_takes ht _

theorem exec_asyncEventRequest_held (ht : s.takesAdmin conn (isAdmin 0x0C) cap c x) (hroom : x.aers.length < 4) :
    exec (.asyncEventRequest conn) s =
      .next ((s.taken conn).updCtrl c fun x => { x with aers := x.aers ++ [(sqCid cap, sglInv cap)] }) := by
  change execAsyncEventRequest conn s = _
  rw [execAsyncEventRequest, adminRun_takes ht]
  simp only [Nat.not_le.mpr hroom, if_false]

end capsules

theorem exec_shutdownComplete {s : State} {c : Nat} {x : Controller} (hruns : s.runs = true) (hctrl : s.ctrl? c = some x)
    (hshut : x.shst = 1) (hdone : s.shutdownLeft x = []) :
    exec (.shutdownComplete c) s = .next ((s.tearIoQueues c).updCtrl c fun x => { x with shst := 2, shutdown := [] }) := by
  change execShutdownComplete c s = _
  simp only [execShutdownComplete, hctrl]
  exact dataIf_of_runs hruns (by simp [hshut, hdone]) _

theorem exec_keepAliveExpiry {s : State} {c : Nat} {x : Controller} (hruns : s.runs = true) (hctrl : s.ctrl? c = some x)
    (hlate : x.deadline < s.tick) :
    exec (.keepAliveExpiry c) s = .next ((s.raise Ev.katoExpired (le 2 c ++ le 4 x.katoMs)).endController c 2) := by
  change execKeepAliveExpiry c s = _
  simp only [execKeepAliveExpiry, hctrl]
  exact dataIf_of_runs hruns (decide_eq_true hlate) _

/-- Settles O16: both Connects by the one lemma on a Connect that may run, the admin commands by `adminRun_takes`, the
two timed ends by their conditions. -/
theorem fabricsCommandsAct : Obligations.FabricsCommandsAct := by
  unfold Obligations.FabricsCommandsAct
  exact ⟨fun _ _ _ _ _ _ huse hinbox hready hnone hop htype hidle hfetch hid hlen =>
      exec_fabricsConnect_inCapsule huse hinbox hready hnone hop htype hidle hfetch hlen hid,
    fun _ _ _ _ _ _ huse hinbox hready hnone hop htype hidle hfetch hid hlen =>
      exec_fabricsConnect_keyed huse hinbox hready hnone hop htype hidle hfetch hlen hid,
    fun _ _ _ _ _ => exec_propertySet_cc, fun _ _ _ _ _ _ => exec_propertyGet, property_values,
    fun _ _ _ => exec_shutdownComplete, fun _ _ _ _ _ => exec_abort, fun _ _ _ _ _ => exec_keepAlive,
    fun _ _ _ _ _ => exec_asyncEventRequest_held, fun _ _ _ => exec_keepAliveExpiry⟩

end Sys2Proof.Proofs
end

section
/-! Identify, log pages and features: the data and values the admin commands return (R137, R139 to R144). -/

namespace Sys2Proof.Proofs
open Sys2Proof.Machine Sys2Proof.Laws

theorem adminData_keyed {s : State} {conn : Nat} {cap data : List Byte} (hid : sglId cap = 0x40 ∨ sglId cap = 0x4F)
    (hlen : sglLen cap = data.length) : s.adminData conn cap data =
      (s.post conn (.write (sglAddr cap) (sglKey cap) data) .none).complete conn (sqCid cap) 0 0 (sglInv cap) := by
  have hkeyed : (sglId cap == 0x40 || sglId cap == 0x4F) = true := (keyedSgl_iff cap).mpr hid
  simp only [State.adminData, hkeyed, hlen, Bool.not_true, Bool.false_eq_true, ne_eq, not_true_eq_false, if_false]
  rfl

theorem setFeature_queueCounts {x : Controller} {cap : List Byte} (hsave : bit (cdw cap 10) 31 = false)
    (hfid : cdw cap 10 % 256 = 7) (hnew : x.granted = none) (hclosed : x.opened = false) :
    ∃ y : Controller, x.setFeature cap = (0, min (cdw cap 11 % 65536) 1023 + min (cdw cap 11 / 65536 % 65536) 1023 * 65536, y) ∧
      y.granted = some (min (cdw cap 11 % 65536) 1023, min (cdw cap 11 / 65536 % 65536) 1023) := by
  refine ⟨{ x with granted := some (min (cdw cap 11 % 65536) 1023, min (cdw cap 11 / 65536 % 65536) 1023) }, ?_, rfl⟩
  simp [Controller.setFeature, hfid, hsave, hnew, hclosed]

section capsules
variable {s : State} {conn c : Nat} {cap : List Byte} {x : Controller}

theorem exec_getLogPage {b : List Byte} (ht : s.takesAdmin conn (isAdmin 0x02) cap c x)
    (hpage : (s.taken conn).logPage x cap = .ok b) (haligned : logOffset cap % 4 = 0) (hinside : logOffset cap ≤ b.length)
    (hshort : logLength cap ≤ 1048576) (hid : sglId cap = 0x40 ∨ sglId cap = 0x4F) (hlen : sglLen cap = logLength cap) :
    exec (.getLogPage conn) s = .next (State.adminData conn cap (slice b (logOffset cap) (logLength cap))
      (if bit (cdw cap 10) 15 then s.taken conn else (s.taken conn).updCtrl c fun x =>
        { x with masked := x.masked.filter (· != cdw cap 10 % 256)
                 changed := if cdw cap 10 % 256 = 4 then [] else x.changed })) := by
  have hkeyed : (sglId cap == 0x40 || sglId cap == 0x4F) = true := (keyedSgl_iff cap).mpr hid
  have hgood : (decide (logOffset cap % 4 ≠ 0) || decide (b.length < logOffset cap) || decide (1048576 < logLength cap)) = false := by
    simp [haligned, hinside, hshort]
  change execGetLogPage conn s = _
  rw [execGetLogPage, adminRun_takes ht]
  simp only [hpage, hgood, hkeyed, hlen, BEq.rfl, Bool.and_self, Bool.true_and, Bool.false_eq_true, if_false]
  cases bit (cdw cap 10) 15 <;> rfl

theorem exec_nvmeIdentify {b : List Byte} (ht : s.takesAdmin conn (isAdmin 0x06) cap c x)
    (hpresent : cdw cap 10 % 256 = 0 → ∀ n, s.ns? (sqNsid cap) = some n → s.nuseNeeds n = [])
    (hdata : (s.taken conn).identify c x cap = .ok b) :
    exec (.nvmeIdentify conn) s = .next ((s.taken conn).freed.adminData conn cap b) := by
  have hfront : s.frontCapsule conn = some cap := ht.1
  change execNvmeIdentify conn s = _
  simp only [execNvmeIdentify, hfront]
  rw [if_neg, adminRun_takes ht]
  · simp only [hdata]
  · by_cases hcns : cdw cap 10 % 256 = 0
    · cases hns : s.ns? (sqNsid cap) with
      | none => simp
      | some n => simp [hpresent hcns n hns]
    · simp [hcns]

theorem exec_setFeatures_ok {y : Controller} {v : Nat} (ht : s.takesAdmin conn (isAdmin 0x09) cap c x)
    (hset : x.setFeature cap = (0, v, y)) :
    exec (.setFeatures conn) s = .next (if cdw cap 10 % 256 = 4
      then (((s.taken conn).updCtrl c fun _ => y).complete conn (sqCid cap) 0 v (sglInv cap)).healthCheck
      else ((s.taken conn).updCtrl c fun _ => y).complete conn (sqCid cap) 0 v (sglInv cap)) := by
  change execSetFeatures conn s = _
  rw [execSetFeatures, adminRun_takes ht]
  simp only [hset, decide_true, Bool.and_true, decide_eq_true_eq]

theorem exec_getFeatures_value {v : Nat} (ht : s.takesAdmin conn (isAdmin 0x0A) cap c x) (hfid : cdw cap 10 % 256 ≠ 0x81)
    (hv : x.getFeature cap = some v) :
    exec (.getFeatures conn) s = .next ((s.taken conn).complete conn (sqCid cap) 0 v (sglInv cap)) := by
  change execGetFeatures conn s = _
  rw [execGetFeatures, adminRun_takes ht]
  simp only [hfid, hv, if_false]

theorem exec_getFeatures_hostId (ht : s.takesAdmin conn (isAdmin 0x0A) cap c x) (hfid : cdw cap 10 % 256 = 0x81) :
    exec (.getFeatures conn) s = .next ((s.taken conn).adminData conn cap (fit 16 x.hostId)) := by
  change execGetFeatures conn s = _
  rw [execGetFeatures, adminRun_takes ht]
  simp only [hfid, if_true]

end capsules

/-- Settles O17: one lemma per clause, each the branch that the descriptor, the identifier and the page choose. -/
theorem nvmeAdminDataAct : Obligations.NvmeAdminDataAct := by
  unfold Obligations.NvmeAdminDataAct
  exact ⟨fun _ _ _ _ _ _ => exec_getLogPage, fun _ _ _ _ _ _ => exec_nvmeIdentify, fun _ _ _ _ _ _ _ => exec_setFeatures_ok,
    fun _ _ => setFeature_queueCounts, fun _ _ _ _ _ _ => exec_getFeatures_value, fun _ _ _ _ _ => exec_getFeatures_hostId,
    fun _ _ _ _ => adminData_keyed⟩

end Sys2Proof.Proofs
end

section
/-! Formats and sanitizes of a host, and how an operation goes on, ends and fails (R130, R151 to R154, R200). -/

namespace Sys2Proof.Proofs
open Sys2Proof.Machine Sys2Proof.Laws

/-! ### Formats and sanitizes start (R151, R152) -/

section capsules
variable {s : State} {conn c k : Nat} {cap : List Byte} {x : Controller}

theorem exec_formatNvm {n : Namespace} (ht : s.takesAdmin conn (isAdmin 0x80) cap c x) (hns : s.ns? (sqNsid cap) = some n)
    (hsub : x.subsys = some n.subsys) (hpresent : s.eraseAbsent [sqNsid cap] = []) (haccess : s.nvme.ana.getD n.domain 3 ≠ 3)
    (hsteady : s.nvme.ana.getD n.domain 3 ≠ 15)
    (hsanitize : s.sanitizeRunning n.subsys = false)
    (hformat : s.nvme.erases.any (fun e => e.2.kind == 1 && e.2.target == sqNsid cap && e.2.state == 1) = false)
    (hfooting : s.footing.active = false)
    (hstatus : (s.taken conn).formatStatus n (sqNsid cap) (cdw cap 10 % 16) (bits (cdw cap 10) 7 5) (bits (cdw cap 10) 11 9) = none)
    (hslot : s.eraseSlot = some k) :
    exec (.formatNvm conn) s = .next ((s.taken conn).startErase k 1 (bits (cdw cap 10) 11 9) (sqNsid cap) (cdw cap 10)
      (cdw cap 10 % 16 + 16 * bits (cdw cap 10) 7 5) n.tag [sqNsid cap] (some (conn, sqCid cap)) (sglInv cap)) := by
  have hfront : s.frontCapsule conn = some cap := ht.1
  change execFormatNvm conn s = _
  simp only [execFormatNvm, hfront, hpresent, ite_self, List.isEmpty_nil, Bool.not_true, Bool.false_eq_true, if_false]
  rw [adminRun_takes ht]
  simp only [taken_ns?, taken_nvme, taken_footing, taken_sanitizeRunning, taken_eraseSlot, hns, hsub, haccess, hsteady,
    hsanitize, hformat, hfooting, hstatus, hslot, ne_eq, not_true_eq_false, Bool.false_eq_true, if_false]

/-- A Sanitize of a host that passes the checks, the map pages of a block erase present. -/
theorem sanitizeRun_recorded {action sub : Nat}
    (ht : s.takesAdmin conn (fun cap => sqOpcode cap == 0x84 && cdw cap 10 % 8 == action) cap c x) (hsub : x.subsys = some sub)
    (hstatus : s.sanitizeStatus sub action true = none) (hslot : s.eraseSlot = some k)
    (hpresent : action = 2 → s.eraseAbsent (s.nsOf sub) = []) :
    sanitizeRun conn action s = .next (((s.taken conn).startErase k 2 action sub (cdw cap 10) 0 0 (s.nsOf sub) none none).complete
      conn (sqCid cap) 0 0 (sglInv cap)) := by
  have ⟨hfront, hctrl, hget, hfits, _⟩ := ht
  have hneeds : (if action = 2 then s.eraseAbsent (s.nsOf sub) else []) = [] := ite_eq_right_iff.mpr hpresent
  simp only [sanitizeRun, hfront, hctrl, Option.bind_some, hget, hsub, hfits, hstatus, Option.isNone_none, Bool.true_and,
    Bool.and_true, decide_eq_true_eq, hneeds, List.isEmpty_nil, Bool.not_true, Bool.false_eq_true, if_false]
  rw [adminRun_takes ht]
  simp only [hsub, Option.getD_some, taken_sanitizeStatus, taken_eraseSlot, taken_nsOf, hstatus, hslot]

theorem exec_sanitizeBlockErase {sub : Nat}
    (ht : s.takesAdmin conn (fun cap => sqOpcode cap == 0x84 && cdw cap 10 % 8 == 2) cap c x) (hsub : x.subsys = some sub)
    (hstatus : s.sanitizeStatus sub 2 true = none) (hslot : s.eraseSlot = some k) (hpresent : s.eraseAbsent (s.nsOf sub) = []) :
    exec (.sanitizeBlockErase conn) s = .next (((s.taken conn).startErase k 2 2 sub (cdw cap 10) 0 0 (s.nsOf sub) none none).complete
      conn (sqCid cap) 0 0 (sglInv cap)) :=
  sanitizeRun_recorded ht hsub hstatus hslot fun _ => hpresent

theorem exec_sanitizeCryptoErase {sub : Nat}
    (ht : s.takesAdmin conn (fun cap => sqOpcode cap == 0x84 && cdw cap 10 % 8 == 4) cap c x) (hsub : x.subsys = some sub)
    (hstatus : s.sanitizeStatus sub 4 true = none) (hslot : s.eraseSlot = some k) :
    exec (.sanitizeCryptoErase conn) s = .next (((s.taken conn).startErase k 2 4 sub (cdw cap 10) 0 0 (s.nsOf sub) none none).complete
      conn (sqCid cap) 0 0 (sglInv cap)) :=
  sanitizeRun_recorded ht hsub hstatus hslot (absurd · (by decide))

theorem exec_sanitizeExitFailure {sub : Nat}
    (ht : s.takesAdmin conn (fun cap => sqOpcode cap == 0x84 && cdw cap 10 % 8 != 2 && cdw cap 10 % 8 != 4) cap c x)
    (hsub : x.subsys = some sub) (haction : cdw cap 10 % 8 = 1) (hidle : s.sanitizeRunning sub = false)
    (hbroken : (s.subsys sub).sstat = 3) :
    exec (.sanitizeExitFailure conn) s =
      .next ((((s.taken conn).forgetErase 2 sub).updSubsys sub fun u => { u with sstat := 0 }).complete conn (sqCid cap) 0 0 (sglInv cap)) := by
  have hfailed : s.sanitizeBroken sub = true := by simp only [State.sanitizeBroken, hbroken, BEq.rfl]
  change execSanitizeExitFailure conn s = _
  rw [execSanitizeExitFailure, adminRun_takes ht]
  simp only [hsub, Option.getD_some, haction, taken_sanitizeRunning, taken_sanitizeBroken, hidle, hfailed, ne_eq,
    not_true_eq_false, Bool.not_true, Bool.false_eq_true, if_false]

end capsules

/-! ### A running operation goes on, ends and fails (R152 to R154) -/

section running
variable {s : State} {i : Nat} {e : EraseOp} (herase : s.erasing i = some e)
include herase

theorem exec_eraseOperationStep (hruns : s.runs = true) (hwhole : s.eraseBroken e = false) (hphase : e.phase < 3) :
    exec (.eraseOperationStep i) s = .next (s.eraseStep i e) := by
  change execEraseOperationStep i s = _
  simp only [execEraseOperationStep, herase]
  exact dataIf_of_runs hruns (by simp [hwhole, hphase]) _

theorem exec_eraseOperationEnd (hruns : s.runs = true) (hwhole : s.eraseBroken e = false) (hpurged : s.erasePurged e = true) :
    exec (.eraseOperationEnd i) s = .next (s.endErase i e) := by
  change execEraseOperationEnd i s = _
  simp only [execEraseOperationEnd, herase, hwhole, Bool.false_eq_true, if_false]
  exact dataIf_of_runs hruns hpurged _

theorem exec_eraseOperationEnd_broken (hbroken : s.eraseBroken e = true) :
    exec (.eraseOperationEnd i) s = .next (s.failErase i e) := by
  change execEraseOperationEnd i s = _
  simp only [execEraseOperationEnd, herase, hbroken, if_true]

end running

theorem eraseStep_unmap {s : State} {k : Nat} {e : EraseOp} (hphase : e.phase = 1) (hbegun : e.done ≠ 0)
    (hmore : min e.unmapUnits ((e.done / 1024 + 1) * 1024) ≠ e.unmapUnits) :
    s.eraseStep k e = (s.unmapRun e.nsids e.done (min e.unmapUnits ((e.done / 1024 + 1) * 1024))).recordErase k
      { e with done := min e.unmapUnits ((e.done / 1024 + 1) * 1024) } := by
  simp only [State.eraseStep, hphase, hbegun, if_true, if_false]
  exact if_neg hmore

/-- Settles O18: both sanitizes by the one lemma on a Sanitize that passes its checks; an operation that runs by the
conditions of its step and its end. -/
theorem eraseCommandsAct : Obligations.EraseCommandsAct := by
  unfold Obligations.EraseCommandsAct
  exact ⟨fun _ _ _ _ _ _ _ ht hns hsub _ => exec_formatNvm ht hns hsub, fun _ _ _ _ _ _ _ => exec_sanitizeBlockErase,
    fun _ _ _ _ _ _ _ => exec_sanitizeCryptoErase, fun _ _ _ _ _ _ => exec_sanitizeExitFailure,
    fun _ _ _ => exec_eraseOperationStep, fun _ _ _ => exec_eraseOperationEnd, fun _ _ _ => exec_eraseOperationEnd_broken,
    fun _ _ _ => eraseStep_unmap⟩

end Sys2Proof.Proofs
end

section
/-! Flush, Read, Write, Write Zeroes and Dataset Management as they are taken (R138, R144, R147, R161, R167, R281). -/

namespace Sys2Proof.Proofs
open Sys2Proof.Machine Sys2Proof.Laws

section capsules
variable {s : State} {conn c sub : Nat} {cap : List Byte}

/-! ### Flush (R147) -/

theorem exec_nvmeFlush_one {n : Namespace} (ht : s.takesIo conn 0 cap c sub) (hns : s.ns? (sqNsid cap) = some n)
    (hone : sqNsid cap ≠ 0xFFFFFFFF) :
    exec (.nvmeFlush conn) s = .next (State.completeFlush s.now (State.closeAwaited ((s.taken conn).flushAwaits [sqNsid cap] s.now)
      (s.classRank n.cls 2) ((s.taken conn).addCmd s.now
        { (s.taken conn).freshCmd .flush conn c s.now cap n (s.classRank n.cls 2) with
          await := (s.taken conn).flushAwaits [sqNsid cap] s.now }))) := by
  change execNvmeFlush conn s = _
  rw [execNvmeFlush, ioRun_takes ht]
  simp only [hone, if_false, taken_ns?, taken_classRank, hns, Option.getD_some]

theorem exec_nvmeFlush_all (ht : s.takesIo conn 0 cap c sub) (hall : sqNsid cap = 0xFFFFFFFF) :
    ∃ x : Cmd, x.kind = .flush ∧ x.conn = conn ∧ x.cid = sqCid cap ∧
      x.await = (s.taken conn).flushAwaits ((s.taken conn).nsOf sub) s.now ∧
      exec (.nvmeFlush conn) s = .next (State.completeFlush s.now (State.closeAwaited x.await ((s.taken conn).flushRank x.await)
        ((s.taken conn).addCmd s.now x))) := by
  have ⟨_, _, _, _, hsub, _⟩ := ht
  have hexec : execNvmeFlush conn s = _ := ioRun_takes ht _
  simp only [hall, if_true, taken_ctrl?, hsub, Option.getD_some] at hexec
  generalize Option.getD _ _ = n at hexec
  exact ⟨{ (s.taken conn).freshCmd .flush conn c s.now cap n _ with await := _ }, rfl, rfl, rfl, rfl, hexec⟩

theorem exec_flushComplete {k : Nat} {x : Cmd} (hcmd : s.cmdOf? k = some x) (hkind : x.kind = .flush)
    (hnone : s.stillAwaited x = []) (hwhole : x.torn = false) :
    exec (.flushComplete k) s = .next (({ s with nvme.cmds := s.nvme.cmds.del k } : State).complete x.conn x.cid 0 0 (sglInv x.capsule)) := by
  change execFlushComplete k s = _
  simp only [execFlushComplete, State.completeFlush, hcmd, hkind, hnone, hwhole, decide_true, List.isEmpty_nil, Bool.and_self, if_true,
    Bool.false_eq_true, if_false]

/-! ### Commands of one namespace (R144, R161, R167, R281) -/

section ofOneNamespace
variable {n : Namespace}

theorem exec_nvmeWrite (ht : s.takesIo conn 1 cap c sub) (hns : s.ns? (sqNsid cap) = some n) :
    ∃ (x : Cmd) (t : State), x.kind = .write ∧ x.slba = sqSlba cap ∧ x.nlb = sqNlb cap + 1 ∧ x.cid = sqCid cap ∧
      x.slots = (settRun n.lbaf x.slba x.nlb).2 + 1 - (settRun n.lbaf x.slba x.nlb).1 ∧ x.need = needUnits x.slots (x.ashlarSpan n.lbaf) ∧
      t = ((s.taken conn).addCmd s.now x).considerWrites 1 ∧
      exec (.nvmeWrite conn) s = .next (if ((t.cmdOf? s.now).map Cmd.waits).getD false then t.wpCount 15 1 else t) := by
  have hexec : execNvmeWrite conn s = _ := ioRun_takes ht _
  simp only [taken_ns?, hns] at hexec
  exact ⟨_, _, rfl, rfl, rfl, rfl, rfl, rfl, rfl, hexec⟩

theorem exec_nvmeRead (ht : s.takesIo conn 2 cap c sub) (hns : s.ns? (sqNsid cap) = some n) :
    ∃ (x : Cmd) (t : State), x.kind = .read ∧ x.slba = sqSlba cap ∧ x.nlb = sqNlb cap + 1 ∧ x.cid = sqCid cap ∧ x.rank = s.classRank n.cls 0 ∧
      t = (s.taken conn).addCmd s.now x ∧
      exec (.nvmeRead conn) s = .next (if s.stripe.rebuild.gate.isSome && classOf n.cls ≠ 1 then t else t.advanceRead s.now) := by
  have hexec : execNvmeRead conn s = _ := ioRun_takes ht _
  simp only [taken_ns?, hns] at hexec
  exact ⟨_, _, rfl, rfl, rfl, rfl, rfl, rfl, hexec⟩

theorem exec_writeZeroes (ht : s.takesIo conn 8 cap c sub) (hns : s.ns? (sqNsid cap) = some n) :
    ∃ (x : Cmd) (t : State), x.kind = .zeroes ∧ x.slba = sqSlba cap ∧ x.nlb = sqNlb cap + 1 ∧ x.cid = sqCid cap ∧
      x.slots = (partialSetts n.lbaf x.slba x.nlb).length ∧ x.need = needUnits x.slots (x.ashlarSpan n.lbaf) ∧
      t = ((s.taken conn).addCmd s.now x).considerWrites 1 ∧
      exec (.writeZeroes conn) s = .next (if ((t.cmdOf? s.now).map Cmd.waits).getD false then t.wpCount 15 1 else t) := by
  have hexec : execWriteZeroes conn s = _ := ioRun_takes ht _
  simp only [taken_ns?, hns] at hexec
  exact ⟨_, _, rfl, rfl, rfl, rfl, rfl, rfl, rfl, hexec⟩

theorem exec_datasetManagement (ht : s.takesIo conn 9 cap c sub) (hns : s.ns? (sqNsid cap) = some n) :
    ∃ x : Cmd, x.kind = .dealloc ∧ x.cid = sqCid cap ∧ x.nsid = sqNsid cap ∧
      exec (.datasetManagement conn) s = .next (((s.taken conn).addCmd s.now x).post conn
        (.read (sglAddr cap) (sglKey cap) (sglLen cap)) (.writeData s.now)) := by
  have hexec : execDatasetManagement conn s = _ := ioRun_takes ht _
  simp only [taken_ns?, hns] at hexec
  exact ⟨_, rfl, rfl, rfl, hexec⟩

end ofOneNamespace

end capsules

/-- The ranges of a Dataset Management without AD lie in the namespace: it completes at once. -/
theorem rangesArrived_without_ad {s : State} {k : Nat} {b : List Byte} {c : Cmd} {n : Namespace} (hcmd : s.cmdOf? k = some c)
    (hns : s.ns? c.nsid = some n) (had : bit (cdw c.capsule 11) 2 = false)
    (hinside : ((List.range (b.length / 16)).map fun i => (fieldAt b (16 * i + 8) 8, fieldAt b (16 * i + 4) 4)).any
      (fun r => decide (n.nsze < r.1 + r.2)) = false) :
    s.rangesArrived k b = s.failCmd k 0 := by
  simp only [State.rangesArrived, hcmd, hns, hinside, had, Bool.not_false, Bool.false_eq_true, if_false, if_true]

/-- Settles O19: `ioRun_takes` gives the effect of each command that is taken; the clauses read off the command it adds. -/
theorem ioCommandsAct : Obligations.IoCommandsAct := by
  unfold Obligations.IoCommandsAct
  exact ⟨fun _ _ _ _ _ _ => exec_nvmeFlush_one, fun _ _ _ _ _ => exec_nvmeFlush_all, fun _ _ _ => exec_flushComplete,
    fun _ _ _ _ _ _ => exec_nvmeWrite, fun _ _ _ _ _ _ => exec_nvmeRead, fun _ _ _ _ _ _ => exec_writeZeroes,
    fun _ _ _ _ _ _ => exec_datasetManagement, fun _ _ _ _ _ => rangesArrived_without_ad⟩

end Sys2Proof.Proofs
end

section
/-! ERASE_START and ERASE_STATUS, and the packets of data reduction (R151, R152, R154, R157, R162, R177 to R179, R184,
R185). -/

namespace Sys2Proof.Proofs
open Sys2Proof.Machine Sys2Proof.Laws

section packets
variable {s : State} {op : PktOp} {p : Packet}

/-! ### The erase packets (R151, R152, R154) -/

/-- An erase by key finds the entropy test passed, so its new key never fails (R204). -/
theorem newKey_never_fails {e : EraseOp} (hentropy : e.byKey = true → s.keys.entropyFailed = false) :
    (s.needsKey e && s.keys.entropyFailed) = false := by
  cases hkey : e.byKey with
  | false => simp only [State.needsKey, hkey, Bool.false_and]
  | true => simp only [hentropy hkey, Bool.and_false]

section erase
variable {k : Nat} (ht : s.takes op 0x030B p) (hslot : s.eraseSlot = some k)
include ht hslot

theorem exec_eraseStart_format {n : Namespace} (hkind : p.f 0 1 = 1) (hns : s.ns? (p.f 4 4) = some n)
    (howns : s.owns n.domain = true) (hidle : s.nsErasing (p.f 4 4) n = false)
    (hstatus : s.formatStatus n (p.f 4 4) n.lbaf n.pi (p.f 1 1) = none) (hpresent : s.eraseAbsent [p.f 4 4] = [])
    (hentropy : p.f 1 1 = 2 → s.keys.entropyFailed = false) :
    exec (.eraseStart op) s = .next ((s.startErase k 1 (p.f 1 1) (p.f 4 4) 0 (n.lbaf + 16 * n.pi) n.tag [p.f 4 4] none none).replyOk p) := by
  have hkeys : ∀ e : EraseOp, e.kind = 1 → e.action = p.f 1 1 → (s.needsKey e && s.keys.entropyFailed) = false :=
    fun e hkind haction => newKey_never_fails fun hkey => hentropy (by simpa [EraseOp.byKey, hkind, haction] using hkey)
  change execEraseStart op s = _
  rw [execEraseStart, packetRun_takes ht]
  simp only [hkind, hns, howns, hidle, hstatus, hslot, hpresent, hkeys, Option.isSome_none, List.isEmpty_nil, Bool.not_true,
    Bool.false_eq_true, if_true, if_false]

theorem exec_eraseStart_sanitize (hkind : p.f 0 1 ≠ 1) (hsub : s.nvme.subsystems.has (p.f 4 4) = true)
    (howns : ((s.nsOf (p.f 4 4)).all fun n => s.owns (((s.ns? n).map Namespace.domain).getD 256)) = true)
    (hidle : s.sanitizeRunning (p.f 4 4) = false)
    (haction : p.f 1 1 = 2 ∨ (p.f 1 1 = 4 ∧ s.cryptoAllowed (p.f 4 4) = true))
    (hpresent : s.eraseAbsent (s.nsOf (p.f 4 4)) = []) (hentropy : p.f 1 1 = 4 → s.keys.entropyFailed = false) :
    exec (.eraseStart op) s = .next ((s.startErase k 2 (p.f 1 1) (p.f 4 4) 0 0 0 (s.nsOf (p.f 4 4)) none none).replyOk p) := by
  have hallowed : (decide (p.f 1 1 = 4) && !s.cryptoAllowed (p.f 4 4)) = false := by
    rcases haction with haction | ⟨-, haction⟩ <;> simp [haction]
  have hkeys : ∀ e : EraseOp, e.kind = 2 → e.action = p.f 1 1 → (s.needsKey e && s.keys.entropyFailed) = false :=
    fun e hkind haction => newKey_never_fails fun hkey => hentropy (by simpa [EraseOp.byKey, hkind, haction] using hkey)
  change execEraseStart op s = _
  rw [execEraseStart, packetRun_takes ht]
  simp only [hkind, hsub, howns, hidle, hallowed, hslot, hpresent, hkeys, List.isEmpty_nil, Bool.not_true,
    Bool.false_eq_true, if_false]

end erase

theorem exec_eraseStatus (ht : s.takes op 0x030C p) :
    exec (.eraseStatus op) s = .next (s.reply p St.ok 0 (((s.nvme.erases.get? (p.f 0 1)).map EraseOp.bytes).getD (zeros 64))) :=
  packetRun_takes ht _

/-! ### Settings (R184) -/

theorem exec_reduceConfig (ht : s.takes op 0x0400 p) (howns : s.owns (p.f 0 1) = true)
    (htable : p.f 2 1 = 1 → (s.huffTable? (p.f 3 1)).isSome = true) :
    exec (.reduceConfig op) s = .next (s.askSettings p (p.f 0 1) { s.askedSettings (p.f 0 1) with
      level := p.f 1 1
      mode := p.f 2 1
      table := p.f 3 1
      flags := p.f 4 1 }) := by
  have hthere : (decide (p.f 2 1 = 1) && (s.huffTable? (p.f 3 1)).isNone) = false := by
    by_cases hmode : p.f 2 1 = 1
    · simp [← Option.not_isSome, htable hmode]
    · simp [hmode]
  change execReduceConfig op s = _
  rw [execReduceConfig, packetRun_takes ht]
  simp only [ownerOnly_of_owns howns, hthere, Bool.false_eq_true, if_false]

theorem exec_indexConfig (ht : s.takes op 0x0401 p) (howns : s.owns (p.f 0 1) = true)
    (hempty : p.f 1 1 = (s.askedSettings (p.f 0 1)).bucketLog2 ∨ (s.indexHolds (p.f 0 1) = false ∧ s.indexAbsent (p.f 0 1) = [])) :
    exec (.indexConfig op) s = .next (s.askSettings p (p.f 0 1) { s.askedSettings (p.f 0 1) with bucketLog2 := p.f 1 1 }) := by
  change execIndexConfig op s = _
  rw [execIndexConfig, packetRun_takes ht]
  simp only [ownerOnly_of_owns howns]
  rcases hempty with hsame | ⟨hholds, habsent⟩
  · simp only [hsame, ne_eq, not_true_eq_false, decide_false, Bool.false_and, Bool.false_eq_true, if_false]
  · simp only [hholds, habsent, List.isEmpty_nil, Bool.not_true, Bool.and_false, Bool.false_eq_true, if_false]

theorem askSettings_eq (s : State) (p : Packet) (d : Nat) (r : ReduceDomain) :
    s.askSettings p d r = ({ s.await p with wp.settings := s.wp.settings ++ [(p.acc, d, r)] } : State).journalWrite d (s.rankOf 13)
      (.domainSettings r.level r.mode r.table r.flags r.bucketLog2) 0 := by
  have hrank : (s.await p).rankOf 13 = s.rankOf 13 := by simp only [State.rankOf, await_templates]
  rw [State.askSettings, ← hrank]
  rfl

theorem exec_reduceConfigChip (ht : s.takes op 0x0407 p) :
    exec (.reduceConfigChip op) s = .next (({ s with
      wp.classASlots := p.f 0 2,
      wp.cacheMib := if p.f 4 4 = 0 then s.wp.cacheMib else p.f 4 4 } : State).trimIndex.replyOk p) := by
  change execReduceConfigChip op s = _
  rw [execReduceConfigChip, packetRun_takes ht]

/-! ### Compression and decompression jobs (R177 to R179, R184) -/

theorem exec_compJob_plain {out : List Byte} (ht : s.takes op 0x0402 p) (hmode : p.f 9 1 ≠ 1)
    (hout : out = deflate (p.f 8 1) (p.f 9 1) [] (bit (p.f 0xB 1) 0) (slice (p.buffer op) 0 (p.f 0 4)))
    (hroom : out.length ≤ p.dataLen - p.f 4 4) :
    exec (.compJob op) s = .next (s.replyAt p St.ok (out.length + (crc32 (slice (p.buffer op) 0 (p.f 0 4))).toNat * 2 ^ 32) (p.f 4 4) out) := by
  change execCompJob op s = _
  rw [execCompJob, packetRun_takes ht]
  simp only [hmode, decide_false, Bool.false_and, Bool.false_eq_true, if_false, ← hout, Nat.not_lt.mpr hroom]

theorem exec_compJob_table {t : List Byte} (ht : s.takes op 0x0402 p) (hmode : p.f 9 1 = 1) (htable : s.huffTable? (p.f 0xA 1) = some t) :
    exec (.compJob op) s = .next (
      if p.dataLen - p.f 4 4 < (deflate (p.f 8 1) 1 t (bit (p.f 0xB 1) 0) (slice (p.buffer op) 0 (p.f 0 4))).length then s.fail p St.outputSpace
      else s.replyAt p St.ok ((deflate (p.f 8 1) 1 t (bit (p.f 0xB 1) 0) (slice (p.buffer op) 0 (p.f 0 4))).length +
        (crc32 (slice (p.buffer op) 0 (p.f 0 4))).toNat * 2 ^ 32) (p.f 4 4) (deflate (p.f 8 1) 1 t (bit (p.f 0xB 1) 0) (slice (p.buffer op) 0 (p.f 0 4)))) := by
  change execCompJob op s = _
  rw [execCompJob, packetRun_takes ht]
  simp only [hmode, htable, Option.isNone_some, Option.getD_some, Bool.and_false, Bool.false_eq_true, if_true, if_false]

theorem exec_decompJob {out : List Byte} (ht : s.takes op 0x0403 p) (hout : inflate (slice (p.buffer op) 0 (p.f 0 4)) = .ok out)
    (hroom : out.length ≤ p.dataLen - p.f 4 4) :
    exec (.decompJob op) s = .next (s.replyAt p St.ok (out.length + (crc32 out).toNat * 2 ^ 32) (p.f 4 4) out) := by
  change execDecompJob op s = _
  rw [execDecompJob, packetRun_takes ht]
  simp only [hout, Nat.not_lt.mpr hroom, if_false]

/-! ### Reports (R184, R185) -/

theorem exec_reduceStatus (ht : s.takes op 0x0404 p) :
    exec (.reduceStatus op) s = .next (s.reply p St.ok 0 (le 8 s.wp.limit ++ le 8 s.wp.occupancy ++ le 8 s.wp.reserved ++
      le 4 (ingestSlots - s.wp.slotsUsed) ++ le 4 s.wp.classASlots ++
      ((List.range 8).flatMap fun r => le 2 ((s.nvme.cmds.filter fun x => x.2.waits).filter fun x => x.2.rank == r).length) ++
      le 8 ((s.nvme.cmds.filter fun x => x.2.waits).foldl (fun m x => max m ((s.tick - x.2.since) * 64 / 1000)) 0))) := by
  change execReduceStatus op s = _
  rw [execReduceStatus, packetRun_takes ht]

theorem exec_reduceCounters_kept (ht : s.takes op 0x0405 p) (hkeep : p.f 0 1 ≠ 1) :
    exec (.reduceCounters op) s = .next (s.reply p St.ok 0 ((s.wp.counters.take 15).flatMap (le 8) ++
      le 4 (min (s.wp.counters.getD 15 0) (2 ^ 32 - 1)) ++ le 4 (min (s.wp.counters.getD 16 0) (2 ^ 32 - 1)))) := by
  change execReduceCounters op s = _
  rw [execReduceCounters, packetRun_takes ht]
  simp only [hkeep, if_false]

theorem exec_reduceCounters_cleared (ht : s.takes op 0x0405 p) (hclear : p.f 0 1 = 1) :
    exec (.reduceCounters op) s = .next (({ s with wp.counters := List.replicate 17 0 } : State).reply p St.ok 0
      ((s.wp.counters.take 15).flatMap (le 8) ++
      le 4 (min (s.wp.counters.getD 15 0) (2 ^ 32 - 1)) ++ le 4 (min (s.wp.counters.getD 16 0) (2 ^ 32 - 1)))) := by
  change execReduceCounters op s = _
  rw [execReduceCounters, packetRun_takes ht]
  simp only [hclear, if_true]

theorem exec_indexQuery_present {bucket : Nat} {body : List Byte} {es : List (List Byte)} (ht : s.takes op 0x0406 p)
    (hbucket : bucket = bucketOf (s.reduceOf (p.f 0 1)).bucketLog2 (p.bytes 4 32))
    (hpage : (s.indexPage (p.f 0 1) (bucket / 8)).body = some body)
    (hes : es = (((List.range 16).map fun i => entryOf body bucket i).filter fun e => ixForm e != 0 && ixTag e == tagOf (p.bytes 4 32))) :
    exec (.indexQuery op) s = .next (s.reply p St.ok es.length (le 8 bucket ++
      if es.isEmpty then zeros 32 else (es.take ((p.dataLen - 8) / 32)).flatten)) := by
  subst hbucket hes
  change execIndexQuery op s = _
  rw [execIndexQuery, packetRun_takes ht]
  simp only [hpage]

end packets

/-- Settles O22: one lemma per clause, each the branch of its packet that the clause's hypotheses choose. -/
theorem eraseAndReducePacketsAct : Obligations.EraseAndReducePacketsAct := by
  unfold Obligations.EraseAndReducePacketsAct
  exact ⟨fun _ _ _ _ _ ht hkind hns howns hidle hstatus hslot => exec_eraseStart_format ht hslot hkind hns howns hidle hstatus,
    fun _ _ _ _ ht hkind hsub howns hidle haction hslot => exec_eraseStart_sanitize ht hslot hkind hsub howns hidle haction,
    fun _ _ _ => exec_eraseStatus, fun _ _ _ => exec_reduceConfig,
    fun _ _ _ ht howns _ => exec_indexConfig ht howns, askSettings_eq, fun _ _ _ _ => exec_compJob_plain,
    fun _ _ _ _ => exec_compJob_table, fun _ _ _ _ => exec_decompJob, fun _ _ _ => exec_reduceStatus,
    fun _ _ _ => exec_reduceCounters_kept, fun _ _ _ => exec_reduceCounters_cleared,
    fun _ _ _ _ _ _ => exec_indexQuery_present, fun _ _ _ ht _ => exec_reduceConfigChip ht⟩

end Sys2Proof.Proofs
end

section
/-! AES-256 keeps the length of its block, so the key stream of GCM covers a whole block, and adding it twice gives the
text back (R210). -/

namespace Sys2Proof.Proofs
open Sys2Proof.Machine

@[simp] theorem be_length (n v : Nat) : (be n v).length = n := by simp [be]

@[simp] theorem slice_length (bs : List Byte) (off len : Nat) : (slice bs off len).length = len := fit_length _ _

@[simp] theorem xorBytes_length (a b : List Byte) : (xorBytes a b).length = min a.length b.length := by simp [xorBytes]

@[simp] theorem xorBytes_nil (k : List Byte) : xorBytes [] k = [] := rfl

/-- Adding the same bytes twice gives the text back, when they are as many as the text has. -/
theorem xorBytes_xorBytes {a k : List Byte} (hlen : a.length ≤ k.length) : xorBytes (xorBytes a k) k = a := by
  refine List.ext_getElem (by simp [hlen]) fun i hi hi' => ?_
  simp only [xorBytes, List.getElem_zipWith, BitVec.xor_assoc, BitVec.xor_self, BitVec.xor_zero]

/-! ### The lengths of AES-256 (R188) -/

@[simp] theorem shiftRows_length (inverse : Bool) (block : List Byte) : (shiftRows inverse block).length = 16 := by
  simp [shiftRows]

@[simp] theorem mixColumn_length (k col : List Byte) : (mixColumn k col).length = 4 := by simp [mixColumn]

@[simp] theorem mixColumns_length (inverse : Bool) (block : List Byte) : (mixColumns inverse block).length = 16 := by
  simp only [mixColumns, List.length_flatMap, mixColumn_length]
  rfl

/-- Every round leaves a block of 16 bytes. -/
theorem aesRounds_length {keys : List (List Byte)} {block : List Byte} (hkeys : ∀ k ∈ keys, k.length = 16)
    (hblock : block.length = 16) : (aesRounds keys block).length = 16 := by
  induction keys generalizing block with
  | nil => exact hblock
  | cons k ks ih =>
    have hk : k.length = 16 := hkeys k List.mem_cons_self
    cases ks with
    | nil => simp [aesRounds, hk]
    | cons k' ks => exact ih (fun x hx => hkeys x (List.mem_cons_of_mem k hx)) (by simp [hk])

theorem aesEncrypt_length {keys : List (List Byte)} {block : List Byte} (hkeys : ∀ k ∈ keys, k.length = 16)
    (hblock : block.length = 16) : (aesEncrypt keys block).length = 16 := by
  cases keys with
  | nil => exact hblock
  | cons k ks =>
    exact aesRounds_length (fun x hx => hkeys x (List.mem_cons_of_mem k hx)) (by simp [hblock, hkeys k List.mem_cons_self])

/-- What a step of the key schedule adds to the word eight before is a word of 4 bytes when the last word is. -/
theorem aesMixed_length {last : List Byte} (hlast : last.length = 4) (i : Nat) (rcon : Byte) :
    (if i % 8 = 0 then xorBytes ((last.drop 1 ++ last.take 1).map subByte) [rcon, 0, 0, 0]
      else if i % 8 = 4 then last.map subByte else last).length = 4 := by
  split
  · simp [hlast]
  · split <;> simp [hlast]

/-- A key schedule of words of 4 bytes grows by one such word a step. -/
theorem aesExpand_words {n i : Nat} {rcon : Byte} {ws : List (List Byte)} (hwords : ∀ w ∈ ws, w.length = 4)
    (hcount : 8 ≤ ws.length) :
    (aesExpand n i rcon ws).length = n + ws.length ∧ ∀ w ∈ aesExpand n i rcon ws, w.length = 4 := by
  induction n generalizing i rcon ws with
  | zero => exact ⟨(Nat.zero_add _).symm, hwords⟩
  | succ n ih =>
    have hlast : (ws.headD []).length = 4 := by
      cases ws with
      | nil => simp at hcount
      | cons w ws => exact hwords w List.mem_cons_self
    have hold : (ws.getD 7 []).length = 4 := by
      rw [List.getD_eq_getElem?_getD, List.getElem?_eq_getElem hcount, Option.getD_some]
      exact hwords _ (List.getElem_mem _)
    have hnew {t : List Byte} (ht : t.length = 4) : (xorBytes (ws.getD 7 []) t).length = 4 := by
      rw [xorBytes_length, hold, ht, Nat.min_self]
    obtain ⟨hlength, hall⟩ := ih (i := i + 1) (rcon := if i % 8 = 0 then aesDouble rcon else rcon)
      (List.forall_mem_cons.mpr ⟨hnew (aesMixed_length hlast i rcon), hwords⟩) (Nat.le_succ_of_le hcount)
    exact ⟨hlength.trans (Nat.succ_add_eq_add_succ n ws.length).symm, hall⟩

/-- Each of the 15 round keys is 4 of the 60 words of the schedule. -/
theorem aesKeys_length {key k : List Byte} (hk : k ∈ aesKeys key) : k.length = 16 := by
  obtain ⟨r, hr, rfl⟩ := List.mem_map.mp hk
  obtain ⟨hcount, hwords⟩ := aesExpand_words (n := 52) (i := 8) (rcon := 1)
    (ws := ((List.range 8).map fun i => slice key (4 * i) 4).reverse) (by simp) (by simp)
  generalize aesExpand 52 8 1 ((List.range 8).map fun i => slice key (4 * i) 4).reverse = ws at hcount hwords ⊢
  have hfour : ((ws.reverse.drop (4 * r)).take 4).map List.length = List.replicate 4 4 := by
    refine List.eq_replicate_iff.mpr ⟨?count, ?each⟩
    case count =>
      have := List.mem_range.mp hr
      simp at hcount ⊢
      omega
    case each =>
      simp only [List.mem_map, forall_exists_index, and_imp, forall_apply_eq_imp_iff₂]
      exact fun w hw => hwords w (List.mem_reverse.mp (List.mem_of_mem_drop (List.mem_of_mem_take hw)))
  rw [List.length_flatten, hfour]
  rfl

/-! ### The key stream (R210) -/

/-- One block of the key stream. -/
theorem gcmBlock_length (key iv : List Byte) (c : Nat) : (aesEncrypt (aesKeys key) (fit 12 iv ++ be 4 c)).length = 16 :=
  aesEncrypt_length (fun _ => aesKeys_length) (by simp)

section stream
variable {key iv : List Byte}

@[simp] theorem gcmStream_nil (keys : List (List Byte)) (n c : Nat) : gcmStream keys iv n c [] = [] := by
  induction n generalizing c with
  | zero => rfl
  | succ n ih => simp [gcmStream, ih]

theorem gcmStream_length {n c : Nat} {b : List Byte} (hblocks : b.length ≤ 16 * n) :
    (gcmStream (aesKeys key) iv n c b).length = b.length := by
  induction n generalizing c b with
  | zero => simp_all [gcmStream]
  | succ n ih =>
    simp only [gcmStream, List.length_append, xorBytes_length, gcmBlock_length, List.length_take,
      ih (c := c + 1) (b := b.drop 16) (by simp; omega), List.length_drop]
    omega

/-- A stream of blocks is cut where its first block ends: the block is whole, or nothing follows it. -/
theorem gcmStream_cut (n c : Nat) (b : List Byte) :
    let first := xorBytes (b.take 16) (aesEncrypt (aesKeys key) (fit 12 iv ++ be 4 c))
    let rest := gcmStream (aesKeys key) iv n (c + 1) (b.drop 16)
    (first ++ rest).take 16 = first ∧ (first ++ rest).drop 16 = rest := by
  intro first rest
  have hfirst : first.length = min 16 b.length := by simp [first, gcmBlock_length]
  by_cases hwhole : 16 ≤ b.length
  · have hsixteen : first.length = 16 := by omega
    exact ⟨List.take_left' hsixteen, List.drop_left' hsixteen⟩
  · have hrest : rest = [] := by simp only [rest, List.drop_eq_nil_of_le (Nat.le_of_not_le hwhole), gcmStream_nil]
    rw [hrest, List.append_nil]
    exact ⟨List.take_of_length_le (by omega), List.drop_eq_nil_of_le (by omega)⟩

/-- The stream added twice from the same counter gives the text back. -/
theorem gcmStream_gcmStream {n c : Nat} {b : List Byte} (hblocks : b.length ≤ 16 * n) :
    gcmStream (aesKeys key) iv n c (gcmStream (aesKeys key) iv n c b) = b := by
  induction n generalizing c b with
  | zero => simp_all [gcmStream]
  | succ n ih =>
    obtain ⟨htake, hdrop⟩ := gcmStream_cut (key := key) (iv := iv) n c b
    have hback : gcmStream (aesKeys key) iv n (c + 1) (gcmStream (aesKeys key) iv n (c + 1) (b.drop 16)) = b.drop 16 :=
      ih (by simp; omega)
    simp only [gcmStream, htake, hdrop, hback]
    have hcovered : (b.take 16).length ≤ (aesEncrypt (aesKeys key) (fit 12 iv ++ be 4 c)).length := by
      rw [gcmBlock_length]
      exact List.length_take_le 16 b
    rw [xorBytes_xorBytes hcovered, List.take_append_drop]

theorem gcmEnc_length (b : List Byte) : (gcmEnc key iv b).length = b.length := gcmStream_length (by omega)

theorem gcmDec_gcmEnc (b : List Byte) : gcmDec key iv (gcmEnc key iv b) = b := by
  rw [gcmDec, gcmEnc, gcmEnc_length, gcmEnc]
  exact gcmStream_gcmStream (by omega)

end stream

/-- Settles O57: the key stream covers each block, so that it cancels when it is added again. -/
theorem counterModeDecryptsWhatItEncrypted : Obligations.CounterModeDecryptsWhatItEncrypted := by
  unfold Obligations.CounterModeDecryptsWhatItEncrypted
  exact fun _ _ b _ => ⟨gcmDec_gcmEnc b, gcmEnc_length b⟩

end Sys2Proof.Proofs
end

section
/-! The commands of the digest channels (R189 to R197, R213). -/

namespace Sys2Proof.Proofs
open Sys2Proof.Machine Sys2Proof.Laws

section packets
variable {s : State} {op : PktOp} {p : Packet} {c : Nat}

/-- A packet on another channel than 34 is not refused because an update holds that one. -/
theorem not_taken34 {sel : Nat} (hsel : sel ≠ 34 ∨ s.digest.taken34 = false) :
    (decide (sel = 34) && s.digest.taken34) = false := by
  rcases hsel with hsel | htaken
  · simp [hsel]
  · simp [htaken]

/-! ### Start and resume (R189, R191, R195) -/

theorem exec_dgStart (ht : s.takes op 0x0500 p) (hkey : s.hmacKeyOk p = true) :
    exec (.dgStart op) s = .next (s.requestChannel (p.f 0 1) p) := by
  change execDgStart op s = _
  rw [execDgStart, packetRun_takes ht]
  simp only [hkey, Bool.not_true, Bool.false_eq_true, if_false]

theorem exec_dgResume (ht : s.takes op 0x0504 p) (hsaved : (s.saved (p.f 0 4)).isSome = true) :
    exec (.dgResume op) s = .next (s.requestChannel (p.f 4 1) p) := by
  have hthere : (s.saved (p.f 0 4)).isNone = false := by rw [← Option.not_isSome, hsaved, Bool.not_true]
  change execDgResume op s = _
  rw [execDgResume, packetRun_takes ht]
  simp only [hthere, Bool.false_eq_true, if_false]

/-! ### The packets of a live channel (R192, R194 to R196) -/

section live
variable (hlive : s.live (p.f 0 4) = some c) (hother : p.f 0 1 ≠ 34)
include hlive hother

/-- A privileged channel takes data of any length (R192, R197). -/
theorem exec_dgUpdate_privileged (ht : s.takes op 0x0501 p) (hprivileged : 32 ≤ c) (hopen : (s.chan c).state ≠ .lastWord) :
    exec (.dgUpdate op) s = .next (State.reply p St.ok ((s.chan c).msg.bytes.length + (p.buffer op).length) []
      (s.setChan c { s.chan c with msg := { (s.chan c).msg with bytes := (s.chan c).msg.bytes ++ p.buffer op } })) := by
  have hgeneral : general c = false := decide_eq_false (Nat.not_lt.mpr hprivileged)
  change execDgUpdate op s = _
  rw [execDgUpdate, packetRun_takes ht]
  simp only [not_taken34 (.inl hother), hlive, hopen, hgeneral, Bool.false_and, Bool.false_eq_true, if_false,
    List.length_append]

theorem exec_dgFinish_waits (ht : s.takes op 0x0502 p) (hgeneral : general c = true) (howned : (s.chan c).state = .owned)
    (hmode : (s.chan c).msg.mode % 2 = 0) (hroom : digestLen (s.chan c).msg.algorithm ≤ p.dataLen) (htag : p.f 4 1 = 0) :
    exec (.dgFinish op) s =
      .next (State.await p (s.setChan c { s.chan c with finish := some (p.acc, s.tick + ticksOf 2000) })) := by
  have hverify : ((s.chan c).msg.mode % 2 == 1) = false := by simp [hmode]
  change execDgFinish op s = _
  rw [execDgFinish, packetRun_takes ht]
  simp only [not_taken34 (.inl hother), hlive, hverify, decide_eq_false (Nat.not_lt.mpr hroom), htag, hgeneral, howned,
    Bool.false_and, Bool.and_false, Bool.or_self, bne_self_eq_false, beq_self_eq_true, Bool.and_self, Bool.false_eq_true,
    if_false, if_true]

theorem exec_dgSuspend_general {i : Nat} (ht : s.takes op 0x0503 p) (hgeneral : general c = true)
    (hopen : (s.chan c).state ≠ .lastWord)
    (hfree : (List.range 1024).find? (fun i => (s.digest.records.getD i {}).saved.isNone) = some i) :
    exec (.dgSuspend op) s = .next (State.freeChannel c
      (State.reply p St.ok (i + (((s.digest.records.getD i {}).gen + 1) % 2 ^ 20) * 2 ^ 12) []
        (s.setSaveSlot false i { gen := ((s.digest.records.getD i {}).gen + 1) % 2 ^ 20, saved := some (s.chan c).msg }))) := by
  change execDgSuspend op s = _
  rw [execDgSuspend, packetRun_takes ht]
  simp only [not_taken34 (.inl hother), hlive, hopen, hgeneral, hfree, boolNat, Bool.not_true, Bool.false_eq_true, if_false,
    Nat.zero_mul, Nat.add_zero]

theorem exec_dgAbandon_own (ht : s.takes op 0x0505 p) (hforce : bit (p.f 4 1) 0 = false) :
    exec (.dgAbandon op) s = .next (State.freeChannel c (s.replyOk p)) := by
  change execDgAbandon op s = _
  rw [execDgAbandon, packetRun_takes ht]
  simp only [not_taken34 (.inl hother), hlive, hforce, Bool.false_eq_true, if_false]

end live

/-! ### The report of a channel (R213) -/

theorem exec_dgStatus (ht : s.takes op 0x0506 p) (hother : p.f 0 1 ≠ 34 ∨ s.digest.taken34 = false) :
    exec (.dgStatus op) s = .next (s.reply p St.ok 0 (
      le 1 (s.chan (p.f 0 1)).state.code ++ le 1 (s.chan (p.f 0 1)).msg.algorithm ++ le 1 (s.chan (p.f 0 1)).msg.mode ++
      le 1 (s.chan (p.f 0 1)).msg.keySlot ++ le 1 (s.chan (p.f 0 1)).waiters.length ++ zeros 3 ++
      le 8 (s.chan (p.f 0 1)).msg.declared ++ le 8 (s.chan (p.f 0 1)).msg.bytes.length ++ le 8 (s.chan (p.f 0 1)).msg.owner)) := by
  change execDgStatus op s = _
  rw [execDgStatus, packetRun_takes ht]
  simp only [not_taken34 hother, Bool.false_eq_true, if_false]

theorem exec_dgStatus_taken34 (ht : s.takes op 0x0506 p) (hsel : p.f 0 1 = 34) (htaken : s.digest.taken34 = true) :
    exec (.dgStatus op) s = .next (s.fail p St.busyOwned) := by
  change execDgStatus op s = _
  rw [execDgStatus, packetRun_takes ht]
  simp only [hsel, htaken, decide_true, Bool.and_self, if_true]

end packets

/-! ### Last words and deadlines (R191, R193, R194) -/

section waits
variable {s : State} {c acc d : Nat}

/-- A last word in time finds the wait of its DG_FINISH, if any, still on. -/
theorem lastWordExpiry_in_time (htime : ((s.chan c).finish.map fun f => decide (s.tick ≤ f.2)) ≠ some false) :
    s.lastWordExpiry c = s := by
  unfold State.lastWordExpiry
  cases hfinish : (s.chan c).finish with
  | none => rfl
  | some f =>
    have hearly : s.tick ≤ f.2 := by simpa [hfinish] using htime
    exact if_neg (by simp [State.expired, hearly])

theorem lastWordExpiry_late (hfinish : (s.chan c).finish = some (acc, d)) (hlate : d < s.tick) :
    s.lastWordExpiry c = State.replyTo acc St.noLastWord 0 [] (s.setChan c { s.chan c with finish := none }) := by
  simp only [State.lastWordExpiry, hfinish, State.expired, decide_eq_true hlate, if_true]

variable (hruns : s.runs = true)
include hruns

theorem exec_dgLwDataWrite {v : W64} (hc : c < 32) :
    exec (.dgLwDataWrite c v) s = .next (s.setChan c { s.chan c with lwData := le 8 v.toNat }) :=
  dataIf_of_runs hruns (decide_eq_true hc) _

theorem exec_dgLwCtrlWrite {v : W32} (hc : c < 32)
    (htime : ((s.chan c).finish.map fun f => decide (s.tick ≤ f.2)) ≠ some false) :
    exec (.dgLwCtrlWrite c v) s = .next (s.lastWord c (v.toNat % 16)) := by
  have hcount : bits v.toNat 3 0 = v.toNat % 16 := by simp [bits]
  change execDgLwCtrlWrite c v s = _
  rw [execDgLwCtrlWrite, lastWordExpiry_in_time htime, hcount]
  exact dataIf_of_runs hruns (decide_eq_true hc) _

theorem exec_dgQueueDeadlineExpiry {w : Waiter} (hwaits : s.digest.waiter? acc = some w) (hlate : w.deadline < s.tick) :
    exec (.dgQueueDeadlineExpiry acc) s =
      .next (State.replyTo acc St.busyOwned 0 [] { s with digest := s.digest.dropWaiter acc }) := by
  change execDgQueueDeadlineExpiry acc s = _
  simp only [execDgQueueDeadlineExpiry, hwaits]
  exact dataIf_of_runs hruns (decide_eq_true hlate) _

theorem exec_lastWordWaitExpiry (hfinish : (s.chan c).finish = some (acc, d)) (hc : c < 32) (hlate : d < s.tick) :
    exec (.lastWordWaitExpiry c) s =
      .next (State.replyTo acc St.noLastWord 0 [] (s.setChan c { s.chan c with finish := none })) := by
  rw [← lastWordExpiry_late hfinish hlate]
  exact dataIf_of_runs hruns (decide_eq_true hc) _

end waits

/-- Settles O11: one lemma per command past its checks; the two ends of a wait for the last word are the two of
`State.lastWordExpiry`. -/
theorem digestCommandsAct : Obligations.DigestCommandsAct := by
  unfold Obligations.DigestCommandsAct
  exact ⟨fun _ _ _ => exec_dgStart,
    fun _ _ _ _ ht hlive hprivileged _ hother => exec_dgUpdate_privileged hlive hother ht hprivileged,
    fun _ _ _ _ ht hlive hgeneral hother => exec_dgFinish_waits hlive hother ht hgeneral,
    fun _ _ _ _ _ ht hlive hgeneral hother => exec_dgSuspend_general hlive hother ht hgeneral,
    fun _ _ _ => exec_dgResume,
    fun _ _ _ _ ht hforce hother hlive => exec_dgAbandon_own hlive hother ht hforce,
    fun _ _ _ => exec_dgStatus, fun _ _ _ => exec_dgStatus_taken34, fun _ _ _ hruns => exec_dgLwDataWrite hruns,
    fun _ _ _ hruns => exec_dgLwCtrlWrite hruns, fun _ _ _ hwaits hruns => exec_dgQueueDeadlineExpiry hruns hwaits,
    fun _ _ _ _ hfinish hruns => exec_lastWordWaitExpiry hruns hfinish⟩

end Sys2Proof.Proofs
end

section
/-! The commands of the key slots and of the cipher engine (R199 to R206, R210, R211, R213). -/

namespace Sys2Proof.Proofs
open Sys2Proof.Machine Sys2Proof.Laws

section packets
variable {s : State} {op : PktOp} {p : Packet}

/-! ### KEY_LOAD (R200 to R202) -/

section load
variable (ht : s.takes op 0x0510 p) (hload : s.keyLoadRefusal p = none)
include ht hload

theorem exec_keyLoad_clear (hclear : p.f 1 1 = 0) :
    exec (.keyLoad op) s = .next ((s.placeKey (p.f 0 1) (p.f 3 1) (p.f 4 1) 1 1 (slice (p.buffer op) 0 (p.f 5 1))).replyOk p) := by
  change execKeyLoad op s = _
  rw [execKeyLoad, packetRun_takes ht]
  simp only [hload, hclear, if_true]

/-- A wrapped record whose header agrees with the packet is placed or refused by its tag. -/
theorem exec_keyLoad_wrapped {kek : KeySlot} {rec_ : List Byte} {len : Nat} (hwrapped : p.f 1 1 ≠ 0)
    (hkek : kek = s.keySlot (p.f 2 1)) (hrec : rec_ = p.buffer op) (hlen : len = p.f 5 1) (hversion : fieldAt rec_ 0 1 = 1)
    (hkind : fieldAt rec_ 1 1 = p.f 3 1) (hattr : fieldAt rec_ 2 1 = p.f 4 1) (hsize : fieldAt rec_ 3 1 = len)
    (hwraps : kek.kind = 3) :
    exec (.keyLoad op) s = .next (
      if fit 16 (gcmTag kek.key (slice rec_ 8 12) (slice rec_ 0 0x20) (slice rec_ 0x20 len)) = slice rec_ (0x20 + len) 16
      then (s.placeKey (p.f 0 1) (p.f 3 1) (p.f 4 1) 2 1 (fit len (gcmDec kek.key (slice rec_ 8 12) (slice rec_ 0x20 len)))).replyOk p
      else s.fail p St.keyUnwrap) := by
  subst hrec hlen hkek
  change execKeyLoad op s = _
  rw [execKeyLoad, packetRun_takes ht]
  simp only [hload, hwrapped, hversion, hkind, hattr, hsize, hwraps, ne_eq, not_true_eq_false, decide_false, Bool.or_self,
    Bool.false_eq_true, if_false, ite_not]

end load

/-! ### KEY_GENERATE and KEY_DERIVE (R204, R205, R212) -/

/-- A key that needs no cipher engine, or a part that has one, passes the check of the engine. -/
theorem cipher_not_absent {kind : Nat} (hcipher : s.noCipher = false ∨ 3 < kind) : (s.noCipher && decide (kind ≤ 3)) = false := by
  rcases hcipher with hpresent | hkind
  · simp [hpresent]
  · simp [hkind]

section make
variable (hcipher : s.noCipher = false ∨ 3 < p.f 1 1) (hunused : (s.keySlot (p.f 0 1)).nsRefs = 0)
include hcipher hunused

theorem exec_keyGenerate (ht : s.takes op 0x0511 p) (hentropy : s.keys.entropyFailed = false) :
    exec (.keyGenerate op) s =
      .next (((s.placeKey (p.f 0 1) (p.f 1 1) (p.f 2 1) 3 2 (s.random (p.f 3 1))).freed).replyOk p) := by
  change execKeyGenerate op s = _
  rw [execKeyGenerate, packetRun_takes ht]
  simp only [cipher_not_absent hcipher, hunused, hentropy, Nat.lt_irrefl, Bool.false_eq_true, if_false]

theorem exec_keyDerive_slot (ht : s.takes op 0x0512 p) (hslot : p.f 4 1 ≠ 0xFE) (hkdk : (s.keySlot (p.f 4 1)).kind = 6) :
    exec (.keyDerive op) s = .next ((s.placeKey (p.f 0 1) (p.f 1 1) (p.f 2 1) 4 3
      (fit (p.f 3 1) (kdf (s.keySlot (p.f 4 1)).key (p.bytes 8 (p.f 5 1)) [] (p.f 3 1)))).replyOk p) := by
  change execKeyDerive op s = _
  rw [execKeyDerive, packetRun_takes ht]
  simp only [cipher_not_absent hcipher, hunused, beq_eq_false_iff_ne.mpr hslot, hkdk, Nat.lt_irrefl, bne_self_eq_false,
    Bool.and_false, Bool.false_eq_true, if_false]

theorem exec_keyDerive_root (ht : s.takes op 0x0512 p) (hroot : p.f 4 1 = 0xFE) :
    exec (.keyDerive op) s = .next ((s.placeKey (p.f 0 1) (p.f 1 1) (p.f 2 1) 4 3
      (fit (p.f 3 1) (kdf Config.rootKey (p.bytes 8 (p.f 5 1)) Config.serial (p.f 3 1)))).replyOk p) := by
  change execKeyDerive op s = _
  rw [execKeyDerive, packetRun_takes ht]
  simp only [cipher_not_absent hcipher, hunused, hroot, beq_self_eq_true, Nat.lt_irrefl, Bool.not_true, Bool.false_and,
    Bool.false_eq_true, if_false, if_true]

end make

/-! ### KEY_EXPORT, KEY_DESTROY, KEY_QUERY and KEY_POLICY (R199 to R203, R206) -/

theorem exec_keyExport {v kek : KeySlot} {iv aad cipher : List Byte} (ht : s.takes op 0x0513 p) (hv : v = s.keySlot (p.f 0 1))
    (hkek : kek = s.keySlot (p.f 1 1)) (hpresent : s.noCipher = false) (hpolicy : bit s.keys.policy 1 = false)
    (hfilled : v.kind ≠ 0) (hexports : bit v.attributes 0 = true) (hwraps : kek.kind = 3) (hroom : 48 + v.key.length ≤ p.dataLen)
    (hiv : s.formIv (p.f 1 1) = some iv) (haad : aad = wrapHeader v.kind v.attributes v.key.length iv)
    (hciphertext : cipher = fit v.key.length (gcmEnc kek.key iv v.key)) :
    exec (.keyExport op) s =
      .next ((s.countIv (p.f 1 1)).reply p St.ok 0 (aad ++ cipher ++ fit 16 (gcmTag kek.key iv aad cipher))) := by
  subst hv hkek haad hciphertext
  change execKeyExport op s = _
  rw [execKeyExport, packetRun_takes ht]
  simp only [hpresent, hpolicy, hfilled, hexports, hwraps, Nat.not_lt.mpr hroom, hiv, decide_false, Bool.not_true,
    bne_self_eq_false, Bool.or_self, Bool.false_eq_true, if_false]

theorem exec_keyDestroy (ht : s.takes op 0x0514 p) (hunused : (s.keySlot (p.f 0 1)).nsRefs = 0) :
    exec (.keyDestroy op) s = .next ((s.emptyKey (p.f 0 1)).replyOk p) := by
  change execKeyDestroy op s = _
  rw [execKeyDestroy, packetRun_takes ht]
  simp only [hunused, Nat.lt_irrefl, if_false]

theorem exec_keyQuery {v : KeySlot} (ht : s.takes op 0x0515 p) (hv : v = s.keySlot (p.f 0 1)) :
    exec (.keyQuery op) s = .next (s.reply p St.ok 0 (le 1 v.kind ++ le 1 v.attributes ++ le 1 v.origin ++ le 1 v.key.length ++
      le 4 v.nsRefs ++ le 4 v.gen ++ le 2 v.loadCount ++ zeros 2 ++ checkValue v.key ++ le 8 v.changed)) := by
  subst hv
  change execKeyQuery op s = _
  rw [execKeyQuery, packetRun_takes ht]

theorem exec_keyPolicy (ht : s.takes op 0x0516 p) :
    exec (.keyPolicy op) s = .next (({ s with keys.policy := s.keys.policy ||| p.f 0 1 } : State).replyOk p) := by
  change execKeyPolicy op s = _
  rw [execKeyPolicy, packetRun_takes ht]

/-! ### GCM_JOB (R210, R211) -/

section gcm
variable {v : KeySlot} {iv text aad cipher : List Byte} (ht : s.takes op 0x0520 p) (hv : v = s.keySlot (p.f 0 1))
  (hpresent : s.noCipher = false) (hkind : v.kind = 2) (haad : aad = slice (p.buffer op) 0 (p.f 4 4))
  (htext : text = slice (p.buffer op) (p.f 4 4) (p.f 8 4))
include ht hv hpresent hkind haad htext

section encrypt
variable (henc : p.f 1 1 = 0) (hroom : align8 (p.f 4 4 + p.f 8 4) + p.f 8 4 + 28 ≤ p.dataLen)
  (hciphertext : cipher = fit (p.f 8 4) (gcmEnc v.key iv text))
include henc hroom hciphertext

/-- An encryption answers ciphertext, tag and IV; only an IV that the chip formed is counted. -/
theorem exec_gcmJob_encrypt (hiv : (if p.f 2 1 = 1 then some (p.bytes 16 12) else s.formIv (p.f 0 1)) = some iv) :
    exec (.gcmJob op) s = .next ((if p.f 2 1 = 1 then s else s.countIv (p.f 0 1)).replyAt p St.ok (p.f 8 4 + 28)
      (align8 (p.f 4 4 + p.f 8 4)) (cipher ++ fit 16 (gcmTag v.key iv aad cipher) ++ iv)) := by
  subst hv haad htext hciphertext
  have hspace : ¬ p.dataLen < align8 (p.f 4 4 + p.f 8 4) + (p.f 8 4 + 28) := by omega
  change execGcmJob op s = _
  rw [execGcmJob, packetRun_takes ht]
  simp only [henc, hpresent, hkind, hspace, hiv, beq_self_eq_true, Nat.add_zero, ne_eq, not_true_eq_false,
    Bool.false_eq_true, if_false, if_true]

theorem exec_gcmJob_encrypt_formed (hform : p.f 2 1 ≠ 1) (hiv : s.formIv (p.f 0 1) = some iv) :
    exec (.gcmJob op) s = .next ((s.countIv (p.f 0 1)).replyAt p St.ok (p.f 8 4 + 28) (align8 (p.f 4 4 + p.f 8 4))
      (cipher ++ fit 16 (gcmTag v.key iv aad cipher) ++ iv)) := by
  have hrun := exec_gcmJob_encrypt ht hv hpresent hkind haad htext henc hroom hciphertext (by rwa [if_neg hform])
  rwa [if_neg hform] at hrun

theorem exec_gcmJob_encrypt_given (hgiven : p.f 2 1 = 1) (hiv : iv = p.bytes 16 12) :
    exec (.gcmJob op) s = .next (s.replyAt p St.ok (p.f 8 4 + 28) (align8 (p.f 4 4 + p.f 8 4))
      (cipher ++ fit 16 (gcmTag v.key iv aad cipher) ++ iv)) := by
  have hrun := exec_gcmJob_encrypt ht hv hpresent hkind haad htext henc hroom hciphertext (by rw [if_pos hgiven, hiv])
  rwa [if_pos hgiven] at hrun

end encrypt

theorem exec_gcmJob_decrypt (hdec : p.f 1 1 ≠ 0) (hroom : align8 (p.f 4 4 + p.f 8 4) + 16 + p.f 8 4 ≤ p.dataLen) :
    exec (.gcmJob op) s = .next (
      if fit 16 (gcmTag v.key (p.bytes 16 12) aad text) = slice (p.buffer op) (p.f 4 4 + p.f 8 4) 16
      then s.replyAt p St.ok (p.f 8 4) (align8 (p.f 4 4 + p.f 8 4) + 16) (fit (p.f 8 4) (gcmDec v.key (p.bytes 16 12) text))
      else s.fail p St.gcmTag) := by
  subst hv haad htext
  change execGcmJob op s = _
  rw [execGcmJob, packetRun_takes ht]
  simp only [beq_eq_false_iff_ne.mpr hdec, hpresent, hkind, Nat.not_lt.mpr hroom, Nat.add_zero, ne_eq, not_true_eq_false,
    Bool.false_eq_true, if_false, ite_not]

end gcm

end packets

/-! ### The entropy tests (R204) -/

theorem exec_entropyTestFail {s : State} {test : Nat} (hruns : s.runs = true) (htest : test = 1 ∨ test = 2) :
    exec (.entropyTestFail test) s =
      .next (({ s with keys.entropyFailed := true } : State).raiseFrom 17 Ev.entropyFault (le 1 test)) :=
  dataIf_of_runs hruns (by simpa using htest) _

/-- Settles O23: one lemma per packet and outcome past its checks; the encryptions with a formed and with a given IV are
one lemma. -/
theorem keyCommandsAct : Obligations.KeyCommandsAct := by
  unfold Obligations.KeyCommandsAct
  exact ⟨fun _ _ _ => exec_keyLoad_clear, fun _ _ _ _ _ _ ht hload => exec_keyLoad_wrapped ht hload,
    fun _ _ _ ht hcipher _ hunused => exec_keyGenerate hcipher hunused ht,
    fun _ _ _ ht hcipher _ hunused => exec_keyDerive_slot hcipher hunused ht,
    fun _ _ _ ht hcipher _ hunused => exec_keyDerive_root hcipher hunused ht,
    fun _ _ _ _ _ _ _ _ => exec_keyExport, fun _ _ _ => exec_keyDestroy, fun _ _ _ _ => exec_keyQuery,
    fun _ _ _ => exec_keyPolicy,
    fun _ _ _ _ _ _ _ _ ht hv hpresent henc hkind hroom hform hiv haad htext hciphertext =>
      exec_gcmJob_encrypt_formed ht hv hpresent hkind haad htext henc hroom hciphertext hform hiv,
    fun _ _ _ _ _ _ _ _ ht hv hpresent henc hkind hroom hgiven hiv haad htext hciphertext =>
      exec_gcmJob_encrypt_given ht hv hpresent hkind haad htext henc hroom hciphertext hgiven hiv,
    fun _ _ _ _ _ _ ht hv hpresent hdec hkind hroom _ haad htext =>
      exec_gcmJob_decrypt ht hv hpresent hkind haad htext hdec hroom,
    fun _ _ => exec_entropyTestFail, fun _ => rfl⟩

end Sys2Proof.Proofs
end

section
/-! The commands of the map engine: pages read in, records applied, cold merges, write-back, eviction, spoil entries,
pins, sweeps, releases, checks and re-checks (R224, R228, R234 to R247). -/

namespace Sys2Proof.Proofs
open Sys2Proof.Machine Sys2Proof.Laws

section engine
variable {s : State}

/-! ### Pages that are not resident -/

/-- A tree whose pages are all resident, or that has no root, has nothing to be read in. -/
theorem absentBelow_eq_nil {root : Nat} (hpresent : root ≠ 0 → s.absentPages 7 root = []) :
    (if root = 0 then [] else s.absentPages 7 root) = [] := by
  by_cases hroot : root = 0
  · exact if_pos hroot
  · rw [if_neg hroot, hpresent hroot]

theorem absentOf_eq_nil {ps : List (Nat × Page)} (hpresent : ∀ p ∈ ps, p.2.body.isSome = true) :
    ((ps.filter fun p => p.2.body.isNone).map Prod.fst) = [] := by
  rw [List.filter_eq_nil_iff.mpr fun p hp => by simp [Option.isSome_iff_ne_none.mp (hpresent p hp)], List.map_nil]

/-! ### Pages that arrive and records that are applied (R224, R236, R245) -/

theorem exec_mapPageReadComplete {page j : Nat} {x : ReadJob} {g : Page} (hruns : s.runs = true)
    (hjob : s.pageJob page = some (j, x)) (hpage : s.page? page = some g) (hdone : x.done = true) :
    exec (.mapPageReadComplete page) s = .next (s.pageArrives page j x g).resumeReads := by
  change execMapPageReadComplete page s = _
  simp only [execMapPageReadComplete, hjob, hpage]
  exact dataIf_of_runs hruns hdone _

theorem exec_mapApplyRecord_resident {w : Nat} {r : Staged} (hruns : s.runs = true) (hrecord : s.record? w = some r)
    (hmay : s.mayApply r = true) (hpages : r.deltas.flatMap (s.deltaNeeds r) = []) (hindex : s.indexNeeds r = []) :
    exec (.mapApplyRecord w) s = .next (s.applyRecord r) := by
  change execMapApplyRecord w s = _
  simp only [execMapApplyRecord, hrecord, hpages, hindex, List.isEmpty_nil, Bool.and_self, if_true]
  exact dataIf_of_runs hruns hmay _

/-! ### Cold merges (R228) -/

section cold
variable {nsid a key : Nat} {n : Namespace} {l : Layer} {m : ColdMerge} (hruns : s.runs = true) (hns : s.ns? nsid = some n)
  (hlayer : s.layer? n.domain n.layer = some l) (hage : 0 < s.map.mergeAge) (howns : s.owns n.domain = true)
  (hfooting : s.footing.active = false) (hdrain : s.power.drain = .none)
include hruns hns hlayer hage howns hfooting hdrain

theorem exec_coldMergeSweep_started (hcold : s.coldOf nsid a = some (key, m)) :
    exec (.coldMergeSweep nsid a) s = .next (s.coldFinish nsid a key m n) := by
  change execColdMergeSweep nsid a s = _
  simp only [execColdMergeSweep, hns, hlayer, hcold]
  exact dataIf_of_runs hruns (by simp [hage, howns, hfooting, hdrain]) _

theorem exec_coldMergeSweep_absent (hcold : s.coldOf nsid a = none) (hneeds : s.leafNeeds l a ≠ []) :
    exec (.coldMergeSweep nsid a) s = .next (s.fetchPages (s.leafNeeds l a) (s.rankOf 14)) := by
  change execColdMergeSweep nsid a s = _
  simp only [execColdMergeSweep, hns, hlayer, hcold, List.isEmpty_eq_false_iff.mpr hneeds, Bool.not_false, if_true]
  exact dataIf_of_runs hruns (by simp [hage, howns, hfooting, hdrain]) _

end cold

/-! ### Write-back, eviction, the spoil buffer and pinning (R237, R239, R240, R243) -/

theorem exec_writebackAgeExpiry {page t : Nat} {g : Page} (hruns : s.runs = true) (hpage : s.page? page = some g)
    (hdirty : g.dirty = some t) (hlate : t + ticksOf (s.map.writebackAge * 1000000000) < s.tick)
    (hfooting : s.footing.active = false) (howns : s.owns (mpnDomain page) = true) (hdrain : s.power.drain = .none) :
    exec (.writebackAgeExpiry page) s = .next (s.writeBack page) := by
  change execWritebackAgeExpiry page s = _
  simp only [execWritebackAgeExpiry, hpage, Option.bind_some, hdirty]
  exact dataIf_of_runs hruns (by simp [State.expired, hlate, hfooting, howns, hdrain]) _

/-- The second chance of a lone candidate under the hand is its own: it is picked even when it has been used. -/
theorem clockPick_singleton (p : Nat) (g : Page) : clockPick p [(p, g)] = some p := by
  cases hused : g.used <;> simp [clockPick, hused]

theorem exec_mapPageEvict_only {p : Nat} {g : Page} (hruns : s.runs = true) (hfull : s.mapFull = true)
    (hcandidates : s.map.pages.filter (fun p => (p.2.kind == 1 || p.2.kind == 2) && p.2.pins == 0 && p.2.body.isSome) = [(p, g)])
    (hpage : s.page? p = some g) (hclean : g.dirty = none) (hidle : g.writing = false) (hstored : g.pxa ≠ 0)
    (hhand : s.map.hand = p) :
    exec .mapPageEvict s = .next (((({ s with map.hand := p } : State).cacheDrop p).cleanPage p).updPage p fun x =>
      { x with body := none }) := by
  change execMapPageEvict s = _
  simp only [execMapPageEvict, hcandidates, hhand, clockPick_singleton]
  refine (dataIf_of_runs hruns hfull _).trans ?_
  simp [hpage, hclean, hidle, hstored]

theorem exec_spoilDrainAck {seq : Nat} {e : Spoil} (hruns : s.runs = true)
    (hentry : s.map.spoil.find? (fun e => e.seq == seq) = some e)
    (hfirst : s.map.spoil.any (fun x => x.mpn == e.mpn && x.sector == e.sector && decide (x.seq < seq)) = false) :
    exec (.spoilDrainAck seq) s = .next { s with map.spoil := s.map.spoil.filter fun x => x.seq != seq } := by
  change execSpoilDrainAck seq s = _
  simp only [execSpoilDrainAck, hentry, hfirst]
  exact dataIf_of_runs hruns rfl _

theorem exec_mapPinComplete_resident {nsid : Nat} {n : Namespace} {l : Layer} (hruns : s.runs = true)
    (hns : s.ns? nsid = some n) (hlayer : s.layer? n.domain n.layer = some l) (hpinning : s.map.pinning.contains nsid = true)
    (hpresent : l.root ≠ 0 → s.absentPages 7 l.root = []) :
    exec (.mapPinComplete nsid) s = .next (State.mapLevels (State.raise Ev.mapPinned (le 4 nsid ++ le 8 (s.layerPages l).length)
      { ({ s with map.pinning := s.map.pinning.filter (· != nsid) } : State).countPins n.domain with
        map.pinned := nsid :: (({ s with map.pinning := s.map.pinning.filter (· != nsid) } : State).countPins n.domain).map.pinned.filter (· != nsid) })) := by
  change execMapPinComplete nsid s = _
  simp only [execMapPinComplete, hns, hlayer, absentBelow_eq_nil hpresent, List.isEmpty_nil, if_true]
  exact dataIf_of_runs hruns hpinning _

/-! ### Lost sweeps and releases (R234, R235) -/

theorem sum_length_eq_zero {α β : Type} {l : List α} {f : α → List β} (hnil : ∀ x ∈ l, f x = []) :
    ((l.map f).map List.length).sum = 0 := by
  rw [← List.length_flatten, List.length_eq_zero_iff, List.flatten_eq_nil_iff]
  simpa using hnil

theorem exec_lostSweep_ends {n m : Nat} (hruns : s.runs = true) (howns : s.owns (stripeDomainOf n) = true)
    (hdrain : s.power.drain = .none) (hsweep : s.map.sweeps.find? (fun x => x.1 == n) = some (n, m))
    (hpages : ∀ p ∈ s.entryPages (stripeDomainOf n), p.2.body.isSome = true ∧ s.entriesNaming n p.1 (p.2.body.getD []) = [])
    (hstaged : s.staged.any (fun r => !r.applied && !r.dropped && r.marks == some n) = false) :
    exec (.lostSweep n) s = .next (State.raise Ev.mapLostSwept (le 1 (stripeDomainOf n) ++ le 5 n ++ le 8 m) { s.indexPurge n with
      map.sweeps := (s.indexPurge n).map.sweeps.filter fun x => x.1 != n,
      stripe.lost := (s.indexPurge n).stripe.lost.upd n fun e => { e with swept := true } }) := by
  have hpresent := absentOf_eq_nil fun p hp => (hpages p hp).1
  have hnone := sum_length_eq_zero fun p hp => (hpages p hp).2
  change execLostSweep n s = _
  simp only [execLostSweep, hsweep, hpresent, hnone, hstaged, List.isEmpty_nil, Bool.not_true, Nat.lt_irrefl,
    Bool.false_eq_true, if_false]
  exact dataIf_of_runs hruns (by simp [howns, hdrain]) _

section release
variable {d id : Nat} {l : Layer} (hruns : s.runs = true) (hlayer : s.layer? d id = some l) (hkind : l.kind = 3)
  (howns : s.owns d = true) (hdrain : s.power.drain = .none) (hkey : l.dropKey = false)
include hruns hlayer hkind howns hdrain hkey

theorem exec_layerReleaseEnd_empty (hroot : l.root = 0) :
    exec (.layerReleaseEnd d id) s = .next (({ s with map.layers := s.map.layers.del (layerKey d id) } : State).raise Ev.snapDeleted
      (le 1 d ++ le 4 id ++ le 8 0)) := by
  change execLayerReleaseEnd d id s = _
  simp only [execLayerReleaseEnd, hlayer, hroot, hkey, Nat.sub_self, List.isEmpty_nil, Bool.not_true, Bool.false_eq_true,
    if_true, if_false]
  exact dataIf_of_runs hruns (by simp [hkind, howns, hdrain]) _

theorem exec_layerReleaseEnd_tree (hroot : l.root ≠ 0) (hpresent : s.absentPages 7 l.root = []) :
    exec (.layerReleaseEnd d id) s = .next (State.raise Ev.snapDeleted
      (le 1 d ++ le 4 id ++ le 8 (s.map.pages.length - (s.releasePage 7 l.root).map.pages.length))
      { s.releasePage 7 l.root with map.layers := (s.releasePage 7 l.root).map.layers.del (layerKey d id) }) := by
  change execLayerReleaseEnd d id s = _
  simp only [execLayerReleaseEnd, hlayer, hroot, hpresent, hkey, List.isEmpty_nil, Bool.not_true, Bool.false_eq_true, if_false]
  exact dataIf_of_runs hruns (by simp [hkind, howns, hdrain]) _

end release

/-! ### Map checks and re-checks (R246, R247) -/

theorem exec_mapCheckEnd_resident {d : Nat} {repair : Bool} (hruns : s.runs = true) (howns : s.owns d = true)
    (hchecking : (s.mdom d).checking = some repair) (hpresent : ∀ p ∈ s.entryPages d, p.2.body.isSome = true) :
    exec (.mapCheckEnd d) s = .next (s.endCheck d repair) := by
  change execMapCheckEnd d s = _
  simp only [execMapCheckEnd, hchecking, absentOf_eq_nil hpresent, List.isEmpty_nil, if_true]
  exact dataIf_of_runs hruns howns _

section recheck
variable {nsid a : Nat} {n : Namespace} {l : Layer} (hruns : s.runs = true) (hqueued : s.map.rechecks.contains (nsid, a) = true)
include hruns hqueued

theorem exec_ashlarRecheckRun_no_namespace (hns : s.ns? nsid = none) :
    exec (.ashlarRecheckRun nsid a) s = .next { s with
      map.rechecks := s.map.rechecks.filter (· != (nsid, a)),
      flash.jobs := s.flash.jobs.keep fun _ j => (recheckUse nsid a j.use).isNone } := by
  change execAshlarRecheckRun nsid a s = _
  simp only [execAshlarRecheckRun, hns]
  exact dataIf_of_runs hruns hqueued _

section layered
variable (hns : s.ns? nsid = some n) (hlayer : s.layer? n.domain n.layer = some l) (howns : s.owns n.domain = true)
include hns hlayer howns

theorem exec_ashlarRecheckRun_absent (hneeds : s.leafNeeds l a ≠ []) :
    exec (.ashlarRecheckRun nsid a) s = .next (s.fetchPages (s.leafNeeds l a) (s.rankOf 17)) := by
  change execAshlarRecheckRun nsid a s = _
  simp only [execAshlarRecheckRun, hns, Option.bind_some, hlayer, List.isEmpty_eq_false_iff.mpr hneeds, Bool.not_false, if_true]
  exact dataIf_of_runs hruns (by simp only [hqueued, howns, Bool.and_self]) _

/-- A re-check with no entry to read and no read under way finds nothing bad. -/
theorem exec_ashlarRecheckRun_no_entries (hneeds : s.leafNeeds l a = []) (hentries : s.ashlarEntries l a = [])
    (hjobs : s.flash.jobs.any (fun j => (recheckUse nsid a j.2.use).isSome && !j.2.done) = false) :
    exec (.ashlarRecheckRun nsid a) s = .next (State.mapFault 4 nsid a 0 { s with
      map.rechecks := s.map.rechecks.filter (· != (nsid, a)),
      flash.jobs := s.flash.jobs.keep fun _ j => (recheckUse nsid a j.use).isNone }) := by
  change execAshlarRecheckRun nsid a s = _
  simp only [execAshlarRecheckRun, hns, Option.bind_some, hlayer, hneeds, hentries, hjobs, List.filter_nil, List.foldl_nil,
    List.isEmpty_nil, Bool.not_true, Bool.false_eq_true, if_true, if_false]
  exact dataIf_of_runs hruns (by simp only [hqueued, howns, Bool.and_self]) _

end layered

end recheck

end engine

/-- Settles O24: one lemma per command and outcome past its condition; the releases of a layer without a tree and of one
with resident pages apart, and the three outcomes of a re-check. -/
theorem mapEngineCommandsAct : Obligations.MapEngineCommandsAct := by
  unfold Obligations.MapEngineCommandsAct
  exact ⟨fun _ _ _ _ _ => exec_mapPageReadComplete, fun _ _ _ => exec_mapApplyRecord_resident,
    fun _ _ _ _ _ _ _ => exec_coldMergeSweep_started, fun _ _ _ _ _ => exec_coldMergeSweep_absent,
    fun _ _ _ _ => exec_writebackAgeExpiry, fun _ _ _ => exec_mapPageEvict_only, fun _ _ _ => exec_spoilDrainAck,
    fun _ _ _ _ => exec_mapPinComplete_resident, fun _ _ _ => exec_lostSweep_ends,
    fun _ _ _ _ hruns hlayer hkind howns hdrain hroot hkey =>
      exec_layerReleaseEnd_empty hruns hlayer hkind howns hdrain hkey hroot,
    fun _ _ _ _ hruns hlayer hkind howns hdrain hroot hpresent hkey =>
      exec_layerReleaseEnd_tree hruns hlayer hkind howns hdrain hkey hroot hpresent,
    fun _ _ _ => exec_mapCheckEnd_resident, fun _ _ _ => exec_ashlarRecheckRun_no_namespace,
    fun _ _ _ _ _ => exec_ashlarRecheckRun_absent, fun _ _ _ _ _ => exec_ashlarRecheckRun_no_entries⟩

end Sys2Proof.Proofs
end

section
/-! The packets of the map: settings, layers, queries, checks and counters (R216, R226, R230 to R234, R246 to R248). -/

namespace Sys2Proof.Proofs
open Sys2Proof.Machine Sys2Proof.Laws

section packets
variable {s : State} {op : PktOp} {p : Packet}

/-! ### MAP_CONFIG (R248) -/

theorem exec_mapConfig (ht : s.takes op 0x0600 p) :
    exec (.mapConfig op) s = .next (({ s with map.mergeAge := p.f 0 4, map.writebackAge := p.f 4 2 } : State).replyOk p) := by
  change execMapConfig op s = _
  rw [execMapConfig, packetRun_takes ht]

/-! ### Layers made, attached, rolled back and deleted (R216, R226, R230 to R232, R234) -/

theorem stageLayer_eq {nsid op target : Nat} {n : Namespace} {u t : State}
    (hu : u = s.updMdom n.domain (fun m => { m with nextLayer := m.nextLayer + 1 }))
    (ht : t = (u.await p).closeStream n.domain 0 (u.classRank n.cls 2)) :
    s.stageLayer p nsid op target n = t.stageMap n.domain nsid (t.rankOf 13)
      [{ ashlar := (s.mdom n.domain).nextLayer, op := op, target := target }] (some p.acc) := by
  subst hu ht
  rfl

/-- A packet on a namespace of an owned domain runs on it. -/
theorem onNs_of_owns {n : Namespace} (hns : s.ns? (p.f 0 4) = some n) (howns : s.owns n.domain = true)
    (f : Nat → Namespace → State → State) : s.onNs p f = f (p.f 0 4) n s := by
  simp only [State.onNs, hns, ownerOnly_of_owns howns]

section onNamespace
variable {n : Namespace} (hns : s.ns? (p.f 0 4) = some n) (howns : s.owns n.domain = true)
include hns howns

theorem exec_snapCreate (ht : s.takes op 0x0601 p) (hroom : s.layersToCome < layerLimit) :
    exec (.snapCreate op) s = .next (s.stageLayer p (p.f 0 4) 9 n.layer n) := by
  change execSnapCreate op s = _
  rw [execSnapCreate, packetRun_takes ht, onNs_of_owns hns howns, if_neg (Nat.not_le.mpr hroom)]

theorem exec_cloneAttach {y l : Layer} (ht : s.takes op 0x0603 p) (hsource : s.layer? n.domain (p.f 4 4) = some y)
    (hhead : s.layer? n.domain n.layer = some l) (hkind : y.kind = 2) (hlbaf : y.lbaf = n.lbaf) (hkey : y.keySlot = n.keySlot)
    (hsize : y.nsze ≤ n.nsze) (hpresent : l.root ≠ 0 → s.absentPages 7 l.root = []) (hempty : s.layerEmpty (p.f 0 4) l = true)
    (hroom : s.layersToCome < layerLimit) :
    exec (.cloneAttach op) s = .next (s.stageLayer p (p.f 0 4) 10 (p.f 4 4) n) := by
  change execCloneAttach op s = _
  rw [execCloneAttach, packetRun_takes ht, onNs_of_owns hns howns]
  simp only [hsource, hhead, Option.getD_some, hkind, hlbaf, hkey, Nat.not_lt.mpr hsize, absentBelow_eq_nil hpresent, hempty,
    Nat.not_le.mpr hroom, List.isEmpty_nil, ne_eq, not_true_eq_false, decide_false, Bool.or_self, Bool.not_true,
    Bool.false_eq_true, if_false]

theorem exec_snapRollback {y : Layer} (ht : s.takes op 0x0604 p) (hsnap : s.layer? n.domain (p.f 4 4) = some y)
    (hkind : y.kind = 2) (hnsid : y.nsid = p.f 0 4) :
    exec (.snapRollback op) s = .next (s.stageLayer p (p.f 0 4) 15 (p.f 4 4) n) := by
  change execSnapRollback op s = _
  rw [execSnapRollback, packetRun_takes ht, onNs_of_owns hns howns]
  simp only [hsnap, hkind, hnsid, ne_eq, not_true_eq_false, decide_false, Bool.or_self, Bool.false_eq_true, if_false]

/-! ### ASHLAR_RECHECK (R246) -/

theorem exec_ashlarRecheck (ht : s.takes op 0x060B p) (hashlar : p.f 8 8 < ashlarCount n.nsze n.lbaf) :
    exec (.ashlarRecheck op) s = .next ((s.queueRecheck (p.f 0 4) (p.f 8 8)).replyOk p) := by
  change execAshlarRecheck op s = _
  rw [execAshlarRecheck, packetRun_takes ht, onNs_of_owns hns howns, if_neg (Nat.not_le.mpr hashlar)]

end onNamespace

theorem exec_snapDelete {l : Layer} (ht : s.takes op 0x0602 p) (howns : s.owns (p.f 0 1) = true)
    (hlayer : s.layer? (p.f 0 1) (p.f 4 4) = some l) (hnothead : l.kind ≠ 1) (hlive : l.kind ≠ 3)
    (hfree : bit l.flags 1 = false) (hunstaged : s.deleteStaged (p.f 0 1) (p.f 4 4) = false) :
    exec (.snapDelete op) s = .next (State.stageMap (p.f 0 1) 0 (s.rankOf 13) [{ ashlar := 0, op := 11, target := p.f 4 4 }]
      (some p.acc) (s.await p)) := by
  change execSnapDelete op s = _
  rw [execSnapDelete, packetRun_takes ht]
  simp only [ownerOnly_of_owns howns, hlayer, hnothead, hlive, hfree, hunstaged, decide_false, Bool.or_self,
    Bool.false_eq_true, if_false]

/-! ### Queries (R248) -/

theorem exec_layerQuery_resident {l : Layer} (ht : s.takes op 0x0605 p) (hlayer : s.layer? (p.f 0 1) (p.f 4 4) = some l)
    (hpresent : l.root ≠ 0 → s.absentPages 7 l.root = []) :
    exec (.layerQuery op) s =
      .next (s.reply p St.ok 0 (l.record (p.f 4 4) ++ le 8 (s.layerUsed l) ++ le 8 (s.layerPages l).length)) := by
  change execLayerQuery op s = _
  rw [execLayerQuery, packetRun_takes ht]
  simp only [hlayer, absentBelow_eq_nil hpresent, List.isEmpty_nil, Bool.not_true, Bool.false_eq_true, if_false]

theorem exec_layerList {ls : List (Nat × Layer)} (ht : s.takes op 0x0606 p)
    (hls : ls = (s.map.layers.filter fun l => l.1 / 2 ^ 32 == p.f 0 1 && decide (p.f 4 4 ≤ l.1 % 2 ^ 32)).take (p.dataLen / 64)) :
    exec (.layerList op) s = .next (s.reply p St.ok ls.length (ls.flatMap fun l => l.2.record (l.1 % 2 ^ 32))) := by
  subst hls
  change execLayerList op s = _
  rw [execLayerList, packetRun_takes ht]

theorem exec_mapLookup_resident {t : State} {l : Layer} {leaf : Nat} {e : List Byte} (ht : s.takes op 0x0607 p)
    (hlayer : s.layer? (p.f 0 1) (p.f 4 4) = some l)
    (htouched : t = s.touchPath (p.f 0 1) (p.f 4 4) (p.f 8 8) 0 (s.rankOf 13)) (hneeds : t.leafNeeds l (p.f 8 8) = [])
    (hleaf : leaf = t.leafOf l (p.f 8 8))
    (he : e = (if leaf = 0 then zeros 16 else rawEntry ((t.pageBody leaf).getD []) (p.f 8 8 % 256))) :
    exec (.mapLookup op) s = .next (t.reply p St.ok 0
      (fit 40 ((if 256 ^ l.levels ≤ p.f 8 8 then [] else t.pathPages (p.f 8 8) (l.levels - 1) l.root).flatMap (le 8)) ++ e ++
        (if fieldAt e 9 1 % 8 = 3 then slice ((t.pageBody (splitPage e)).getD []) (256 * splitSlot e) 256 else zeros 256))) := by
  subst he hleaf htouched
  change execMapLookup op s = _
  rw [execMapLookup, packetRun_takes ht]
  simp only [hlayer, hneeds, List.isEmpty_nil, Bool.not_true, Bool.false_eq_true, if_false]

/-! ### Checks, status and counters (R247, R248) -/

theorem exec_mapCheck (ht : s.takes op 0x0608 p) (howns : s.owns (p.f 0 1) = true)
    (hidle : (s.mdom (p.f 0 1)).checking = none) :
    exec (.mapCheck op) s = .next (((s.updMdom (p.f 0 1) fun x => { x with checking := some (bit (p.f 1 1) 0) }).startJob 0x27
      (s.rankOf 17) s.map.pages.length).replyOk p) := by
  change execMapCheck op s = _
  rw [execMapCheck, packetRun_takes ht]
  simp only [ownerOnly_of_owns howns, hidle, Option.isSome_none, Bool.false_eq_true, if_false]

theorem exec_mapStatus {count : (Page → Bool) → Nat} {ways : (CacheWay → Bool) → Nat} (ht : s.takes op 0x0609 p)
    (hcount : count = fun f => (s.map.pages.filter fun x => f x.2).length)
    (hways : ways = fun f => (s.map.sets.map fun x => (x.2.filter f).length).sum) :
    exec (.mapStatus op) s = .next (s.reply p St.ok 0 (le 8 s.map.area ++ le 8 s.pageCapacity ++ le 8 s.map.pages.length ++
      le 8 s.map.reservedEntries ++ le 8 (count fun x => x.body.isSome) ++ le 8 (count fun x => x.dirty.isSome) ++
      le 8 (count fun x => decide (0 < x.pins)) ++ le 8 (count fun x => decide (3 ≤ x.kind) && decide (x.kind ≤ 6)) ++ le 8 s.layerLoad ++
      le 8 (ways fun w => w.valid != 0) ++ le 8 (ways fun w => w.disabled) ++ le 8 s.map.spoil.length)) := by
  subst hcount hways
  change execMapStatus op s = _
  rw [execMapStatus, packetRun_takes ht]

theorem exec_mapCounters (ht : s.takes op 0x060A p) :
    exec (.mapCounters op) s = .next ((if p.f 0 1 = 1 then { s with map.counters := List.replicate 12 0 } else s).reply p St.ok 0
      (fit 96 (s.map.counters.flatMap (le 8)))) := by
  change execMapCounters op s = _
  rw [execMapCounters, packetRun_takes ht]

end packets

/-- Settles O25: one lemma per packet past its checks, and what staging a layer record is. -/
theorem mapPacketsAct : Obligations.MapPacketsAct := by
  unfold Obligations.MapPacketsAct
  exact ⟨fun _ _ _ ht _ => exec_mapConfig ht, fun _ _ _ _ ht hns howns => exec_snapCreate hns howns ht,
    fun _ _ _ _ _ _ _ _ => stageLayer_eq, fun _ _ _ _ => exec_snapDelete,
    fun _ _ _ _ _ _ ht hns howns => exec_cloneAttach hns howns ht,
    fun _ _ _ _ _ ht hns howns => exec_snapRollback hns howns ht, fun _ _ _ _ => exec_layerQuery_resident,
    fun _ _ _ _ => exec_layerList, fun _ _ _ _ _ _ _ => exec_mapLookup_resident, fun _ _ _ => exec_mapCheck,
    fun _ _ _ _ _ => exec_mapStatus, fun _ _ _ => exec_mapCounters,
    fun _ _ _ _ ht hns howns => exec_ashlarRecheck hns howns ht⟩

end Sys2Proof.Proofs
end

section
/-! The commands of the stripe engine: segments and pools, stripes, the journal and its replay, garbage collection and rebuild
(R255 to R264, R272 to R281, R465). -/

namespace Sys2Proof.Proofs
open Sys2Proof.Machine Sys2Proof.Laws

/-! ### The tables of the stripe engine -/

@[simp] theorem tab_getD_set_self {α : Type} (t : Tab α) (k : Nat) (v e : α) : (t.set k v).getD k e = v := by
  simp only [Tab.getD, Tab.get?_set_self, Option.getD_some]

theorem tab_getD_of_get? {α : Type} {t : Tab α} {k : Nat} {v : α} (hget : t.get? k = some v) (e : α) : t.getD k e = v := by
  simp only [Tab.getD, hget, Option.getD_some]

theorem tab_has_of_get? {α : Type} {t : Tab α} {k : Nat} {v : α} (hget : t.get? k = some v) : t.has k = true := by
  simp only [Tab.has, hget, Option.isSome_some]

section engine
variable {s : State} {d g : Nat}

@[simp] theorem sdom_updSdom (f : StripeDomain → StripeDomain) : (s.updSdom d f).sdom d = f (s.sdom d) :=
  tab_getD_set_self ..

@[simp] theorem journal_updJournal (f : Journal → Journal) : (s.updJournal d f).journal d = f (s.journal d) :=
  tab_getD_set_self ..

@[simp] theorem journal_now (n : Nat) : ({ s with now := n } : State).journal d = s.journal d := rfl

@[simp] theorem journal_flash (f : Flash) : ({ s with flash := f } : State).journal d = s.journal d := rfl

@[simp] theorem domain_updDomain (f : Domain → Domain) : (s.updDomain d f).domain d = f (s.domain d) :=
  tab_getD_set_self ..

theorem stripeOf_of_get? {n : Nat} {t : Stripe} (ht : s.stripe.stripes.get? n = some t) : s.stripeOf n = t :=
  tab_getD_of_get? ht _

theorem segment_of_get? {x : Segment} (hx : s.stripe.segments.get? g = some x) : s.segment g = x :=
  tab_getD_of_get? hx _

theorem expired_of_lt {t : Nat} (hlate : t < s.tick) : s.expired t = true := decide_eq_true hlate

/-! ### Segments and pools (R256, R259, R465) -/

theorem exec_segmentOpen_cells {t r : Nat} {y : Layout} {cells : List Nat} (hruns : s.runs = true) (hwrites : s.writesFor d = true)
    (hstream : t < 3) (hneeds : s.needsSegment d t = true) (hfooting : s.footingRuns = true)
    (hlayout : s.layout? (s.sdom d).layoutId = some y) (hpool : t = 0 → (s.sdom d).gcReserve * y.width < s.poolSize d)
    (hrow : s.findRow d y y.rows (if (s.sdom d).cursor < y.rows then (s.sdom d).cursor else 0) = some (r, .cells cells)) :
    exec (.segmentOpen d t) s = .next (s.recordSegment d t r y cells) := by
  have hreserve : (decide (t = 0) && decide (s.poolSize d ≤ (s.sdom d).gcReserve * y.width)) = false := by
    simpa using hpool
  change execSegmentOpen d t s = _
  simp only [execSegmentOpen, hlayout, hreserve, hrow, Bool.false_eq_true, if_false]
  exact dataIf_of_runs hruns (by simp [hwrites, hstream, hneeds, hfooting]) _

section replenish
variable {a : Nat} {y : Layout} (hruns : s.runs = true) (hwrites : s.writesFor d = true) (hfooting : s.footing.active = false)
  (hlayout : s.layout? (s.sdom d).layoutId = some y)
include hruns hwrites hfooting hlayout

theorem exec_freePoolReplenish_cell {t r : Nat} (hstream : t < 3) (hneeds : s.needsSegment d t = true)
    (hrow : s.findRow d y y.rows (if (s.sdom d).cursor < y.rows then (s.sdom d).cursor else 0) = some (r, .claim a)) :
    exec (.freePoolReplenish d) s = .next (s.claimBlock a d (s.streamRank d)) := by
  have hany : [0, 1, 2].any (s.needsSegment d) = true :=
    List.any_eq_true.mpr ⟨t, by simp only [List.mem_cons, List.not_mem_nil]; omega, hneeds⟩
  change execFreePoolReplenish d s = _
  simp only [execFreePoolReplenish, hlayout, hrow, hany, if_true]
  exact dataIf_of_runs hruns (by simp [hwrites, hfooting]) _

/-- With no stream in need of a segment no cell is lacking, whatever row comes next. -/
theorem exec_freePoolReplenish_turn {i : Nat} (hnone : ∀ t < 3, s.needsSegment d t = false)
    (hlow : s.poolSize d + (s.claiming d).length < (s.sdom d).gcStop * y.width) (hceiling : (s.sdom d).freeCeiling = 0)
    (hturn : s.nextTurn y.modules y.modules.length (s.sdom d).turn = some (i, a)) :
    exec (.freePoolReplenish d) s = .next ((s.updSdom d fun x => { x with turn := i + 1 }).claimBlock a d (s.rankOf 11)) := by
  have hany : [0, 1, 2].any (s.needsSegment d) = false := by simp [hnone]
  have hmay : (s.writesFor d && !s.footing.active) = true := by simp [hwrites, hfooting]
  change execFreePoolReplenish d s = _
  simp only [execFreePoolReplenish, hlayout, hany, hlow, hceiling, hturn]
  generalize s.findRow d y y.rows _ = row
  rcases row with _ | ⟨_, _ | _ | _ | _⟩ <;> exact dataIf_of_runs hruns hmay _

end replenish

/-! ### Stripes (R263, R264) -/

theorem exec_stripeProgramsDone {n : Nat} {t : Stripe} (hruns : s.runs = true) (hstripe : s.stripe.stripes.get? n = some t)
    (hopen : t.state = .open) (hcomplete : t.complete = true) (hclosing : t.closing = false) (hended : t.programs = [])
    (hhanded : t.handed = (s.segment t.segment).data + (s.segment t.segment).parity) :
    exec (.stripeProgramsDone n) s = .next ((s.updStripe n fun t => { t with closing := true }).journalWrite (stripeDomainOf n) t.rank
      (.stripeClose n t.records t.lowWsn (crc32c (summaryRecords t.items).flatten).toNat t.fill t.summaryUnits) t.highWsn) := by
  change execStripeProgramsDone n s = _
  simp only [execStripeProgramsDone, stripeOf_of_get? hstripe]
  exact dataIf_of_runs hruns (by simp [tab_has_of_get? hstripe, hopen, hcomplete, hclosing, hended, hhanded]) _

theorem exec_closeAgeExpiry {n since : Nat} {t : Stripe} (hruns : s.runs = true) (hstripe : s.stripe.stripes.get? n = some t)
    (hopen : t.state = .open) (hpartial : t.complete = false) (hsince : t.since = some since)
    (hlate : since + ticksOf ((s.sdom (stripeDomainOf n)).closeAge * 1000000) < s.tick) :
    exec (.closeAgeExpiry n) s = .next (s.completeStripe n (s.rankOf 4) true) := by
  change execCloseAgeExpiry n s = _
  simp only [execCloseAgeExpiry, stripeOf_of_get? hstripe]
  exact dataIf_of_runs hruns (by simp [tab_has_of_get? hstripe, hopen, hpartial, hsince, expired_of_lt hlate]) _

/-! ### The journal (R272, R273, R274) -/

theorem exec_journalFrameSend {j : Journal} (hruns : s.runs = true) (hclaim : s.holdsClaim d = true) (hj : j = s.journal d)
    (hdue : j.open_.any (fun r => r.body.awaited) = true ∨ 63 ≤ j.open_.length) (htrio : j.trio ≠ [])
    (hwindow : j.window < windowBytes (s.sdom d)) :
    ∃ (t : State) (f : JFrame), f.seq = j.seq + 1 ∧ f.claim = s.claimOf d ∧ f.records = j.open_.take 63 ∧
      (t.journal d).seq = j.seq + 1 ∧ (t.journal d).open_ = j.open_.drop 63 ∧ (t.journal d).flight = j.flight ++ [f] ∧
      t.now = s.now + 1 ∧
      exec (.journalFrameSend d) s = .next (((j.trio.zipIdx.foldl (fun t m => t.queueStart
        { module := m.1, opcode := 12, domain := d, die := 0, addr := 0, rank := j.rank, ready := 0,
          use := .journal d f.seq, data := frameBytes d m.2 s.now f, param := f.seq }) t).stripeCount 10 1).mirrorJournal d j.rank f) := by
  subst hj
  have hmembers : (s.journal d).trio.isEmpty = false := List.isEmpty_eq_false_iff.mpr htrio
  have hroom : decide (windowBytes (s.sdom d) ≤ (s.journal d).window) = false := decide_eq_false (Nat.not_le.mpr hwindow)
  change ∃ (t : State) (f : JFrame), _ ∧ _ ∧ _ ∧ _ ∧ _ ∧ _ ∧ _ ∧ execJournalFrameSend d s = _
  simp only [execJournalFrameSend, hmembers, hroom, Bool.false_eq_true, if_false]
  refine ⟨_, _, rfl, rfl, rfl, ?seq, ?rest, ?flight, ?stamp, dataIf_of_runs hruns (by simpa [hclaim] using hdue) _⟩
  case stamp => rfl
  all_goals simp only [journal_now, journal_updJournal]

/-- Frames become durable in order: the oldest one holds back the rest. -/
theorem makeDurable_of_head_not_durable {n : Nat} {f : JFrame} {rest : List JFrame} (hflight : (s.journal d).flight = f :: rest)
    (hwaits : s.frameDurable (s.journal d) f = false) : s.makeDurable d n = s := by
  cases n with
  | zero => rfl
  | succ n => simp only [State.makeDurable, hflight, hwaits, Bool.false_eq_true, if_false]

theorem exec_journalRecordDurable (s : State) (d : Nat) :
    exec (.journalRecordDurable d) s = .next (s.makeDurable d (s.journal d).flight.length) := rfl

theorem exec_journalRecordDurable_waits {f : JFrame} {rest : List JFrame} (hflight : (s.journal d).flight = f :: rest)
    (hwaits : s.frameDurable (s.journal d) f = false) : exec (.journalRecordDurable d) s = .next s :=
  (exec_journalRecordDurable s d).trans (congrArg _ (makeDurable_of_head_not_durable hflight hwaits))

theorem exec_journalDegraded_no_replacement {m : Nat}
    (hlost : (s.journal d).trio.find? (s.memberLost (s.journal d)) = some m)
    (hnone : ((List.range s.journalSet.length).map fun i => s.journalSet.getD ((d + i) % s.journalSet.length) 0).find? (fun x =>
      s.usableJournal x && !(s.journal d).trio.contains x && !(s.journal d).bad.contains x) = none) :
    ∃ (t : State) (rank : Nat), exec (.journalDegraded d) s = .next ((t.raise Ev.journalDegraded (le 1 d ++ le 2 m ++
        le 1 ((s.journal d).trio.filter fun x => !s.memberLost (s.journal d) x).length)).startJob 0x21 rank 0) ∧
      (t.journal d).trio = (s.journal d).trio.filter (· != m) ∧ (t.journal d).degraded = true ∧
      t.flash.starts = s.flash.starts.filter fun x => !(x.module == m && x.opcode == 12 && x.domain == d) := by
  change ∃ (t : State) (rank : Nat), execJournalDegraded d s = _ ∧ _
  simp only [execJournalDegraded, hlost, hnone, Option.isNone_none, if_true]
  exact ⟨_, _, rfl, by simp only [journal_flash, journal_updJournal], by simp only [journal_flash, journal_updJournal], rfl⟩

theorem exec_journalRepairEnd {m : Nat} (hruns : s.runs = true) (hrepair : (s.journal d).repair = some m)
    (hheld : (((s.journal d).kept ++ (s.journal d).flight).all fun f => f.acks.contains m) = true) :
    exec (.journalRepairEnd d) s = .next (((s.updJournal d fun j => { j with repair := none, degraded := decide (j.trio.length < 3) }).raise
      Ev.journalRepaired (le 1 d ++ le 2 m ++ le 4 (s.journal d).kept.length)).checkAllRetired) := by
  change execJournalRepairEnd d s = _
  simp only [execJournalRepairEnd, hrepair]
  exact dataIf_of_runs hruns hheld _

section checkpoint
variable (hruns : s.runs = true) (hwrites : s.writesFor d = true) (hfooting : s.footingRuns = true)
  (hwanted : (s.sdom d).checkpointWanted = true)
  (hnone : ((s.journal d).open_.any (fun r => r.body.type == 10) || (s.journal d).flight.any fun f => f.records.any fun r =>
    r.body.type == 10) = false)
include hruns hwrites hfooting hwanted hnone

theorem exec_journalCheckpoint_anchored (hclean : s.dirtyPages d = []) (hstored : s.anchorOut d = false)
    (hanchor : (s.sdom d).anchorPxa ≠ 0) :
    exec (.journalCheckpoint d) s = .next ((s.updSdom d fun x => { x with checkpointWanted := true }).journalWrite d (s.rankOf 11)
      (.checkpoint (s.sdom d).anchorPxa (s.lowUnapplied d) ((s.journal d).seq + 1)) 0) := by
  change execJournalCheckpoint d s = _
  simp only [execJournalCheckpoint, hclean, hstored, hanchor, List.isEmpty_nil, Bool.not_true, Bool.false_eq_true, if_false]
  exact dataIf_of_runs hruns (by simp only [hwrites, hwanted, hnone, hfooting, Bool.true_or, Bool.not_false, Bool.and_self]) _

theorem exec_journalCheckpoint_dirty (hdirty : s.dirtyPages d ≠ []) :
    exec (.journalCheckpoint d) s = .next (((s.dirtyPages d).foldl (fun s p => s.writeBack p)
      (s.updSdom d fun x => { x with checkpointWanted := true })).closeStream d 2 (s.rankOf 11)) := by
  change execJournalCheckpoint d s = _
  simp only [execJournalCheckpoint, List.isEmpty_eq_false_iff.mpr hdirty, Bool.not_false, if_true]
  exact dataIf_of_runs hruns (by simp only [hwrites, hwanted, hnone, hfooting, Bool.true_or, Bool.not_false, Bool.and_self]) _

end checkpoint

/-- Outside a takeover the replay ends the acquisition, with the tables and frames of the image in force (R275, R339). -/
theorem exec_journalReplay_ends {image : LedgerImage} (hruns : s.runs = true) (hacquiring : (s.domain d).state = .acquiring)
    (hreplaying : (s.domain d).replaying = true) (hfirst : (s.domain d).journalDone = false)
    (htakeover : (s.domain d).takeover = none) :
    ∃ (t : State) (n m : Nat), (t.domain d).replaying = false ∧ (t.domain d).journalDone = true ∧
      exec (.journalReplay d image) s = .next (((((t.finishAcquire d).startJob 0x12 (s.rankOf 13) image.frames.length).startJob 0x13
        (s.rankOf 13) n).startJob 0x14 (s.rankOf 13) m).startJob 0x15 (s.rankOf 13) image.lost.length) := by
  change ∃ (t : State) (n m : Nat), _ ∧ _ ∧ execJournalReplay d image s = _
  simp only [execJournalReplay, htakeover]
  refine ⟨_, _, _, ?replaying, ?done, dataIf_of_runs hruns (by simp [hacquiring, hreplaying, hfirst]) _⟩
  all_goals exact congrArg _ (domain_updDomain _)

/-! ### Garbage collection (R276, R277) -/

theorem exec_gcVictimStart_queued {rank : Nat} (hruns : s.runs = true) (howns : s.owns d = true) (hfooting : s.footing.active = false)
    (hidle : s.stripe.segments.find? (fun g => segmentDomain g.1 == d && g.2.evacuating && !g.2.byEvac && 0 < s.liveIn g.1) = none)
    (hqueued : s.queuedVictim d = some (g, rank)) :
    ∃ t : State, exec (.gcVictimStart d) s = .next ((t.evacuate g rank).startJob 0x22 rank 1) ∧
      (t.sdom d).victims = (s.sdom d).victims.filter fun y => y.1 != g := by
  change ∃ t : State, execGcVictimStart d s = _ ∧ _
  simp only [execGcVictimStart, hidle, hqueued]
  exact ⟨_, dataIf_of_runs hruns (by simp [howns, hfooting]) _, by simp only [sdom_updSdom]⟩

theorem exec_gcSegmentErase {x : Segment} (hruns : s.runs = true) (hx : s.stripe.segments.get? g = some x)
    (hevacuating : x.evacuating = true) (hstate : x.state = .evacuating) (howns : s.owns (segmentDomain g) = true)
    (hfooting : s.footing.active = false) (hempty : s.liveIn g = 0) (hclosed : (s.rowsOf g).any (fun t => t.2.state == .open) = false) :
    ∃ t : State, exec (.gcSegmentErase g) s = .next ((if x.byEvac then t.rebuildNext 0 else t).segmentErased g) ∧
      t = x.cells.foldl (fun t a => if t.addrMissing a then t.updBlock a fun b => { b with place := .out }
        else t.queueErase a (segmentDomain g) (t.rankOf 14)) (s.updSegment g fun x => { x with state := .erasing }) := by
  refine ⟨_, ?_, rfl⟩
  change execGcSegmentErase g s = _
  simp only [execGcSegmentErase, segment_of_get? hx]
  exact dataIf_of_runs hruns
    (by simp [tab_has_of_get? hx, hevacuating, hstate, howns, hfooting, hempty, hclosed]) _

/-! ### Rebuild (R279, R280, R281) -/

theorem exec_rebuildStart {m : Nat} (hruns : s.runs = true) (hfooting : s.footing.active = false)
    (hhit : s.stripe.segments.any (fun g => s.owns (segmentDomain g.1) && (g.2.state == .sealed || g.2.state == .open) &&
      (s.missingCells g.2).any fun c => bgModule (g.2.cells.getD c 0) == m && !g.2.missing.contains c) = true) :
    ∃ (t : State) (n : Nat), exec (.rebuildStart m) s = .next (t.raise Ev.rebuildStart (le 2 m ++ le 4 n)) ∧ 0 < n ∧
      n = (s.stripe.segments.filter fun g => s.owns (segmentDomain g.1) && (g.2.state == .sealed || g.2.state == .open) &&
        (s.missingCells g.2).any fun c => bgModule (g.2.cells.getD c 0) == m && !g.2.missing.contains c).length := by
  have hpos := List.length_filter_pos_iff.mpr (List.any_eq_true.mp hhit)
  change ∃ (t : State) (n : Nat), execRebuildStart m s = _ ∧ _ ∧ _
  simp only [execRebuildStart, List.length_map]
  refine ⟨_, _, dataIf_of_runs hruns ?_ _, hpos, rfl⟩
  simp only [hfooting, List.isEmpty_map, List.isEmpty_eq_false_iff.mpr (List.ne_nil_of_length_pos hpos), Bool.not_false, Bool.and_self]

theorem exec_rebuildRow (hruns : s.runs = true) (hpick : s.rebuildPick = some g)
    (hrepair : s.stripe.journals.any (fun j => j.2.repair.isSome) = false) (hfooting : s.footing.active = false) :
    exec (.rebuildRow g) s = .next (s.rebuildStep g) := by
  change execRebuildRow g s = _
  simp only [execRebuildRow, hpick, hrepair, hfooting]
  exact dataIf_of_runs hruns (by simp) _

/-- What a weak row or a replacement is does not rest on the progress of rebuild. -/
@[simp] theorem weakBefore_rebuild (b : Rebuild) (row : Nat) :
    ({ s with stripe.rebuild := b } : State).weakBefore g row = s.weakBefore g row := rfl

@[simp] theorem replacementFor_rebuild (b : Rebuild) (cell : Nat) :
    ({ s with stripe.rebuild := b } : State).replacementFor g cell = s.replacementFor g cell := rfl

theorem rebuildStep_replacement {cell a : Nat} (hplace : (s.segment g).byEvac = false)
    (hstrong : s.weakBefore g (s.segment g).rebuildRow = none)
    (hlack : ((s.segment g).missing.filter fun c => !(s.segment g).replacement.has c) = [cell])
    (hfound : s.replacementFor g cell = some a) :
    s.rebuildStep g = ((({ s with stripe.rebuild := { s.stripe.rebuild with current := some g } } : State).updBlock a fun b =>
      { b with place := .segment g }).updSegment g fun x => { x with replacement := x.replacement.set cell a, rebuildRow := 0 }) := by
  simp only [State.rebuildStep, hplace, weakBefore_rebuild, hstrong, hlack, replacementFor_rebuild, hfound, Bool.false_eq_true,
    if_false]

theorem exec_rebuildFloorWindowEnd_no_work (hnone : s.stripe.segments.any (fun g => g.2.toRebuild) = false) :
    exec .rebuildFloorWindowEnd s = .next { s with stripe.rebuild := { s.stripe.rebuild with
      progress := 0
      windows := (s.stripe.rebuild.progress :: s.stripe.rebuild.windows).take 100
      tokens := min (s.stripe.rebuild.floor * 10000) (s.stripe.rebuild.tokens + s.stripe.rebuild.floor * 10000)
      below := 0
      gate := none } } := by
  change execRebuildFloorWindowEnd s = _
  simp [execRebuildFloorWindowEnd, hnone]

/-- A window without any progress closes the gate for gate_max. -/
theorem exec_rebuildFloorWindowEnd_no_progress {b : Rebuild} (hb : b = s.stripe.rebuild)
    (hwork : s.stripe.segments.any (fun g => g.2.toRebuild) = true) (hidle : b.progress = 0) (hfloor : 0 < b.floor)
    (hgate : 0 < b.gateMax) (hmax : b.gateMax ≤ 100) (hbelow : b.below < 99) :
    exec .rebuildFloorWindowEnd s = .next { s with stripe.rebuild := { b with
      progress := 0
      windows := (0 :: b.windows).take 100
      tokens := min (b.floor * 10000) (b.tokens + b.floor * 10000)
      below := b.below + 1
      gate := some (s.tick + ticksOf (b.gateMax * 100000))
      gateUs := b.gateUs + b.gateMax * 100000 / 1000 } } := by
  have hgoal : 0 < b.floor * 10000 := Nat.mul_pos hfloor (by decide)
  have hlong : 0 < b.gateMax * 100000 := Nat.mul_pos hgate (by decide)
  have hshut : min (b.gateMax * 100000) (10000000 * (b.floor * 10000) / (b.floor * 10000)) = b.gateMax * 100000 := by
    rw [Nat.mul_div_cancel _ hgoal]
    omega
  have hfew : decide (100 ≤ b.below + 1) = false := decide_eq_false (by omega)
  change execRebuildFloorWindowEnd s = _
  simp only [execRebuildFloorWindowEnd, ← hb, hwork, hidle, Nat.sub_zero, hgoal, hshut, hlong, hfew, decide_true, Bool.and_self,
    Bool.false_and, Bool.or_false, BEq.rfl, Bool.false_eq_true, if_true, if_false]

theorem exec_floorGateOpen {due : Nat} (hruns : s.runs = true) (hgate : s.stripe.rebuild.gate = some due) (hlate : due < s.tick) :
    exec .floorGateOpen s =
      .next ({ s with stripe.rebuild := { s.stripe.rebuild with gate := none } } : State).resumeReads := by
  change execFloorGateOpen s = _
  simp only [execFloorGateOpen, hgate]
  exact dataIf_of_runs hruns (expired_of_lt hlate) _

end engine

/-- Settles O26: one lemma per command and outcome past its condition; a pool filled for a lacking cell and in turn, a
checkpoint with dirty pages and with its anchor stored, and a floor window without work and without progress apart. -/
theorem stripeEngineCommandsAct : Obligations.StripeEngineCommandsAct := by
  unfold Obligations.StripeEngineCommandsAct
  exact ⟨fun _ _ _ _ _ _ => exec_segmentOpen_cells,
    fun _ _ _ _ _ _ hruns hwrites hfooting hlayout => exec_freePoolReplenish_cell hruns hwrites hfooting hlayout,
    fun _ _ _ _ _ hruns hwrites hfooting hlayout => exec_freePoolReplenish_turn hruns hwrites hfooting hlayout,
    fun _ _ _ => exec_stripeProgramsDone, fun _ _ _ _ => exec_closeAgeExpiry, fun _ _ _ => exec_journalFrameSend,
    exec_journalRecordDurable, fun _ _ _ _ => exec_journalRecordDurable_waits, fun _ _ _ => exec_journalDegraded_no_replacement,
    fun _ _ _ => exec_journalRepairEnd, fun _ _ => exec_journalCheckpoint_anchored, fun _ _ => exec_journalCheckpoint_dirty,
    fun _ _ _ => exec_journalReplay_ends, fun _ _ _ _ => exec_gcVictimStart_queued,
    fun _ _ _ hruns hx hevacuating hstate howns hfooting hempty hclosed _ =>
      exec_gcSegmentErase hruns hx hevacuating hstate howns hfooting hempty hclosed,
    fun _ _ => exec_rebuildStart, fun _ _ => exec_rebuildRow, fun _ _ _ _ => rebuildStep_replacement,
    fun _ => exec_rebuildFloorWindowEnd_no_work, fun _ _ => exec_rebuildFloorWindowEnd_no_progress,
    fun _ _ => exec_floorGateOpen⟩

end Sys2Proof.Proofs
end

section
/-! The packets of class 0x07: settings, queries, lost stripes, garbage collection, retirement, the journal and the counters
(R267, R276, R281, R283, R285, R287). -/

namespace Sys2Proof.Proofs
open Sys2Proof.Machine Sys2Proof.Laws

section packets
variable {s : State} {op : PktOp} {p : Packet}

/-! ### STRIPE_CONFIG and REBUILD_CONFIG (R281, R287) -/

theorem exec_stripeConfig (ht : s.takes op 0x0700 p) (howns : s.owns (p.f 0 1) = true) (hlayout : (s.layout? (p.f 1 1)).isSome = true) :
    exec (.stripeConfig op) s = .next ((s.updSdom (p.f 0 1) fun x =>
      { x with
        layoutId := p.f 1 1
        closeAge := p.f 2 2
        gcStart := p.f 4 2
        gcStop := p.f 6 2
        gcReserve := p.f 8 2
        journalWindow := p.f 0xA 2
        freeCeiling := p.f 0xC 4 }).replyOk p) := by
  change execStripeConfig op s = _
  rw [execStripeConfig, packetRun_takes ht, ownerOnly_of_owns howns, if_neg (by simpa using Option.isSome_iff_ne_none.mp hlayout)]

theorem exec_rebuildConfig (ht : s.takes op 0x0701 p) :
    exec (.rebuildConfig op) s = .next (({ s with stripe.rebuild := { s.stripe.rebuild with
      floor := p.f 0 4, gateMax := p.f 4 2 } } : State).replyOk p) := by
  change execRebuildConfig op s = _
  rw [execRebuildConfig, packetRun_takes ht]

/-! ### STRIPE_QUERY, SEGMENT_QUERY and REBUILD_STATUS (R267, R287) -/

theorem exec_stripeQuery (ht : s.takes op 0x0702 p) (howns : s.owns (p.f 0 1) = true)
    (hstripe : s.stripe.stripes.has (p.f 0 1 * 2 ^ 32 + p.f 4 4) = true) :
    exec (.stripeQuery op) s = .next (s.reply p St.ok 0 (s.stripeRecord (p.f 0 1 * 2 ^ 32 + p.f 4 4))) := by
  change execStripeQuery op s = _
  rw [execStripeQuery, packetRun_takes ht, ownerOnly_of_owns howns, if_pos hstripe]

theorem exec_segmentQuery (ht : s.takes op 0x0703 p) (howns : s.owns (segmentDomain (p.f 0 4)) = true)
    (hsegment : s.stripe.segments.has (p.f 0 4) = true) :
    exec (.segmentQuery op) s = .next (s.reply p St.ok 0 (s.segmentRecord (p.f 0 4))) := by
  change execSegmentQuery op s = _
  rw [execSegmentQuery, packetRun_takes ht, ownerOnly_of_owns howns, if_pos hsegment]

section rebuildStatus
variable {b : Rebuild} {g : Nat} (ht : s.takes op 0x0704 p) (hb : b = s.stripe.rebuild)
include ht hb

theorem exec_rebuildStatus_idle (hidle : b.current = none) :
    exec (.rebuildStatus op) s = .next (s.reply p St.ok 0 ((List.range 4).flatMap (fun m =>
        le 4 ((s.stripe.segments.filter fun g => g.2.toRebuild).filter fun g => g.2.parity - g.2.missing.length == m).length) ++
      le 8 b.done ++ le 8 b.cells ++ le 8 b.bytes ++ le 8 b.gateUs ++ le 8 b.lost ++ le 4 0 ++ le 2 0 ++ zeros 2)) := by
  change execRebuildStatus op s = _
  rw [execRebuildStatus, packetRun_takes ht]
  simp only [← hb, hidle, Option.getD_none]

theorem exec_rebuildStatus_running (hcurrent : b.current = some g) :
    exec (.rebuildStatus op) s = .next (s.reply p St.ok 0 ((List.range 4).flatMap (fun m =>
        le 4 ((s.stripe.segments.filter fun g => g.2.toRebuild).filter fun g => g.2.parity - g.2.missing.length == m).length) ++
      le 8 b.done ++ le 8 b.cells ++ le 8 b.bytes ++ le 8 b.gateUs ++ le 8 b.lost ++ le 4 g ++ le 2 (s.segment g).rebuildRow ++
        zeros 2)) := by
  change execRebuildStatus op s = _
  rw [execRebuildStatus, packetRun_takes ht]
  simp only [← hb, hcurrent, Option.getD_some]

end rebuildStatus

/-! ### LOST_LIST and LOST_CLEAR (R283) -/

theorem exec_lostList {es : List (Nat × LostEntry)} (ht : s.takes op 0x0705 p) (howns : s.owns (p.f 0 1) = true)
    (hes : es = ((s.lostOf (p.f 0 1)).drop (p.f 4 4)).take (p.dataLen / 16)) :
    exec (.lostList op) s = .next (s.reply p St.ok es.length
      (es.flatMap fun e => le 5 e.1 ++ le 1 e.2.cause ++ le 1 e.2.missing ++ le 1 (boolNat e.2.swept) ++ le 8 e.2.stamp)) := by
  subst hes
  change execLostList op s = _
  rw [execLostList, packetRun_takes ht, ownerOnly_of_owns howns]
  rfl

theorem exec_lostClear {e : LostEntry} (ht : s.takes op 0x0706 p) (howns : s.owns (p.f 0 1) = true)
    (hlost : s.stripe.lost.get? (p.f 0 1 * 2 ^ 32 + p.f 4 4) = some e) (hswept : e.swept = true)
    (hunnamed : s.stripeNamed (p.f 0 1 * 2 ^ 32 + p.f 4 4) = false) :
    exec (.lostClear op) s =
      .next ((s.journalWrite (p.f 0 1) (s.rankOf 13) (.lostClear (p.f 0 1 * 2 ^ 32 + p.f 4 4)) 0).replyOk p) := by
  change execLostClear op s = _
  rw [execLostClear, packetRun_takes ht]
  simp only [ownerOnly_of_owns howns, hlost, hswept, hunnamed, Bool.not_true, Bool.or_self, Bool.false_eq_true, if_false]

/-! ### GC_CONTROL and MODULE_RETIRE (R276, R285, R287) -/

section gcControl
variable {x : Segment} (ht : s.takes op 0x0707 p) (howns : s.owns (p.f 0 1) = true)
include ht howns

theorem exec_gcControl_suspend (haction : p.f 1 1 ≠ 2) :
    exec (.gcControl op) s = .next ((s.updSdom (p.f 0 1) fun y => { y with gcSuspended := p.f 1 1 == 1 }).replyOk p) := by
  change execGcControl op s = _
  rw [execGcControl, packetRun_takes ht, ownerOnly_of_owns howns, if_pos haction]

theorem exec_gcControl_victim (haction : p.f 1 1 = 2) (hx : s.stripe.segments.get? (p.f 4 4) = some x)
    (hdomain : segmentDomain (p.f 4 4) = p.f 0 1) (hsealed : x.state = .sealed) :
    exec (.gcControl op) s = .next ((s.queueVictim (p.f 4 4) (s.rankOf 14)).replyOk p) := by
  change execGcControl op s = _
  rw [execGcControl, packetRun_takes ht]
  simp [ownerOnly_of_owns howns, haction, tab_has_of_get? hx, segment_of_get? hx, hdomain, hsealed]

end gcControl

theorem exec_moduleRetire_start (ht : s.takes op 0x0708 p) (hpresent : (s.module (p.f 0 2)).state ≠ .detached) (haction : p.f 2 1 = 1) :
    exec (.moduleRetire op) s = .next ((((s.updModule (p.f 0 2) fun x => { x with state := .retiring }).emptyPools
      (p.f 0 2)).checkRetired (p.f 0 2)).replyOk p) := by
  change execModuleRetire op s = _
  rw [execModuleRetire, packetRun_takes ht, if_neg hpresent, if_pos haction]

theorem exec_moduleRetire_stop (ht : s.takes op 0x0708 p) (hretiring : (s.module (p.f 0 2)).state = .retiring)
    (haction : p.f 2 1 ≠ 1) :
    exec (.moduleRetire op) s =
      .next ((s.updModule (p.f 0 2) fun x => { x with state := .attached, retired := false }).replyOk p) := by
  change execModuleRetire op s = _
  rw [execModuleRetire, packetRun_takes ht, if_neg (by simp [hretiring]), if_neg haction, if_neg (not_not_intro hretiring)]

/-! ### JOURNAL_STATUS and STRIPE_COUNTERS (R287) -/

theorem exec_journalStatus {j : Journal} (ht : s.takes op 0x0709 p) (howns : s.owns (p.f 0 1) = true) (hj : j = s.journal (p.f 0 1)) :
    exec (.journalStatus op) s = .next (s.reply p St.ok 0 (fit 6 (j.trio.flatMap (le 2)) ++ le 1 (boolNat j.degraded) ++ zeros 1 ++
      le 8 j.seq ++ le 8 j.checkpointSeq ++ le 8 j.checkpointLow ++ le 8 j.window ++ le 8 (windowBytes (s.sdom (p.f 0 1))))) := by
  subst hj
  change execJournalStatus op s = _
  rw [execJournalStatus, packetRun_takes ht, ownerOnly_of_owns howns]

theorem exec_stripeCounters (ht : s.takes op 0x070A p) :
    exec (.stripeCounters op) s = .next ((if p.f 0 1 = 1 then { s with stripe.counters := List.replicate 12 0 } else s).reply p St.ok 0
      ((s.stripe.counters.take 11).flatMap (le 8) ++ le 8 s.stripe.forward.length)) := by
  change execStripeCounters op s = _
  rw [execStripeCounters, packetRun_takes ht]

end packets

/-- Settles O27: one lemma per packet past its checks; a rebuild under way and none, and the two directions of GC_CONTROL and
of MODULE_RETIRE, apart. -/
theorem stripePacketsAct : Obligations.StripePacketsAct := by
  unfold Obligations.StripePacketsAct
  exact ⟨fun _ _ _ ht howns _ _ _ => exec_stripeConfig ht howns, fun _ _ _ => exec_rebuildConfig, fun _ _ _ => exec_stripeQuery,
    fun _ _ _ => exec_segmentQuery, fun _ _ _ _ => exec_rebuildStatus_idle, fun _ _ _ _ _ => exec_rebuildStatus_running,
    fun _ _ _ _ => exec_lostList, fun _ _ _ _ => exec_lostClear, fun _ _ _ => exec_gcControl_suspend,
    fun _ _ _ _ => exec_gcControl_victim, fun _ _ _ => exec_moduleRetire_start, fun _ _ _ => exec_moduleRetire_stop,
    fun _ _ _ _ => exec_journalStatus, fun _ _ _ => exec_stripeCounters⟩

end Sys2Proof.Proofs
end

section
/-! The bridge's answers: what a codeword, each response and the records of a scan leave, and modules that attach and detach (R299,
R303 to R306, R313, R315, R317, R322 to R324, R465). -/

namespace Sys2Proof.Proofs
open Sys2Proof.Machine Sys2Proof.Laws

/-! ### The copies of a journal frame (R272) -/

/-- A module's copy of the journal frame with a number is acknowledged, once. -/
def ackFrame (q m : Nat) (f : JFrame) : JFrame :=
  if f.seq = q && !f.acks.contains m then { f with acks := f.acks ++ [m] } else f

theorem ackFrame_of_other {q m : Nat} {f : JFrame} (hother : f.seq ≠ q) : ackFrame q m f = f := by simp [ackFrame, hother]

theorem mem_acks_ackFrame {q m : Nat} {f : JFrame} (hseq : f.seq = q) : m ∈ (ackFrame q m f).acks := by
  by_cases hacked : m ∈ f.acks <;> simp [ackFrame, hseq, hacked]

/-! ### Codewords and READs (R305, R317) -/

section answers
variable {s : State} {r : PlResponse} {c : PlCmd} {cell d : Nat}

/-- A codeword of the attempt under way, of full length and next in order, is decoded and counted. -/
theorem exec_plinthReadData_inOrder {l m id a i j : Nat} {b : List Byte} (hcmd : s.cmd? m id = some c) (huse : c.use = .read j cell)
    (hread : c.opcode = 2) (hattempt : a = c.attempt) (hwhole : b.length = 4608) (hnext : i = c.got) (hasked : i < c.reads.length) :
    exec (.plinthReadData l m id a i b) s =
      .next (((s.heard l 1).decodeWord c j cell (c.reads.getD i 0) b).updCmd m id fun c => { c with got := c.got + 1 }) := by
  have hgood : (b.length == 4608 && i == c.got && decide (i < c.reads.length)) = true := by simp [hwhole, ← hnext, hasked]
  change execPlinthReadData l m id a i b s = _
  simp only [execPlinthReadData, hcmd, huse, hgood, hattempt, hread, decide_true, Bool.and_self, if_true]

/-- A READ that is no probe and below its read limit, all its codewords taken, is committed. -/
theorem exec_plinthReadResponse_complete {j : Nat} (ht : s.takesAnswer r [2] c) (huse : c.use = .read j cell) (hok : r.status = 0)
    (hframes : r.dataFrames = c.got) (hwhole : c.bad = false) (hall : c.got = c.reads.length) (hprobe : c.probe = none)
    (hlimit : r.readCount < c.config.readLimit) :
    exec (.plinthReadResponse r) s = .next (State.sendHeld r.module ((((s.answered r c).updBlock c.addr fun b =>
      { b with readCount := r.readCount, eraseCount := r.eraseCount }).commitRead c j cell).maybeResume c.module c.die)) := by
  have htaken : ¬(decide (r.dataFrames ≠ c.got) || c.bad || decide (c.got ≠ c.reads.length)) = true := by
    simp [hframes, hwhole, hall]
  change execPlinthReadResponse r s = _
  rw [execPlinthReadResponse, answer_takes ht]
  simp only [huse, if_pos hok, if_neg htaken, hprobe, if_neg (Nat.not_le_of_lt hlimit)]

/-! ### Programs, erases and journal copies (R255, R265, R272, R299) -/

theorem exec_plinthProgramResponse_strip {n : Nat} (ht : s.takesAnswer r [3] c) (huse : c.use = .program n cell) (hok : r.status = 0) :
    exec (.plinthProgramResponse r) s = .next (State.sendHeld r.module (((((s.answered r c).endOp c.module c.die c.id).noteBlock c.addr
      r).updBlock c.addr fun b => { b with lastPage := c.page }).updStripe n fun t =>
        { t with programs := t.programs.filter (· != cell) })) := by
  change execPlinthProgramResponse r s = _
  rw [execPlinthProgramResponse, answer_takes ht, if_neg (by simp [hok]), if_neg (not_not_intro hok)]
  simp only [huse]

theorem exec_plinthEraseResponse_erased (ht : s.takesAnswer r [4] c) (hok : r.status = 0) :
    exec (.plinthEraseResponse r) s = .next (State.sendHeld r.module ((((s.answered r c).endOp c.module c.die c.id).erased
      c.addr).updBlock c.addr fun b => { b with eraseCount := r.eraseCount })) := by
  change execPlinthEraseResponse r s = _
  rw [execPlinthEraseResponse, answer_takes ht, if_neg (by simp [hok])]
  simp only [if_pos hok]

theorem exec_plinthJournalAppendResponse_copied {q : Nat} (ht : s.takesAnswer r [12, 14] c) (huse : c.use = .journal d q)
    (hok : r.status = 0) :
    exec (.plinthJournalAppendResponse r) s = .next (State.sendHeld r.module ((s.answered r c).updJournal d fun j =>
      { j with flight := j.flight.map (ackFrame q c.module), kept := j.kept.map (ackFrame q c.module) })) := by
  change execPlinthJournalAppendResponse r s = _
  rw [execPlinthJournalAppendResponse, answer_takes ht]
  simp only [huse]
  rw [if_neg (by simp [hok]), if_neg (not_not_intro hok)]
  rfl

/-! ### Claims and block groups (R303, R306, R323, R339, R465) -/

theorem exec_plinthClaimPresentResponse_claim (ht : s.takesAnswer r [7] c) (huse : c.use = .claim d) :
    exec (.plinthClaimPresentResponse r) s =
      .next (State.sendHeld r.module ((s.answered r c).claimAnswer d c.module (decide (r.status = 0)) r.detail)) := by
  change execPlinthClaimPresentResponse r s = _
  rw [execPlinthClaimPresentResponse, answer_takes ht]
  simp only [huse]

theorem exec_plinthClaimPresentResponse_present (ht : s.takesAnswer r [7] c) (huse : c.use = .present d) (hok : r.status = 0) :
    exec (.plinthClaimPresentResponse r) s = .next (State.sendHeld r.module ((s.answered r c).updModule c.module fun x =>
      { x with claimed := if x.claimed.contains d then x.claimed else x.claimed ++ [d] })) := by
  change execPlinthClaimPresentResponse r s = _
  rw [execPlinthClaimPresentResponse, answer_takes ht]
  simp only [huse, if_pos hok]

theorem exec_plinthBlockCommandResponse_claimed {a : Nat} (ht : s.takesAnswer r [8, 9, 10] c) (huse : c.use = .blockClaim a d)
    (hok : r.status = 0) :
    exec (.plinthBlockCommandResponse r) s = .next (State.sendHeld r.module ((s.answered r c).updBlock a fun b =>
      { b with state := 1, domain := d, place := if (s.answered r c).writesFor d then .free d else .out })) := by
  change execPlinthBlockCommandResponse r s = _
  rw [execPlinthBlockCommandResponse, answer_takes ht]
  simp only [huse, if_pos hok]

/-! ### SUSPEND and RESUME (R304, R313) -/

theorem exec_plinthSuspendResponse_suspended (ht : s.takesAnswer r [5, 6] c) (hsuspend : c.opcode = 5) (hok : r.status = 0) :
    exec (.plinthSuspendResponse r) s = .next (State.sendHeld r.module (((((s.answered r c).updDie c.module c.die fun x =>
        { x with op := x.op.map fun o => { o with suspendedAt := some (s.answered r c).tick } }).updCmd c.module
          ((((s.answered r c).die c.module c.die).op.map DieOp.cmd).getD 0) fun c => { c with deadline := none })).maybeResume
            c.module c.die)) := by
  change execPlinthSuspendResponse r s = _
  rw [execPlinthSuspendResponse, answer_takes ht, if_neg (by simp [hok])]
  simp only [if_pos hsuspend, if_pos hok]

theorem exec_plinthSuspendResponse_resumed (ht : s.takesAnswer r [5, 6] c) (hresume : c.opcode = 6) (hok : r.status = 0) :
    exec (.plinthSuspendResponse r) s = .next (State.sendHeld r.module (State.flashCount 9 (((s.answered r c).updDie c.module c.die fun x =>
        { x with op := x.op.map fun o =>
            { o with suspendedAt := none, resumeQueued := false, since := (s.answered r c).tick } }).updCmd c.module
          ((((s.answered r c).die c.module c.die).op.map DieOp.cmd).getD 0) fun c =>
            { c with deadline := some ((s.answered r c).tick + plTime c.opcode) }))) := by
  have hnot : c.opcode ≠ 5 := by simp [hresume]
  change execPlinthSuspendResponse r s = _
  rw [execPlinthSuspendResponse, answer_takes ht, if_neg (by simp [hok])]
  simp only [if_neg hnot, if_pos hok]
  rfl

/-! ### IDENTIFY and the records of a scan (R298, R306, R323) -/

section info
variable {data : List (List Byte)} (ht : s.takesAnswer r [1, 11, 13, 15] c) (hok : r.status = 0) (hframes : r.dataFrames = data.length)
include ht hok hframes

theorem exec_plinthInfoResponse_scan (huse : c.use = .scan) :
    exec (.plinthInfoResponse r data) s = .next (State.sendHeld r.module ((((List.range c.count).map fun i =>
      slice data.flatten (16 * i) 16).zipIdx).foldl
        (fun s e => s.updBlock (c.addr + e.2 * 2 ^ 18) fun b => noteRecord b e.1) (s.answered r c))) := by
  change execPlinthInfoResponse r data s = _
  rw [execPlinthInfoResponse, answer_takes ht, if_neg (not_not_intro hframes), if_neg (not_not_intro hok)]
  simp only [huse]

theorem exec_plinthInfoResponse_identify (huse : c.use = .identify)
    (hfits : (s.answered r c).moduleFits r.link c.module (fit 128 data.flatten) = true) :
    exec (.plinthInfoResponse r data) s =
      .next (State.sendHeld r.module (((s.answered r c).identified c.module (fit 128 data.flatten)).scanModule c.module)) := by
  change execPlinthInfoResponse r data s = _
  rw [execPlinthInfoResponse, answer_takes ht, if_neg (not_not_intro hframes), if_neg (not_not_intro hok)]
  simp only [huse, hfits, Bool.not_true, Bool.false_eq_true, if_false]

end info
end answers

/-! ### Deadlines, scans, attached and detached modules (R304, R315, R322 to R324) -/

section modules
variable {s : State} {m d id cause : Nat} {c : PlCmd} {x : FModule} (hruns : s.runs = true)
include hruns

theorem exec_plinthResponseExpiry (hcmd : s.cmd? m id = some c) (hdeadline : c.deadline = some d)
    (hlate : d < s.tick) : exec (.plinthResponseExpiry m id) s = .next (s.retry c) := by
  change execPlinthResponseExpiry m id s = _
  simp only [execPlinthResponseExpiry, hcmd]
  exact dataIf_of_runs hruns (by simp [State.overdue, State.expired, hdeadline, hlate]) _

theorem exec_restartScan_module (hidentified : (s.module m).identified = true) (hnew : (s.module m).scanned = false)
    (hdetached : (s.module m).state = .detached) (hread : s.scanOpen m = false) :
    exec (.restartScan (.module m)) s = .next (State.startJob 0x10 (s.rankOf 13) (s.ownBlocks m).length
      (((((s.ownBlocks m).foldl (fun s a => s.scanBlock a true) s).updModule m fun x => { x with scanned := true })).presentClaims m)) :=
  dataIf_of_runs hruns (by simp [hidentified, hnew, hdetached, hread]) _

theorem exec_restartScan_domain (hacquiring : (s.domain d).state = .acquiring) (hscanning : (s.domain d).scanning = true)
    (hread : s.attachedModules.any s.scanOpen = false) :
    exec (.restartScan (.domain d)) s = .next (((s.domainBlocks d).foldl (fun s a => s.scanBlock a false) s).updDomain d fun x =>
      { x with scanning := false, replaying := true }) :=
  dataIf_of_runs hruns (by rw [hacquiring, hscanning, hread]; rfl) _

theorem exec_moduleAttach (hx : x = s.module m) (hdetached : x.state = .detached) (hidentified : x.identified = true)
    (hscanned : x.scanned = true) (hlink : s.anyLinkUp m = true)
    (hclaimed : ((s.domains.filter fun d => d.2.state != .none && decide (0 < d.2.claim)).map Prod.fst).all
      (fun d => x.claimed.contains d) = true) :
    exec (.moduleAttach m) s = .next ((((s.updModule m fun x => { x with state := .attached, ever := true }).raiseFrom (flashIsland m)
      Ev.moduleAttached (le 2 m ++ le 2 ((List.range 256).filter x.diePresent).length ++ slice x.record 0 16)).rejoinModule
        m).recomputeDrain) := by
  subst hx
  exact dataIf_of_runs hruns (by rw [hdetached, hidentified, hscanned, hlink, hclaimed]; rfl) _

theorem exec_moduleDetach (hpresent : (s.module m).state ≠ .detached)
    (hcause : (cause = 2 ∧ 8 ≤ (s.module m).exhausted) ∨ (cause = 1 ∧ s.anyLinkUp m = false ∧
      ∀ l ∈ s.linksOf m, (s.link l).downSince + ticksOf (s.flash.config.detachMs * 1000000) < s.tick)) :
    exec (.moduleDetach m cause) s = .next (s.detach m cause) := by
  refine dataIf_of_runs hruns ?_ _
  rcases hcause with ⟨rfl, hexhausted⟩ | ⟨rfl, hdown, hlong⟩
  · simp [hpresent, hexhausted]
  · have hexpired : ((s.linksOf m).all fun l =>
        s.expired ((s.link l).downSince + ticksOf (s.flash.config.detachMs * 1000000))) = true :=
      List.all_eq_true.mpr fun l hl => decide_eq_true (hlong l hl)
    simp [hpresent, hdown, hexpired]

end modules

/-- Settles O29: one lemma per answer that is taken and well; `ackFrame` is what a journal copy does to its frame. -/
theorem plinthResponsesAct : Obligations.PlinthResponsesAct := by
  unfold Obligations.PlinthResponsesAct
  exact ⟨fun _ _ _ _ _ _ _ _ _ _ => exec_plinthReadData_inOrder, fun _ _ _ _ _ => exec_plinthReadResponse_complete,
    fun _ _ _ _ _ => exec_plinthProgramResponse_strip, fun _ _ _ _ ht _ => exec_plinthEraseResponse_erased ht,
    fun _ _ c _ q ht huse hok => ⟨ackFrame q c.module, fun _ => ackFrame_of_other, fun _ => mem_acks_ackFrame,
      exec_plinthJournalAppendResponse_copied ht huse hok⟩,
    fun _ _ _ _ => exec_plinthClaimPresentResponse_claim, fun _ _ _ _ => exec_plinthClaimPresentResponse_present,
    fun _ _ _ _ _ => exec_plinthBlockCommandResponse_claimed, fun _ _ _ => exec_plinthSuspendResponse_suspended,
    fun _ _ _ => exec_plinthSuspendResponse_resumed,
    fun _ _ _ _ ht huse hok hframes => exec_plinthInfoResponse_scan ht hok hframes huse,
    fun _ _ _ _ ht huse hok hframes => exec_plinthInfoResponse_identify ht hok hframes huse,
    fun _ _ _ _ _ => exec_plinthResponseExpiry, fun _ _ => exec_restartScan_module, fun _ _ => exec_restartScan_domain,
    fun _ _ _ => exec_moduleAttach, fun _ _ _ => exec_moduleDetach⟩

end Sys2Proof.Proofs
end

section
/-! The packets of class 0x08: settings of the flash, its links, queries of modules, dies and block groups, and the counters (R292,
R298, R306, R310, R319, R325, R326). -/

namespace Sys2Proof.Proofs
open Sys2Proof.Machine Sys2Proof.Laws

section packets
variable {s : State} {op : PktOp} {p : Packet}

theorem exec_flashConfig (ht : s.takes op 0x0800 p) :
    exec (.flashConfig op) s = .next (({ s with flash.config :=
      { ewThreshold := p.f 0 2
        scrubDays := p.f 2 2
        readLimit := p.f 4 4
        suspendRank := p.f 8 1
        maxSuspends := p.f 9 1
        minRunUs := p.f 0xA 2
        detachMs := p.f 0xC 2 } }).replyOk p) := by
  change execFlashConfig op s = _
  rw [execFlashConfig, packetRun_takes ht]

/-! ### LINK_CONFIG and LINK_STATUS (R292, R325) -/

section linkConfig
variable {l : Nat} (ht : s.takes op 0x0801 p)

/-- Plane 0 is the only one in Pair. -/
theorem plane_check_of_allowed (hplane : s.mesh = true ∨ p.f 2 1 = 0) : ¬(!s.mesh && decide (p.f 2 1 ≠ 0)) = true := by
  rcases hplane with hmesh | hzero
  · simp [hmesh]
  · simp [hzero]

include ht

theorem exec_linkConfig_enable (hl : l = p.f 0 1) (hplane : s.mesh = true ∨ p.f 2 1 = 0) (hdisabled : (s.link l).state = .disabled)
    (hon : p.f 1 1 = 1) :
    exec (.linkConfig op) s = .next ((((s.updLink l fun k => { k with enable := true, plane := p.f 2 1, invert := p.f 3 1 }).logRecord 8 l
      (le 1 1 ++ le 1 (p.f 2 1) ++ le 1 (p.f 3 1))).train l).replyOk p) := by
  subst hl
  change execLinkConfig op s = _
  rw [execLinkConfig, packetRun_takes ht, if_neg (plane_check_of_allowed hplane), if_neg (by simp [hdisabled])]
  simp only [hon, hdisabled, beq_self_eq_true, decide_true, Bool.and_self, if_true]
  rfl

/-- An UP link goes down with cause 4 before it is disabled. -/
theorem exec_linkConfig_disable (hl : l = p.f 0 1) (hplane : s.mesh = true ∨ p.f 2 1 = 0) (hup : (s.link l).state = .up)
    (hsamePlane : (s.link l).plane = p.f 2 1) (hsameInvert : (s.link l).invert = p.f 3 1) (hoff : p.f 1 1 = 0) :
    ∃ t : State, exec (.linkConfig op) s = .next ((t.updLink l fun k => { k with state := .disabled }).replyOk p) ∧
      ∃ u : State, t = State.raiseFrom (linkIsland l) Ev.plinthLinkDown (le 1 l ++ le 1 4) (u.updLink l fun k => { k with downSince := u.tick }) ∧
        u = (s.updLink l fun k => { k with enable := false, plane := p.f 2 1, invert := p.f 3 1 }).logRecord 8 l
          (le 1 0 ++ le 1 (p.f 2 1) ++ le 1 (p.f 3 1)) := by
  subst hl
  refine ⟨_, ?_, _, rfl, rfl⟩
  change execLinkConfig op s = _
  rw [execLinkConfig, packetRun_takes ht, if_neg (plane_check_of_allowed hplane), if_neg (by simp [hsamePlane, hsameInvert])]
  simp only [hoff, hup]
  rfl

theorem exec_linkConfig_changed (hplane : s.mesh = true ∨ p.f 2 1 = 0) (henabled : (s.link (p.f 0 1)).state ≠ .disabled)
    (hchanged : (s.link (p.f 0 1)).plane ≠ p.f 2 1 ∨ (s.link (p.f 0 1)).invert ≠ p.f 3 1) :
    exec (.linkConfig op) s = .next (s.fail p St.linkState) := by
  change execLinkConfig op s = _
  rw [execLinkConfig, packetRun_takes ht, if_neg (plane_check_of_allowed hplane), if_pos (by simpa [henabled] using hchanged)]

end linkConfig

theorem exec_linkStatus {k : Link} (ht : s.takes op 0x0802 p) (hk : k = s.link (p.f 0 1)) :
    exec (.linkStatus op) s = .next ((if p.f 1 1 = 1 then s.updLink (p.f 0 1) fun k => { k with counters := List.replicate 6 0 } else s).reply p St.ok 0
      (le 1 k.state.code ++ le 1 ((k.envelope.map fun e => e.1 * 16 + e.2).getD 0) ++ le 2 k.module ++ zeros 4 ++ le 8 k.session ++
        k.counters.flatMap (le 8))) := by
  subst hk
  change execLinkStatus op s = _
  rw [execLinkStatus, packetRun_takes ht]
  cases henvelope : (s.link (p.f 0 1)).envelope <;> simp only [henvelope] <;> rfl

/-! ### Queries of modules, block groups and dies (R298, R306, R310, R319, R325) -/

theorem exec_moduleQuery_known {x : FModule} (ht : s.takes op 0x0803 p) (hx : x = s.module (p.f 0 2)) (hever : x.ever = true) :
    exec (.moduleQuery op) s = .next (s.reply p St.ok 168 (fit 128 x.record ++ le 1 x.state.code ++ zeros 7 ++ le 32 (failedDies x))) := by
  subst hx
  change execModuleQuery op s = _
  rw [execModuleQuery, packetRun_takes ht, if_neg (by simp [hever])]

theorem exec_moduleQuery_unknown (ht : s.takes op 0x0803 p) (hnever : (s.module (p.f 0 2)).ever = false) :
    exec (.moduleQuery op) s = .next (s.fail p St.moduleUnknown) := by
  change execModuleQuery op s = _
  rw [execModuleQuery, packetRun_takes ht, if_pos (by simp [hnever])]

theorem exec_blockQuery_present (ht : s.takes op 0x0804 p) (hever : (s.module (p.f 0 2)).ever = true)
    (hpresent : (s.module (p.f 0 2)).diePresent (p.f 2 1) = true) :
    exec (.blockQuery op) s = .next ((s.await p).issue { id := 0, module := p.f 0 2, opcode := 11, die := p.f 2 1,
                                                         addr := bgAddr (p.f 0 2) (p.f 2 1) (p.f 4 2), count := p.f 6 2, use := .query p.acc }) := by
  change execBlockQuery op s = _
  rw [execBlockQuery, packetRun_takes ht, if_neg (by simp [hever]), if_neg (by simp [hpresent])]

theorem exec_blockQuery_absent (ht : s.takes op 0x0804 p) (hever : (s.module (p.f 0 2)).ever = true)
    (habsent : (s.module (p.f 0 2)).diePresent (p.f 2 1) = false) :
    exec (.blockQuery op) s = .next (s.fail p St.dieUnknown) := by
  change execBlockQuery op s = _
  rw [execBlockQuery, packetRun_takes ht, if_neg (by simp [hever]), if_pos (by simp [habsent])]

theorem exec_readLevelQuery {entry : ReadLevel → List Byte} (ht : s.takes op 0x0805 p) (hever : (s.module (p.f 0 2)).ever = true)
    (hpresent : (s.module (p.f 0 2)).diePresent (p.f 2 1) = true)
    (hentry : ∀ e, entry e = le 1 (boolNat e.valid) ++ le 1 e.band ++ fit 15 (e.offsets.flatMap signedByte) ++ [0]) :
    exec (.readLevelQuery op) s = .next (s.reply p St.ok 0 ((((s.module (p.f 0 2)).die (p.f 2 1)).levels).flatMap entry)) := by
  obtain rfl := funext hentry
  change execReadLevelQuery op s = _
  rw [execReadLevelQuery, packetRun_takes ht, if_neg (by simp [hever]), if_neg (by simp [hpresent])]

theorem exec_scheduleStatus {x : FModule} (ht : s.takes op 0x0806 p) (hx : x = s.module (p.f 0 2)) (hever : x.ever = true) :
    exec (.scheduleStatus op) s = .next (s.reply p St.ok 0 (le 1 (budgetOf (bodyOf s.flashBank kindTokens) (p.f 0 2)) ++ zeros 7 ++ le 8 x.admitted ++
      le 4 ((s.flash.starts.filter fun y => y.module == p.f 0 2 && y.deferred).length) ++ le 4 x.longest ++ le 8 x.refusals)) := by
  subst hx
  change execScheduleStatus op s = _
  rw [execScheduleStatus, packetRun_takes ht, if_neg (by simp [hever])]

/-! ### FLASH_COUNTERS (R325) -/

theorem exec_flashCounters (ht : s.takes op 0x0807 p) :
    exec (.flashCounters op) s = .next ((if p.f 0 1 = 1 then { s with flash.counters := List.replicate 20 0 } else s).reply p St.ok 0
      (fit 192 (s.flash.counters.flatMap (le 8)))) := by
  change execFlashCounters op s = _
  rw [execFlashCounters, packetRun_takes ht]

end packets

/-- Settles O30: one lemma per packet past its checks; a link enabled, disabled and changed, and what is unknown, apart. -/
theorem flashPacketsAct : Obligations.FlashPacketsAct := by
  unfold Obligations.FlashPacketsAct
  exact ⟨fun _ _ _ => exec_flashConfig, fun _ _ _ _ => exec_linkConfig_enable, fun _ _ _ _ => exec_linkConfig_disable,
    fun _ _ _ => exec_linkConfig_changed, fun _ _ _ _ => exec_linkStatus, fun _ _ _ _ => exec_moduleQuery_known,
    fun _ _ _ => exec_moduleQuery_unknown, fun _ _ _ => exec_blockQuery_present, fun _ _ _ => exec_blockQuery_absent,
    fun _ _ _ _ => exec_readLevelQuery, fun _ _ _ _ => exec_scheduleStatus, fun _ _ _ => exec_flashCounters⟩

end Sys2Proof.Proofs
end

section
/-! The frames of the coping ring: heartbeats and their misses, heads that join, leave and fail, and what a frame says of a domain
(R338, R340, R341, R343 to R346, R348). -/

namespace Sys2Proof.Proofs
open Sys2Proof.Machine Sys2Proof.Laws

/-! ### Heartbeats and their misses (R343 to R346) -/

/-- While the head's wait runs on, no expiry comes before its heartbeat. -/
theorem missedBeats_of_not_expired {s : State} {h d : Nat} (hrunning : s.expired ((s.peer h).deadline.getD d 0) = false) (n : Nat) :
    s.missedBeats h d n = s := by
  cases n with
  | zero => rfl
  | succ n => simp only [State.missedBeats, hrunning, Bool.and_false, Bool.false_eq_true, if_false]

theorem beatCounts_of_active {s : State} {h d : Nat} (hactive : (s.peer h).state = 1) :
    ∃ t : State, t = (s.updPeer h fun p =>
      { p with misses := p.misses.set d 0, deadline := p.deadline.set d (s.tick + 2 * s.head.hbInterval), lastBeat := s.tick }) ∧
    s.beatCounts h d = { t with
      head.lostDir := if bit t.head.lostDir d then t.head.lostDir - 2 ^ d else t.head.lostDir, head.isolated := false } :=
  ⟨_, rfl, if_neg (not_not_intro hactive)⟩

theorem missBeat_eq (s : State) (h d : Nat) : s.missBeat h d = State.checkFailed h (State.checkDirection d (s.updPeer h fun p =>
    { p with misses := p.misses.modify d fun m => min 255 (m + 1), deadline := p.deadline.set d ((s.peer h).deadline.getD d 0 + s.head.hbInterval) })) :=
  rfl

theorem exec_heartbeatInterval {s : State} (hruns : s.runs = true) (hjoined : s.head.joined = true) (hdue : s.head.beatAt ≤ s.tick) :
    ∃ b : List Byte, exec .heartbeatInterval s = .next (State.emitAll [.ring 0 1 s.head.headId 16 (s.head.ringSeq + 1) b,
        .ring 1 1 s.head.headId 16 (s.head.ringSeq + 2) b]
      { s with head.ringSeq := s.head.ringSeq + 2, head.beats := (s.head.beats + 1) % 2 ^ 32, head.beatAt := s.head.beatAt + s.head.hbInterval }) ∧
      b = fit 48 (le 1 (if s.power.drain != .none || s.power.pdown != .none then 2 else 1) ++ zeros 1 ++
        le 2 (if s.mirror.state = .live then s.mirror.peer else 0) ++ le 4 ((s.head.beats + 1) % 2 ^ 32) ++ le 32 (domainBits s.ownedDomains) ++
        le 8 s.wp.wsn) :=
  ⟨_, dataIf_of_runs hruns (by simp [hjoined, hdue]) _, rfl⟩

theorem exec_heartbeatMissExpiry {s : State} {h d : Nat} (hruns : s.runs = true) (hjoined : s.head.joined = true)
    (hlisted : s.head.peers.has h = true) (hactive : (s.peer h).state = 1) (hd : d < 2) (hlate : (s.peer h).deadline.getD d 0 < s.tick) :
    exec (.heartbeatMissExpiry h d) s = .next (s.missBeat h d) :=
  dataIf_of_runs hruns (by simp only [hjoined, hlisted, hactive, hd, State.expired, hlate]; rfl) _

section frames
variable {s : State} {f : RingFrame}

/-- A later copy of a frame that is no JOIN is forwarded and does only what a later copy does (R343). -/
theorem ringRun_seen {typ : Nat} (hjoined : s.head.joined = true) (htyp : f.typ = typ) (hnojoin : typ ≠ 2) (hdir : f.direction < 2)
    (hcrc : f.crcOk = true) (hforeign : f.origin ≠ s.head.headId) (hlisted : s.head.peers.has f.origin = true)
    (hseen : (s.peer f.origin).seqs.contains f.seq = true) (later act : State → State) :
    ringRun typ f s later act =
      .next (later (if 2 ≤ f.ttl then s.emit (.ring f.direction typ f.origin (f.ttl - 1) f.seq f.body) else s)) := by
  have hpasses : ¬(!s.head.joined || decide (f.typ ≠ typ) || decide (2 ≤ f.direction) || !f.crcOk || decide (f.origin = s.head.headId)) = true := by
    simp [hjoined, htyp, hdir, hcrc, hforeign]
  rw [ringRun, if_neg hpasses]
  generalize hu : (if 2 ≤ f.ttl then s.emit (.ring f.direction typ f.origin (f.ttl - 1) f.seq f.body) else s) = u
  have hhead : u.head = s.head := by subst hu; split <;> rfl
  have hseen' : (u.peer f.origin).seqs.contains f.seq = true := by rw [State.peer, hhead]; exact hseen
  simp only [hhead, hlisted, hseen', hnojoin, decide_false, Bool.false_and, Bool.not_true, Bool.not_false, Bool.and_self,
    Bool.false_eq_true, if_false, if_true]

theorem exec_heartbeat_active {h : Nat} (ht : s.takesRing 1 f) (hh : h = f.origin)
    (hnow : ∀ u : State, u = s.ringTaken f → (u.peer h).state = 1 ∧ u.expired ((u.peer h).deadline.getD f.direction 0) = false) :
    ∃ t : State, exec (.heartbeat f) s = .next (if t.mesh || t.mirror.retryAt = 0 then t.tryBind else t) ∧
      t = State.askResync (State.noteOwners h (fieldAt f.body 8 32) (State.beatCounts h f.direction ((s.ringTaken f).updPeer h fun _ => { (s.ringTaken f).peer h with
        state := 1
        owned := fieldAt f.body 8 32
        highWsn := fieldAt f.body 40 8
        seenWsn := max ((s.ringTaken f).peer h).seenWsn (fieldAt f.body 40 8)
        mirrorPeer := fieldAt f.body 2 2
        claimed := [] }))) := by
  subst hh
  obtain ⟨hactive, hrunning⟩ := hnow _ rfl
  have hpresent : ¬(decide (((s.ringTaken f).peer f.origin).state = 2) || decide (((s.ringTaken f).peer f.origin).state = 3)) = true := by
    simp [hactive]
  refine ⟨_, ?_, rfl⟩
  change execHeartbeat f s = _
  rw [execHeartbeat, ringRun_takes ht]
  simp only [missedBeats_of_not_expired hrunning, if_neg hpresent, if_pos hactive]

theorem exec_heartbeat_seen (hjoined : s.head.joined = true) (htyp : f.typ = 1) (hdir : f.direction < 2) (hcrc : f.crcOk = true)
    (hforeign : f.origin ≠ s.head.headId) (hlisted : s.head.peers.has f.origin = true)
    (hseen : (s.peer f.origin).seqs.contains f.seq = true) :
    ∃ t : State, exec (.heartbeat f) s = .next ((t.missedBeats f.origin f.direction 256).beatCounts f.origin f.direction) ∧
      t = if 2 ≤ f.ttl then s.emit (.ring f.direction 1 f.origin (f.ttl - 1) f.seq f.body) else s := by
  refine ⟨_, ?_, rfl⟩
  change execHeartbeat f s = _
  rw [execHeartbeat, ringRun_seen hjoined htyp (by decide) hdir hcrc hforeign hlisted hseen]

/-! ### Heads that join, leave and fail (R343, R344, R346) -/

theorem exec_join (ht : s.takesRing 2 f) :
    ∃ t u : State, exec (.join f) s = .next (State.askResync (State.raise Ev.headJoined (le 2 f.origin) t)) ∧
      t = { u with
        domains := u.domains.mapVals fun (x : Domain) => { x with intent := if x.intent = f.origin then 0 else x.intent, owner := if x.owner = f.origin then 0 else x.owner }
        mirror.refused := u.mirror.refused.filter (· != f.origin) } ∧
      u = (s.ringTaken f).updPeer f.origin fun p => { p with
        state := 1
        misses := [0, 0]
        deadline := [(s.ringTaken f).tick + 2 * (s.ringTaken f).head.hbInterval, (s.ringTaken f).tick + 2 * (s.ringTaken f).head.hbInterval]
        owned := 0
        claimed := []
        mirrorPeer := 0 } := by
  refine ⟨_, _, ?_, rfl, rfl⟩
  change execJoin f s = _
  rw [execJoin, ringRun_takes ht]

theorem exec_leave_ownsNone (ht : s.takesRing 3 f) (hactive : ((s.ringTaken f).peer f.origin).state = 1)
    (hnone : ((s.ringTaken f).peer f.origin).owned = 0) :
    exec (.leave f) s = .next (State.peerGone f.origin (State.updPeer f.origin (fun p => { p with state := 3 }) { s.ringTaken f with
      domains := (s.ringTaken f).domains.mapVals fun (x : Domain) => if x.intent = f.origin then { x with intent := 0 } else x })) := by
  change execLeave f s = _
  rw [execLeave, ringRun_takes ht, if_neg (not_not_intro hactive), if_neg (not_not_intro hnone)]

theorem exec_leave_owns (ht : s.takesRing 3 f) (hactive : ((s.ringTaken f).peer f.origin).state = 1)
    (howned : ((s.ringTaken f).peer f.origin).owned ≠ 0) : exec (.leave f) s = .next ((s.ringTaken f).declareFailed f.origin 4) := by
  change execLeave f s = _
  rw [execLeave, ringRun_takes ht, if_neg (not_not_intro hactive), if_pos howned]

theorem exec_failed (ht : s.takesRing 7 f) (hforeign : fieldAt f.body 0 2 ≠ (s.ringTaken f).head.headId)
    (hlisted : (s.ringTaken f).head.peers.has (fieldAt f.body 0 2) = true) :
    exec (.failed f) s = .next ((s.ringTaken f).declareFailed (fieldAt f.body 0 2) 2) := by
  change execFailed f s = _
  rw [execFailed, ringRun_takes ht, if_neg (by simp [hforeign, hlisted])]

/-! ### What a frame says of a domain (R338, R340, R341) -/

theorem exec_claimIntent (ht : s.takesRing 4 f) :
    exec (.claimIntent f) s = .next ((s.ringTaken f).updDomain (fieldAt f.body 0 1) fun x => { x with intent := f.origin }) :=
  ringRun_takes ht _ _

theorem owns_of_free {d : Nat} (hfree : (s.domain d).state = .none) : s.owns d = false := by
  change ((s.domain d).state == .owned || (s.domain d).state == .releasing) = false
  rw [hfree]
  rfl

/-- A claim is higher than the one this head has made for a domain it has not taken up (R341). -/
def outclaimed (s : State) (d c : Nat) : Bool :=
  (s.domain d).state == .acquiring && decide (0 < s.claimOf d) && decide (s.claimOf d < c)

theorem outclaimed_of_free {d c : Nat} (hfree : (s.domain d).state = .none) : outclaimed s d c = false := by
  rw [outclaimed, hfree]
  rfl

/-- The domain is taken from this head when the head owns it or is outclaimed; a free one is not. -/
theorem exec_claimDone {d c : Nat} (ht : s.takesRing 5 f) (hd : d = fieldAt f.body 0 1) (hc : c = fieldAt f.body 8 8) :
    ∃ t : State, exec (.claimDone f) s = .next ((t.updDomain d fun x => { x with
        epoch := max x.epoch (c / 65536)
        owner := f.origin
        released := false
        intent := if x.intent = f.origin then 0 else x.intent
        lastClaim := c }).updPeer f.origin fun p => { p with claimed := if p.claimed.contains d then p.claimed else p.claimed ++ [d] }) ∧
      ((s.ringTaken f).owns d = true → t = (s.ringTaken f).takeDomain d c) ∧ (((s.ringTaken f).domain d).state = .none → t = s.ringTaken f) := by
  subst hd hc
  refine ⟨if (s.ringTaken f).owns (fieldAt f.body 0 1) || outclaimed (s.ringTaken f) (fieldAt f.body 0 1) (fieldAt f.body 8 8) then
      (s.ringTaken f).takeDomain (fieldAt f.body 0 1) (fieldAt f.body 8 8) else s.ringTaken f, ?taken,
    fun howns => if_pos (by rw [howns, Bool.true_or]),
    fun hfree => if_neg (by simp only [owns_of_free hfree, outclaimed_of_free hfree, Bool.or_self, Bool.false_eq_true, not_false_eq_true])⟩
  case taken =>
    change execClaimDone f s = _
    rw [execClaimDone, ringRun_takes ht]
    rfl

theorem exec_release {c : Nat} (ht : s.takesRing 6 f) (hc : c = fieldAt f.body 8 8) :
    exec (.release f) s = .next (((s.ringTaken f).updDomain (fieldAt f.body 0 1) fun x => { x with
        epoch := max x.epoch (c / 65536)
        owner := if x.owner = f.origin then 0 else x.owner
        released := true
        intent := if x.intent = f.origin then 0 else x.intent
        lastClaim := c }).updPeer f.origin fun p => { p with seenWsn := max p.seenWsn (fieldAt f.body 16 8) }) := by
  subst hc
  change execRelease f s = _
  rw [execRelease, ringRun_takes ht]

end frames

/-- Settles O32: first copies by `ringRun_takes`, later copies of a HEARTBEAT by `ringRun_seen`; what a heartbeat and a miss
leave is said by `beatCounts_of_active` and `missBeat_eq`. -/
theorem ringFramesAct : Obligations.RingFramesAct := by
  unfold Obligations.RingFramesAct
  exact ⟨fun _ => exec_heartbeatInterval, fun _ _ _ ht hh _ => exec_heartbeat_active ht hh, fun _ _ => exec_heartbeat_seen,
    fun _ _ _ => beatCounts_of_active, fun _ _ _ => exec_heartbeatMissExpiry, missBeat_eq, fun _ _ ht _ => exec_join ht,
    fun _ _ => exec_leave_ownsNone, fun _ _ => exec_leave_owns, fun _ _ => exec_claimIntent, fun _ _ _ _ => exec_claimDone,
    fun _ _ _ => exec_release, fun _ _ => exec_failed⟩

end Sys2Proof.Proofs
end

section
/-! A takeover: the end of its wait and the probe of the claims held, the replay of the mirror records, and its end (R346 to R349,
R352, R353, R374). -/

namespace Sys2Proof.Proofs
open Sys2Proof.Machine Sys2Proof.Laws

section takeover
variable {s : State} {h : Nat} {t : Takeover} (hruns : s.runs = true)
include hruns

/-! ### The end of the wait (R348) -/

section delay
variable {m : Nat} {ms : List Nat} (hwaits : s.heads.takeovers.find? (fun t => t.failed == h && !t.probed) = some t)
  (hdue : t.deadline ≤ s.tick) (hidle : s.footing.active = false) (hattached : s.attachedModules = m :: ms)
include hwaits hdue hidle hattached

theorem exec_takeoverDelayExpiry_probe (howns : s.ownedDomains ≠ []) :
    ∃ u : State, exec (.takeoverDelayExpiry h) s = .next (s.ownedDomains.foldl (fun u d => u.presentClaim (ms.foldl min m) d (u.claimOf d) (.probe d)) u) ∧
      u = { s with heads.takeovers := s.heads.takeovers.map fun (x : Takeover) =>
        if x.failed = h then { x with probed := true, probes := s.ownedDomains } else x } := by
  refine ⟨_, ?_, rfl⟩
  change execTakeoverDelayExpiry h s = _
  simp only [execTakeoverDelayExpiry, hwaits, hattached, List.isEmpty_iff, if_neg howns]
  exact dataIf_of_runs hruns (by simp [hdue, hidle]) _

theorem exec_takeoverDelayExpiry_acquire (hnone : s.ownedDomains = []) :
    ∃ u : State, exec (.takeoverDelayExpiry h) s = .next (u.probeAnswer 256 false) ∧
      u = { s with heads.takeovers := s.heads.takeovers.map fun (x : Takeover) =>
        if x.failed = h then { x with probed := true, probes := [] } else x } := by
  refine ⟨_, ?_, rfl⟩
  change execTakeoverDelayExpiry h s = _
  simp only [execTakeoverDelayExpiry, hwaits, hattached, hnone, List.isEmpty_nil, if_true]
  exact dataIf_of_runs hruns (by simp [hdue, hidle]) _

end delay

/-! ### The replay of the mirror records and the end (R349, R352, R374) -/

/-- Every record still to be applied is held, so none is given up. -/
theorem exec_mirrorReplay_held {d i : Nat} {all rs : List (Nat × Nat × Nat × Nat)} {x : Nat × Bool × State}
    (htakeover : (s.domain d).takeover = some h) (harea : s.liveArea h = some i) (hacquiring : (s.domain d).state = .acquiring)
    (hjournal : (s.domain d).journalDone = true) (hmirror : (s.domain d).mirrorDone = false)
    (hall : all = (s.area i).records.filter (fun r => r.2.2.2 == d))
    (hrs : rs = all.filter (fun r => !s.mirrorApplied d r.1 && !(s.area i).lost.contains r.1)) (hx : x = s.replayRecords i d rs 0)
    (hheld : all.any (fun r => !s.mirrorApplied d r.1 && (s.area i).lost.contains r.1) = false) :
    ∃ t u : State, exec (.mirrorReplay d) s = .next (State.startJob 0x16 (s.rankOf 13) x.1 u) ∧
      t = (x.2.2.closeDomain d (x.2.2.rankOf 4)).updDomain d (fun y => { y with mirrorDone := x.2.1, mirrorLeft := rs.length - x.1 }) ∧
      u = { t with heads.takeovers := t.heads.takeovers.map fun (y : Takeover) => if some y.failed = (s.domain d).takeover then { y with replayed := y.replayed + x.1 } else y } := by
  refine ⟨_, _, ?_, rfl, rfl⟩
  change execMirrorReplay d s = _
  simp only [execMirrorReplay, htakeover, Option.bind_some, harea, ← hall, ← hrs, ← hx, hheld, Bool.false_and, Bool.false_eq_true,
    if_false]
  exact dataIf_of_runs hruns (by rw [hacquiring, hjournal, hmirror]; rfl) _

theorem exec_takeoverDone {u v : State} (htakeover : s.heads.takeovers.find? (fun t => t.failed == h) = some t)
    (hstarted : t.started = true) (hended : t.domains.all (s.replayEnded h) = true)
    (hu : u = (t.domains.filter fun d => (s.domain d).state == .acquiring && (s.domain d).takeover == some h).foldl (fun u d => u.finishAcquire d) s)
    (hv : v = (match u.liveArea h with | some i => u.freeArea i | none => u)) :
    exec (.takeoverDone h) s = .next (State.raise Ev.takeoverDone (le 2 h ++ le 4 t.replayed ++ le 4 ((s.now - t.since) / 1000000))
        { v with heads.takeovers := v.heads.takeovers.filter fun y => y.failed != h }) := by
  subst hu hv
  change execTakeoverDone h s = _
  simp only [execTakeoverDone, htakeover]
  exact dataIf_of_runs hruns (by simp only [hstarted, hended, Bool.and_self]) _

end takeover

/-- Settles O35: one lemma per command, the end of the wait with a claim to probe and without. -/
theorem takeoverActs : Obligations.TakeoverActs := by
  unfold Obligations.TakeoverActs
  exact ⟨fun _ _ _ _ _ hruns => exec_takeoverDelayExpiry_probe hruns,
    fun _ _ _ _ _ hruns => exec_takeoverDelayExpiry_acquire hruns, fun _ _ _ _ _ _ _ hruns => exec_mirrorReplay_held hruns, fun _ _ _ _ _ hruns => exec_takeoverDone hruns⟩

end Sys2Proof.Proofs
end

section
/-! The contest of an arbiter (R380): which of the competing requests is granted. -/

namespace Sys2Proof.Proofs
open Sys2Proof.Machine

/-- `beats` is the lexicographic order of effective rank, request tick and requester index. -/
theorem beats_iff (q r : Nat × KsRequest) : beats q r = true ↔
    q.1 < r.1 ∨ q.1 = r.1 ∧ (q.2.tick < r.2.tick ∨ q.2.tick = r.2.tick ∧ q.2.requester ≤ r.2.requester) := by
  simp only [beats, Bool.or_eq_true, Bool.and_eq_true, decide_eq_true_eq, beq_iff_eq]

theorem beats_refl (q : Nat × KsRequest) : beats q q = true := by
  rw [beats_iff]
  omega

theorem beats_trans {q r x : Nat × KsRequest} (hqr : beats q r = true) (hrx : beats r x = true) : beats q x = true := by
  rw [beats_iff] at *
  omega

theorem beats_of_not_beats {q r : Nat × KsRequest} (hloses : ¬ beats q r = true) : beats r q = true := by
  rw [beats_iff] at *
  omega

theorem bestOf_eq_none {l : List (Nat × KsRequest)} (hnone : bestOf l = none) : l = [] := by
  cases l with
  | nil => rfl
  | cons x xs =>
    rw [bestOf] at hnone
    cases hrest : bestOf xs with
    | none => rw [hrest] at hnone; cases hnone
    | some y => simp only [hrest] at hnone; split at hnone <;> cases hnone

/-- Only a competing request is granted, and none comes before it in the contest's order. -/
theorem bestOf_least {l : List (Nat × KsRequest)} {q : Nat × KsRequest} (hbest : bestOf l = some q) :
    q ∈ l ∧ ∀ r ∈ l, beats q r = true := by
  induction l generalizing q with
  | nil => cases hbest
  | cons x xs ih =>
    rw [bestOf] at hbest
    cases hrest : bestOf xs with
    | none =>
      obtain rfl := bestOf_eq_none hrest
      cases hbest
      exact ⟨List.mem_singleton_self _, List.forall_mem_singleton.mpr (beats_refl _)⟩
    | some y =>
      obtain ⟨hmem, hleast⟩ := ih hrest
      simp only [hrest] at hbest
      split at hbest
      next hwins =>
        obtain rfl := Option.some.inj hbest
        exact ⟨List.mem_cons_self, List.forall_mem_cons.mpr ⟨beats_refl _, fun r hr => beats_trans hwins (hleast r hr)⟩⟩
      next hloses =>
        obtain rfl := Option.some.inj hbest
        exact ⟨List.mem_cons_of_mem _ hmem, List.forall_mem_cons.mpr ⟨beats_of_not_beats hloses, hleast⟩⟩

/-- Settles O54: what the granted request beats is read as the three comparisons of `beats_iff`. -/
theorem contestGrantsLowestRankEarliestTick : Obligations.ContestGrantsLowestRankEarliestTick := by
  unfold Obligations.ContestGrantsLowestRankEarliestTick
  intro l q hbest
  obtain ⟨hmem, hleast⟩ := bestOf_least hbest
  refine ⟨hmem, fun r hr => ?_⟩
  have hbeats := (beats_iff q r).mp (hleast r hr)
  omega

end Sys2Proof.Proofs
end

section
/-! The error log: records merged, appended, replaced and dropped (R429, R430). -/

namespace Sys2Proof.Proofs
open Sys2Proof.Machine

theorem evict_cons (v : Events) (r : ErrorRecord) (rs : List ErrorRecord) :
    v.evict (r :: rs) = if r.severity = 2 ∧ v.waits r = false then some rs else (v.evict rs).map (r :: ·) := by
  rw [Events.evict]
  cases v.evict rs <;> simp

/-- What is removed is the oldest record that may be. -/
theorem evict_spec {v : Events} {l rest : List ErrorRecord} (hevict : v.evict l = some rest) :
    ∃ before r after, l = before ++ r :: after ∧ rest = before ++ after ∧ r.severity = 2 ∧ v.waits r = false ∧
      ∀ x ∈ before, x.severity ≠ 2 ∨ v.waits x = true := by
  induction l generalizing rest with
  | nil => cases hevict
  | cons r rs ih =>
    rw [evict_cons] at hevict
    split at hevict
    next hgoes =>
      cases hevict
      exact ⟨[], r, _, rfl, rfl, hgoes.1, hgoes.2, by simp⟩
    next hstays =>
      obtain ⟨t, ht, rfl⟩ := Option.map_eq_some_iff.mp hevict
      obtain ⟨before, m, after, rfl, rfl, hsev, hfree, hbefore⟩ := ih ht
      have hr : r.severity ≠ 2 ∨ v.waits r = true := (Decidable.not_and_iff_or_not.mp hstays).imp_right eq_true_of_ne_false
      exact ⟨r :: before, m, after, rfl, rfl, hsev, hfree, List.forall_mem_cons.mpr ⟨hr, hbefore⟩⟩

theorem evict_length {v : Events} {l rest : List ErrorRecord} (hevict : v.evict l = some rest) : rest.length + 1 = l.length := by
  obtain ⟨before, r, after, rfl, rfl, _⟩ := evict_spec hevict
  simp only [List.length_append, List.length_cons, Nat.add_assoc]

@[simp] theorem mergeRecord_length (code loc stamp seq : Nat) (ps : List Byte) (l : List ErrorRecord) :
    (mergeRecord code loc stamp seq ps l).length = l.length := by
  induction l with
  | nil => rfl
  | cons r rs ih => rw [mergeRecord]; split <;> simp [ih]

section record
variable {v : Events} {code stamp loc : Nat} (sev cls island : Nat) (ps : List Byte)

theorem record_length_of_merges (hmerges : v.errors.any (fun r => mergesWith r code loc stamp) = true) :
    (v.record code sev cls island stamp loc ps).errors.length = v.errors.length := by
  simp only [Events.record, hmerges, if_true, mergeRecord_length]

variable (hnew : v.errors.any (fun r => mergesWith r code loc stamp) = false)
include hnew

theorem record_length_of_room (hroom : v.errors.length < 4096) :
    (v.record code sev cls island stamp loc ps).errors.length = v.errors.length + 1 := by
  simp only [Events.record, hnew, errorLogSize, hroom, if_true, Bool.false_eq_true, if_false, List.length_append,
    List.length_singleton]

theorem record_of_full_none (hfull : 4096 ≤ v.errors.length) (hnone : v.evict v.errors = none) :
    v.record code sev cls island stamp loc ps = { v with dropped := v.dropped + 1 } := by
  simp only [Events.record, hnew, errorLogSize, Nat.not_lt.mpr hfull, hnone, Bool.false_eq_true, if_false]

theorem record_length_of_full (hfull : 4096 ≤ v.errors.length) :
    (v.record code sev cls island stamp loc ps).errors.length = v.errors.length := by
  cases hevict : v.evict v.errors with
  | none => rw [record_of_full_none sev cls island ps hnew hfull hevict]
  | some rs =>
    simp only [Events.record, hnew, errorLogSize, Nat.not_lt.mpr hfull, hevict, Bool.false_eq_true, if_false, List.length_append,
      List.length_singleton, evict_length hevict]

end record

/-- Settles O51, by `evict_spec`. -/
theorem evictionSparesWaitingAndFatalRecords : Obligations.EvictionSparesWaitingAndFatalRecords := by
  unfold Obligations.EvictionSparesWaitingAndFatalRecords
  exact fun _ _ _ => evict_spec

/-- Settles O50: a record is merged, appended while there is room, and else takes the place of another or is dropped. -/
theorem errorRecordsMergeOrReplace : Obligations.ErrorRecordsMergeOrReplace := by
  unfold Obligations.ErrorRecordsMergeOrReplace
  intro v code sev cls island stamp loc ps hbound
  refine ⟨?_, record_length_of_merges sev cls island ps, record_length_of_room sev cls island ps, fun hnew hfull hnone => ?_⟩
  · cases hmerges : v.errors.any (fun r => mergesWith r code loc stamp) with
    | true => rwa [record_length_of_merges sev cls island ps hmerges]
    | false =>
      rcases Nat.lt_or_eq_of_le hbound with hroom | hfull
      · rw [record_length_of_room sev cls island ps hmerges hroom]
        exact hroom
      · rw [record_length_of_full sev cls island ps hmerges (Nat.le_of_eq hfull.symm)]
        exact hbound
  · rw [record_of_full_none sev cls island ps hnew (Nat.le_of_eq hfull.symm) hnone]
    exact ⟨rfl, rfl⟩

end Sys2Proof.Proofs
end

section
/-! Start-up: the ROM and the field image, training, self-test, the steps of PHASE 4 to service, and the resets of class 6 (R368,
R371, R375, R392, R393, R404, R417, R418, R435, R437, R441, R442). -/

namespace Sys2Proof.Proofs
open Sys2Proof.Machine Sys2Proof.Laws

section startup
variable {s : State}

/-! ### The ROM and the field image (R393, R404, R442) -/

theorem exec_bootRom {lost : List Nat} {bad weak : List (Nat × Nat)} (hstart : s.romMayStart = true) :
    ∃ t : State, exec (.bootRom lost bad weak) s = .next (if Config.romDigestGood s.mason.starts then t.romStages lost bad weak
        else { t with mason.boot := .halted, pcie.linkUp := false, pcie.answers := false }) ∧
      t = { s with mason.starts := s.mason.starts + 1, mason.lastBeat := s.now } :=
  ⟨_, onlyIf_of_true hstart _ _, rfl⟩

theorem exec_fieldImageStart (hruns : s.runs = true) (hchosen : s.mason.boot = .chosen) :
    exec .fieldImageStart s = .next (s.startImage.checkFormat.loadPlans.loadLanes).drainIfFailing :=
  onlyIf_of_true (by rw [hchosen, hruns]; rfl) _ _

/-! ### Training and self-test (R368, R371, R375, R417, R437) -/

theorem exec_dramTraining {t u : State} {dimms : List DimmReport} {headerOk sectionsOk : Bool} (hphase : s.direct.phase = 2)
    (hboot : s.mason.boot = .running) (hfetch : s.fetching = true) (huntrained : s.dram.trained = false)
    (ht : t = State.setPower { ((List.range 12).foldl (fun s c => s.trainChannel dimms c) s).power with selfRefresh := false }
      { (List.range 12).foldl (fun s c => s.trainChannel dimms c) s with dram.trained := true })
    (hu : u = State.validateDump headerOk sectionsOk (State.raise Ev.dramTrained
      (le 2 t.trainedSet ++ le 8 t.dramBytes ++ le 2 (trainedSpeed dimms)) { t with dram.mapped := t.trainedSet })) :
    exec (.dramTraining dimms headerOk sectionsOk) s =
      .next (if u.trainedCount < 4 then u.raise Ev.dramInsufficient (le 1 u.trainedCount) else { u with direct.phase := 3 }) := by
  subst hu ht
  change execDramTraining dimms headerOk sectionsOk s = _
  rw [execDramTraining]
  generalize (List.range 12).foldl (fun s c => s.trainChannel dimms c) s = v
  exact onlyIf_of_true (by rw [hphase, hboot, hfetch, huntrained]; rfl) _ _

theorem exec_selfTest {t : State} {hods hs : List Nat} {ways ws : List (Nat × Nat)} {sram : Bool} {channels cs : List Nat}
    {engines es : List (Nat × Nat)} {lanes ls : List Nat} {n : Nat} (hphase : s.direct.phase = 3) (hfetch : s.fetching = true)
    (hhods : hs = (hods.filter fun h => decide (h < 64)).eraseDups)
    (hways : ws = (ways.filter fun w => decide (w.1 < 1536) && decide (w.2 < 16)).eraseDups)
    (hchannels : cs = (channels.filter fun c => decide (c < 12) && (s.dramChannel c).dimm == .trained).eraseDups)
    (hengines : es = (engines.filter fun e => decide (64 ≤ e.1) && decide (e.1 ≤ 75)).eraseDups)
    (hlanes : ls = (lanes.filter fun l => decide (l < 144)).eraseDups)
    (hcount : n = hs.length + ws.length + boolNat sram + cs.length + es.length + ls.length)
    (ht : t = es.foldl (fun s e => s.failEngine e) (cs.foldl (fun s c => s.failChannel c)
      (ws.foldl (fun s w => s.failWay w) (hs.foldl (fun s h => s.failHod h) s.freed)))) :
    exec (.selfTest hods ways sram channels engines lanes) s =
      .next (State.raise Ev.selfTest (le 4 s.freeNat ++ le 4 n ++ le 1 t.disabledHods.length ++ le 1 es.length)
        { t with
          mason.test := { run := s.freeNat, failed := n, engines := bitmapOf (es.map fun e => engineBit e.1 e.2), lanes := bitmapOf ls, channels := bitmapOf cs }
          footing.startup := t.footing.startup ++ ((if sram then [3] else []) ++ (if 16 < t.disabledHods.length then [4] else []))
          direct.phase := 4 }) := by
  subst hhods hways hchannels hengines hlanes hcount ht
  exact onlyIf_of_true (by rw [hphase, hfetch]; rfl) _ _

/-! ### PHASE 4 (R418) -/

section service
variable (hphase : s.direct.phase = 4) (hfetch : s.fetching = true)
include hphase hfetch

theorem exec_startupService : exec .startupService s = .next (
    if s.wp.logUnits = 0 then s.reserve
    else if s.head.configuration = 0 then s
    else match s.mason.serviceBy with
      | none => s.enableLinks
      | some d => if s.expired d || s.allAttached then s.beginService else s) :=
  onlyIf_of_true (by rw [hphase, hfetch]; rfl) _ _

theorem exec_startupService_reserve (hunreserved : s.wp.logUnits = 0) : exec .startupService s =
    .next { s with wp.logUnits := s.dramBytes / 64 / 65536 * 256, map.area := s.dramBytes / 8 / 2 ^ 30 * 2 ^ 30 } := by
  rw [exec_startupService hphase hfetch, if_pos hunreserved, State.reserve]

variable (hreserved : s.wp.logUnits ≠ 0)
include hreserved

theorem exec_startupService_unconfigured (hnone : s.head.configuration = 0) : exec .startupService s = .next s := by
  rw [exec_startupService hphase hfetch, if_neg hreserved, if_pos hnone]

variable (hconf : s.head.configuration ≠ 0)
include hconf

theorem exec_startupService_links (hnone : s.mason.serviceBy = none) : exec .startupService s = .next s.enableLinks := by
  rw [exec_startupService hphase hfetch, if_neg hreserved, if_neg hconf, hnone]

theorem exec_startupService_begin {d : Nat} (hby : s.mason.serviceBy = some d) :
    exec .startupService s = .next (if d < s.tick ∨ s.allAttached = true then s.beginService else s) := by
  rw [exec_startupService hphase hfetch, if_neg hreserved, if_neg hconf, hby]
  simp only [State.expired, Bool.or_eq_true, decide_eq_true_eq]

end service

/-! ### Resets of class 6 (R392, R435, R441) -/

theorem exec_lockstepMiscompare {memory : Bool} {loc : Nat} (hcore : s.coreRuns = true) (hawake : s.power.selfRefreshing = false) :
    exec (.lockstepMiscompare memory loc) s = .next (s.silentReset (if memory then 7 else 6) loc) :=
  onlyIf_of_true (by rw [hcore, hawake]; rfl) _ _

theorem exec_watchdogExpiry (hcore : s.coreRuns = true) (hawake : s.power.selfRefreshing = false)
    (hlate : s.mason.lastBeat + 100000000 ≤ s.now) : exec .watchdogExpiry s = .next (s.silentReset 8 0) :=
  onlyIf_of_true (by rw [hcore, hawake, decide_eq_true hlate]; rfl) _ _

theorem silentReset_eq {t : State} {cause loc : Nat}
    (ht : t = s.granted.writeSummary { header := s.dumpHeader 4 cause 6 ⟨0, 0, loc, s.now, zeros 32⟩ (s.power.drain != .none || s.power.pdown != .none) }) :
    s.silentReset cause loc = if s.dump.stage != .none || !s.anyTrained then ({ t with mason.halted := true } : State).enterReset s.anyTrained
      else ({ t with mason.halted := true } : State).beginReset := by
  subst ht
  rfl

end startup

/-- Settles O38: one lemma per command past its condition, the steps of PHASE 4 in their order, and what a reset of class 6 is. -/
theorem startupActs : Obligations.StartupActs := by
  unfold Obligations.StartupActs
  exact ⟨fun _ _ _ _ => exec_bootRom, fun _ => exec_fieldImageStart, fun _ _ _ _ hphase hboot hfetch huntrained => ⟨_, _, exec_dramTraining hphase hboot hfetch huntrained rfl rfl, rfl, rfl⟩,
    fun _ _ _ _ _ _ _ _ _ _ _ _ _ _ => exec_selfTest, fun _ => exec_startupService_reserve,
    fun _ => exec_startupService_unconfigured, fun _ => exec_startupService_links,
    fun _ _ hphase hfetch hreserved hconf => exec_startupService_begin hphase hfetch hreserved hconf,
    fun _ _ _ => exec_lockstepMiscompare, fun _ => exec_watchdogExpiry, fun _ _ _ _ => silentReset_eq⟩

end Sys2Proof.Proofs
end

section
/-! The packets of the Vault: status and reading, protection levels and the lowering erase, weak blocks and the LOG, updates and
image slots, and the settings (R396 to R402, R405, R408, R409, R411, R412, R422). -/

namespace Sys2Proof.Proofs
open Sys2Proof.Machine Sys2Proof.Laws

/-- The update that an update_id names is the open one. -/
theorem openSlot_of_updateSlot {s : State} {id slot : Nat} (hslot : s.updateSlot id = some slot) : s.openSlot = some slot := by
  rw [State.updateSlot] at hslot
  split at hslot
  · exact hslot
  · cases hslot

@[simp] theorem writeBoot_vault_images (f : BootRecord → BootRecord) (s : State) :
    (s.writeBoot f).vault.images = s.vault.images := by
  rw [State.writeBoot]; split <;> rfl

@[simp] theorem writeBoot_vault_summaries (f : BootRecord → BootRecord) (s : State) :
    (s.writeBoot f).vault.summaries = s.vault.summaries := by
  rw [State.writeBoot]; split <;> rfl

section packets
variable {s : State} {op : PktOp} {p : Packet}

/-! ### Status and reading (R396, R400, R422) -/

theorem exec_vaultStatus (ht : s.takes op 0x0B00 p) : exec (.vaultStatus op) s = .next (s.reply p St.ok 0
    (le 1 s.bootRec.level ++ le 1 s.bootRec.lowerPending ++ le 1 s.bootRec.active ++ le 1 s.bootRec.pending ++ le 1 s.bootRec.attempts ++
      s.bootRec.slots.flatMap (le 1) ++ le 1 s.bootRec.revoked ++ le 4 s.bootRec.floor ++ s.bootRec.versions.flatMap (le 4) ++
      le 2 ((s.vault.format? []).getD 0) ++ le 2 s.vault.spares ++ le 2 s.vault.grownBad ++ le 2 Config.factoryBadBlocks ++
      le 4 s.vault.logErased ++ le 4 (s.vault.erases.vals.foldl max 0) ++ le 4 s.vault.warnings ++ le 4 s.bootRec.updateId ++
      le 2 s.heldChunks.length ++ zeros 14)) := by
  change execVaultStatus op s = _
  rw [execVaultStatus]
  exact packetRun_takes ht _

section read
variable (ht : s.takes op 0x0B01 p)
include ht

theorem exec_vaultRead_lowering {bad : List Nat} {weak : List (Nat × Nat)} (hlowering : s.mason.lowering = true) :
    exec (.vaultRead op bad weak) s = .next (s.fail p St.vaultBusy) := by
  change execVaultRead op bad weak s = _
  rw [execVaultRead, vaultRun, packetRun_takes ht, if_pos hlowering]

variable (hidle : s.mason.lowering = false)
include hidle

theorem exec_vaultRead_protected {bad : List Nat} {weak : List (Nat × Nat)} (hprotected : readable (p.f 0 1) s.bootRec.level = false) :
    exec (.vaultRead op bad weak) s = .next (s.fail p St.vaultProtected) := by
  change execVaultRead op bad weak s = _
  rw [execVaultRead, vaultRun_takes ht hidle]
  simp only [hprotected, Bool.not_false, if_true]

theorem exec_vaultRead_clean (hreadable : readable (p.f 0 1) s.bootRec.level = true)
    (hinside : p.f 4 8 + p.dataLen ≤ 64 * (partitionSpan (p.f 0 1)).2 * 4096) :
    exec (.vaultRead op [] []) s = .next (s.reply p St.ok 0
      (fit p.dataLen (((List.range ((p.dataLen + 4095) / 4096)).map (p.f 4 8 / 4096 + ·)).flatMap (s.vaultPage (p.f 0 1))))) := by
  change execVaultRead op [] [] s = _
  rw [execVaultRead, vaultRun_takes ht hidle]
  have hnone (l : List Nat) : l.find? (fun k => ([] : List Nat).contains k) = none := List.find?_eq_none.mpr (by simp)
  simp only [hreadable, Nat.not_lt.mpr hinside, hnone, Bool.not_true, Bool.false_eq_true, if_false, List.filter_nil, List.foldl_nil]

end read

/-! ### Protection levels and the lowering erase (R400, R401) -/

theorem exec_vaultProtectRaise (ht : s.takes op 0x0B02 p) (hidle : s.mason.lowering = false) (hprogram : s.canProgram = true)
    (hlevel : s.bootRec.level ≤ p.f 0 1) : exec (.vaultProtectRaise op) s = .next (if p.f 0 1 = s.bootRec.level then s.replyOk p else
      ((s.writeBoot fun b => { b with level := p.f 0 1 }).raise Ev.vaultProtection (le 1 s.bootRec.level ++ le 1 (p.f 0 1))).replyOk p) := by
  change execVaultProtectRaise op s = _
  rw [execVaultProtectRaise, vaultRun_takes ht hidle]
  simp only [Nat.not_lt.mpr hlevel, hprogram, decide_false, Bool.not_true, Bool.or_false, Bool.false_eq_true, if_false]

theorem exec_vaultProtectLower (ht : s.takes op 0x0B02 p) (hidle : s.mason.lowering = false) (hready : s.vaultReady = true)
    (hlower : p.f 0 1 < s.bootRec.level) (hmagic : p.f 1 1 = 0xA5) :
    exec (.vaultProtectLower op) s = .next (State.replyOk p (State.raise Ev.vaultProtection (le 1 s.bootRec.level ++ le 1 (p.f 0 1))
      { s.abortUpdate.writeBoot fun b => { b with lowerPending := p.f 0 1 } with mason.lowering := true })) := by
  change execVaultProtectLower op s = _
  rw [execVaultProtectLower, vaultRun_takes ht hidle]
  simp only [Nat.not_le.mpr hlower, hready, hmagic, decide_false, Bool.not_true, Bool.or_false, Bool.false_eq_true, if_false, ne_eq,
    not_true_eq_false]

theorem exec_vaultLoweringComplete (hlowering : s.mason.lowering = true) (hready : s.vaultReady = true) :
    exec .vaultLoweringComplete s = .next s.completeLowering :=
  onlyIf_of_true (by rw [hlowering, hready]; rfl) _ _

/-- The end of the lowering erase in any state `t`, so that the 2,048 erases before it are never computed. -/
theorem mason_of_lowered {m : Mason} {t : State} {f : BootRecord → BootRecord}
    (hm : m = ({ (t.updVault fun v => { v with images := [{}, {}], summaries := [] }).writeBoot f with mason.lowering := false } : State).mason) :
    m.lowering = false ∧ m.vault.images = [{}, {}] ∧ m.vault.summaries = [] := by
  subst hm
  exact ⟨rfl, writeBoot_vault_images _ _, writeBoot_vault_summaries _ _⟩

theorem completeLowering_spec (s : State) : s.completeLowering.mason.lowering = false ∧
    s.completeLowering.vault.images = [{}, {}] ∧ s.completeLowering.vault.summaries = [] := by
  rw [State.completeLowering, State.vault, raise_mason]
  exact mason_of_lowered rfl

/-! ### Weak blocks and the LOG (R396, R397, R399) -/

section weak
variable {l : Nat} {rest : List Nat} (hweak : s.vault.weak = l :: rest)
include hweak

theorem exec_vaultWeakBlockCopy_factory (hfactory : l < 16) :
    exec .vaultWeakBlockCopy s = .next (s.updVault fun v => { v with weak := rest }) := by
  change execVaultWeakBlockCopy s = _
  simp only [execVaultWeakBlockCopy, hweak, hfactory, if_true]

theorem exec_vaultWeakBlockCopy {n : Nat} {v : Vault} (hcopied : 16 ≤ l) (hspare : s.vault.takeSpare = some (n, v))
    (hready : s.vaultReady = true) : ∃ t, exec .vaultWeakBlockCopy s = .next t ∧ t.vault.weak = rest ∧ t.vault.phys l = n ∧
      s.vault.phys l ∈ t.vault.returned := by
  change ∃ t, execVaultWeakBlockCopy s = .next t ∧ _
  simp only [execVaultWeakBlockCopy, hweak, Nat.not_lt.mpr hcopied, hspare, if_false]
  refine ⟨_, onlyIf_of_true hready _ _, rfl, ?_, List.mem_append_right _ List.mem_cons_self⟩
  exact tab_getD_set_self _ _ _ _

end weak

theorem exec_logBlockReclaim {b c : LogBlock} {rest : List LogBlock} (hlog : s.vault.log = b :: c :: rest)
    (hfew : s.vault.logErased < 64) (hready : s.vaultReady = true)
    (hdue : ∀ t, s.vault.lastReclaim = some t → t + 100000000 ≤ s.now) :
    exec .logBlockReclaim s = .next ((((s.vault.kept b).foldl (fun s r => s.copyRecord r)
      (s.updVault fun v => { v with log := c :: rest })).vaultErase (logFirst + b.block)).updVault fun v => { v with lastReclaim := some s.now }) := by
  change execLogBlockReclaim s = _
  simp only [execLogBlockReclaim, hlog]
  refine onlyIf_of_true ?_ _ _
  cases hlast : s.vault.lastReclaim with
  | none => simp only [hfew, hready, decide_true, Bool.and_self]
  | some t => simp only [hfew, hready, hdue t hlast, decide_true, Bool.and_self]

/-! ### Updates (R405, R408, R409, R411, R422) -/

section update
variable (hidle : s.mason.lowering = false)
include hidle

theorem exec_updateOpen_again {n : Nat} (ht : s.takes op 0x0B03 p) (hopen : s.openSlot = some n) (hgrant : s.digest.grant34 = none) :
    exec (.updateOpen op) s = .next (if s.bootRec.digest = fit 32 (sha 1 (p.buffer op)) then
      s.reply p St.ok (openResult (s.image n).held.length s.bootRec.updateId) [] else s.fail p St.updateOpen) := by
  have hkept (st res : Nat) : (s.reply p st res []).noOpen p = s.reply p st res [] := by
    simp [State.noOpen, hgrant]
  change execUpdateOpen op s = _
  rw [execUpdateOpen, vaultRun_takes ht hidle]
  simp only [hopen, State.fail, hkept]

theorem exec_updateOpen_new {slot : Nat} (ht : s.takes op 0x0B03 p) (hclosed : s.openSlot = none)
    (hslot : slot = (if p.f 0 1 = 0xFF then (if s.bootRec.active = 0 then 1 else 0) else p.f 0 1)) (hunused : s.slotInUse slot = false)
    (hmanifest : manifestFault (p.buffer op) (p.buffer op).length = none) (hplain : manifestEncrypted (p.buffer op) = false)
    (hpolicy : s.bootRec.level ≠ 2) (hfree : (s.chan 34).state = .free) (huntaken : s.digest.taken34 = false)
    (hready : s.vaultReady = true) : exec (.updateOpen op) s = .next (s.openUpdate slot (p.buffer op) p) := by
  change execUpdateOpen op s = _
  rw [execUpdateOpen, vaultRun_takes ht hidle]
  simp only [hclosed, ← hslot, hunused, hmanifest, hplain, hfree, huntaken, hready, beq_eq_false_iff_ne.mpr hpolicy, bne_self_eq_false,
    Bool.false_and, Bool.and_false, Bool.not_false, Bool.or_self, Bool.false_eq_true, if_false, if_true]

theorem exec_updateChunk_unknown {failure : Nat} (ht : s.takes op 0x0B04 p) (hunknown : s.updateSlot (p.f 0 4) = none) :
    exec (.updateChunk op failure) s = .next (s.fail p St.updateUnknown) := by
  change execUpdateChunk op failure s = _
  rw [execUpdateChunk, vaultRun_takes ht hidle]
  simp only [hunknown]

theorem exec_updateChunk_taken {failure slot : Nat} {plain : List Byte} (ht : s.takes op 0x0B04 p)
    (hslot : s.updateSlot (p.f 0 4) = some slot) (hindex : p.f 4 2 < chunkCount (s.image slot).manifest)
    (hlength : p.dataLen = chunkLen (s.image slot).manifest (p.f 4 2) + (if manifestEncrypted (s.image slot).manifest then 16 else 0))
    (hmissing : (s.image slot).holds (p.f 4 2) = false)
    (hplain : chunkPlain (s.image slot).manifest (p.f 4 2) (p.buffer op) = some plain)
    (hdigest : fit 32 (sha 1 plain) = slice (s.image slot).manifest (384 + 32 * p.f 4 2) 32) (hready : s.vaultReady = true)
    (hwritten : (s.writeBlock (imageBlock slot + 1 + p.f 4 2) failure).1 = true) :
    exec (.updateChunk op failure) s = .next (((s.writeBlock (imageBlock slot + 1 + p.f 4 2) failure).2.updImage slot fun x =>
      { x with chunks := x.chunks.set (p.f 4 2) { data := plain, mac := sealOf (s.image slot).manifest (p.f 4 2) plain } }).replyOk p) := by
  change execUpdateChunk op failure s = _
  rw [execUpdateChunk, vaultRun_takes ht hidle]
  simp only [hslot, Nat.not_le.mpr hindex, ← hlength, hmissing, hplain, hdigest, hready, hwritten, ne_eq, not_true_eq_false, Bool.not_true,
    Bool.false_eq_true, if_false, if_true]

theorem exec_updateStatus (ht : s.takes op 0x0B05 p) : exec (.updateStatus op) s = .next (s.reply p St.ok 0
    (le 4 s.bootRec.updateId ++ le 1 (s.openSlot.getD 0xFF) ++ zeros 1 ++ le 2 ((s.openSlot.map fun n => chunkCount (s.image n).manifest).getD 0) ++
      le 2 s.heldChunks.length ++ zeros 6 ++ le 64 ((s.heldChunks.map fun i => 2 ^ i).sum))) := by
  change execUpdateStatus op s = _
  rw [execUpdateStatus, vaultRun_takes ht hidle]
  cases s.openSlot <;> rfl

theorem exec_updateClose {slot : Nat} {t : State} (ht : s.takes op 0x0B06 p) (hslot : s.updateSlot (p.f 0 4) = some slot)
    (hwhole : chunkCount (s.image slot).manifest ≤ (s.image slot).held.length) (hprogram : s.canProgram = true)
    (hclosed : t = { s with mason.vault.boot := { s.bootRec.setSlot slot 2 with pending := slot, attempts := 0, seq := s.bootRec.seq + 1 }, mason.closedUpdate := s.direct.recoveryBoot }) :
    exec (.updateClose op) s = .next (State.replyOk p (State.raise Ev.updateClosed
      (le 4 t.bootRec.updateId ++ le 1 slot ++ le 4 (t.bootRec.versions.getD slot 0)) t.release34)) := by
  subst hclosed
  change execUpdateClose op s = _
  rw [execUpdateClose, vaultRun_takes ht hidle]
  simp only [hslot, Nat.sub_eq_zero_of_le hwhole, hprogram, State.writeBoot, ne_eq, not_true_eq_false, Bool.not_true,
    Bool.false_eq_true, if_false, if_true]
  rfl

theorem exec_updateClose_incomplete {slot : Nat} (ht : s.takes op 0x0B06 p) (hslot : s.updateSlot (p.f 0 4) = some slot)
    (hmissing : (s.image slot).held.length < chunkCount (s.image slot).manifest) : exec (.updateClose op) s =
      .next (s.reply p St.updateIncomplete (chunkCount (s.image slot).manifest - (s.image slot).held.length) []) := by
  change execUpdateClose op s = _
  rw [execUpdateClose, vaultRun_takes ht hidle]
  simp only [hslot, ne_eq, Nat.sub_ne_zero_of_lt hmissing, not_false_eq_true, if_true]

theorem exec_updateAbort {slot : Nat} (ht : s.takes op 0x0B07 p) (hslot : s.updateSlot (p.f 0 4) = some slot)
    (hprogram : s.canProgram = true) :
    exec (.updateAbort op) s = .next (State.replyOk p (s.writeBoot fun b => b.setSlot slot 0).release34) := by
  change execUpdateAbort op s = _
  rw [execUpdateAbort, vaultRun_takes ht hidle]
  simp only [hslot, hprogram, if_true, State.abortUpdate, openSlot_of_updateSlot hslot]

/-! ### Image slots and the settings (R398, R412, R422) -/

/-- With no update open, no release of its channel comes between the boot control record and the event. -/
theorem exec_imageConfirm (ht : s.takes op 0x0B08 p) (hphase : s.direct.phase = 5) (htrial : s.bootRec.slot s.mason.slot = 3)
    (hprogram : s.canProgram = true) (hclosed : s.openSlot = none) :
    exec (.imageConfirm op) s = .next (State.replyOk p (State.raise Ev.imageConfirmed
      (le 1 s.mason.slot ++ le 4 ((s.bootRec.confirmed s.mason.slot (s.image s.mason.slot).manifest).versions.getD s.mason.slot 0) ++
        le 4 (s.bootRec.confirmed s.mason.slot (s.image s.mason.slot).manifest).floor ++
        le 1 (s.bootRec.confirmed s.mason.slot (s.image s.mason.slot).manifest).revoked)
      (s.writeBoot fun b => b.confirmed s.mason.slot (s.image s.mason.slot).manifest))) := by
  change execImageConfirm op s = _
  rw [execImageConfirm, vaultRun_takes ht hidle]
  simp only [hphase, htrial, hprogram, hclosed, State.writeBoot, ne_eq, not_true_eq_false, Bool.not_true, Option.isSome_none,
    Bool.false_and, Bool.false_eq_true, if_false, if_true]
  rfl

theorem exec_imageSelect (ht : s.takes op 0x0B09 p) (hprogram : s.canProgram = true) : exec (.imageSelect op) s =
    .next (if s.bootRec.slot (p.f 0 1) = 4 then (s.writeBoot fun b => { b with pending := p.f 0 1 }).replyOk p
      else s.fail p St.slotState) := by
  change execImageSelect op s = _
  rw [execImageSelect, vaultRun_takes ht hidle]
  simp only [hprogram, Bool.not_true, Bool.false_eq_true, if_false, ne_eq, ite_not]

theorem exec_settingsReset (ht : s.takes op 0x0B0A p) :
    exec (.settingsReset op) s = .next ((s.updVault fun v => { v with resetSettings := true }).replyOk p) := by
  change execSettingsReset op s = _
  rw [execSettingsReset]
  exact vaultRun_takes ht hidle _

end update

end packets

/-- Settles O41: one lemma per packet and outcome past its checks, what the lowering erase leaves, weak blocks and the LOG. -/
theorem vaultPacketsAct : Obligations.VaultPacketsAct := by
  unfold Obligations.VaultPacketsAct
  exact ⟨fun _ _ _ => exec_vaultStatus, fun _ _ _ _ _ ht => exec_vaultRead_lowering ht, fun _ _ _ => exec_vaultRead_clean,
    fun _ _ _ _ _ ht hidle => exec_vaultRead_protected ht hidle, fun _ _ _ => exec_vaultProtectRaise, fun _ _ _ => exec_vaultProtectLower,
    fun _ => exec_vaultLoweringComplete, completeLowering_spec, fun _ _ _ => exec_vaultWeakBlockCopy_factory,
    fun _ _ _ _ _ hweak => exec_vaultWeakBlockCopy hweak, fun _ _ _ _ => exec_logBlockReclaim,
    fun _ _ _ _ ht hidle => exec_updateOpen_again hidle ht, fun _ _ _ _ ht hidle => exec_updateOpen_new hidle ht,
    fun _ _ _ _ _ _ ht hidle => exec_updateChunk_taken hidle ht, fun _ _ _ _ ht hidle => exec_updateChunk_unknown hidle ht,
    fun _ _ _ ht hidle => exec_updateStatus hidle ht, fun _ _ _ _ _ ht hidle => exec_updateClose hidle ht,
    fun _ _ _ _ ht hidle => exec_updateClose_incomplete hidle ht, fun _ _ _ _ ht hidle => exec_updateAbort hidle ht,
    fun _ _ _ ht hidle => exec_imageConfirm hidle ht, fun _ _ _ ht hidle => exec_imageSelect hidle ht,
    fun _ _ _ ht hidle => exec_settingsReset hidle ht⟩

end Sys2Proof.Proofs
end

section
/-! The rubble dump from its fault to the fatal reset, the packets of class 0x0C and footing mode (R429, R430, R434, R435, R438,
R440, R447, R448, R451, R453). -/

namespace Sys2Proof.Proofs
open Sys2Proof.Machine Sys2Proof.Laws

section dump
variable {s : State}

/-! ### The rubble dump (R434, R435, R438, R440) -/

theorem exec_rubbleDump {f : FatalFault} (hfault : s.dump.fault = some f) (hidle : s.dump.stage = .none)
    (hup : s.power.internalReset = false) : exec .rubbleDump s = .next (s.startDump f) := by
  change execRubbleDump s = _
  simp only [execRubbleDump, hfault]
  exact onlyIf_of_true (by rw [hidle, hup]; rfl) _ _

/-- The ring falls silent with its bypass; the drain is as it was. -/
theorem silence_spec (s : State) : s.silence.head.joined = false ∧ s.silence.power.drain = s.power.drain := by
  simp only [State.silence, State.setBypass]
  split <;> exact ⟨rfl, rfl⟩

theorem startDump_spec (s : State) (f : FatalFault) : (s.startDump f).direct.phase = 9 ∧ (s.startDump f).dump.stage = .copying ∧
    (s.startDump f).dump.state = 1 ∧ (s.startDump f).power.drain = .none ∧ (s.startDump f).head.joined = false := by
  exact ⟨rfl, rfl, rfl, (silence_spec _).2, (silence_spec _).1⟩

theorem exec_dumpSectionsCopied {m : DumpImage} {faults : List (Nat × Nat)} {failed : List Nat} {h : DumpHeader}
    (himage : s.dump.image = some m) (hcopying : s.dump.stage = .copying) (hup : s.power.internalReset = false)
    (hheader : h = m.header.ended failed s.dump.second s.now) :
    exec (.dumpSectionsCopied faults failed) s = .next { s.granted with
      dump := { s.dump with stage := .copied, state := if failed = [] then 2 else 3, size := h.dumpSize, image := some (s.granted.dumpImage h faults failed) } } := by
  have hstate : h.state = if failed = [] then 2 else 3 := by simp only [hheader, DumpHeader.ended, List.isEmpty_iff]
  rw [← hstate]
  subst hheader
  change execDumpSectionsCopied faults failed s = _
  simp only [execDumpSectionsCopied, himage]
  exact onlyIf_of_true (by rw [hcopying, hup]; rfl) _ _

theorem exec_vaultSummaryWritten {m : DumpImage} {t : State} (himage : s.dump.image = some m) (hcopied : s.dump.stage = .copied)
    (hup : s.power.internalReset = false) (hawake : s.power.selfRefreshing = false)
    (ht : t = s.writeSummary { header := m.header, image := some m }) : exec .vaultSummaryWritten s =
      .next (State.beginReset { t with dump := { t.dump with vaultSummary := s.canErase && s.canProgram } }) := by
  subst ht
  change execVaultSummaryWritten s = _
  simp only [execVaultSummaryWritten, himage]
  exact onlyIf_of_true (by rw [hcopied, hup, hawake]; rfl) _ _

end dump

section packets
variable {s : State} {op : PktOp} {p : Packet}

/-! ### Reports (R429, R453) -/

theorem exec_faultStatus (ht : s.takes op 0x0C00 p) : exec (.faultStatus op) s = .next (s.reply p St.ok 0
    (le 1 s.run.lastCause ++ le 1 (if s.footing.active then s.footing.cause else 0) ++ le 1 (boolNat s.footing.active) ++ zeros 1 ++
      le 4 s.events.errors.length ++ le 2 (s.events.errors.filter fun r => r.severity == 3).length ++ zeros 2 ++ le 8 s.events.dropped ++
      le 8 ((s.heldDump.map fun m => m.header.seq).getD 0) ++ le 1 s.dump.state ++ le 1 s.validSummaries.length ++ le 1 s.recentFatal ++ zeros 5 ++
      le 8 s.lastFatalStamp ++ zeros 16)) := by
  change execFaultStatus op s = _
  rw [execFaultStatus]
  exact packetRun_takes ht _

theorem exec_errorLogRead (ht : s.takes op 0x0C01 p) : exec (.errorLogRead op) s = .next (s.reply p St.ok
    ((s.events.errors.drop (p.f 0 2)).take (p.f 2 2)).length (((s.events.errors.drop (p.f 0 2)).take (p.f 2 2)).flatMap ErrorRecord.bytes)) := by
  change execErrorLogRead op s = _
  rw [execErrorLogRead]
  exact packetRun_takes ht _

theorem exec_dumpSummaryList (ht : s.takes op 0x0C04 p) :
    exec (.dumpSummaryList op) s = .next (s.reply p St.ok 0 ((List.range 64).flatMap s.summaryEntry)) := by
  change execDumpSummaryList op s = _
  rw [execDumpSummaryList]
  exact packetRun_takes ht _

/-! ### What is cleared (R430, R453) -/

theorem exec_errorLogClear {rs : List ErrorRecord} (ht : s.takes op 0x0C02 p)
    (hleft : rs = (s.events.errors.filter fun r => decide (p.f 0 8 < r.lastStamp) || s.events.waits r)) :
    exec (.errorLogClear op) s = .next (State.replyOk p { s with events := { s.events with
      errors := rs, highRaised := s.events.highRaised && decide (2048 ≤ rs.length) } }) := by
  subst hleft
  change execErrorLogClear op s = _
  rw [execErrorLogClear]
  exact packetRun_takes ht _

theorem exec_dumpClear_held {m : DumpImage} (ht : s.takes op 0x0C03 p) (hheld : s.heldDump = some m) (hseq : m.header.seq = p.f 0 8) :
    exec (.dumpClear op) s = .next (State.replyOk p (State.raise Ev.dumpCleared (le 8 m.header.seq)
      { s with dump := { s.dump with state := 0, vaultSummary := false, size := 0, wiped := true } })) := by
  change execDumpClear op s = _
  rw [execDumpClear, packetRun_takes ht]
  simp only [hheld, hseq, ne_eq, not_true_eq_false, if_false]

theorem exec_dumpClear_none (ht : s.takes op 0x0C03 p) (hnone : s.heldDump = none) :
    exec (.dumpClear op) s = .next (s.fail p St.dumpNone) := by
  change execDumpClear op s = _
  rw [execDumpClear, packetRun_takes ht]
  simp only [hnone]

/-! ### Footing mode and injected faults (R447, R448, R451, R453) -/

theorem exec_footingEnter (ht : s.takes op 0x0C05 p) : exec (.footingEnter op) s = .next (if p.f 0 1 = 0xA5 then (s.enterFooting 5).replyOk p
    else s.failField p St.invalidField 0) := by
  change execFootingEnter op s = _
  rw [execFootingEnter, packetRun_takes ht]
  simp only [ne_eq, ite_not]

theorem exec_footingExit_active (ht : s.takes op 0x0C06 p) (hactive : s.footing.active = true) (hends : s.footingMayEnd = true) :
    exec (.footingExit op) s = .next (s.leaveFooting.replyOk p) := by
  change execFootingExit op s = _
  rw [execFootingExit, packetRun_takes ht]
  simp only [hactive, hends, Bool.not_true, Bool.false_eq_true, if_false]

theorem exec_footingExit_idle (ht : s.takes op 0x0C06 p) (hidle : s.footing.active = false) :
    exec (.footingExit op) s = .next (s.fail p St.notFooting) := by
  change execFootingExit op s = _
  rw [execFootingExit, packetRun_takes ht]
  simp only [hidle, Bool.not_false, if_true]

theorem exec_faultInject (ht : s.takes op 0x0C07 p) (hallowed : s.bootRec.level = 0 ∨ s.power.bootMode = 2) :
    exec (.faultInject op) s = .next (State.replyOk p { s with run := { s.run with inject := some (p.f 0 1, p.f 1 1) } }) := by
  have hpermitted : (decide (s.bootRec.level ≠ 0) && decide (s.power.bootMode ≠ 2)) = false := by
    rcases hallowed with h | h <;> simp [h]
  change execFaultInject op s = _
  rw [execFaultInject, packetRun_takes ht]
  simp only [hpermitted, Bool.false_eq_true, if_false]

end packets

/-- Settles O42: the dump from its fault to its reset, then one lemma per packet and outcome. -/
theorem faultPacketsAct : Obligations.FaultPacketsAct := by
  unfold Obligations.FaultPacketsAct
  exact ⟨fun _ _ => exec_rubbleDump, startDump_spec, fun _ _ _ _ _ => exec_dumpSectionsCopied, fun _ _ _ => exec_vaultSummaryWritten,
    fun _ _ _ => exec_faultStatus, fun _ _ _ => exec_errorLogRead, fun _ _ _ _ => exec_errorLogClear, fun _ _ _ _ => exec_dumpClear_held,
    fun _ _ _ => exec_dumpClear_none, fun _ _ _ => exec_dumpSummaryList, fun _ _ _ => exec_footingEnter,
    fun _ _ _ => exec_footingExit_active, fun _ _ _ => exec_footingExit_idle, fun _ _ _ => exec_faultInject⟩

end Sys2Proof.Proofs
end

section
/-! The queue of waiting commands, and a state just reset. -/

namespace Sys2Proof.Proofs
open Sys2Proof.Machine

/-- Settles O43: the branch of `step` for a queue with a front. -/
theorem stepRunsFront : Obligations.StepRunsFront := fun _ _ _ => rfl

/-- Settles O46: at reset both lists are empty. -/
theorem invariantAtReset : Obligations.InvariantAtReset := ⟨Nat.zero_le _, Nat.zero_le _⟩

end Sys2Proof.Proofs
end

section
/-! The event backlog: an event entered in a backlog with room, and the three cases of a full one (R88). -/

namespace Sys2Proof.Proofs
open Sys2Proof.Machine

/-- What is dropped is the oldest minor event: every older one is severer. -/
theorem dropMinor_append_cons {before : List Event} {m : Event} (after : List Event) (hbefore : ∀ x ∈ before, 2 ≤ x.severity)
    (hminor : m.severity < 2) : dropMinor (before ++ m :: after) = before ++ after := by
  induction before with
  | nil => simp [dropMinor, hminor]
  | cons e es ih =>
    obtain ⟨he, hes⟩ := List.forall_mem_cons.mp hbefore
    simp [dropMinor, Nat.not_lt.mpr he, ih hes]

section enqueue
variable {v : Events} {e : Event}

theorem enqueue_of_room (hroom : v.backlog.length < 1024) : v.enqueue e = { v with backlog := v.backlog ++ [e] } := by
  simp only [Events.enqueue, backlogLimit, hroom, if_true]

variable (hfull : 1024 ≤ v.backlog.length)
include hfull

theorem enqueue_of_full_minor (hminor : e.severity < 2) : v.enqueue e = v.lose := by
  simp only [Events.enqueue, backlogLimit, Nat.not_lt.mpr hfull, if_false, hminor, if_true]

variable (hsevere : 2 ≤ e.severity)
include hsevere

theorem enqueue_of_full_displaced (hany : (v.backlog.any fun x => decide (x.severity < 2)) = true) :
    v.enqueue e = { v.lose with backlog := dropMinor v.backlog ++ [e] } := by
  simp only [Events.enqueue, backlogLimit, Nat.not_lt.mpr hfull, if_false, Nat.not_lt.mpr hsevere, hany, if_true]

theorem enqueue_of_full_lost (hnone : (v.backlog.any fun x => decide (x.severity < 2)) = false) : v.enqueue e = v.lose := by
  simp only [Events.enqueue, backlogLimit, Nat.not_lt.mpr hfull, if_false, Nat.not_lt.mpr hsevere, hnone, Bool.false_eq_true]

end enqueue

/-- Settles O49: room, a minor event, a severe one that displaces, and a severe one with nothing to displace. -/
theorem fullBacklogLosesOrDisplaces : Obligations.FullBacklogLosesOrDisplaces := by
  unfold Obligations.FullBacklogLosesOrDisplaces
  refine ⟨fun v e => enqueue_of_room, fun v e hfull hminor => ?minor,
    fun v e m before after hfull hsevere hsplit hm hbefore => ?displaced, fun v e hfull hsevere hall => ?lost⟩
  case minor =>
    rw [enqueue_of_full_minor hfull hminor]
    exact ⟨rfl, rfl, rfl⟩
  case displaced =>
    have hany : (v.backlog.any fun x => decide (x.severity < 2)) = true :=
      List.any_eq_true.mpr ⟨m, by simp [hsplit], decide_eq_true hm⟩
    rw [enqueue_of_full_displaced hfull hsevere hany, hsplit, dropMinor_append_cons after hbefore hm]
    exact ⟨rfl, rfl, rfl⟩
  case lost =>
    have hnone : (v.backlog.any fun x => decide (x.severity < 2)) = false :=
      List.any_eq_false.mpr fun x hx => by simp [Nat.not_lt.mpr (hall x hx)]
    rw [enqueue_of_full_lost hfull hsevere hnone]
    exact ⟨rfl, rfl⟩

end Sys2Proof.Proofs
end

section
/-! When a fetched packet starts and takes effect (R82, R84, R85). -/

namespace Sys2Proof.Proofs
open Sys2Proof.Machine

theorem startedIn_cons (p : Packet) (ps : List Packet) :
    startedIn (p :: ps) = if p.ordered then [p] else p :: (ps.takeWhile fun q => !q.ordered) := rfl

/-- Only the first of the packets in slot order can be an ordered one that has started; it starts alone. -/
theorem startedIn_of_ordered {l : List Packet} {p : Packet} (hp : p ∈ startedIn l) (hordered : p.ordered = true) :
    startedIn l = [p] ∧ l.head? = some p := by
  cases l with
  | nil => cases hp
  | cons q qs =>
    rw [startedIn_cons] at hp ⊢
    split at hp
    next hq =>
      obtain rfl := List.mem_singleton.mp hp
      exact ⟨if_pos hq, rfl⟩
    next hq =>
      rcases List.mem_cons.mp hp with rfl | hrest
      · exact absurd hordered hq
      · have := List.mem_takeWhile_imp hrest
        simp [hordered] at this

/-- An ordered packet that is not the first ends what has started. -/
theorem mem_before_of_mem_startedIn {before after : List Packet} {q p : Packet} (hordered : q.ordered = true) (hbefore : before ≠ [])
    (hp : p ∈ startedIn (before ++ q :: after)) : p ∈ before := by
  cases before with
  | nil => exact absurd rfl hbefore
  | cons b bs =>
    rw [List.cons_append, startedIn_cons] at hp
    split at hp
    next => exact List.mem_cons.mpr (.inl (List.mem_singleton.mp hp))
    next =>
      refine List.mem_cons.mpr ((List.mem_cons.mp hp).imp_right fun hrest => ?_)
      rw [List.takeWhile_append] at hrest
      split at hrest
      · simpa [hordered] using hrest
      · exact List.takeWhile_subset _ hrest

/-- Settles O52. -/
theorem orderedPacketsStartAlone : Obligations.OrderedPacketsStartAlone := by
  unfold Obligations.OrderedPacketsStartAlone
  exact ⟨fun _ _ => startedIn_of_ordered, fun _ _ _ _ => mem_before_of_mem_startedIn⟩

/-- A packet is first on its object when no other on it stands before it. -/
theorem not_onObject_of_firstOnObject {s : State} {p q : Packet} {o : Obj} (hfirst : s.firstOnObject p = true) (hq : q ∈ s.started)
    (hqueued : q.queued = false) (hstands : q.acc < p.acc ∨ (q.waiting = true ∧ q.acc ≠ p.acc)) (ho : p.object = some o) :
    q.object ≠ some o := by
  simp only [State.firstOnObject, ho, Bool.not_eq_true', List.any_eq_false] at hfirst
  simpa [hqueued, hstands] using hfirst q hq

/-- Settles O53: what `State.ready` looks up and checks, and `not_onObject_of_firstOnObject`. -/
theorem readyPacketIsFirstOnItsObject : Obligations.ReadyPacketIsFirstOnItsObject := by
  unfold Obligations.ReadyPacketIsFirstOnItsObject
  intro s op opcode p hready
  unfold State.ready at hready
  split at hready
  next => cases hready
  next r hfound =>
    obtain ⟨hchecked, hpr⟩ := Option.ite_none_right_eq_some.mp hready
    obtain rfl := Option.some.inj hpr
    simp only [Bool.and_eq_true, beq_iff_eq, Bool.not_eq_true'] at hchecked
    obtain ⟨⟨⟨hopcode, hwaiting⟩, -⟩, hfirst⟩ := hchecked
    have hacc : r.acc = op.acc := by simpa using List.find?_some hfound
    exact ⟨List.mem_of_find?_eq_some hfound, hacc, hopcode, hwaiting,
      fun q hq hqueued hstands o ho => not_onObject_of_firstOnObject hfirst hq hqueued hstands ho⟩

end Sys2Proof.Proofs
end

section
/-! The ranks of the keystone arbiters under a priority register (R90, R381). -/

namespace Sys2Proof.Proofs
open Sys2Proof.Machine

/-- A promotion concerns ranks 2 to 7 alone, and ranks 0 and 1 need no enable. -/
theorem effectiveRank_of_lt_two (prio : Nat) {rank : Nat} (hrank : rank < 2) : effectiveRank prio rank = some rank := by
  have hstays : (bit prio 15 && decide (2 ≤ bits prio 10 8) && rank == bits prio 10 8) = false := by
    rw [Bool.eq_false_iff]
    simp only [ne_eq, Bool.and_eq_true, decide_eq_true_eq, beq_iff_eq]
    omega
  simp [effectiveRank, hstays, hrank]

/-- PROMOTE_TO is stored as at least 2. (R90) -/
theorem two_le_promoteTo (v : Nat) : 2 ≤ bits (ksPrioStored v) 14 12 := by
  simp only [ksPrioStored, bits]
  omega

/-- What a request competes at is its own rank or PROMOTE_TO. -/
theorem effectiveRank_eq_some {prio rank e : Nat} (he : effectiveRank prio rank = some e) : e = rank ∨ e = bits prio 14 12 := by
  unfold effectiveRank at he
  obtain ⟨-, he⟩ := Option.ite_none_right_eq_some.mp he
  rw [← Option.some.inj he]
  split
  · exact .inr rfl
  · exact .inl rfl

/-- Settles O55. -/
theorem ranksZeroAndOneStand : Obligations.RanksZeroAndOneStand := by
  unfold Obligations.RanksZeroAndOneStand
  refine ⟨fun prio _ => effectiveRank_of_lt_two prio, fun v rank e hrank he => ?_⟩
  rcases effectiveRank_eq_some he with rfl | rfl
  · exact hrank
  · exact two_le_promoteTo v

end Sys2Proof.Proofs
end

section
/-! A reply: what it leaves alone, where it is written, and the packets that are answered without their effect (R67, R69, R72, R79, R92). -/

namespace Sys2Proof.Proofs
open Sys2Proof.Machine Sys2Proof.Laws

/-- A message touches the MSI-X table and the output record. (R76) -/
theorem notify_frame (v : Nat) (s : State) : ∃ vs o, s.notify v = { s with pcie := { s.pcie with vectors := vs }, out := o } := by
  simp only [State.notify]
  split
  · exact ⟨_, _, rfl⟩
  · split <;> exact ⟨_, _, rfl⟩

/-- A reply entry touches the rings, the count of held replies and the output record. (R67, R69, R72) -/
theorem writeEntry_frame (n : Nat) (p : PendingReply) (s : State) :
    ∃ rs k o, s.writeEntry n p = { s with pcie := { s.pcie with rings := rs, finished := k }, out := o } := by
  simp only [State.writeEntry]
  split
  · exact ⟨_, _, _, rfl⟩
  · split <;> exact ⟨_, _, _, rfl⟩

theorem writeReply_frame (n : Nat) (p : PendingReply) (s : State) :
    ∃ rs k vs o, s.writeReply n p = { s with pcie := { s.pcie with rings := rs, finished := k, vectors := vs }, out := o } := by
  obtain ⟨rs, k, o, hentry⟩ := writeEntry_frame n p s
  simp only [State.writeReply, hentry]
  split
  · obtain ⟨vs, o', hnotify⟩ := notify_frame (s.ring n).vector { s with pcie := { s.pcie with rings := rs, finished := k }, out := o }
    exact ⟨rs, k, vs, o', hnotify⟩
  · exact ⟨rs, k, _, o, rfl⟩

/-- Settles O58: the reply of a packet whose ring a PCIe reset took away is counted, and completes the events of resets; any other is
written to its ring. (R74) -/
theorem replyFrame : Obligations.ReplyFrame := by
  unfold Obligations.ReplyFrame
  intro s p st res d
  simp only [State.reply, State.replyAt]
  split
  next => exact ⟨_, _, _, rfl, rfl, rfl, rfl, rfl, rfl, rfl⟩
  next =>
    generalize PendingReply.mk .. = reply
    obtain ⟨rs, k, vs, o, hwritten⟩ := writeReply_frame p.ring reply
      (s.setRing p.ring { s.ring p.ring with inProgress := (s.ring p.ring).inProgress.filter fun q => q.acc != p.acc })
    exact ⟨_, _, _, hwritten, rfl, rfl, rfl, rfl, rfl, rfl⟩

/-! ### Where a reply is written (R67, R69, R72, R83) -/

section written
variable {s : State} {n : Nat} (p : PendingReply)

theorem writeReply_of_refused (hrefused : (s.ring n).refused = true) :
    s.writeReply n p = s.setRing n { s.ring n with lostReplies := min ((s.ring n).lostReplies + 1) 65535 } := by
  simp only [State.writeReply, State.writeEntry, hrefused, if_true, Bool.not_true, Bool.and_false, Bool.false_eq_true, if_false]
  rfl

variable (haccepted : (s.ring n).refused = false)
include haccepted

theorem writeReply_of_dma_stopped (hstopped : s.dma = false) :
    s.writeReply n p = { s.setRing n { s.ring n with held := (s.ring n).held ++ [{ p with order := s.pcie.finished }] } with
      pcie.finished := s.pcie.finished + 1 } := by
  simp only [State.writeReply, State.writeEntry, haccepted, hstopped, Bool.not_false, if_true, Bool.and_false, Bool.false_and,
    Bool.false_eq_true, if_false]

theorem writeReply_at_tail (hdma : s.dma = true) (hsilent : (s.ring n).irqEn = false) :
    s.writeReply n p = (s.setRing n (s.ring n).advanced).emit (.reply (s.ring n).rqTail ((s.ring n).entry n p)) := by
  simp only [State.writeReply, State.writeEntry, haccepted, hdma, hsilent, Bool.not_true, Bool.false_and, Bool.false_eq_true, if_false]

end written

/-- Settles O59. -/
theorem replyIsWrittenAtTheTail : Obligations.ReplyIsWrittenAtTheTail := by
  unfold Obligations.ReplyIsWrittenAtTheTail
  exact ⟨fun _ _ p => writeReply_at_tail p, fun _ _ p => writeReply_of_dma_stopped p, fun _ _ p => writeReply_of_refused p⟩

/-! ### Packets that are answered without their effect (R67, R84, R85, R92, R455) -/

section answered
variable {s : State} {op : PktOp} {opcode : Nat} (effect : Packet → State → State)

theorem packetRun_of_not_ready (hready : s.ready op opcode = none) : packetRun opcode op s effect = .next s := by
  simp only [packetRun, hready]

variable {p : Packet} (hready : s.ready op opcode = some p)
include hready

theorem packetRun_of_internal {l : BitVec 64} (hfault : op.internal = some l) :
    packetRun opcode op s effect = .next (s.internalFault p l) := by
  simp only [packetRun, hready, hfault]

theorem packetRun_of_no_dma (hsound : op.internal = none) (hdata : 0 < p.dataLen) (hdma : (op.dma && s.dma) = false) :
    packetRun opcode op s effect = .next (s.fail p St.dataFault) := by
  simp only [packetRun, hready, hsound, hdata, hdma, decide_true, Bool.not_false, Bool.and_self, if_true]

end answered

/-- Settles O60, by the three branches of `packetRun` before a packet's effect. -/
theorem packetThatMayNotRunOrFails : Obligations.PacketThatMayNotRunOrFails := by
  unfold Obligations.PacketThatMayNotRunOrFails
  refine ⟨fun _ _ => packetRun_of_not_ready _, fun s op p l hready hfault => ?_, fun _ _ _ => packetRun_of_no_dma _⟩
  change execChipReset op s = _
  rw [execChipReset, packetRun_of_internal _ hready hfault, State.internalFault]

end Sys2Proof.Proofs
end

section
/-! The ring pairs: doorbells, RING_CFG, fetching, refused replies and the interval of a message (R67, R68, R70 to R73, R76). -/

namespace Sys2Proof.Proofs
open Sys2Proof.Machine Sys2Proof.Laws

/-- A write of RING_CFG does not itself change the state of the pair. -/
@[simp] theorem configured_state (r : Ring) (v : Nat) : (r.configured v).state = r.state := by
  unfold Ring.configured
  dsimp only
  split <;> rfl

section pair
variable {s : State} {n : Nat} {v : W32} (hn : n < 16)
include hn

/-! ### Doorbells (R68, R73) -/

theorem exec_sqTailDb_stored (henabled : (s.ring n).state = .enabled) (hok : (s.ring n).tailOk (v.toNat % 65536) = true) :
    exec (.sqTailDb n v) s = .next (s.setRing n { s.ring n with sqTail := v.toNat % 65536 }) := by
  change onlyIf _ s _ = _
  rw [onlyIf_of_true (decide_eq_true hn)]
  simp [State.sqTailDoorbell, henabled, hok]

theorem exec_sqTailDb_faults (henabled : (s.ring n).state = .enabled) (hok : (s.ring n).tailOk (v.toNat % 65536) = false) :
    exec (.sqTailDb n v) s = .next (s.ringFault n 4) := by
  change onlyIf _ s _ = _
  rw [onlyIf_of_true (decide_eq_true hn)]
  simp [State.sqTailDoorbell, henabled, hok]

theorem exec_rqHeadDb (henabled : (s.ring n).state = .enabled) :
    exec (.rqHeadDb n v) s = .next (if v.toNat % 65536 < 2 ^ (s.ring n).sizeLog2 then
      s.setRing n { s.ring n with rqHead := v.toNat % 65536 } else s.ringFault n 4) := by
  change onlyIf _ s _ = _
  rw [onlyIf_of_true (decide_eq_true hn)]
  simp [State.rqHeadDoorbell, henabled, Ring.slots]

/-- A doorbell of a pair that is not ENABLED does nothing. -/
theorem exec_doorbells_ignored (hidle : (s.ring n).state ≠ .enabled) :
    exec (.sqTailDb n v) s = .next s ∧ exec (.rqHeadDb n v) s = .next s := by
  constructor
  · change onlyIf _ s _ = _
    rw [onlyIf_of_true (decide_eq_true hn), State.sqTailDoorbell, if_pos hidle]
  · change onlyIf _ s _ = _
    rw [onlyIf_of_true (decide_eq_true hn), State.rqHeadDoorbell, if_pos hidle]

/-! ### RING_CFG (R72) -/

theorem exec_ringEnable (henable : bit v.toNat 0 = true) (hdisabled : (s.ring n).state = .disabled) :
    exec (.ringEnable n v) s = .next (if ((s.ring n).configured v.toNat).valid = true then
      s.setRing n ((s.ring n).configured v.toNat).start
      else (s.setRing n ((s.ring n).configured v.toNat)).ringFault n 1) := by
  change onlyIf _ s _ = _
  rw [onlyIf_of_true (by simp [hn, henable])]
  simp [State.ringCfgWrite, henable, hdisabled]

theorem exec_ringStop (hstop : bit v.toNat 0 = false) (henabled : (s.ring n).state = .enabled) :
    exec (.ringStop n v) s = .next (s.setRing n { (s.ring n).configured v.toNat with state := .stopping }) := by
  change onlyIf _ s _ = _
  rw [onlyIf_of_true (by simp [hn, hstop])]
  simp [State.ringCfgWrite, hstop, henabled]

theorem exec_ringStopDrained (hpackets : (s.ring n).inProgress = []) (hheld : (s.ring n).held = []) (hstopping : (s.ring n).state = .stopping) :
    exec (.ringStopDrained n) s = .next (s.setRing n { s.ring n with state := .disabled, faultCause := 0 }) :=
  onlyIf_of_true (by simp [hn, Ring.drainedOut, hpackets, hheld, hstopping]) s _

/-- A refused reply write of a pair that is not yet FAULTED faults it. (R73 cause 3) -/
theorem exec_replyWriteRefused (henabled : (s.ring n).state = .enabled) (haccepted : (s.ring n).refused = false)
    (hwritten : 0 < (s.ring n).unreleased) :
    exec (.replyWriteRefused n) s = .next ((s.setRing n (s.ring n).refuse).ringFault n 3) := by
  change onlyIf _ s _ = _
  rw [onlyIf_of_true (by simp [hn, henabled, haccepted, hwritten])]
  simp [henabled]

end pair

/-! ### Fetching (R70, R71) -/

theorem exec_packetFetch {s : State} {n : Nat} {slot : SlotRead} (hturn : s.turn = some n) (hdma : s.dma = true)
    (hserviced : s.ringsServiced = true) : exec (.packetFetch slot) s = .next (s.fetchSlot n slot) := by
  change execPacketFetch slot s = _
  simp only [execPacketFetch, hturn]
  exact onlyIf_of_true (by simp [hdma, hserviced]) s _

/-! ### The interval of a vector (R76) -/

/-- The end of a vector's interval: a message held back goes out while DMA is possible, and waits on while it is stopped. -/
theorem exec_msixIntervalExpiry {s : State} {v : Nat} (hv : v < 32) (hinterval : (s.pcie.vectors.getD v {}).interval = true) :
    exec (.msixIntervalExpiry v) s = .next
      (if ((s.pcie.vectors.getD v {}).again && s.dma) = true then State.notify v { s with
          pcie.vectors := s.pcie.vectors.set v { s.pcie.vectors.getD v {} with interval := false, again := false } }
        else { s with pcie.vectors := s.pcie.vectors.set v { s.pcie.vectors.getD v {} with
          interval := false, again := (s.pcie.vectors.getD v {}).again && !s.dma } }) := by
  change onlyIf _ s _ = _
  rw [onlyIf_of_true (by simp only [hv, hinterval, decide_true, Bool.and_self])]
  split
  next hsends => simp_all
  next => rfl

/-- Settles O7: one lemma per command and outcome. -/
theorem ringCommandsAct : Obligations.RingCommandsAct := by
  unfold Obligations.RingCommandsAct
  refine ⟨fun _ _ _ => exec_sqTailDb_stored, fun _ _ _ => exec_sqTailDb_faults, fun _ _ _ => exec_rqHeadDb,
    fun _ _ _ => exec_doorbells_ignored, fun _ _ _ => exec_ringEnable, fun _ _ _ => exec_ringStop,
    fun _ _ => exec_ringStopDrained, fun _ _ _ => exec_packetFetch, fun _ _ => exec_replyWriteRefused,
    fun s v hv hinterval hagain hdma => ?sent, fun s v hv hinterval hstopped => ?waits, fun s v hv hinterval hnone => ?silent⟩
  case sent => rw [exec_msixIntervalExpiry hv hinterval, hagain, hdma]; rfl
  case waits => rw [exec_msixIntervalExpiry hv hinterval, hstopped]; simp
  case silent => rw [exec_msixIntervalExpiry hv hinterval, hnone]; rfl

end Sys2Proof.Proofs
end

section
/-! The event ring (R67, R74, R76, R87, R88, R457). -/

namespace Sys2Proof.Proofs
open Sys2Proof.Machine Sys2Proof.Laws

section evq
variable {s : State} {v : W32}

theorem exec_evqEnable_valid (henable : bit v.toNat 0 = true) (hdisabled : s.pcie.evq.state = .disabled) (hmin : 6 ≤ bits v.toNat 8 4)
    (hmax : bits v.toNat 8 4 ≤ 16) (haligned : s.pcie.evq.base.toNat % 4096 = 0) (hbase : s.pcie.evq.base ≠ 0) :
    exec (.evqEnable v) s = .next { s with pcie.evq := { s.pcie.evq with
      vector := bits v.toNat 23 16, irqEn := bit v.toNat 24, enable := true, sizeLog2 := bits v.toNat 8 4,
      state := .enabled, faultCause := 0, tail := 0, phase := true, head := 0 } } := by
  have hbase' : s.pcie.evq.base ≠ 0#64 := hbase
  change onlyIf _ s _ = _
  rw [onlyIf_of_true henable]
  simp [State.evqCfgWrite, EventRing.valid, henable, hdisabled, hmin, hmax, haligned, hbase']

theorem exec_evqEnable_too_small (henable : bit v.toNat 0 = true) (hdisabled : s.pcie.evq.state = .disabled) (hsmall : bits v.toNat 8 4 < 6) :
    exec (.evqEnable v) s = .next (State.evqFault 1 { s with pcie.evq := { s.pcie.evq with
      vector := bits v.toNat 23 16, irqEn := bit v.toNat 24, enable := true, sizeLog2 := bits v.toNat 8 4 } }) := by
  change onlyIf _ s _ = _
  rw [onlyIf_of_true henable]
  simp [State.evqCfgWrite, EventRing.valid, henable, hdisabled, Nat.not_le.mpr hsmall]

theorem exec_evqDisable (hdisable : bit v.toNat 0 = false) :
    exec (.evqDisable v) s = .next { s with pcie.evq := { s.pcie.evq with
      vector := bits v.toNat 23 16, irqEn := bit v.toNat 24, enable := false, state := .disabled, faultCause := 0,
      sizeLog2 := if s.pcie.evq.state = .disabled then bits v.toNat 8 4 else s.pcie.evq.sizeLog2 } } := by
  change onlyIf _ s _ = _
  rw [onlyIf_of_true (by simp [hdisable])]
  simp only [State.evqCfgWrite, hdisable, Bool.false_eq_true, if_false]
  split <;> rfl

theorem exec_evqHeadDb (henabled : s.pcie.evq.state = .enabled) :
    exec (.evqHeadDb v) s = .next (if v.toNat % 65536 < 2 ^ s.pcie.evq.sizeLog2 then
      { s with pcie.evq := { s.pcie.evq with head := v.toNat % 65536 } } else s.evqFault 4) := by
  change execEvqHeadDb v s = _
  simp [execEvqHeadDb, State.evqHeadDoorbell, henabled, EventRing.slots]

theorem exec_evqHeadDb_ignored (hidle : s.pcie.evq.state ≠ .enabled) : exec (.evqHeadDb v) s = .next s := by
  change execEvqHeadDb v s = _
  rw [execEvqHeadDb, State.evqHeadDoorbell, if_pos hidle]

end evq

/-- An event posted with IRQ_EN 0: it leaves the backlog, and goes out with the losses since the last. (R76, R87, R88) -/
theorem postEvent_silent {s : State} {e : Event} {rest : List Event} (hbacklog : s.events.backlog = e :: rest) (hsilent : s.pcie.evq.irqEn = false) :
    s.postEvent = { s with
      pcie.evq := if s.pcie.evq.tail + 1 = 2 ^ s.pcie.evq.sizeLog2 then { s.pcie.evq with tail := 0, phase := !s.pcie.evq.phase }
        else { s.pcie.evq with tail := s.pcie.evq.tail + 1 },
      events.backlog := rest, events.lostSince := 0, events.posted := keepPosted e s.events.posted,
      out := .event s.pcie.evq.tail s.pcie.evq.phase s.events.lostSince e :: s.out } := by
  simp only [State.postEvent, hbacklog, hsilent, Bool.false_eq_true, if_false]
  rfl

/-- Settles O8: one lemma per command and outcome. -/
theorem eventRingCommandsAct : Obligations.EventRingCommandsAct := by
  unfold Obligations.EventRingCommandsAct
  refine ⟨fun _ _ => exec_evqEnable_valid,
    fun s v henable hdisabled hsmall => ⟨_, _, exec_evqEnable_too_small henable hdisabled hsmall, rfl, rfl⟩,
    fun s v hdisable => ⟨_, exec_evqDisable hdisable, rfl, rfl, rfl, rfl, rfl, rfl⟩, fun _ _ => exec_evqHeadDb,
    fun _ _ => exec_evqHeadDb_ignored, fun s e rest hpostable hbacklog hsilent => ?post, fun s hpostable => onlyIf_of_true hpostable s _⟩
  case post =>
    refine ⟨_, onlyIf_of_true hpostable s _, ?_⟩
    rw [postEvent_silent hbacklog hsilent]
    refine ⟨rfl, rfl, rfl, ?_, ?_⟩ <;> dsimp only <;> split <;> rfl

end Sys2Proof.Proofs
end

section
/-! The bounds of the event backlog and the error log (R88, R429, R430): what each operation of the events does to
them. -/

namespace Sys2Proof.Proofs
open Sys2Proof.Machine Sys2Proof.Laws

/-- The backlog and the error log lie within their bounds: `State.Inv`, said of the events alone. (R88, R429) -/
def InBounds (v : Events) : Prop := v.backlog.length ≤ backlogLimit ∧ v.errors.length ≤ errorLogSize

theorem inv_iff_inBounds (s : State) : s.Inv ↔ InBounds s.events := Iff.rfl

/-- The bounds depend on the two lengths alone. -/
theorem inBounds_congr {v w : Events} (hbacklog : v.backlog.length = w.backlog.length) (herrors : v.errors.length = w.errors.length) :
    InBounds v ↔ InBounds w := by simp only [InBounds, hbacklog, herrors]

/-! ### The backlog (R88) -/

theorem length_dropMinor {l : List Event} (hminor : (l.any fun x => decide (x.severity < 2)) = true) :
    (dropMinor l).length + 1 = l.length := by
  induction l with
  | nil => cases hminor
  | cons e es ih =>
    by_cases he : e.severity < 2
    · simp [dropMinor, he]
    · simp only [List.any_cons, he, decide_false, Bool.false_or] at hminor
      simpa [dropMinor, he] using ih hminor

/-- A full backlog keeps its length. -/
theorem length_enqueue_of_full {v : Events} {e : Event} (hfull : 1024 ≤ v.backlog.length) :
    (v.enqueue e).backlog.length = v.backlog.length := by
  rcases Nat.lt_or_ge e.severity 2 with hminor | hsevere
  · rw [enqueue_of_full_minor hfull hminor]
    rfl
  · cases hany : v.backlog.any fun x => decide (x.severity < 2) with
    | true => simpa [enqueue_of_full_displaced hfull hsevere hany] using length_dropMinor hany
    | false => rw [enqueue_of_full_lost hfull hsevere hany]; rfl

@[simp] theorem enqueue_errors (v : Events) (e : Event) : (v.enqueue e).errors = v.errors := by
  unfold Events.enqueue Events.lose
  split_ifs <;> rfl

@[simp] theorem enqueue_inBounds (v : Events) (e : Event) : InBounds (v.enqueue e) ↔ InBounds v := by
  rcases Nat.lt_or_ge v.backlog.length 1024 with hroom | hfull
  · have hlonger : (v.enqueue e).backlog.length = v.backlog.length + 1 := by simp [enqueue_of_room hroom]
    simp only [InBounds, enqueue_errors, hlonger, backlogLimit]
    omega
  · exact inBounds_congr (length_enqueue_of_full hfull) (by rw [enqueue_errors])

@[simp] theorem commit_inBounds (v : Events) (code sev island stamp loc : Nat) (ps : List Byte) (complete : Bool) :
    InBounds (v.commit code sev island stamp loc ps complete) ↔ InBounds v := by
  simp only [Events.commit]
  split
  · exact Iff.rfl
  · exact enqueue_inBounds ..

/-! ### The error log (R429, R430) -/

@[simp] theorem record_backlog (v : Events) (code sev cls island stamp loc : Nat) (ps : List Byte) :
    (v.record code sev cls island stamp loc ps).backlog = v.backlog := by
  simp only [Events.record]
  split_ifs
  · rfl
  · rfl
  · split <;> rfl

@[simp] theorem record_inBounds (v : Events) (code sev cls island stamp loc : Nat) (ps : List Byte) :
    InBounds (v.record code sev cls island stamp loc ps) ↔ InBounds v := by
  cases hmerges : v.errors.any fun r => mergesWith r code loc stamp with
  | true => exact inBounds_congr (by rw [record_backlog]) (record_length_of_merges sev cls island ps hmerges)
  | false =>
    rcases Nat.lt_or_ge v.errors.length 4096 with hroom | hfull
    · simp only [InBounds, record_backlog, record_length_of_room sev cls island ps hmerges hroom, errorLogSize]
      omega
    · exact inBounds_congr (by rw [record_backlog]) (record_length_of_full sev cls island ps hmerges hfull)

/-! ### Events raised (R29, R87, R429) -/

/-- The bounds do not see EV_ERROR_LOG_HIGH's flag. -/
@[simp] theorem highRaised_inBounds (v : Events) (b : Bool) : InBounds { v with highRaised := b } ↔ InBounds v := Iff.rfl

@[simp] theorem errorLogHigh_inBounds (s : State) : InBounds s.errorLogHigh.events ↔ InBounds s.events := by
  simp only [State.errorLogHigh]
  split
  · exact (highRaised_inBounds ..).trans (commit_inBounds ..)
  · exact Iff.rfl

@[simp] theorem raiseWith_inBounds (code sev island loc : Nat) (ps : List Byte) (s : State) :
    InBounds (s.raiseWith code sev island loc ps).events ↔ InBounds s.events := by
  simp only [State.raiseWith, errorLogHigh_inBounds]
  split
  · rw [record_inBounds, commit_inBounds]
  · rw [commit_inBounds]

@[simp] theorem raise_inBounds (code : Nat) (ps : List Byte) (s : State) : InBounds (s.raise code ps).events ↔ InBounds s.events :=
  raiseWith_inBounds ..

@[simp] theorem raiseFrom_inBounds (island code : Nat) (ps : List Byte) (s : State) :
    InBounds (s.raiseFrom island code ps).events ↔ InBounds s.events := raiseWith_inBounds ..

@[simp] theorem raiseAt_inBounds (loc code : Nat) (ps : List Byte) (s : State) :
    InBounds (s.raiseAt loc code ps).events ↔ InBounds s.events := raiseWith_inBounds ..

/-! ### The ways the model puts updates together -/

@[simp] theorem ite_events (c : Prop) [Decidable c] (s t : State) : (if c then s else t).events = if c then s.events else t.events :=
  apply_ite State.events c s t

@[simp] theorem ite_inBounds (c : Prop) [Decidable c] (v w : Events) :
    InBounds (if c then v else w) ↔ if c then InBounds v else InBounds w := by split <;> rfl

/-- Updates that each leave the events alone do so in turn. -/
@[simp] theorem foldl_events {α : Type} {f : State → α → State} (hf : ∀ s a, (f s a).events = s.events) (l : List α) (s : State) :
    (l.foldl f s).events = s.events := by
  induction l generalizing s with
  | nil => rfl
  | cons a l ih => rw [List.foldl_cons, ih, hf]

/-- Updates that each keep the bounds do so in turn. -/
@[simp] theorem foldl_inBounds {α : Type} {f : State → α → State} (hf : ∀ s a, InBounds (f s a).events ↔ InBounds s.events) (l : List α)
    (s : State) : InBounds (l.foldl f s).events ↔ InBounds s.events := by
  induction l generalizing s with
  | nil => rfl
  | cons a l ih => rw [List.foldl_cons, ih, hf]

/-- The same of updates that carry an answer along. -/
@[simp] theorem foldl_snd_events {α β : Type} {f : β × State → α → β × State} (hf : ∀ x a, (f x a).2.events = x.2.events) (l : List α)
    (x : β × State) : (l.foldl f x).2.events = x.2.events := by
  induction l generalizing x with
  | nil => rfl
  | cons a l ih => rw [List.foldl_cons, ih, hf]

@[simp] theorem foldl_snd_snd_inBounds {α β γ : Type} {f : β × γ × State → α → β × γ × State}
    (hf : ∀ x a, InBounds (f x a).2.2.events ↔ InBounds x.2.2.events) (l : List α) (x : β × γ × State) :
    InBounds (l.foldl f x).2.2.events ↔ InBounds x.2.2.events := by
  induction l generalizing x with
  | nil => rfl
  | cons a l ih => rw [List.foldl_cons, ih, hf]

/-! ### Replies (R72, R74) -/

@[simp] theorem completePcieReset_inBounds (s : State) : InBounds s.completePcieReset.events ↔ InBounds s.events :=
  inBounds_congr (List.length_map ..) rfl

@[simp] theorem replyAt_inBounds (p : Packet) (st res at_ : Nat) (d : List Byte) (s : State) :
    InBounds (s.replyAt p st res at_ d).events ↔ InBounds s.events := by
  simp only [State.replyAt]
  split
  · exact completePcieReset_inBounds _
  · simp

end Sys2Proof.Proofs
end

section
/-! What the shared operations, the Vault and the digest channels do to the events: one lemma per operation, an equation where it leaves them
alone, and the bounds where it may raise one (R88, R429). -/

namespace Sys2Proof.Proofs
open Sys2Proof.Machine Sys2Proof.Laws

/-! ### Replies and the marks of packets -/

@[simp] theorem reply_inBounds (p : Packet) (status result : Nat) (dataOut : List Byte) (s : State) :
    InBounds (s.reply p status result dataOut).events ↔ InBounds s.events := by simp [State.reply]

@[simp] theorem replyOk_inBounds (p : Packet) (s : State) : InBounds (s.replyOk p).events ↔ InBounds s.events := by simp [State.replyOk]

@[simp] theorem fail_inBounds (p : Packet) (status : Nat) (s : State) : InBounds (s.fail p status).events ↔ InBounds s.events := by
  simp [State.fail]

@[simp] theorem failField_inBounds (p : Packet) (status off : Nat) (s : State) :
    InBounds (s.failField p status off).events ↔ InBounds s.events := by simp [State.failField]

@[simp] theorem replyTo_inBounds (acc status result : Nat) (dataOut : List Byte) (s : State) :
    InBounds (s.replyTo acc status result dataOut).events ↔ InBounds s.events := by
  simp only [State.replyTo]
  split <;> simp

/-! ### Packets -/

@[simp] theorem internalFault_inBounds (p : Packet) (loc : BitVec 64) (s : State) :
    InBounds (s.internalFault p loc).events ↔ InBounds s.events := by simp [State.internalFault]

/-! ### The Vault: blocks, LOG records, boot control record, stamp checkpoints -/

@[simp] theorem updVault_events (f : Vault → Vault) (s : State) : (s.updVault f).events = s.events := by simp only [State.updVault]

@[simp] theorem vaultWarn_inBounds (l site cause value : Nat) (s : State) :
    InBounds (s.vaultWarn l site cause value).events ↔ InBounds s.events := by simp [State.vaultWarn]

@[simp] theorem vaultErase_inBounds (l : Nat) (s : State) : InBounds (s.vaultErase l).events ↔ InBounds s.events := by
  simp [State.vaultErase]

@[simp] theorem vaultWeak_inBounds (sector bits_ : Nat) (s : State) :
    InBounds (s.vaultWeak sector bits_).events ↔ InBounds s.events := by simp [State.vaultWeak]

@[simp] theorem vaultRetire_inBounds (l cause : Nat) (s : State) : InBounds (s.vaultRetire l cause).2.events ↔ InBounds s.events := by
  simp only [State.vaultRetire]
  split <;> simp

@[simp] theorem openLog_inBounds (s : State) : InBounds (s.openLog).events ↔ InBounds s.events := by
  simp only [State.openLog]
  split <;> simp

@[simp] theorem logWrite_inBounds (typ key : Nat) (body : List Byte) (health : Tab (List Nat)) (s : State) :
    InBounds (s.logWrite typ key body health).events ↔ InBounds s.events := by simp [State.logWrite]

@[simp] theorem logRecord_inBounds (typ key : Nat) (body : List Byte) (s : State) :
    InBounds (s.logRecord typ key body).events ↔ InBounds s.events := by simp [State.logRecord]

@[simp] theorem writeBoot_events (f : BootRecord → BootRecord) (s : State) : (s.writeBoot f).events = s.events := by simp [State.writeBoot]

@[simp] theorem planRecord_inBounds (b : Nat) (s : State) : InBounds (s.planRecord b).events ↔ InBounds s.events := by
  simp only [State.planRecord]
  split <;> simp

@[simp] theorem countHours_events (s : State) : (s.countHours).events = s.events := by simp only [State.countHours]

@[simp] theorem checkpointAt_events (stamp : Nat) (s : State) : (s.checkpointAt stamp).events = s.events := by
  simp only [State.checkpointAt]

@[simp] theorem stampCheckpoint_inBounds (down : Bool) (s : State) : InBounds (s.stampCheckpoint down).events ↔ InBounds s.events := by
  simp [State.stampCheckpoint]

@[simp] theorem ceilingCheck_inBounds (s : State) : InBounds (s.ceilingCheck).events ↔ InBounds s.events := by simp [State.ceilingCheck]

@[simp] theorem updImage_events (slot : Nat) (f : ImageSlot → ImageSlot) (s : State) : (s.updImage slot f).events = s.events := by
  simp [State.updImage]

/-! ### Faults of class 4 -/

@[simp] theorem fatal_inBounds (loc code region : Nat) (params : List Byte) (s : State) :
    InBounds (s.fatal loc code region params).events ↔ InBounds s.events := by simp [State.fatal]

/-! ### Keystone arbiters and the mortar fabric -/

@[simp] theorem writeKsPrio_events (a v : Nat) (s : State) : (s.writeKsPrio a v).events = s.events := by simp [State.writeKsPrio]

@[simp] theorem replayMarks_events (s : State) : (s.replayMarks).events = s.events := by simp only [State.replayMarks]

@[simp] theorem setDramChannel_events (c : Nat) (v : DramChannel) (s : State) : (s.setDramChannel c v).events = s.events := by
  simp only [State.setDramChannel]

/-! ### Digest channels and key slots -/

@[simp] theorem setChan_events (c : Nat) (ch : Channel) (s : State) : (s.setChan c ch).events = s.events := by simp only [State.setChan]

@[simp] theorem setKeySlot_events (k : Nat) (v : KeySlot) (s : State) : (s.setKeySlot k v).events = s.events := by
  simp only [State.setKeySlot]

@[simp] theorem openMessage_events (c : Nat) (m : Machine.Message) (start : Bool) (s : State) :
    (s.openMessage c m start).events = s.events := by simp [State.openMessage]

@[simp] theorem setSaveSlot_events (shadow : Bool) (n : Nat) (v : SaveSlot) (s : State) :
    (s.setSaveSlot shadow n v).events = s.events := by simp [State.setSaveSlot]

@[simp] theorem noSaved_inBounds (p : Packet) (s : State) : InBounds (s.noSaved p).events ↔ InBounds s.events := by simp [State.noSaved]

@[simp] theorem freeSave_events (token : Nat) (s : State) : (s.freeSave token).events = s.events := by simp [State.freeSave]

@[simp] theorem takeChannel_inBounds (c : Nat) (p : Packet) (s : State) :
    InBounds (s.takeChannel c p).1.events ↔ InBounds s.events := by
  simp only [State.takeChannel]
  (repeat' split) <;> simp

theorem nextWaiter_events {s t : State} {c : Nat} {w : Waiter} (hnext : s.nextWaiter c = some (w, t)) : t.events = s.events := by
  simp only [State.nextWaiter] at hnext
  split at hnext
  · cases hnext; rfl
  · split at hnext <;> cases hnext
    rfl

@[simp] theorem serveWaiters_inBounds (c n : Nat) (s : State) : InBounds (s.serveWaiters c n).events ↔ InBounds s.events := by
  induction n generalizing s with
  | zero => rfl
  | succ n ih =>
    simp only [State.serveWaiters]
    split
    · rfl
    next w t hnext =>
      rw [← nextWaiter_events hnext]
      split
      · exact ih t
      next p _ =>
        have htried : InBounds (if t.expired w.deadline then (t.replyTo w.acc St.busyOwned 0 [], false) else t.takeChannel c p).1.events ↔
            InBounds t.events := by split <;> simp
        by_cases htook : (if t.expired w.deadline then (t.replyTo w.acc St.busyOwned 0 [], false) else t.takeChannel c p).2 = true
        · rw [if_pos htook, htried]
        · rw [if_neg htook, ih, htried]

@[simp] theorem freeChannel_inBounds (c : Nat) (s : State) : InBounds (s.freeChannel c).events ↔ InBounds s.events := by
  simp only [State.freeChannel]
  split <;> simp

@[simp] theorem queueOn_inBounds (sel : Nat) (p : Packet) (s : State) : InBounds (s.queueOn sel p).events ↔ InBounds s.events := by
  simp [State.queueOn]

@[simp] theorem requestChannel_inBounds (sel : Nat) (p : Packet) (s : State) :
    InBounds (s.requestChannel sel p).events ↔ InBounds s.events := by
  simp only [State.requestChannel]
  (repeat' split) <;> simp

@[simp] theorem finishMessage_inBounds (c : Nat) (p : Packet) (s : State) :
    InBounds (s.finishMessage c p).events ↔ InBounds s.events := by simp [State.finishMessage]

@[simp] theorem lastWord_inBounds (c n : Nat) (s : State) : InBounds (s.lastWord c n).events ↔ InBounds s.events := by
  simp only [State.lastWord]
  (repeat' split) <;> simp

@[simp] theorem placeKey_inBounds (k kind attributes origin opc : Nat) (key : List Byte) (s : State) :
    InBounds (s.placeKey k kind attributes origin opc key).events ↔ InBounds s.events := by simp [State.placeKey]

@[simp] theorem emptyKey_inBounds (k : Nat) (s : State) : InBounds (s.emptyKey k).events ↔ InBounds s.events := by simp [State.emptyKey]

@[simp] theorem eraseKey_inBounds (k : Nat) (s : State) : InBounds (s.eraseKey k).events ↔ InBounds s.events := by simp [State.eraseKey]

@[simp] theorem countIv_events (k : Nat) (s : State) : (s.countIv k).events = s.events := by simp [State.countIv]

@[simp] theorem keyMissing_inBounds (k nsid : Nat) (s : State) : InBounds (s.keyMissing k nsid).events ↔ InBounds s.events := by
  simp [State.keyMissing]

@[simp] theorem refKey_events (k : Nat) (up : Bool) (s : State) : (s.refKey k up).events = s.events := by simp [State.refKey]

end Sys2Proof.Proofs
end

section
/-! What the operations of flash, hods and stripes do to the events (R88, R429). -/

namespace Sys2Proof.Proofs
open Sys2Proof.Machine Sys2Proof.Laws

/-! ### Plinth links, commands, starts and reads -/

@[simp] theorem updBlock_events (a : Nat) (f : BgRecord → BgRecord) (s : State) : (s.updBlock a f).events = s.events := by
  simp only [State.updBlock]

@[simp] theorem updModule_events (m : Nat) (f : FModule → FModule) (s : State) : (s.updModule m f).events = s.events := by
  simp only [State.updModule]

@[simp] theorem updDie_events (m d : Nat) (f : Die → Die) (s : State) : (s.updDie m d f).events = s.events := by simp [State.updDie]

@[simp] theorem flashCount_events (i : Nat) (s : State) : (s.flashCount i).events = s.events := by simp only [State.flashCount]

@[simp] theorem updLink_events (l : Nat) (f : Link → Link) (s : State) : (s.updLink l f).events = s.events := by simp only [State.updLink]

@[simp] theorem stampOps_events (tick : Nat) (sent rest : List (Nat × Out)) (s : State) :
    (s.stampOps tick sent rest).events = s.events := by simp [State.stampOps]

@[simp] theorem flushLink_events (l : Nat) (s : State) : (s.flushLink l).events = s.events := by simp [State.flushLink]

@[simp] theorem sendFrames_events (l : Nat) (fs : List (Nat × Out)) (s : State) : (s.sendFrames l fs).events = s.events := by
  simp [State.sendFrames]

@[simp] theorem sendCmd_events (c : PlCmd) (s : State) : (s.sendCmd c).events = s.events := by simp [State.sendCmd]

@[simp] theorem issue_events (c : PlCmd) (s : State) : (s.issue c).events = s.events := by simp [State.issue]

@[simp] theorem sendHeld_events (m : Nat) (s : State) : (s.sendHeld m).events = s.events := by simp [State.sendHeld]

@[simp] theorem dropCmd_events (m id : Nat) (s : State) : (s.dropCmd m id).events = s.events := by simp only [State.dropCmd]

@[simp] theorem updCmd_events (m id : Nat) (f : PlCmd → PlCmd) (s : State) : (s.updCmd m id f).events = s.events := by
  simp only [State.updCmd]

@[simp] theorem presentClaim_events (m d claim : Nat) (use : PlUse) (s : State) : (s.presentClaim m d claim use).events = s.events := by
  simp [State.presentClaim]

@[simp] theorem queueStart_events (x : Start) (s : State) : (s.queueStart x).events = s.events := by simp only [State.queueStart]

@[simp] theorem freeDie_events (m d : Nat) (s : State) : (s.freeDie m d).events = s.events := by simp [State.freeDie]

@[simp] theorem queueErase_events (a domain rank : Nat) (s : State) : (s.queueErase a domain rank).events = s.events := by
  simp [State.queueErase]

@[simp] theorem sendStart_events (x : Start) (s : State) : (s.sendStart x).events = s.events := by simp [State.sendStart]

@[simp] theorem setJob_events (j : Nat) (x : ReadJob) (s : State) : (s.setJob j x).events = s.events := by simp only [State.setJob]

@[simp] theorem queueRead_events (j cell : Nat) (words : List Nat) (mode : Nat) (s : State) :
    (s.queueRead j cell words mode).events = s.events := by
  simp only [State.queueRead]
  (repeat' split) <;> simp

@[simp] theorem wantWords_events (j : Nat) (keys : List Nat) (s : State) : (s.wantWords j keys).events = s.events := by
  simp only [State.wantWords]
  (repeat' split) <;> simp

@[simp] theorem startRead_events (use : ReadUse) (rank stripe off units : Nat) (s : State) :
    (s.startRead use rank stripe off units).events = s.events := by simp [State.startRead]

@[simp] theorem startWords_events (use : ReadUse) (rank stripe : Nat) (keys : List Nat) (s : State) :
    (s.startWords use rank stripe keys).events = s.events := by simp [State.startWords]

@[simp] theorem countProbe_events (m d entry : Nat) (s : State) : (s.countProbe m d entry).events = s.events := by simp [State.countProbe]

@[simp] theorem recordProbe_inBounds (m d entry j bits_ : Nat) (s : State) :
    InBounds (s.recordProbe m d entry j bits_).events ↔ InBounds s.events := by simp [State.recordProbe]

@[simp] theorem recomputeDrain_inBounds (s : State) : InBounds (s.recomputeDrain).events ↔ InBounds s.events := by
  simp only [State.recomputeDrain]
  split <;> simp

/-! ### Jobs and tasks of the hods -/

@[simp] theorem updHod_events (h : Nat) (f : Hod → Hod) (s : State) : (s.updHod h f).events = s.events := by simp only [State.updHod]

theorem pushRoot_events {s t : State} {kind rank count : Nat} (hpush : s.pushRoot kind rank count = some t) : t.events = s.events := by
  simp only [State.pushRoot] at hpush
  split at hpush <;> cases hpush
  simp

@[simp] theorem startJob_events (kind rank count : Nat) (s : State) : (s.startJob kind rank count).events = s.events := by
  simp only [State.startJob]
  split_ifs
  · rfl
  · cases hpush : s.pushRoot kind rank count with
    | none => rfl
    | some t => exact pushRoot_events hpush
  · rfl

@[simp] theorem startWaiting_events (s : State) : (s.startWaiting).events = s.events := by
  simp only [State.startWaiting]
  split
  · rfl
  · split
    next t hpush => exact pushRoot_events (t := t) hpush
    next => rfl

@[simp] theorem endTask_events (j : Nat) (s : State) : (s.endTask j).events = s.events := by
  simp only [State.endTask]
  split <;> simp

@[simp] theorem pushChild_events (h : Nat) (t : Machine.Task) (s : State) : (s.pushChild h t).events = s.events := by simp [State.pushChild]

@[simp] theorem splitRange_events (h n : Nat) (t : Task) (s : State) : (s.splitRange h n t).events = s.events := by
  induction n generalizing t s with
  | zero => rfl
  | succ n ih => simp only [State.splitRange]; split_ifs <;> simp [ih]

@[simp] theorem runTask_events (h : Nat) (t : Machine.Task) (s : State) : (s.runTask h t).events = s.events := by simp [State.runTask]

theorem takeTask_events {s t : State} {h : Nat} {urgent : Bool} {x : Task} (htake : s.takeTask h urgent = some (x, t)) :
    t.events = s.events := by
  simp only [State.takeTask] at htake
  split at htake
  · cases htake; simp
  · split at htake
    · cases htake
    · split at htake <;> cases htake
      simp

/-! ### Segments, stripes, extents and the journal -/

@[simp] theorem updSdom_events (d : Nat) (f : StripeDomain → StripeDomain) (s : State) : (s.updSdom d f).events = s.events := by
  simp only [State.updSdom]

@[simp] theorem updJournal_events (d : Nat) (f : Journal → Journal) (s : State) : (s.updJournal d f).events = s.events := by
  simp only [State.updJournal]

@[simp] theorem updStripe_events (n : Nat) (f : Stripe → Stripe) (s : State) : (s.updStripe n f).events = s.events := by
  simp only [State.updStripe]

@[simp] theorem updSegment_events (g : Nat) (f : Segment → Segment) (s : State) : (s.updSegment g f).events = s.events := by
  simp only [State.updSegment]

@[simp] theorem stripeCount_events (i d : Nat) (s : State) : (s.stripeCount i d).events = s.events := by simp only [State.stripeCount]

@[simp] theorem journalWrite_events (d rank : Nat) (body : JBody) (high : Nat) (s : State) :
    (s.journalWrite d rank body high).events = s.events := by simp [State.journalWrite]

@[simp] theorem freeForwarded_events (s : State) : (s.freeForwarded).events = s.events := by simp only [State.freeForwarded]

@[simp] theorem dropExtent_events (p : Nat) (s : State) : (s.dropExtent p).events = s.events := by
  simp only [State.dropExtent]
  split <;> simp

@[simp] theorem countLook_events (p : Nat) (s : State) : (s.countLook p).events = s.events := by simp [State.countLook]

@[simp] theorem updIndexPage_events (d page : Nat) (f : IndexPage → IndexPage) (s : State) :
    (s.updIndexPage d page f).events = s.events := by simp only [State.updIndexPage]

@[simp] theorem updExtent_events (p : Nat) (f : Extent → Extent) (s : State) : (s.updExtent p f).events = s.events := by
  simp only [State.updExtent]
  split <;> simp

@[simp] theorem mapCountAdd_events (p n : Nat) (s : State) : (s.mapCountAdd p n).events = s.events := by simp [State.mapCountAdd]

@[simp] theorem mapCountSub_events (p n : Nat) (s : State) : (s.mapCountSub p n).events = s.events := by simp [State.mapCountSub]

@[simp] theorem sealSegment_events (g : Nat) (s : State) : (s.sealSegment g).events = s.events := by simp [State.sealSegment]

@[simp] theorem program_events (n cell rank : Nat) (strip : List Byte) (s : State) :
    (s.program n cell rank strip).events = s.events := by simp [State.program]

@[simp] theorem handOver_events (n : Nat) (s : State) : (s.handOver n).events = s.events := by simp [State.handOver]

@[simp] theorem completeStripe_events (n rank : Nat) (atOnce : Bool) (s : State) :
    (s.completeStripe n rank atOnce).events = s.events := by simp [State.completeStripe]

@[simp] theorem notePlaced_events (i : Item) (n off : Nat) (s : State) : (s.notePlaced i n off).events = s.events := by
  simp only [State.notePlaced]
  split <;> simp

@[simp] theorem beginStripe_events (d t g rank : Nat) (s : State) : (s.beginStripe d t g rank).2.events = s.events := by
  simp [State.beginStripe]

@[simp] theorem placeIn_events (n : Nat) (i : Item) (s : State) : (s.placeIn n i).events = s.events := by simp [State.placeIn]

@[simp] theorem fillStream_events (d t n : Nat) (s : State) : (s.fillStream d t n).events = s.events := by
  induction n generalizing s with
  | zero => rfl
  | succ n ih => simp only [State.fillStream]; (repeat' split) <;> simp [ih]

@[simp] theorem fill_events (d t : Nat) (s : State) : (s.fill d t).events = s.events := by simp [State.fill]

@[simp] theorem place_events (d t : Nat) (is : List Item) (s : State) : (s.place d t is).events = s.events := by simp [State.place]

@[simp] theorem closeStream_events (d t rank : Nat) (s : State) : (s.closeStream d t rank).events = s.events := by
  simp only [State.closeStream]
  split <;> simp

@[simp] theorem closeDomain_events (d rank : Nat) (s : State) : (s.closeDomain d rank).events = s.events :=
  foldl_events (fun _ _ => closeStream_events ..) _ _

@[simp] theorem enterExtents_events (n : Nat) (t : Stripe) (s : State) : (s.enterExtents n t).events = s.events := by
  simp [State.enterExtents]

@[simp] theorem closedStripe_events (n stamp : Nat) (s : State) : (s.closedStripe n stamp).events = s.events := by simp [State.closedStripe]

@[simp] theorem retireBlock_inBounds (a cause : Nat) (s : State) : InBounds (s.retireBlock a cause).events ↔ InBounds s.events := by
  simp [State.retireBlock]

@[simp] theorem abandonStripe_inBounds (n cause cell : Nat) (s : State) :
    InBounds (s.abandonStripe n cause cell).events ↔ InBounds s.events := by simp [State.abandonStripe]

@[simp] theorem loseStripe_inBounds (n cause missing : Nat) (s : State) :
    InBounds (s.loseStripe n cause missing).events ↔ InBounds s.events := by simp [State.loseStripe]

@[simp] theorem queueVictim_events (g rank : Nat) (s : State) : (s.queueVictim g rank).events = s.events := by simp [State.queueVictim]

@[simp] theorem weaken_events (n : Nat) (s : State) : (s.weaken n).events = s.events := by simp [State.weaken]

end Sys2Proof.Proofs
end

section
/-! What the operations of the de-duplication index and the hybrid map do to the events (R88, R429). -/

namespace Sys2Proof.Proofs
open Sys2Proof.Machine Sys2Proof.Laws

/-! ### The de-duplication index, map pages and the metadata cache -/

@[simp] theorem wpCount_events (i d : Nat) (s : State) : (s.wpCount i d).events = s.events := by simp only [State.wpCount]

@[simp] theorem takeHold_events (d bucket slot : Nat) (s : State) : (s.takeHold d bucket slot).events = s.events := by
  simp only [State.takeHold]

@[simp] theorem setIndexEntry_events (d bucket slot : Nat) (e : List Byte) (s : State) :
    (s.setIndexEntry d bucket slot e).events = s.events := by simp [State.setIndexEntry]

@[simp] theorem dropHold_events (d bucket slot : Nat) (s : State) : (s.dropHold d bucket slot).events = s.events := by
  simp only [State.dropHold]
  split <;> simp

@[simp] theorem indexAdd_events (d bucket : Nat) (p : List Byte → Bool) (s : State) : (s.indexAdd d bucket p).events = s.events := by
  simp only [State.indexAdd]
  (repeat' split) <;> simp

@[simp] theorem indexInsert_events (d bucket : Nat) (e : List Byte) (s : State) : (s.indexInsert d bucket e).2.events = s.events := by
  simp only [State.indexInsert]
  (repeat' split) <;> simp

@[simp] theorem queueIndexOp_events (d page : Nat) (o : IndexOp) (s : State) : (s.queueIndexOp d page o).events = s.events := by
  simp [State.queueIndexOp]

@[simp] theorem indexArrives_events (d page : Nat) (b : List Byte) (s : State) : (s.indexArrives d page b).events = s.events := by
  simp [State.indexArrives]

@[simp] theorem indexSub_events (d bucket : Nat) (tag : List Byte) (form sett pxa : Nat) (s : State) :
    (s.indexSub d bucket tag form sett pxa).events = s.events := by
  simp only [State.indexSub]
  (repeat' split) <;> simp

@[simp] theorem eachIndexEntry_events {f : Nat → List Byte → Nat → Nat → State → State}
    (hf : ∀ bucket tag form sett s, (f bucket tag form sett s).events = s.events) (p : Nat) (s : State) :
    (s.eachIndexEntry p f).events = s.events := by
  simp only [State.eachIndexEntry]
  split
  · rfl
  · rw [foldl_events fun _ _ => hf ..]
    split
    · exact hf ..
    · rfl

@[simp] theorem indexMove_events (d old new : Nat) (s : State) : (s.indexMove d old new).events = s.events :=
  eachIndexEntry_events (fun _ _ _ _ _ => by split <;> simp) _ _

@[simp] theorem indexPurge_events (n : Nat) (s : State) : (s.indexPurge n).events = s.events := by simp only [State.indexPurge]

@[simp] theorem updMdom_events (d : Nat) (f : MapDomain → MapDomain) (s : State) : (s.updMdom d f).events = s.events := by
  simp only [State.updMdom]

@[simp] theorem mapCount_events (i d : Nat) (s : State) : (s.mapCount_ i d).events = s.events := by simp only [State.mapCount_]

@[simp] theorem updLayer_events (d id : Nat) (f : Layer → Layer) (s : State) : (s.updLayer d id f).events = s.events := by
  simp only [State.updLayer]

@[simp] theorem updPage_events (p : Nat) (f : Page → Page) (s : State) : (s.updPage p f).events = s.events := by simp only [State.updPage]

@[simp] theorem addLayer_events (d : Nat) (l : Layer) (s : State) : (s.addLayer d l).2.events = s.events := by simp [State.addLayer]

@[simp] theorem mapLevels_inBounds (s : State) : InBounds (s.mapLevels).events ↔ InBounds s.events := by simp [State.mapLevels]

@[simp] theorem addPage_inBounds (d kind first : Nat) (body : List Byte) (s : State) :
    InBounds (s.addPage d kind first body).2.events ↔ InBounds s.events := by simp [State.addPage]

@[simp] theorem spill_events (w : CacheWay) (s : State) : (s.spill w).events = s.events := by simp [State.spill]

@[simp] theorem cacheAccess_events (p sector rank : Nat) (write : Bool) (s : State) :
    (s.cacheAccess p sector rank write).events = s.events := by
  simp only [State.cacheAccess]
  (repeat' split) <;> simp

@[simp] theorem cacheDrop_events (p : Nat) (s : State) : (s.cacheDrop p).events = s.events := by
  simp only [State.cacheDrop]
  split <;> simp

@[simp] theorem cleanPage_events (p : Nat) (s : State) : (s.cleanPage p).events = s.events := by simp only [State.cleanPage]

@[simp] theorem writePage_events (p off : Nat) (bs : List Byte) (s : State) : (s.writePage p off bs).events = s.events := by
  simp [State.writePage]

@[simp] theorem stampPage_events (p claim wsn : Nat) (s : State) : (s.stampPage p claim wsn).events = s.events := by simp [State.stampPage]

@[simp] theorem touchWalk_events (a x rank k p : Nat) (s : State) : (s.touchWalk a x rank k p).events = s.events := by
  induction k generalizing p s with
  | zero => simp only [State.touchWalk]; (repeat' split) <;> simp
  | succ k ih => simp only [State.touchWalk]; split <;> simp [ih]

@[simp] theorem touchPath_events (d id a x rank : Nat) (s : State) : (s.touchPath d id a x rank).events = s.events := by
  simp only [State.touchPath]
  split <;> simp

@[simp] theorem releaseEntry_events (d : Nat) (e : MapEntry) (s : State) : (s.releaseEntry d e).events = s.events := by
  have hindexed : (s.eachIndexEntry (s.resolvePxa e.pxa) fun bucket tag form sett s =>
      s.indexSub d bucket tag form sett (s.resolvePxa e.pxa)).events = s.events := by simp
  simp only [State.releaseEntry]
  split_ifs <;> simp

@[simp] theorem releaseSett_events (d : Nat) (e : MapEntry) (s : State) : (s.releaseSett d e).events = s.events := by
  simp only [State.releaseSett]
  split_ifs
  · rfl
  · simp
  · rw [mapCountSub_events, eachIndexEntry_events]
    intros
    split_ifs <;> simp

@[simp] theorem copyPage_inBounds (p pins : Nat) (s : State) : InBounds (s.copyPage p pins).2.events ↔ InBounds s.events := by
  simp only [State.copyPage]
  split <;> simp

@[simp] theorem releasePage_events (fuel p : Nat) (s : State) : (s.releasePage fuel p).events = s.events := by
  induction fuel generalizing p s with
  | zero => rfl
  | succ fuel ih =>
    simp only [State.releasePage]
    split
    · rfl
    · split_ifs <;> simp [ih]

@[simp] theorem countPins_events (d : Nat) (s : State) : (s.countPins d).events = s.events := by simp only [State.countPins]

@[simp] theorem startPinning_events (nsid : Nat) (s : State) : (s.startPinning nsid).events = s.events := by
  simp only [State.startPinning]
  split <;> simp

@[simp] theorem privatePage_inBounds (d kind first pins p : Nat) (s : State) :
    InBounds (s.privatePage d kind first pins p).2.events ↔ InBounds s.events := by
  simp only [State.privatePage]
  (repeat' split) <;> simp

@[simp] theorem privateBelow_inBounds (d a pins t n p : Nat) (s : State) :
    InBounds (s.privateBelow d a pins t n p).2.events ↔ InBounds s.events := by
  induction n generalizing p s with
  | zero => rfl
  | succ n ih => simp only [State.privateBelow]; split_ifs <;> simp [ih]

@[simp] theorem privatePath_inBounds (d id a t : Nat) (s : State) : InBounds (s.privatePath d id a t).2.events ↔ InBounds s.events := by
  simp only [State.privatePath]
  split <;> simp

@[simp] theorem settlePath_events (a claim wsn : Nat) (delta : Int) (skip : Nat → Bool) (t n p : Nat) (s : State) :
    (s.settlePath a claim wsn delta skip t n p).events = s.events := by
  induction n generalizing p s with
  | zero => simp only [State.settlePath]; split <;> simp
  | succ n ih => simp only [State.settlePath]; split <;> simp [ih]

@[simp] theorem recountPath_events (a claim wsn : Nat) (skip : Nat → Bool) (n p : Nat) (s : State) :
    (s.recountPath a claim wsn skip n p).2.events = s.events := by
  induction n generalizing p s with
  | zero => simp only [State.recountPath]; split <;> simp
  | succ n ih => simp only [State.recountPath]; split_ifs <;> simp [ih]

@[simp] theorem lowerUsed_events (fuel p n : Nat) (s : State) : (s.lowerUsed fuel p n).events = s.events := by
  induction fuel generalizing p n s with
  | zero => rfl
  | succ fuel ih =>
    refine foldl_events (fun t q => ?_) _ _
    (repeat' split) <;> simp [ih]

@[simp] theorem privateSettPage_inBounds (leaf q pins : Nat) (s : State) :
    InBounds (s.privateSettPage leaf q pins).2.events ↔ InBounds s.events := by
  simp only [State.privateSettPage]
  (repeat' split) <;> simp

@[simp] theorem splitAshlar_inBounds (d id leaf a : Nat) (s : State) :
    InBounds (s.splitAshlar d id leaf a).2.events ↔ InBounds s.events := by
  simp only [State.splitAshlar]
  (repeat' split) <;> simp

@[simp] theorem clearAshlar_inBounds (d id leaf a : Nat) (s : State) :
    InBounds (s.clearAshlar d id leaf a).events ↔ InBounds s.events := by simp [State.clearAshlar]

@[simp] theorem setCoarse_inBounds (d id leaf a : Nat) (e : MapEntry) (s : State) :
    InBounds (s.setCoarse d id leaf a e).events ↔ InBounds s.events := by simp [State.setCoarse]

@[simp] theorem setSett_events (d q slot x : Nat) (e : MapEntry) (s : State) : (s.setSett d q slot x e).events = s.events := by
  simp [State.setSett]

@[simp] theorem touchSplit_events (leaf a : Nat) (s : State) : (s.touchSplit leaf a).events = s.events := by simp [State.touchSplit]

@[simp] theorem mergeAtOnce_inBounds (d id leaf a : Nat) (s : State) :
    InBounds (s.mergeAtOnce d id leaf a).events ↔ InBounds s.events := by simp [State.mergeAtOnce]

end Sys2Proof.Proofs
end

section
/-! What the operations of ports and connections, and of staging and mirroring, do to the events (R88, R429). -/

namespace Sys2Proof.Proofs
open Sys2Proof.Machine Sys2Proof.Laws

/-! ### Ports, transmission, the context cache and requests -/

@[simp] theorem updLport_events (p : Nat) (f : LogPort → LogPort) (s : State) : (s.updLport p f).events = s.events := by
  simp only [State.updLport]

@[simp] theorem portCount_events (p i d : Nat) (s : State) : (s.portCount p i d).events = s.events := by simp [State.portCount]

@[simp] theorem netCount_events (i d : Nat) (s : State) : (s.netCount i d).events = s.events := by simp only [State.netCount]

@[simp] theorem updConn_events (c : Nat) (f : Conn → Conn) (s : State) : (s.updConn c f).events = s.events := by simp only [State.updConn]

@[simp] theorem drainPort_events (lp n : Nat) (s : State) : (s.drainPort lp n).events = s.events := by
  induction n generalizing s with
  | zero => rfl
  | succ n ih => simp only [State.drainPort]; (repeat' split) <;> simp [ih]

@[simp] theorem flushPort_events (lp : Nat) (s : State) : (s.flushPort lp).events = s.events := by simp [State.flushPort]

@[simp] theorem queueOut_events (lp : Nat) (es : List TxEntry) (s : State) : (s.queueOut lp es).events = s.events := by
  simp [State.queueOut]

@[simp] theorem queuePackets_events (i rank : Nat) (os : List Out) (s : State) : (s.queuePackets i rank os).events = s.events := by
  simp [State.queuePackets]

@[simp] theorem sendPackets_events (i : Nat) (os : List Out) (s : State) : (s.sendPackets i os).events = s.events := by
  simp [State.sendPackets]

@[simp] theorem sendLoose_events (lp pcp : Nat) (ip : List Byte) (o : Out) (s : State) :
    (s.sendLoose lp pcp ip o).events = s.events := by simp [State.sendLoose]

@[simp] theorem makeResident_events (i : Nat) (s : State) : (s.makeResident i).events = s.events := by
  simp only [State.makeResident]
  (repeat' split) <;> simp

@[simp] theorem readMeasured_events (start outside : Nat) (recon : Bool) (s : State) :
    (s.readMeasured start outside recon).events = s.events := by simp only [State.readMeasured]

@[simp] theorem sendRequest_events (i : Nat) (op : RcOp) (use : RcUse) (s : State) : (s.sendRequest i op use).events = s.events := by
  simp only [State.sendRequest]
  split <;> simp

@[simp] theorem resendNow_events (i psn : Nat) (s : State) : (s.resendNow i psn).events = s.events := by simp [State.resendNow]

@[simp] theorem resendFrom_events (i psn : Nat) (s : State) : (s.resendFrom i psn).events = s.events := by simp [State.resendFrom]

@[simp] theorem resendKept_events (i : Nat) (s : State) : (s.resendKept i).events = s.events := by
  simp only [State.resendKept]
  split <;> simp

@[simp] theorem pumpConn_events (i fuel : Nat) (s : State) : (s.pumpConn i fuel).events = s.events := by
  induction fuel generalizing s with
  | zero => rfl
  | succ fuel ih =>
    simp only [State.pumpConn]
    split
    · rfl
    · split_ifs <;> simp [ih]

@[simp] theorem pumpOut_events (i : Nat) (s : State) : (s.pumpOut i).events = s.events := by simp [State.pumpOut]

@[simp] theorem pump_events (i : Nat) (s : State) : (s.pump i).events = s.events := by simp [State.pump]

@[simp] theorem post_events (i : Nat) (op : RcOp) (use : RcUse) (s : State) : (s.post i op use).events = s.events := by simp [State.post]

@[simp] theorem pumpPort_events (lp : Nat) (s : State) : (s.pumpPort lp).events = s.events := by simp [State.pumpPort]

@[simp] theorem acked_events (i psn : Nat) (s : State) : (s.acked i psn).events = s.events := by simp [State.acked]

@[simp] theorem sendMessage_events (head lane kind wsn : Nat) (body : List Byte) (s : State) :
    (s.sendMessage head lane kind wsn body).2.events = s.events := by
  simp only [State.sendMessage]
  split <;> simp

/-! ### The staging log, mirroring and the application of deltas -/

@[simp] theorem loseMirror_inBounds (cause : Nat) (s : State) : InBounds (s.loseMirror cause).events ↔ InBounds s.events := by
  simp [State.loseMirror]

@[simp] theorem awaitMirror_events (what : MirrorWait) (lane seq : Nat) (s : State) :
    (s.awaitMirror what lane seq).events = s.events := by simp only [State.awaitMirror]

@[simp] theorem mirrorRecord_inBounds (r : Staged) (s : State) : InBounds (s.mirrorRecord r).events ↔ InBounds s.events := by
  simp only [State.mirrorRecord]
  (repeat' split) <;> simp

@[simp] theorem mirrorJournal_inBounds (d rank : Nat) (f : JFrame) (s : State) :
    InBounds (s.mirrorJournal d rank f).events ↔ InBounds s.events := by
  simp only [State.mirrorJournal]
  (repeat' split) <;> simp

@[simp] theorem mirrorProgress_events (k : Nat) (e : EraseOp) (s : State) : (s.mirrorProgress k e).events = s.events := by
  simp only [State.mirrorProgress]
  (repeat' split) <;> simp

@[simp] theorem stagingLevel_inBounds (s : State) : InBounds (s.stagingLevel).events ↔ InBounds s.events := by simp [State.stagingLevel]

@[simp] theorem closeRecord_events (r : Staged) (s : State) : (s.closeRecord r).events = s.events := by simp [State.closeRecord]

@[simp] theorem stagingClose_events (s : State) : (s.stagingClose).events = s.events := by
  simp only [State.stagingClose]
  (repeat' split) <;> simp

@[simp] theorem stageRecord_inBounds (r : Staged) (keepWsn : Bool) (s : State) :
    InBounds (s.stageRecord r keepWsn).2.events ↔ InBounds s.events := by simp [State.stageRecord]

@[simp] theorem stageLater_inBounds (r : Staged) (s : State) : InBounds (s.stageLater r).events ↔ InBounds s.events := by
  simp [State.stageLater]

@[simp] theorem placeWaiting_inBounds (fuel : Nat) (s : State) : InBounds (s.placeWaiting fuel).events ↔ InBounds s.events := by
  induction fuel generalizing s with
  | zero => rfl
  | succ fuel ih => simp only [State.placeWaiting]; (repeat' split) <;> simp [ih]

@[simp] theorem placeHeld_inBounds (s : State) : InBounds (s.placeHeld).events ↔ InBounds s.events := by simp [State.placeHeld]

@[simp] theorem dropWaiting_events (d : Nat) (s : State) : (s.dropWaiting d).events = s.events := by simp only [State.dropWaiting]

@[simp] theorem stageMap_inBounds (d nsid rank : Nat) (ds : List Delta) (acc : Option Nat) (s : State) :
    InBounds (s.stageMap d nsid rank ds acc).events ↔ InBounds s.events := by simp [State.stageMap]

@[simp] theorem updRecord_events (w : Nat) (f : Staged → Staged) (s : State) : (s.updRecord w f).events = s.events := by
  simp only [State.updRecord]

@[simp] theorem releaseStaging_inBounds (s : State) : InBounds (s.releaseStaging).events ↔ InBounds s.events := by
  simp [State.releaseStaging]

@[simp] theorem insertDelta_events (r : Staged) (d : Delta) (fps : List (List Byte)) (pxa : Nat) (s : State) :
    (s.insertDelta r d fps pxa).2.events = s.events := by
  simp only [State.insertDelta]
  split
  · rfl
  · split
    · simp
    · rw [foldl_snd_events]
      · simp
      · intros; split <;> simp

@[simp] theorem incrementDelta_events (r : Staged) (d : Delta) (fps : List (List Byte)) (s : State) :
    (s.incrementDelta r d fps).events = s.events := by simp [State.incrementDelta]

@[simp] theorem discardDelta_events (r : Staged) (d : Delta) (s : State) : (s.discardDelta r d).events = s.events := by
  simp [State.discardDelta]

@[simp] theorem newEntry_events (r : Staged) (id : Nat) (d : Delta) (fps : List (List Byte)) (s : State) :
    (s.newEntry r id d fps).2.events = s.events := by
  simp only [State.newEntry]
  (repeat' split) <;> simp

@[simp] theorem setSetts_events (r : Staged) (d : Delta) (q slot : Nat) (e : MapEntry) (s : State) :
    (s.setSetts r d q slot e).events = s.events := by simp [State.setSetts]

@[simp] theorem changeLeaf_inBounds (r : Staged) (id : Nat) (d : Delta) (fps : List (List Byte)) (skip : Nat → Bool) (coarse : Bool)
    (leaf : Nat) (s : State) :
    InBounds (s.changeLeaf r id d fps skip coarse leaf).events ↔ InBounds s.events := by simp [State.changeLeaf]

@[simp] theorem changeTable_events (r : Staged) (id : Nat) (d : Delta) (fps : List (List Byte)) (skip : Nat → Bool) (leaf : Nat)
    (s : State) :
    (s.changeTable r id d fps skip leaf).events = s.events := by
  simp only [State.changeTable]
  split <;> simp

@[simp] theorem applyAshlar_inBounds (r : Staged) (id : Nat) (d : Delta) (fps : List (List Byte)) (skip : Nat → Bool) (s : State) :
    InBounds (s.applyAshlar r id d fps skip).events ↔ InBounds s.events := by
  simp only [State.applyAshlar]
  (repeat' split) <;> simp

@[simp] theorem dropSubtree_inBounds (r : Staged) (id k a : Nat) (skip : Nat → Bool) (s : State) :
    InBounds (s.dropSubtree r id k a skip).events ↔ InBounds s.events := by
  simp only [State.dropSubtree]
  (repeat' split) <;> simp

@[simp] theorem applyRange_inBounds (r : Staged) (id op : Nat) (skip : Nat → Bool) (fuel left a : Nat) (s : State) :
    InBounds (s.applyRange r id op skip fuel left a).events ↔ InBounds s.events := by
  induction fuel generalizing left a s with
  | zero => rfl
  | succ fuel ih =>
    simp only [State.applyRange]
    (repeat' split) <;> simp [ih]

@[simp] theorem applyLost_events (r : Staged) (page ix pxa : Nat) (skip : Nat → Bool) (s : State) :
    (s.applyLost r page ix pxa skip).2.events = s.events := by
  simp only [State.applyLost]
  (repeat' split) <;> simp

@[simp] theorem deleteLayer_events (d id : Nat) (s : State) : (s.deleteLayer d id).events = s.events := by simp [State.deleteLayer]

@[simp] theorem growLayer_inBounds (d id n : Nat) (s : State) : InBounds (s.growLayer d id n).events ↔ InBounds s.events := by
  induction n generalizing s with
  | zero => rfl
  | succ n ih =>
    simp only [State.growLayer]
    split
    · rfl
    · split_ifs <;> simp [ih]

@[simp] theorem takeLayer_events (d id : Nat) (l : Layer) (s : State) : (s.takeLayer d id l).events = s.events := by simp [State.takeLayer]

@[simp] theorem applyMapOp_inBounds (r : Staged) (d : Delta) (skip : Nat → Bool) (s : State) :
    InBounds (s.applyMapOp r d skip).events ↔ InBounds s.events := by
  simp only [State.applyMapOp]
  (repeat' split) <;> simp

@[simp] theorem markMerges_events (r : Staged) (s : State) : (s.markMerges r).events = s.events := by simp only [State.markMerges]

@[simp] theorem applyEach_inBounds (r : Staged) (skip : Nat → Bool) (ds : List Delta) (fps : List (List Byte)) (s : State) :
    InBounds (s.applyEach r skip ds fps).events ↔ InBounds s.events := by
  induction ds generalizing fps s with
  | nil => rfl
  | cons d ds ih => simp only [State.applyEach, ih]; split_ifs <;> simp

@[simp] theorem applyDeltas_inBounds (r : Staged) (ds : List Delta) (fps : List (List Byte)) (s : State) :
    InBounds (s.applyDeltas r ds fps).events ↔ InBounds s.events := by simp [State.applyDeltas]

end Sys2Proof.Proofs
end

section
/-! What the operations of the NVMe target and of the whole head do to the events (R88, R429). -/

namespace Sys2Proof.Proofs
open Sys2Proof.Machine Sys2Proof.Laws

/-! ### Capsules, completions, the stages of writes, the end of queues and controllers -/

@[simp] theorem updCtrl_events (c : Nat) (f : Controller → Controller) (s : State) : (s.updCtrl c f).events = s.events := by
  simp only [State.updCtrl]

@[simp] theorem updSubsys_events (n : Nat) (f : Subsystem → Subsystem) (s : State) : (s.updSubsys n f).events = s.events := by
  simp only [State.updSubsys]

@[simp] theorem logError_events (conn cid status lba nsid : Nat) (s : State) :
    (s.logError conn cid status lba nsid).events = s.events := by
  simp only [State.logError]
  (repeat' split) <;> simp

@[simp] theorem startBusy_events (n : Nat) (s : State) : (s.startBusy n).events = s.events := by simp [State.startBusy]

@[simp] theorem countBusy_events (n : Nat) (but : Option (Nat × Nat)) (s : State) : (s.countBusy n but).events = s.events := by
  simp [State.countBusy]

@[simp] theorem countBusyOf_events (conn cid : Nat) (s : State) : (s.countBusyOf conn cid).events = s.events := by
  simp only [State.countBusyOf]
  (repeat' split) <;> simp

@[simp] theorem postCompletion_events (conn cid status dw : Nat) (inv : Option Nat) (s : State) :
    (s.postCompletion conn cid status dw inv).events = s.events := by simp [State.postCompletion]

@[simp] theorem complete_events (conn cid status dw : Nat) (inv : Option Nat) (s : State) :
    (s.complete conn cid status dw inv).events = s.events := by simp [State.complete]

@[simp] theorem completeData_events (conn : Nat) (cap data : List Byte) (use : RcUse) (s : State) :
    (s.completeData conn cap data use).events = s.events := by rw [State.completeData, complete_events, post_events]

@[simp] theorem popCapsule_events (conn : Nat) (s : State) : (s.popCapsule conn).events = s.events := by simp [State.popCapsule]

@[simp] theorem refuseCapsule_events (conn : Nat) (cap : List Byte) (status : Nat) (s : State) :
    (s.refuseCapsule conn cap status).events = s.events := by simp [State.refuseCapsule]

@[simp] theorem sendAen_events (c typ info log : Nat) (s : State) : (s.sendAen c typ info log).events = s.events := by
  simp only [State.sendAen]
  (repeat' split) <;> simp

@[simp] theorem nsChanged_events (nsid subsys : Nat) (s : State) : (s.nsChanged nsid subsys).events = s.events := by simp [State.nsChanged]

@[simp] theorem setAna_inBounds (d st : Nat) (s : State) : InBounds (s.setAna d st).events ↔ InBounds s.events := by simp [State.setAna]

@[simp] theorem updNCmd_events (k : Nat) (f : Cmd → Cmd) (s : State) : (s.updNCmd k f).events = s.events := by simp only [State.updNCmd]

@[simp] theorem releaseWrite_events (c : Cmd) (s : State) : (s.releaseWrite c).events = s.events := by
  simp only [State.releaseWrite]
  rw [foldl_events fun _ _ => by split <;> simp, foldl_events fun _ _ => by split <;> simp]

@[simp] theorem failCmdAt_events (k status lba : Nat) (s : State) : (s.failCmdAt k status lba).events = s.events := by
  simp only [State.failCmdAt]
  (repeat' split) <;> simp

@[simp] theorem failCmd_events (k status : Nat) (s : State) : (s.failCmd k status).events = s.events := by simp [State.failCmd]

@[simp] theorem failSett_events (k x : Nat) (s : State) : (s.failSett k x).events = s.events := by
  simp only [State.failSett]
  split <;> simp

@[simp] theorem hostStat_events (subsys units cmds k : Nat) (s : State) : (s.hostStat subsys units cmds k).events = s.events := by
  simp [State.hostStat]

@[simp] theorem reserveMap_events (k : Nat) (s : State) : (s.reserveMap k).events = s.events := by
  simp only [State.reserveMap]
  split <;> simp

@[simp] theorem decide_events (k : Nat) (s : State) : (s.decide_ k).events = s.events := by simp [State.decide_]

@[simp] theorem fingerprint_events (k : Nat) (s : State) : (s.fingerprint k).events = s.events := by
  simp only [State.fingerprint]
  split <;> simp

@[simp] theorem ingest_events (k : Nat) (data : List Byte) (s : State) : (s.ingest k data).events = s.events := by
  simp only [State.ingest]
  (repeat' split) <;> simp

@[simp] theorem placeWrite_inBounds (k : Nat) (s : State) : InBounds (s.placeWrite k).events ↔ InBounds s.events := by
  simp only [State.placeWrite]
  (repeat' split) <;> simp

@[simp] theorem settleWrite_events (k : Nat) (c : Cmd) (s : State) : (s.settleWrite k c).events = s.events := by
  simp only [State.settleWrite]
  (repeat' split) <;> simp

@[simp] theorem settleWrites_events (s : State) : (s.settleWrites).events = s.events := by simp [State.settleWrites]

@[simp] theorem completeFlush_events (k : Nat) (s : State) : (s.completeFlush k).events = s.events := by
  simp only [State.completeFlush]
  split <;> simp

@[simp] theorem endFlushes_events (d : Nat) (s : State) : (s.endFlushes d).events = s.events := by simp [State.endFlushes]

@[simp] theorem tearQueue_events (conn : Nat) (s : State) : (s.tearQueue conn).events = s.events := by simp [State.tearQueue]

@[simp] theorem disconnect_events (conn : Nat) (s : State) : (s.disconnect conn).events = s.events := by simp [State.disconnect]

@[simp] theorem tearIoQueues_events (c : Nat) (s : State) : (s.tearIoQueues c).events = s.events := by
  simp only [State.tearIoQueues]
  split <;> simp

@[simp] theorem endController_inBounds (c cause : Nat) (s : State) : InBounds (s.endController c cause).events ↔ InBounds s.events := by
  simp only [State.endController]
  (repeat' split) <;> simp

@[simp] theorem closeAwaited_events (ws : List Nat) (rank : Nat) (s : State) : (s.closeAwaited ws rank).events = s.events := by
  simp [State.closeAwaited]

/-! ### Ring frames, replication sessions, connections leaving READY, losing a domain, footing mode -/

@[simp] theorem ringSend_events (typ : Nat) (body : List Byte) (s : State) : (s.ringSend typ body).events = s.events := by
  simp [State.ringSend]

@[simp] theorem updPeer_events (h : Nat) (f : Peer → Peer) (s : State) : (s.updPeer h f).events = s.events := by simp only [State.updPeer]

@[simp] theorem updDomain_events (d : Nat) (f : Domain → Domain) (s : State) : (s.updDomain d f).events = s.events := by
  simp only [State.updDomain]

@[simp] theorem leaveRing_events (s : State) : (s.leaveRing).events = s.events := by simp [State.leaveRing]

@[simp] theorem ownerOnly_inBounds {p : Packet} {d : Nat} {f : State → State} {s : State} (hf : InBounds (f s).events ↔ InBounds s.events) :
    InBounds (s.ownerOnly p d f).events ↔ InBounds s.events := by
  simp only [State.ownerOnly]
  split <;> simp [hf]

@[simp] theorem updSession_events (i : Nat) (f : Session → Session) (s : State) : (s.updSession i f).events = s.events := by
  simp only [State.updSession]

@[simp] theorem breakSync_inBounds (i : Nat) (s : State) : InBounds (s.breakSync i).events ↔ InBounds s.events := by simp [State.breakSync]

@[simp] theorem replFlag_events (d id : Nat) (on : Bool) (s : State) : (s.replFlag d id on).events = s.events := by simp [State.replFlag]

@[simp] theorem clearReplFlags_events (i : Nat) (s : State) : (s.clearReplFlags i).events = s.events := by simp [State.clearReplFlags]

@[simp] theorem failSession_inBounds (i cause status : Nat) (s : State) :
    InBounds (s.failSession i cause status).events ↔ InBounds s.events := by
  simp only [State.failSession]
  (repeat' split) <;> simp

@[simp] theorem closeSessions_inBounds (d : Nat) (s : State) : InBounds (s.closeSessions d).events ↔ InBounds s.events := by
  simp [State.closeSessions]

@[simp] theorem leftReady_inBounds (i cause : Nat) (s : State) : InBounds (s.leftReady i cause).events ↔ InBounds s.events := by
  simp only [State.leftReady]
  (repeat' split) <;> simp

@[simp] theorem connError_inBounds (i cause : Nat) (s : State) : InBounds (s.connError i cause).events ↔ InBounds s.events := by
  simp [State.connError]

@[simp] theorem endConn_inBounds (i : Nat) (s : State) : InBounds (s.endConn i).events ↔ InBounds s.events := by simp [State.endConn]

@[simp] theorem abortSuspended_events (d : Nat) (s : State) : (s.abortSuspended d).events = s.events :=
  foldl_events (fun _ _ => foldl_events (fun _ _ => by (repeat' split) <;> simp) _ _) _ _

@[simp] theorem forgetDomain_events (d : Nat) (s : State) : (s.forgetDomain d).events = s.events := by simp [State.forgetDomain]

@[simp] theorem dropKeys_events (d : Nat) (s : State) : (s.dropKeys d).events = s.events := by simp [State.dropKeys]

@[simp] theorem silenceDomain_events (d : Nat) (s : State) : (s.silenceDomain d).events = s.events := by simp [State.silenceDomain]

@[simp] theorem takeDomain_inBounds (d higher : Nat) (s : State) : InBounds (s.takeDomain d higher).events ↔ InBounds s.events := by
  simp [State.takeDomain]

@[simp] theorem fenced_inBounds (d m detail : Nat) (s : State) : InBounds (s.fenced d m detail).events ↔ InBounds s.events := by
  simp [State.fenced]

@[simp] theorem healthCheck_events (s : State) : (s.healthCheck).events = s.events :=
  foldl_events (fun _ _ => by split <;> simp) _ _

@[simp] theorem allNsChanged_events (s : State) : (s.allNsChanged).events = s.events := by simp [State.allNsChanged]

@[simp] theorem enterFooting_inBounds (cause : Nat) (s : State) : InBounds (s.enterFooting cause).events ↔ InBounds s.events := by
  simp [State.enterFooting]

@[simp] theorem loseOrFoot_inBounds (n cause missing : Nat) (s : State) :
    InBounds (s.loseOrFoot n cause missing).events ↔ InBounds s.events := by simp [State.loseOrFoot]

@[simp] theorem mapFault_inBounds (cause nsid ashlar mpn : Nat) (s : State) :
    InBounds (s.mapFault cause nsid ashlar mpn).events ↔ InBounds s.events := by simp [State.mapFault]

@[simp] theorem recreatePage_inBounds (p : Nat) (s : State) : InBounds (s.recreatePage p).events ↔ InBounds s.events := by
  unfold State.recreatePage
  split
  · rfl
  · rw [raise_inBounds, updPage_events]

@[simp] theorem pruneGhosts_events (s : State) : (s.pruneGhosts).events = s.events := by simp only [State.pruneGhosts]

@[simp] theorem giveLayer_events (nsid : Nat) (s : State) : (s.giveLayer nsid).events = s.events := by
  simp only [State.giveLayer]
  split <;> simp

@[simp] theorem queueRecheck_events (nsid ashlar : Nat) (s : State) : (s.queueRecheck nsid ashlar).events = s.events := by
  simp [State.queueRecheck]

/-! ### The summary of a dump -/

@[simp] theorem writeSummary_inBounds (x : Summary) (s : State) : InBounds (s.writeSummary x).events ↔ InBounds s.events := by
  simp [State.writeSummary]

/-! ### Replication messages and synchronous writes -/

@[simp] theorem replSend_events (i kind wsn flags : Nat) (body : List Byte) (s : State) :
    (s.replSend i kind wsn flags body).events = s.events := by
  simp only [State.replSend]
  split <;> simp

@[simp] theorem replExtent_inBounds (i seq index : Nat) (plain : List Byte) (s : State) :
    InBounds (s.replExtent i seq index plain).events ↔ InBounds s.events := by
  simp only [State.replExtent]
  split <;> simp

@[simp] theorem pumpOffers_events (i fuel : Nat) (s : State) : (s.pumpOffers i fuel).events = s.events := by
  induction fuel generalizing s with
  | zero => rfl
  | succ fuel ih => simp only [State.pumpOffers]; (repeat' split) <;> simp [ih]

@[simp] theorem pumpDelta_events (i : Nat) (s : State) : (s.pumpDelta i).events = s.events := by simp [State.pumpDelta]

@[simp] theorem offersDone_events (i seq : Nat) (s : State) : (s.offersDone i seq).events = s.events := by simp [State.offersDone]

@[simp] theorem settleSync_events (s : State) : (s.settleSync).events = s.events := by simp [State.settleSync]

@[simp] theorem deltaFrozen_events (nsid layer : Nat) (s : State) : (s.deltaFrozen nsid layer).events = s.events := by
  simp only [State.deltaFrozen]
  split <;> simp

@[simp] theorem sendSync_events (i k w : Nat) (xs : List (DeltaRec × Option (List Byte))) (s : State) :
    (s.sendSync i k w xs).events = s.events := by
  simp only [State.sendSync, replSend_events, updSession_events]
  rw [foldl_snd_events]
  intros
  split
  · rfl
  · dsimp only; split <;> simp

@[simp] theorem syncWrite_events (k : Nat) (s : State) : (s.syncWrite k).events = s.events := by
  simp only [State.syncWrite]
  (repeat' split) <;> simp

end Sys2Proof.Proofs
end

section
/-! What the read path, the answers of Plinth commands, the journal and the map engine do to the events (R88, R429). -/

namespace Sys2Proof.Proofs
open Sys2Proof.Machine Sys2Proof.Laws

/-! ### The read path -/

@[simp] theorem noteSource_inBounds (n : Namespace) (nsid ashlar : Nat) (x : SettSrc) (s : State) :
    InBounds (s.noteSource n nsid ashlar x).events ↔ InBounds s.events := by
  simp only [State.noteSource]
  split <;> simp

@[simp] theorem breakConditions_events (k m : Nat) (s : State) : (s.breakConditions k m).events = s.events := by
  simp [State.breakConditions]

@[simp] theorem noteJob_events (k : Nat) (x : ReadJob) (s : State) : (s.noteJob k x).events = s.events := by simp [State.noteJob]

@[simp] theorem finishRead_events (k : Nat) (s : State) : (s.finishRead k).events = s.events := by
  simp only [State.finishRead]
  (repeat' split) <;> simp

@[simp] theorem mergeSett_events (k x : Nat) (content : Option (List Byte)) (s : State) :
    (s.mergeSett k x content).events = s.events := by
  simp only [State.mergeSett]
  (repeat' split) <;> simp

@[simp] theorem decideRow_inBounds (n cause : Nat) (x : ReadJob) (s : State) :
    InBounds (s.decideRow n cause x).events ↔ InBounds s.events := by
  simp only [State.decideRow]
  split <;> simp

@[simp] theorem deliver_inBounds (j : Nat) (x : ReadJob) (content : Option (List Byte)) (s : State) :
    InBounds (s.deliver j x content).events ↔ InBounds s.events := by
  simp only [State.deliver]
  (repeat' split) <;> simp

@[simp] theorem checkStripe_events (n : Nat) (s : State) : (s.checkStripe n).events = s.events := by
  simp only [State.checkStripe]
  split <;> simp

@[simp] theorem noteFaults_inBounds (x : ReadJob) (s : State) : InBounds (s.noteFaults x).events ↔ InBounds s.events := by
  simp only [State.noteFaults]
  (repeat' split) <;> simp

@[simp] theorem settleJob_inBounds (j fuel : Nat) (s : State) : InBounds (s.settleJob j fuel).events ↔ InBounds s.events := by
  induction fuel generalizing s with
  | zero => rfl
  | succ fuel ih => simp only [State.settleJob]; (repeat' split) <;> simp [ih]

@[simp] theorem settle_inBounds (j : Nat) (s : State) : InBounds (s.settle j).events ↔ InBounds s.events := by simp [State.settle]

@[simp] theorem readUnits_inBounds (use : ReadUse) (rank pxa units : Nat) (s : State) :
    InBounds (s.readUnits use rank pxa units).events ↔ InBounds s.events := by simp [State.readUnits]

@[simp] theorem fetchPage_inBounds (p rank : Nat) (s : State) : InBounds (s.fetchPage p rank).events ↔ InBounds s.events := by
  simp only [State.fetchPage]
  split <;> simp

@[simp] theorem fetchIndex_inBounds (d page rank : Nat) (s : State) :
    InBounds (s.fetchIndex d page rank).events ↔ InBounds s.events := by simp [State.fetchIndex]

@[simp] theorem advanceReadN_inBounds (k fuel : Nat) (s : State) : InBounds (s.advanceReadN k fuel).events ↔ InBounds s.events := by
  induction fuel generalizing s with
  | zero => rfl
  | succ fuel ih =>
    simp only [State.advanceReadN]
    (repeat' split) <;> simp [ih]
    all_goals
      rw [foldl_events]
      intros
      split <;> simp

@[simp] theorem advanceRead_inBounds (k : Nat) (s : State) : InBounds (s.advanceRead k).events ↔ InBounds s.events := by
  simp [State.advanceRead]

@[simp] theorem lookForms_inBounds (k : Nat) (s : State) : InBounds (s.lookForms k).events ↔ InBounds s.events := by
  simp only [State.lookForms]
  (repeat' split) <;> simp

@[simp] theorem resumeReads_inBounds (s : State) : InBounds (s.resumeReads).events ↔ InBounds s.events := by simp [State.resumeReads]

@[simp] theorem startMerge_inBounds (k x : Nat) (s : State) : InBounds (s.startMerge k x).events ↔ InBounds s.events := by
  simp only [State.startMerge]
  (repeat' split) <;> simp

/-! ### Answers of Plinth commands: claims, failures, detaching -/

@[simp] theorem scanModule_events (m : Nat) (s : State) : (s.scanModule m).events = s.events := by simp [State.scanModule]

@[simp] theorem claimWon_events (d : Nat) (s : State) : (s.claimWon d).events = s.events := by simp [State.claimWon]

@[simp] theorem tryClaim_events (d : Nat) (s : State) : (s.tryClaim d).events = s.events := by simp [State.tryClaim]

@[simp] theorem acquire_inBounds (d : Nat) (takeover : Option Nat) (s : State) :
    InBounds (s.acquire d takeover).events ↔ InBounds s.events := by simp [State.acquire]

@[simp] theorem claimFailed_inBounds (d : Nat) (s : State) : InBounds (s.claimFailed d).events ↔ InBounds s.events := by
  simp [State.claimFailed]

@[simp] theorem claimAnswer_inBounds (d m : Nat) (ok : Bool) (detail : Nat) (s : State) :
    InBounds (s.claimAnswer d m ok detail).events ↔ InBounds s.events := by simp [State.claimAnswer]

@[simp] theorem probeAnswer_inBounds (d : Nat) (stale : Bool) (s : State) :
    InBounds (s.probeAnswer d stale).events ↔ InBounds s.events := by simp [State.probeAnswer]

@[simp] theorem failDie_inBounds (m d : Nat) (s : State) : InBounds (s.failDie m d).events ↔ InBounds s.events := by simp [State.failDie]

@[simp] theorem retire_inBounds (a cause : Nat) (s : State) : InBounds (s.retire a cause).events ↔ InBounds s.events := by
  simp [State.retire]

@[simp] theorem refresh_inBounds (a cause : Nat) (s : State) : InBounds (s.refresh a cause).events ↔ InBounds s.events := by
  simp only [State.refresh]
  (repeat' split) <;> simp

@[simp] theorem earlyWarning_inBounds (a errs step cause : Nat) (s : State) :
    InBounds (s.earlyWarning a errs step cause).events ↔ InBounds s.events := by simp [State.earlyWarning]

@[simp] theorem trimPool_events (d : Nat) (s : State) : (s.trimPool d).events = s.events := by
  simp only [State.trimPool]
  (repeat' split) <;> simp

@[simp] theorem checkRetired_inBounds (m : Nat) (s : State) : InBounds (s.checkRetired m).events ↔ InBounds s.events := by
  simp [State.checkRetired]

@[simp] theorem checkAllRetired_inBounds (s : State) : InBounds (s.checkAllRetired).events ↔ InBounds s.events := by
  simp [State.checkAllRetired]

@[simp] theorem emptyPools_events (m : Nat) (s : State) : (s.emptyPools m).events = s.events := by simp [State.emptyPools]

@[simp] theorem segmentErased_inBounds (g : Nat) (s : State) : InBounds (s.segmentErased g).events ↔ InBounds s.events := by
  simp [State.segmentErased]

@[simp] theorem erased_inBounds (a : Nat) (s : State) : InBounds (s.erased a).events ↔ InBounds s.events := by
  simp only [State.erased]
  split <;> simp

@[simp] theorem wordsBad_inBounds (j cell : Nat) (words : List Nat) (pending : Bool) (s : State) :
    InBounds (s.wordsBad j cell words pending).events ↔ InBounds s.events := by
  simp only [State.wordsBad]
  split <;> simp

@[simp] theorem restartCell_events (g cell : Nat) (s : State) : (s.restartCell g cell).events = s.events := by
  simp only [State.restartCell]
  split <;> simp

@[simp] theorem endOp_events (m d id : Nat) (s : State) : (s.endOp m d id).events = s.events := by
  simp only [State.endOp]
  split <;> simp

@[simp] theorem probeLost_inBounds (c : PlCmd) (s : State) : InBounds (s.probeLost c).events ↔ InBounds s.events := by
  simp only [State.probeLost]
  split <;> simp

@[simp] theorem memberFailed_events (d m : Nat) (s : State) : (s.memberFailed d m).events = s.events := by simp [State.memberFailed]

@[simp] theorem resilverFrame_inBounds (d : Nat) (f : JFrame) (s : State) :
    InBounds (s.resilverFrame d f).events ↔ InBounds s.events := by simp [State.resilverFrame]

@[simp] theorem readJournal_inBounds (d first : Nat) (s : State) : InBounds (s.readJournal d first).events ↔ InBounds s.events := by
  simp only [State.readJournal]
  split <;> simp

@[simp] theorem journalRead_inBounds (d first : Nat) (fs : List JFrame) (s : State) :
    InBounds (s.journalRead d first fs).events ↔ InBounds s.events := by simp [State.journalRead]

@[simp] theorem failPl_inBounds (c : PlCmd) (s : State) : InBounds (s.failPl c).events ↔ InBounds s.events := by
  simp only [State.failPl]
  split <;> simp

@[simp] theorem retry_inBounds (c : PlCmd) (s : State) : InBounds (s.retry c).events ↔ InBounds s.events := by simp [State.retry]

@[simp] theorem presentClaims_events (m : Nat) (s : State) : (s.presentClaims m).events = s.events := by simp [State.presentClaims]

@[simp] theorem settleOne_inBounds (c : PlCmd) (s : State) : InBounds (s.settleOne c).events ↔ InBounds s.events := by
  simp only [State.settleOne]
  split <;> simp

@[simp] theorem idleDies_events (m : Nat) (s : State) : (s.idleDies m).events = s.events := by simp [State.idleDies]

@[simp] theorem newSession_inBounds (m : Nat) (s : State) : InBounds (s.newSession m).events ↔ InBounds s.events := by
  simp [State.newSession]

@[simp] theorem detach_inBounds (m cause : Nat) (s : State) : InBounds (s.detach m cause).events ↔ InBounds s.events := by
  simp [State.detach]

@[simp] theorem queueResume_events (m d : Nat) (s : State) : (s.queueResume m d).events = s.events := by
  simp only [State.queueResume]
  split <;> simp

@[simp] theorem maybeResume_events (m d : Nat) (s : State) : (s.maybeResume m d).events = s.events := by simp [State.maybeResume]

@[simp] theorem decodeWord_inBounds (c : PlCmd) (j cell word : Nat) (bytes : List Byte) (s : State) :
    InBounds (s.decodeWord c j cell word bytes).events ↔ InBounds s.events := by
  simp only [State.decodeWord]
  (repeat' split) <;> simp

@[simp] theorem commitRead_inBounds (c : PlCmd) (j cell : Nat) (s : State) :
    InBounds (s.commitRead c j cell).events ↔ InBounds s.events := by
  simp only [State.commitRead]
  split <;> simp

/-! ### Metadata pages, extents that move, durable records, replay -/

@[simp] theorem writeBack_events (p : Nat) (s : State) : (s.writeBack p).events = s.events := by
  simp only [State.writeBack]
  (repeat' split) <;> simp

@[simp] theorem pageClosed_inBounds (n : Nat) (i : Item) (s : State) : InBounds (s.pageClosed n i).events ↔ InBounds s.events := by
  simp only [State.pageClosed]
  (repeat' split) <;> simp

@[simp] theorem moveExtent_inBounds (old new : Nat) (s : State) : InBounds (s.moveExtent old new).events ↔ InBounds s.events := by
  simp only [State.moveExtent]
  split <;> simp

@[simp] theorem dropIndexPage_events (k : Nat) (x : IndexPage) (s : State) : (s.dropIndexPage k x).events = s.events := by
  simp [State.dropIndexPage]

@[simp] theorem rewritePage_inBounds (p rank : Nat) (s : State) : InBounds (s.rewritePage p rank).events ↔ InBounds s.events := by
  simp only [State.rewritePage]
  (repeat' split) <;> simp

@[simp] theorem copyExtent_inBounds (p : Nat) (e : Extent) (rank : Nat) (s : State) :
    InBounds (s.copyExtent p e rank).events ↔ InBounds s.events := by simp [State.copyExtent]

@[simp] theorem copyOut_inBounds (n rank : Nat) (s : State) : InBounds (s.copyOut n rank).events ↔ InBounds s.events := by
  simp [State.copyOut]

@[simp] theorem strideClosed_inBounds (n stamp : Nat) (s : State) : InBounds (s.strideClosed n stamp).events ↔ InBounds s.events := by
  simp only [State.strideClosed]
  split
  · rfl
  · simp only [fill_events, settleSync_events, releaseStaging_inBounds, settleWrites_events]
    rw [foldl_inBounds]
    · simp
    · intros
      (repeat' split) <;> simp

@[simp] theorem memberReplaced_inBounds (g cell old new : Nat) (s : State) :
    InBounds (s.memberReplaced g cell old new).events ↔ InBounds s.events := by simp [State.memberReplaced]

@[simp] theorem checkpointed_events (d low seq : Nat) (s : State) : (s.checkpointed d low seq).events = s.events := by
  simp [State.checkpointed]

@[simp] theorem durable_inBounds (d : Nat) (r : JRecord) (s : State) : InBounds (s.durable d r).events ↔ InBounds s.events := by
  simp only [State.durable]
  (repeat' split) <;> simp

@[simp] theorem makeDurable_inBounds (d fuel : Nat) (s : State) : InBounds (s.makeDurable d fuel).events ↔ InBounds s.events := by
  induction fuel generalizing s with
  | zero => rfl
  | succ fuel ih => simp only [State.makeDurable]; (repeat' split) <;> simp [ih]

@[simp] theorem replayRecord_events (d : Nat) (summary : Nat → List Item) (r : JRecord) (s : State) :
    (s.replayRecord d summary r).events = s.events := by
  simp only [State.replayRecord]
  (repeat' split) <;> simp

@[simp] theorem discardOpen_inBounds (d : Nat) (s : State) : InBounds (s.discardOpen d).events ↔ InBounds s.events := by
  simp [State.discardOpen]

/-! ### I/O capsules and the admission of writes -/

@[simp] theorem addCmd_events (k : Nat) (c : Cmd) (s : State) : (s.addCmd k c).events = s.events := by simp only [State.addCmd]

@[simp] theorem admit_events (k : Nat) (s : State) : (s.admit_ k).events = s.events := by
  simp only [State.admit_]
  (repeat' split) <;> simp

@[simp] theorem considerWrites_events (fuel : Nat) (s : State) : (s.considerWrites fuel).events = s.events := by
  induction fuel generalizing s with
  | zero => rfl
  | succ fuel ih => simp only [State.considerWrites]; (repeat' split) <;> simp [ih]

@[simp] theorem trimIndex_events (s : State) : (s.trimIndex).events = s.events := by simp [State.trimIndex]

/-! ### The map engine -/

@[simp] theorem pageArrives_inBounds (p j : Nat) (x : ReadJob) (g : Page) (s : State) :
    InBounds (s.pageArrives p j x g).events ↔ InBounds s.events := by simp [State.pageArrives]

@[simp] theorem fetchPages_inBounds (ps : List Nat) (rank : Nat) (s : State) :
    InBounds (s.fetchPages ps rank).events ↔ InBounds s.events := by simp [State.fetchPages]

@[simp] theorem layerReply_inBounds (r : Staged) (s : State) : InBounds (s.layerReply r).events ↔ InBounds s.events := by
  simp only [State.layerReply]
  split <;> simp

@[simp] theorem applyRecord_inBounds (r : Staged) (s : State) : InBounds (s.applyRecord r).events ↔ InBounds s.events := by
  simp [State.applyRecord]

@[simp] theorem coldStart_inBounds (nsid a : Nat) (n : Namespace) (s : State) : InBounds (s.coldStart nsid a n).events ↔ InBounds s.events := by
  simp only [State.coldStart]
  rw [foldl_inBounds]
  · simp
  · intros
    split <;> simp

@[simp] theorem coldFinish_inBounds (nsid a key : Nat) (m : ColdMerge) (n : Namespace) (s : State) :
    InBounds (s.coldFinish nsid a key m n).events ↔ InBounds s.events := by simp [State.coldFinish]

@[simp] theorem endCheck_inBounds (d : Nat) (repair : Bool) (s : State) :
    InBounds (s.endCheck d repair).events ↔ InBounds s.events := by simp [State.endCheck]

/-! ### Format and sanitize -/

@[simp] theorem putErase_events (k : Nat) (e : EraseOp) (s : State) : (s.putErase k e).events = s.events := by simp [State.putErase]

@[simp] theorem recordErase_inBounds (k : Nat) (e : EraseOp) (s : State) : InBounds (s.recordErase k e).events ↔ InBounds s.events := by
  simp [State.recordErase]

@[simp] theorem forgetErase_inBounds (kind target : Nat) (s : State) :
    InBounds (s.forgetErase kind target).events ↔ InBounds s.events := by simp [State.forgetErase]

@[simp] theorem failErase_inBounds (k : Nat) (e : EraseOp) (s : State) : InBounds (s.failErase k e).events ↔ InBounds s.events := by
  simp only [State.failErase]
  split <;> simp

@[simp] theorem startErase_inBounds (k kind action target cdw10 newLbaf tag : Nat) (nsids : List Nat) (cmd : Option (Nat × Nat))
    (inv : Option Nat) (s : State) :
    InBounds (s.startErase k kind action target cdw10 newLbaf tag nsids cmd inv).events ↔ InBounds s.events := by simp [State.startErase]

@[simp] theorem unmapRun_inBounds (ns : List Nat) (lo hi : Nat) (s : State) : InBounds (s.unmapRun ns lo hi).events ↔ InBounds s.events := by
  induction ns generalizing lo hi s with
  | nil => rfl
  | cons n ns ih => simp only [State.unmapRun]; (repeat' split) <;> simp [ih]

@[simp] theorem freshLayer_inBounds (nsid : Nat) (s : State) : InBounds (s.freshLayer nsid).events ↔ InBounds s.events := by
  simp only [State.freshLayer]
  split <;> simp

@[simp] theorem eraseLayers_inBounds (nsid : Nat) (s : State) : InBounds (s.eraseLayers nsid).events ↔ InBounds s.events := by
  simp [State.eraseLayers]

@[simp] theorem dropRecord_events (r : Staged) (s : State) : (s.dropRecord r).events = s.events := by simp [State.dropRecord]

@[simp] theorem dropErased_inBounds (nsids : List Nat) (s : State) : InBounds (s.dropErased nsids).events ↔ InBounds s.events := by
  simp [State.dropErased]

@[simp] theorem enterPhase_inBounds (k phase : Nat) (e : EraseOp) (s : State) :
    InBounds (s.enterPhase k phase e).events ↔ InBounds s.events := by simp [State.enterPhase]

@[simp] theorem eraseStep_inBounds (k : Nat) (e : EraseOp) (s : State) : InBounds (s.eraseStep k e).events ↔ InBounds s.events := by
  simp [State.eraseStep]

@[simp] theorem endErase_inBounds (k : Nat) (e : EraseOp) (s : State) : InBounds (s.endErase k e).events ↔ InBounds s.events := by
  simp only [State.endErase]
  (repeat' split) <;> simp

@[simp] theorem showErase_events (e : EraseOp) (s : State) : (s.showErase e).events = s.events := by simp [State.showErase]

@[simp] theorem recallErase_events (kind target : Nat) (s : State) : (s.recallErase kind target).events = s.events := by
  simp only [State.recallErase]
  split <;> simp

@[simp] theorem resumeErases_inBounds (s : State) : InBounds (s.resumeErases).events ↔ InBounds s.events := by simp [State.resumeErases]

/-! ### Admin and Fabrics commands of the NVMe target -/

@[simp] theorem afterConnect_events (conn : Nat) (s : State) : (s.afterConnect conn).events = s.events := by
  simp only [State.afterConnect]
  split <;> simp

@[simp] theorem adminData_events (conn : Nat) (cap data : List Byte) (s : State) : (s.adminData conn cap data).events = s.events := by
  simp [State.adminData]

@[simp] theorem refuseConnect_events (conn : Nat) (cap : List Byte) (status dw : Nat) (s : State) :
    (s.refuseConnect conn cap status dw).events = s.events := by simp [State.refuseConnect]

@[simp] theorem connectAdmin_inBounds (conn : Nat) (cap data : List Byte) (sub : Option Nat) (s : State) :
    InBounds (s.connectAdmin conn cap data sub).events ↔ InBounds s.events := by
  simp only [State.connectAdmin]
  (repeat' split) <;> simp

@[simp] theorem connectIo_events (conn : Nat) (cap data : List Byte) (qid sub : Nat) (s : State) :
    (s.connectIo conn cap data qid sub).events = s.events := by
  simp only [State.connectIo]
  split <;> simp

@[simp] theorem connectChecked_inBounds (conn : Nat) (data : List Byte) (s : State) :
    InBounds (s.connectChecked conn data).events ↔ InBounds s.events := by
  simp only [State.connectChecked]
  (repeat' split) <;> simp

@[simp] theorem connect_inBounds (conn : Nat) (data : List Byte) (s : State) :
    InBounds (s.connect conn data).events ↔ InBounds s.events := by simp [State.connect]

@[simp] theorem writeCc_events (c v : Nat) (s : State) : (s.writeCc c v).events = s.events := by
  simp only [State.writeCc]
  split <;> simp

/-! ### The write path -/

@[simp] theorem lookHit_inBounds (k unit : Nat) (ashlar : Bool) (c : Cmd) (bucket slot : Nat) (e : List Byte) (s : State) :
    InBounds (s.lookHit k unit ashlar c bucket slot e).events ↔ InBounds s.events := by simp [State.lookHit]

/-! ### The packets of class 0x03 -/

@[simp] theorem onSubsys_inBounds {p : Packet} {f : Nat → Subsystem → State → State} {s : State}
    (hf : ∀ n u, InBounds (f n u s).events ↔ InBounds s.events) : InBounds (s.onSubsys p f).events ↔ InBounds s.events := by
  simp only [State.onSubsys]
  split <;> simp [hf]

@[simp] theorem onNamespace_inBounds {p : Packet} {f : Nat → Namespace → State → State} {s : State}
    (hf : ∀ n x, InBounds (f n x s).events ↔ InBounds s.events) : InBounds (s.onNamespace p f).events ↔ InBounds s.events := by
  simp only [State.onNamespace]
  split <;> simp [hf]

end Sys2Proof.Proofs
end

section
/-! What the receivers of packets, ports, Plinth links, stripes and heads do to the events (R88, R429). -/

namespace Sys2Proof.Proofs
open Sys2Proof.Machine Sys2Proof.Laws

/-! ### Receiving RC packets -/

@[simp] theorem writeRegion_events (i off : Nat) (b : List Byte) (s : State) : (s.writeRegion i off b).events = s.events := by
  simp only [State.writeRegion]

@[simp] theorem rangesArrived_events (k : Nat) (b : List Byte) (s : State) : (s.rangesArrived k b).events = s.events := by
  simp only [State.rangesArrived]
  (repeat' split) <;> simp

@[simp] theorem readEnded_inBounds (conn : Nat) (u : RcUse) (b : Option (List Byte)) (s : State) :
    InBounds (s.readEnded conn u b).events ↔ InBounds s.events := by
  simp only [State.readEnded]
  (repeat' split) <;> simp

@[simp] theorem deliverMessage_events (conn : Nat) (b : List Byte) (s : State) : (s.deliverMessage conn b).events = s.events := by
  simp only [State.deliverMessage]
  (repeat' split) <;> simp

@[simp] theorem sendAck_events (i : Nat) (s : State) : (s.sendAck i).events = s.events := by simp [State.sendAck]

@[simp] theorem sendNak_events (i : Nat) (code : Aeth) (s : State) : (s.sendNak i code).events = s.events := by simp [State.sendNak]

@[simp] theorem nakInvalid_inBounds (i : Nat) (s : State) : InBounds (s.nakInvalid i).events ↔ InBounds s.events := by
  simp [State.nakInvalid]

@[simp] theorem nakAccess_inBounds (i : Nat) (stale : Bool) (s : State) :
    InBounds (s.nakAccess i stale).events ↔ InBounds s.events := by simp [State.nakAccess]

@[simp] theorem executed_events (i n : Nat) (ackReq : Bool) (s : State) : (s.executed i n ackReq).events = s.events := by
  simp [State.executed]

@[simp] theorem respond_events (i psn off len region : Nat) (s : State) : (s.respond i psn off len region).events = s.events := by
  simp [State.respond]

@[simp] theorem rxSend_inBounds (i : Nat) (p : RcPacket) (s : State) : InBounds (s.rxSend i p).events ↔ InBounds s.events := by
  simp [State.rxSend]

@[simp] theorem rxWrite_inBounds (i : Nat) (p : RcPacket) (s : State) : InBounds (s.rxWrite i p).events ↔ InBounds s.events := by
  simp only [State.rxWrite]
  (repeat' split) <;> simp

@[simp] theorem rxRead_inBounds (i : Nat) (p : RcPacket) (s : State) : InBounds (s.rxRead i p).events ↔ InBounds s.events := by
  simp only [State.rxRead]
  split <;> simp

@[simp] theorem rxRequest_inBounds (i : Nat) (p : RcPacket) (s : State) : InBounds (s.rxRequest i p).events ↔ InBounds s.events := by
  simp only [State.rxRequest]
  (repeat' split) <;> simp

@[simp] theorem rxSeqNak_events (i psn : Nat) (s : State) : (s.rxSeqNak i psn).events = s.events := by simp [State.rxSeqNak]

@[simp] theorem rxRnr_inBounds (i psn timer : Nat) (s : State) : InBounds (s.rxRnr i psn timer).events ↔ InBounds s.events := by
  simp [State.rxRnr]

@[simp] theorem ackExpiry_inBounds (i : Nat) (s : State) : InBounds (s.ackExpiry i).events ↔ InBounds s.events := by simp [State.ackExpiry]

@[simp] theorem rxAck_inBounds (i : Nat) (p : RcPacket) (s : State) : InBounds (s.rxAck i p).events ↔ InBounds s.events := by
  simp only [State.rxAck]
  split <;> simp

@[simp] theorem endRead_events (i : Nat) (r : RcReq) (s : State) : (s.endRead i r).events = s.events := by simp [State.endRead]

@[simp] theorem rxResponse_inBounds (i : Nat) (p : RcPacket) (s : State) : InBounds (s.rxResponse i p).events ↔ InBounds s.events := by
  simp only [State.rxResponse]
  split <;> simp

@[simp] theorem sendCnp_events (i : Nat) (s : State) : (s.sendCnp i).events = s.events := by simp [State.sendCnp]

/-- A packet of a READY connection is counted: its peer has been heard, and a mark of congestion is answered (R108, R336). -/
def noted (use : ConnUse) (i : Nat) (p : RcPacket) (s : State) : State :=
  let s := s.updConn i fun c => { c with packetsRx := c.packetsRx + 1 }
  let s := match use with
    | .peer h _ => s.updPeer h fun x => { x with lastPacket := s.tick }
    | _ => s
  if p.ce then s.sendCnp i else s

/-- A packet of a READY connection is served, an acknowledgement that comes late after the expiry (R111 to R114). -/
def served (i : Nat) (p : RcPacket) (s : State) : State :=
  if 13 ≤ p.op && p.op ≤ 17 then
    let s := if s.ackLate i then s.ackExpiry i else s
    if (s.conn i).state ≠ .ready then s
    else if p.op = 17 then s.rxAck i p
    else s.rxResponse i p
  else s.rxRequest i p

theorem rcResident_eq (i : Nat) (p : RcPacket) (s : State) : s.rcResident i p =
    let s := s.updConn i fun c => { c with lastUse := s.now }
    if (s.conn i).state = .timewait then s.netCount 7 1
    else if (s.conn i).state ≠ .ready then s
    else served i p (noted (s.conn i).use i p s) := rfl

@[simp] theorem noted_events (use : ConnUse) (i : Nat) (p : RcPacket) (s : State) : (noted use i p s).events = s.events := by
  simp only [noted]
  split <;> split <;> simp

@[simp] theorem served_inBounds (i : Nat) (p : RcPacket) (s : State) : InBounds (served i p s).events ↔ InBounds s.events := by
  simp only [served]
  split
  · split <;> split_ifs <;> simp
  · simp

@[simp] theorem rcResident_inBounds (i : Nat) (p : RcPacket) (s : State) : InBounds (s.rcResident i p).events ↔ InBounds s.events := by
  rw [rcResident_eq]
  dsimp only
  split_ifs <;> simp

@[simp] theorem flowCheck_events (lport : Nat) (s : State) : (s.flowCheck lport).events = s.events := by simp [State.flowCheck]

theorem rcTake_inBounds {s t : State} {p : RcPacket} (htake : s.rcTake p = some t) : InBounds t.events ↔ InBounds s.events := by
  simp only [State.rcTake] at htake
  split_ifs at htake <;> cases htake <;> simp

@[simp] theorem rcResume_inBounds (lport n : Nat) (s : State) : InBounds (s.rcResume lport n).events ↔ InBounds s.events := by
  induction n generalizing s with
  | zero => rfl
  | succ n ih =>
    simp only [State.rcResume]
    split
    · rfl
    · split
      · rfl
      next htake => rw [ih, updLport_events, rcTake_inBounds htake]

@[simp] theorem rcReceive_inBounds (p : RcPacket) (s : State) : InBounds (s.rcReceive p).events ↔ InBounds s.events := by
  simp only [State.rcReceive]
  generalize hcounted : State.portCount p.lport 24 _ _ = t
  have ht : t.events = s.events := by simp [← hcounted]
  split_ifs
  · simp [ht]
  · simp [ht]
  · cases htake : t.rcTake p with
    | none => simp [ht]
    | some u => simp [rcTake_inBounds htake, ht]
  · simp [ht]

/-! ### Connection management -/

@[simp] theorem freeConn_events (i : Nat) (s : State) : (s.freeConn i).events = s.events := by simp [State.freeConn]

@[simp] theorem sendCm_events (lp pcp : Nat) (ip : List Byte) (name : String) (conn remoteQpn psn : Nat) (data : List Byte) (s : State) :
    (s.sendCm lp pcp ip name conn remoteQpn psn data).events = s.events := by simp [State.sendCm]

@[simp] theorem connCm_events (i : Nat) (name : String) (psn : Nat) (data : List Byte) (s : State) :
    (s.connCm i name psn data).events = s.events := by simp [State.connCm]

@[simp] theorem cmArrives_events (lp : Nat) (ip : List Byte) (s : State) : (s.cmArrives lp ip).events = s.events := by
  simp [State.cmArrives]

@[simp] theorem becomeReady_events (i : Nat) (s : State) : (s.becomeReady i).events = s.events := by simp [State.becomeReady]

@[simp] theorem activeConnect_events (use : ConnUse) (lport : Nat) (alt : Option Nat) (ip : List Byte) (pcp dscp : Nat)
    (priv : List Byte) (s : State) :
    (s.activeConnect use lport alt ip pcp dscp priv).events = s.events := by
  simp only [State.activeConnect]
  split <;> simp

@[simp] theorem reject_events (q : CmReq) (reason : Nat) (data : List Byte) (s : State) :
    (s.reject q reason data).events = s.events := by simp [State.reject]

@[simp] theorem acceptReq_events (q : CmReq) (use : ConnUse) (alt : Option Nat) (slots : Nat) (rep : List Byte) (s : State) :
    (s.acceptReq q use alt slots rep).2.events = s.events := by
  simp only [State.acceptReq]
  split <;> simp

@[simp] theorem serveReq_inBounds (q : CmReq) (s : State) : InBounds (s.serveReq q).events ↔ InBounds s.events := by
  simp only [State.serveReq]
  (repeat' split) <;> simp

@[simp] theorem serveMra_inBounds (fuel : Nat) (s : State) : InBounds (s.serveMra fuel).events ↔ InBounds s.events := by
  induction fuel generalizing s with
  | zero => rfl
  | succ fuel ih => simp only [State.serveMra]; (repeat' split) <;> simp [ih]

@[simp] theorem serveWaiting_inBounds (s : State) : InBounds (s.serveWaiting).events ↔ InBounds s.events := by simp [State.serveWaiting]

@[simp] theorem connectFailed_inBounds (i : Nat) (s : State) : InBounds (s.connectFailed i).events ↔ InBounds s.events := by
  simp only [State.connectFailed]
  split <;> simp

@[simp] theorem cmExpiry_inBounds (i : Nat) (s : State) : InBounds (s.cmExpiry i).events ↔ InBounds s.events := by simp [State.cmExpiry]

@[simp] theorem cmAnswer_inBounds (i : Nat) (s : State) : InBounds (s.cmAnswer i).events ↔ InBounds s.events := by simp [State.cmAnswer]

@[simp] theorem timewait_events (i : Nat) (s : State) : (s.timewait i).events = s.events := by simp [State.timewait]

/-! ### Ethernet ports and the packets of class 0x02 -/

@[simp] theorem updPort_events (p : Nat) (f : EthPort → EthPort) (s : State) : (s.updPort p f).events = s.events := by
  simp only [State.updPort]

@[simp] theorem changePath_events (i : Nat) (s : State) : (s.changePath i).events = s.events := by
  simp only [State.changePath]
  split <;> simp

@[simp] theorem linkDown_inBounds (lport : Nat) (s : State) : InBounds (s.linkDown lport).events ↔ InBounds s.events := by
  simp [State.linkDown]

@[simp] theorem pfcReceive_events (lport enabled : Nat) (quanta : List Nat) (s : State) :
    (s.pfcReceive lport enabled quanta).events = s.events := by simp [State.pfcReceive]

@[simp] theorem sendFrame_events (lport pcp : Nat) (b : List Byte) (s : State) : (s.sendFrame lport pcp b).events = s.events := by
  simp [State.sendFrame]

@[simp] theorem queueFrame_events (lport : Nat) (b : List Byte) (s : State) : (s.queueFrame lport b).events = s.events := by
  simp [State.queueFrame]

@[simp] theorem frameReceive_events (lport : Nat) (f : EthFrame) (s : State) : (s.frameReceive lport f).events = s.events := by
  simp [State.frameReceive]

/-! ### Plinth links, schedule slots, responses, modules and the scrub -/

@[simp] theorem train_events (l : Nat) (s : State) : (s.train l).events = s.events := by simp [State.train]

@[simp] theorem moveWaiting_events (l : Nat) (s : State) : (s.moveWaiting l).events = s.events := by simp [State.moveWaiting]

@[simp] theorem linkLost_inBounds (l cause : Nat) (s : State) : InBounds (s.linkLost l cause).events ↔ InBounds s.events := by
  simp [State.linkLost]

@[simp] theorem sendCredit_events (l : Nat) (s : State) : (s.sendCredit l).events = s.events := by simp [State.sendCredit]

@[simp] theorem heard_inBounds (l frames : Nat) (s : State) : InBounds (s.heard l frames).events ↔ InBounds s.events := by
  simp [State.heard]

@[simp] theorem helloFrom_inBounds (link module : Nat) (s : State) : InBounds (s.helloFrom link module).events ↔ InBounds s.events := by
  simp [State.helloFrom]

@[simp] theorem admitStarts_inBounds (m : Nat) (plan : List Byte) (tokens : Nat) (xs : List Start) (s : State) :
    InBounds (s.admitStarts m plan tokens xs).events ↔ InBounds s.events := by
  induction xs generalizing tokens s with
  | nil => rfl
  | cons x xs ih => simp only [State.admitStarts]; (repeat' split) <;> simp [ih]

@[simp] theorem lateRetry_inBounds (m id : Nat) (s : State) : InBounds (s.lateRetry m id).events ↔ InBounds s.events := by
  simp only [State.lateRetry]
  split <;> simp

@[simp] theorem fencedAnswer_inBounds (c : PlCmd) (detail : Nat) (s : State) :
    InBounds (s.fencedAnswer c detail).events ↔ InBounds s.events := by simp [State.fencedAnswer]

@[simp] theorem answer_inBounds {r : PlResponse} {opcodes : List Nat} {f : PlCmd → State → State}
    (hf : ∀ c s, InBounds (f c s).events ↔ InBounds s.events) (s : State) :
    InBounds (s.answer r opcodes f).events ↔ InBounds s.events := by
  simp only [State.answer]
  (repeat' split) <;> simp [hf]

@[simp] theorem noteBlock_events (a : Nat) (r : PlResponse) (s : State) : (s.noteBlock a r).events = s.events := by simp [State.noteBlock]

@[simp] theorem tokensRefused_events (c : PlCmd) (s : State) : (s.tokensRefused c).events = s.events := by simp [State.tokensRefused]

@[simp] theorem abortedOp_inBounds (m d : Nat) (s : State) : InBounds (s.abortedOp m d).events ↔ InBounds s.events := by
  simp only [State.abortedOp]
  (repeat' split) <;> simp

@[simp] theorem settleRecord_inBounds (opcode a domain cause : Nat) (s : State) :
    InBounds (s.settleRecord opcode a domain cause).events ↔ InBounds s.events := by simp [State.settleRecord]

@[simp] theorem identified_events (m : Nat) (rec_ : List Byte) (s : State) : (s.identified m rec_).events = s.events := by
  simp [State.identified]

@[simp] theorem scanBlock_inBounds (a : Nat) (pools : Bool) (s : State) :
    InBounds (s.scanBlock a pools).events ↔ InBounds s.events := by
  simp only [State.scanBlock]
  (repeat' split) <;> simp

@[simp] theorem rejoinModule_events (m : Nat) (s : State) : (s.rejoinModule m).events = s.events := by simp [State.rejoinModule]

/-! ### Stripes, the journal, garbage collection and rebuild -/

@[simp] theorem claimBlock_events (a d rank : Nat) (s : State) : (s.claimBlock a d rank).events = s.events := by simp [State.claimBlock]

@[simp] theorem layoutStalled_inBounds (d t : Nat) (s : State) : InBounds (s.layoutStalled d t).events ↔ InBounds s.events := by
  simp [State.layoutStalled]

@[simp] theorem recordSegment_events (d t row : Nat) (y : Layout) (cells : List Nat) (s : State) :
    (s.recordSegment d t row y cells).events = s.events := by simp [State.recordSegment]

@[simp] theorem adoptErases_events (d : Nat) (s : State) : (s.adoptErases d).events = s.events :=
  foldl_events (fun _ _ => by (repeat' split) <;> simp) _ _

@[simp] theorem giveLayers_events (d : Nat) (s : State) : (s.giveLayers d).events = s.events := by simp [State.giveLayers]

@[simp] theorem finishAcquire_inBounds (d : Nat) (s : State) : InBounds (s.finishAcquire d).events ↔ InBounds s.events := by
  simp [State.finishAcquire]

@[simp] theorem loadImage_events (d : Nat) (m : LedgerImage) (s : State) : (s.loadImage d m).events = s.events := by simp [State.loadImage]

@[simp] theorem correctNs_inBounds (e : Nat × Nat × Nat × Nat × Nat) (s : State) :
    InBounds (s.correctNs e).events ↔ InBounds s.events := by
  simp only [State.correctNs]
  split <;> simp

@[simp] theorem replayStaged_inBounds (d : Nat) (r : Staged) (s : State) :
    InBounds (s.replayStaged d r).events ↔ InBounds s.events := by simp [State.replayStaged]

@[simp] theorem evacuate_inBounds (g rank : Nat) (s : State) : InBounds (s.evacuate g rank).events ↔ InBounds s.events := by
  simp [State.evacuate]

@[simp] theorem rebuildNext_inBounds (cells : Nat) (s : State) : InBounds (s.rebuildNext cells).events ↔ InBounds s.events := by
  simp [State.rebuildNext]

@[simp] theorem spendTokens_events (n : Nat) (s : State) : (s.spendTokens n).events = s.events := by simp only [State.spendTokens]

@[simp] theorem programRebuild_events (g cell row : Nat) (strip : List Byte) (s : State) :
    (s.programRebuild g cell row strip).events = s.events := by
  simp only [State.programRebuild]
  split <;> simp

@[simp] theorem segmentRebuilt_inBounds (g : Nat) (s : State) : InBounds (s.segmentRebuilt g).events ↔ InBounds s.events := by
  simp [State.segmentRebuilt]

@[simp] theorem evacuateRebuild_inBounds (g : Nat) (s : State) : InBounds (s.evacuateRebuild g).events ↔ InBounds s.events := by
  simp [State.evacuateRebuild]

@[simp] theorem rebuildStep_inBounds (g : Nat) (s : State) : InBounds (s.rebuildStep g).events ↔ InBounds s.events := by
  simp only [State.rebuildStep]
  (repeat' split) <;> simp

/-! ### Ring frames received, messages between heads, binding and takers -/

@[simp] theorem updArea_events (i : Nat) (f : Area → Area) (s : State) : (s.updArea i f).events = s.events := by simp only [State.updArea]

@[simp] theorem freeArea_events (i : Nat) (s : State) : (s.freeArea i).events = s.events := by simp [State.freeArea]

@[simp] theorem tryBind_inBounds (s : State) : InBounds (s.tryBind).events ↔ InBounds s.events := by
  simp only [State.tryBind]
  (repeat' split) <;> simp

@[simp] theorem startResilver_inBounds (s : State) : InBounds (s.startResilver).events ↔ InBounds s.events := by simp [State.startResilver]

@[simp] theorem beginTakeover_inBounds (h : Nat) (ds : List Nat) (s : State) :
    InBounds (s.beginTakeover h ds).events ↔ InBounds s.events := by simp [State.beginTakeover]

@[simp] theorem peerGone_inBounds (h : Nat) (s : State) : InBounds (s.peerGone h).events ↔ InBounds s.events := by simp [State.peerGone]

@[simp] theorem declareFailed_inBounds (h cause : Nat) (s : State) : InBounds (s.declareFailed h cause).events ↔ InBounds s.events := by
  simp [State.declareFailed]

@[simp] theorem askResync_events (s : State) : (s.askResync).events = s.events :=
  foldl_events (fun _ _ => by (repeat' split) <;> simp) _ _

@[simp] theorem checkDirection_inBounds (d : Nat) (s : State) : InBounds (s.checkDirection d).events ↔ InBounds s.events := by
  simp [State.checkDirection]

@[simp] theorem checkFailed_inBounds (h : Nat) (s : State) : InBounds (s.checkFailed h).events ↔ InBounds s.events := by
  simp [State.checkFailed]

/-! ### Codewords and words in error -/

@[simp] theorem queueRepair_inBounds (h : LintelHit) (s : State) : InBounds (s.queueRepair h).events ↔ InBounds s.events := by
  simp [State.queueRepair]

@[simp] theorem lintelCorrected_inBounds (h : LintelHit) (s : State) : InBounds (s.lintelCorrected h).events ↔ InBounds s.events := by
  simp [State.lintelCorrected]

@[simp] theorem uncorrectable_inBounds (h : LintelHit) (outcome : Nat) (s : State) :
    InBounds (s.uncorrectable h outcome).events ↔ InBounds s.events := by simp [State.uncorrectable]

@[simp] theorem lintelFatal_inBounds (h : LintelHit) (s : State) : InBounds (s.lintelFatal h).events ↔ InBounds s.events := by
  simp [State.lintelFatal]

@[simp] theorem stagingHit_inBounds (h : LintelHit) (s : State) : InBounds (s.stagingHit h).events ↔ InBounds s.events := by
  simp only [State.stagingHit]
  split <;> simp

@[simp] theorem mapHit_inBounds (h : LintelHit) (s : State) : InBounds (s.mapHit h).events ↔ InBounds s.events := by
  simp only [State.mapHit]
  split <;> simp

@[simp] theorem readHit_inBounds (h : LintelHit) (s : State) : InBounds (s.readHit h).events ↔ InBounds s.events := by
  simp only [State.readHit]
  split <;> simp

@[simp] theorem contextHit_inBounds (h : LintelHit) (s : State) : InBounds (s.contextHit h).events ↔ InBounds s.events := by
  simp [State.contextHit]

@[simp] theorem lintelOutcome_inBounds (h : LintelHit) (s : State) : InBounds (s.lintelOutcome h).events ↔ InBounds s.events := by
  simp only [State.lintelOutcome]
  split <;> simp

@[simp] theorem lintelHit_inBounds (h : LintelHit) (s : State) : InBounds (s.lintelHit h).events ↔ InBounds s.events := by
  simp [State.lintelHit]

@[simp] theorem injectLintel_events (h : LintelHit) (s : State) : (s.injectLintel h).2.events = s.events := by
  simp only [State.injectLintel]
  (repeat' split) <;> simp

@[simp] theorem lintelHits_inBounds (hs : List LintelHit) (s : State) : InBounds (s.lintelHits hs).events ↔ InBounds s.events := by
  simp [State.lintelHits]

@[simp] theorem setWays_events (k : Nat) (ws : List CacheWay) (s : State) : (s.setWays k ws).events = s.events := by
  simp only [State.setWays]

@[simp] theorem cleanParity_inBounds (h : ParityHit) (s : State) : InBounds (s.cleanParity h).events ↔ InBounds s.events := by
  simp [State.cleanParity]

@[simp] theorem fatalParity_inBounds (h : ParityHit) (flags : Nat) (s : State) :
    InBounds (s.fatalParity h flags).events ↔ InBounds s.events := by simp [State.fatalParity]

@[simp] theorem parityHit_inBounds (h : ParityHit) (s : State) : InBounds (s.parityHit h).events ↔ InBounds s.events := by
  simp [State.parityHit]

/-! ### The commands of the digest channels -/

@[simp] theorem lastWordExpiry_inBounds (c : Nat) (s : State) : InBounds (s.lastWordExpiry c).events ↔ InBounds s.events := by
  simp only [State.lastWordExpiry]
  split <;> simp

end Sys2Proof.Proofs
end

section
/-! What the operations of rings, registers, supply and start-up do to the events (R88, R429). -/

namespace Sys2Proof.Proofs
open Sys2Proof.Machine Sys2Proof.Laws

/-! ### Rings and the event ring -/

@[simp] theorem ringFault_inBounds (n cause : Nat) (s : State) : InBounds (s.ringFault n cause).events ↔ InBounds s.events := by
  simp [State.ringFault]

@[simp] theorem sqTailDoorbell_inBounds (n v : Nat) (s : State) : InBounds (s.sqTailDoorbell n v).events ↔ InBounds s.events := by
  simp [State.sqTailDoorbell]

@[simp] theorem rqHeadDoorbell_inBounds (n v : Nat) (s : State) : InBounds (s.rqHeadDoorbell n v).events ↔ InBounds s.events := by
  simp [State.rqHeadDoorbell]

@[simp] theorem ringCfgWrite_inBounds (n v : Nat) (s : State) : InBounds (s.ringCfgWrite n v).events ↔ InBounds s.events := by
  simp [State.ringCfgWrite]

@[simp] theorem evqFault_inBounds (cause : Nat) (s : State) : InBounds (s.evqFault cause).events ↔ InBounds s.events := by
  simp [State.evqFault]

@[simp] theorem evqHeadDoorbell_inBounds (v : Nat) (s : State) : InBounds (s.evqHeadDoorbell v).events ↔ InBounds s.events := by
  simp [State.evqHeadDoorbell]

@[simp] theorem evqCfgWrite_inBounds (v : Nat) (s : State) : InBounds (s.evqCfgWrite v).events ↔ InBounds s.events := by
  simp [State.evqCfgWrite]

@[simp] theorem fetchSlot_inBounds (n : Nat) (slot : SlotRead) (s : State) :
    InBounds (s.fetchSlot n slot).events ↔ InBounds s.events := by
  simp only [State.fetchSlot]
  (repeat' split) <;> simp

@[simp] theorem resumeDma_events (s : State) : (s.resumeDma).events = s.events := by
  simp only [State.resumeDma]
  rw [foldl_events, foldl_events, foldl_events]
  all_goals
    intros
    simp

/-! ### Registers and the PCIe reset -/

@[simp] theorem setWindow_events (v : W64) (s : State) : (s.setWindow v).events = s.events := by rw [State.setWindow]

@[simp] theorem unmask_events (v : Nat) (s : State) : (s.unmask v).events = s.events := by simp [State.unmask]

@[simp] theorem msixWrite_events (off size v : Nat) (s : State) : (s.msixWrite off size v).events = s.events := by simp [State.msixWrite]

@[simp] theorem baseWrite_events (n : Nat) (sq : Bool) (v : W64) (s : State) : (s.baseWrite n sq v).events = s.events := by
  simp [State.baseWrite]

@[simp] theorem bar0Write_inBounds (off size : Nat) (v : W64) (s : State) :
    InBounds (s.bar0Write off size v).events ↔ InBounds s.events := by
  simp only [State.bar0Write]
  (repeat' split) <;> simp

@[simp] theorem bar1Write_inBounds (off size : Nat) (v : W64) (s : State) :
    InBounds (s.bar1Write off size v).events ↔ InBounds s.events := by
  simp only [State.bar1Write]
  (repeat' split) <;> simp

@[simp] theorem pcieReset_inBounds (s : State) : InBounds (s.pcieReset).events ↔ InBounds s.events := by simp [State.pcieReset]

/-! ### Vault and firmware update -/

@[simp] theorem release34_inBounds (s : State) : InBounds (s.release34).events ↔ InBounds s.events := by simp [State.release34]

@[simp] theorem writeBlock_inBounds (l failure : Nat) (s : State) : InBounds (s.writeBlock l failure).2.events ↔ InBounds s.events := by
  simp only [State.writeBlock]
  (repeat' split) <;> simp

@[simp] theorem abortUpdate_inBounds (s : State) : InBounds (s.abortUpdate).events ↔ InBounds s.events := by
  simp only [State.abortUpdate]
  split <;> simp

/-- The end of the lowering erase after any erases, so that the 2,048 of R401 are never computed. -/
theorem lowered_inBounds (blocks : List Nat) (f : BootRecord → BootRecord) (s : State) :
    InBounds ({ ((blocks.foldl (fun s l => s.vaultErase l) s).updVault fun v => { v with images := [{}, {}], summaries := [] }).writeBoot f with
      mason.lowering := false } : State).events ↔ InBounds s.events := by simp

@[simp] theorem completeLowering_inBounds (s : State) : InBounds s.completeLowering.events ↔ InBounds s.events := by
  rw [State.completeLowering, raise_inBounds]
  exact lowered_inBounds _ _ s

@[simp] theorem openUpdate_inBounds (slot : Nat) (m : List Byte) (p : Packet) (s : State) :
    InBounds (s.openUpdate slot m p).events ↔ InBounds s.events := by simp [State.openUpdate]

@[simp] theorem noOpen_inBounds (p : Packet) (s : State) : InBounds (s.noOpen p).events ↔ InBounds s.events := by simp [State.noOpen]

@[simp] theorem logFault_inBounds (failure : Nat) (s : State) : InBounds (s.logFault failure).events ↔ InBounds s.events := by
  simp only [State.logFault]
  split <;> simp

@[simp] theorem copyRecord_inBounds (r : LogRecord) (s : State) : InBounds (s.copyRecord r).events ↔ InBounds s.events := by
  simp [State.copyRecord]

/-! ### Supply, reset, drain and power-down -/

@[simp] theorem raiseEarly_inBounds (code : Nat) (params : List Byte) (s : State) :
    InBounds (s.raiseEarly code params).events ↔ InBounds s.events := by simp [State.raiseEarly]

@[simp] theorem release_events (straps : BitVec 6) (s : State) : (s.release straps).events = s.events := by simp [State.release]

@[simp] theorem leaveStandby_events (s : State) : (s.leaveStandby).events = s.events := by rw [State.leaveStandby, wakeAll_events, setPower_events]

@[simp] theorem settleIsland_inBounds (i : Nat) (s : State) : InBounds (s.settleIsland i).events ↔ InBounds s.events := by
  simp [State.settleIsland]

@[simp] theorem sleepIsland_inBounds (i : Nat) (s : State) : InBounds (s.sleepIsland i).events ↔ InBounds s.events := by
  simp only [State.sleepIsland]
  split <;> simp

@[simp] theorem dropRequests_events (s : State) : (s.dropRequests).events = s.events := by simp only [State.dropRequests]

@[simp] theorem dropUnstaged_events (s : State) : (s.dropUnstaged).events = s.events := by simp [State.dropUnstaged]

@[simp] theorem dropAdmin_events (s : State) : (s.dropAdmin).events = s.events := by simp only [State.dropAdmin]

@[simp] theorem startDrain_inBounds (s : State) : InBounds (s.startDrain).events ↔ InBounds s.events := by simp [State.startDrain]

@[simp] theorem supplyFails_inBounds (s : State) : InBounds (s.supplyFails).events ↔ InBounds s.events := by simp [State.supplyFails]

@[simp] theorem sleepAllBut_inBounds (kept : List Nat) (s : State) : InBounds (s.sleepAllBut kept).events ↔ InBounds s.events :=
  foldl_inBounds (fun _ _ => by dsimp only; split <;> simp) _ _

@[simp] theorem closeStaged_events (s : State) : (s.closeStaged).events = s.events := by simp [State.closeStaged]

@[simp] theorem smbWrite_events (code : Nat) (v : W16) (s : State) : (s.smbWrite code v).events = s.events := by
  simp only [State.smbWrite]
  split <;> simp

@[simp] theorem tapShift_events (ir : Byte) (bits_ : List Bool) (s : State) : (s.tapShift ir bits_).events = s.events := by
  simp [State.tapShift]

@[simp] theorem tapReset_events (s : State) : (s.tapReset).events = s.events := by simp [State.tapReset]

/-! ### Template banks and epochs -/

@[simp] theorem switchEpoch_inBounds (s : State) : InBounds (s.switchEpoch).events ↔ InBounds s.events := by simp [State.switchEpoch]

/-! ### Start-up -/

@[simp] theorem loadStamps_inBounds (lost : List Nat) (s : State) : InBounds (s.loadStamps lost).events ↔ InBounds s.events := by
  simp [State.loadStamps]

@[simp] theorem logReadFaults_inBounds (lost : List Nat) (s : State) : InBounds (s.logReadFaults lost).events ↔ InBounds s.events := by
  simp [State.logReadFaults]

@[simp] theorem takeStraps_inBounds (s : State) : InBounds (s.takeStraps).events ↔ InBounds s.events := by simp [State.takeStraps]

@[simp] theorem finishLowering_inBounds (s : State) : InBounds (s.finishLowering).events ↔ InBounds s.events := by
  simp [State.finishLowering]

@[simp] theorem reloadKeys_events (lost : List Nat) (s : State) : (s.reloadKeys lost).events = s.events :=
  foldl_events (fun _ _ => by split <;> rfl) _ _

@[simp] theorem reloadErases_events (lost : List Nat) (s : State) : (s.reloadErases lost).events = s.events :=
  foldl_events (fun _ _ => by (repeat' split) <;> rfl) _ _

@[simp] theorem reloadRepairs_events (lost : List Nat) (s : State) : (s.reloadRepairs lost).events = s.events :=
  foldl_events (fun _ _ => by split <;> simp) _ _

@[simp] theorem reloadHealth_events (lost : List Nat) (s : State) : (s.reloadHealth lost).events = s.events := by
  simp only [State.reloadHealth]
  split <;> simp

@[simp] theorem reloadWsn_events (lost : List Nat) (s : State) : (s.reloadWsn lost).events = s.events := by
  simp only [State.reloadWsn]
  split <;> simp

@[simp] theorem reload_events (lost : List Nat) (s : State) : (s.reload lost).events = s.events := by
  rw [State.reload, reloadWsn_events, reloadHealth_events, reloadRepairs_events, reloadErases_events, reloadKeys_events]

@[simp] theorem enableEndpoint_events (s : State) : (s.enableEndpoint).events = s.events := by simp only [State.enableEndpoint]

@[simp] theorem tryImage_inBounds (slot : Nat) (bad : List (Nat × Nat)) (s : State) :
    InBounds (s.tryImage slot bad).2.events ↔ InBounds s.events := by
  simp only [State.tryImage]
  split <;> simp

@[simp] theorem fallback_inBounds (from_ to_ cause : Nat) (s : State) :
    InBounds (s.fallback from_ to_ cause).events ↔ InBounds s.events := by simp [State.fallback]

@[simp] theorem bootSlot_events (slot attempt : Nat) (s : State) : (s.bootSlot slot attempt).events = s.events := by
  simp only [State.bootSlot]

@[simp] theorem recover_inBounds (cause : Nat) (s : State) : InBounds (s.recover cause).events ↔ InBounds s.events := by
  simp [State.recover]

@[simp] theorem bootFrom_inBounds (bad : List (Nat × Nat)) (ns : List Nat) (s : State) :
    InBounds (s.bootFrom bad ns).events ↔ InBounds s.events := by
  induction ns generalizing s with
  | nil => simp [State.bootFrom]
  | cons n ns ih => simp only [State.bootFrom]; split_ifs <;> simp [ih]

@[simp] theorem bootActive_inBounds (bad : List (Nat × Nat)) (s : State) : InBounds (s.bootActive bad).events ↔ InBounds s.events := by
  simp [State.bootActive]

@[simp] theorem tryPending_inBounds (p : Nat) (bad : List (Nat × Nat)) (s : State) :
    InBounds (s.tryPending p bad).events ↔ InBounds s.events := by simp [State.tryPending]

@[simp] theorem chooseSlot_inBounds (bad : List (Nat × Nat)) (s : State) : InBounds (s.chooseSlot bad).events ↔ InBounds s.events := by
  simp [State.chooseSlot]

@[simp] theorem romStages_inBounds (lost : List Nat) (bad weak : List (Nat × Nat)) (s : State) :
    InBounds (s.romStages lost bad weak).events ↔ InBounds s.events := by simp [State.romStages]

@[simp] theorem postDrained_inBounds (s : State) : InBounds (s.postDrained).events ↔ InBounds s.events := by
  simp only [State.postDrained]
  split <;> simp

@[simp] theorem reportCause_inBounds (s : State) : InBounds (s.reportCause).events ↔ InBounds s.events := by simp [State.reportCause]

@[simp] theorem checkFormat_inBounds (s : State) : InBounds (s.checkFormat).events ↔ InBounds s.events := by
  simp only [State.checkFormat]
  split <;> simp

@[simp] theorem loadPlans_events (s : State) : (s.loadPlans).events = s.events :=
  foldl_events (fun _ _ => by (repeat' split) <;> simp) _ _

@[simp] theorem loadLanes_events (s : State) : (s.loadLanes).events = s.events := by
  simp only [State.loadLanes]
  rw [foldl_events fun _ _ => by split <;> simp, foldl_events fun _ _ => by split <;> simp]

@[simp] theorem startImage_inBounds (s : State) : InBounds (s.startImage).events ↔ InBounds s.events := by simp [State.startImage]

@[simp] theorem drainIfFailing_inBounds (s : State) : InBounds (s.drainIfFailing).events ↔ InBounds s.events := by
  simp [State.drainIfFailing]

@[simp] theorem trainChannel_inBounds (dimms : List DimmReport) (c : Nat) (s : State) :
    InBounds (s.trainChannel dimms c).events ↔ InBounds s.events := by
  simp only [State.trainChannel]
  (repeat' split) <;> simp

@[simp] theorem validateDump_inBounds (headerOk sectionsOk : Bool) (s : State) :
    InBounds (s.validateDump headerOk sectionsOk).events ↔ InBounds s.events := by
  simp only [State.validateDump]
  split <;> simp

@[simp] theorem failHod_inBounds (h : Nat) (s : State) : InBounds (s.failHod h).events ↔ InBounds s.events := by simp [State.failHod]

@[simp] theorem failWay_inBounds (w : Nat × Nat) (s : State) : InBounds (s.failWay w).events ↔ InBounds s.events := by simp [State.failWay]

@[simp] theorem failChannel_inBounds (c : Nat) (s : State) : InBounds (s.failChannel c).events ↔ InBounds s.events := by
  simp [State.failChannel]

@[simp] theorem failEngine_inBounds (e : Nat × Nat) (s : State) : InBounds (s.failEngine e).events ↔ InBounds s.events := by
  simp [State.failEngine]

@[simp] theorem reserve_events (s : State) : (s.reserve).events = s.events := by simp only [State.reserve]

@[simp] theorem enableLinks_events (s : State) : (s.enableLinks).events = s.events := by
  simp only [State.enableLinks]
  rw [foldl_events]
  intros
  (repeat' split) <;> simp

@[simp] theorem beginService_inBounds (s : State) : InBounds (s.beginService).events ↔ InBounds s.events := by
  simp only [State.beginService]
  split <;> simp

/-! ### The rubble dump and footing mode -/

@[simp] theorem silence_events (s : State) : (s.silence).events = s.events := by simp [State.silence]

@[simp] theorem startDump_inBounds (f : FatalFault) (s : State) : InBounds (s.startDump f).events ↔ InBounds s.events := by
  simp [State.startDump]

@[simp] theorem leaveFooting_inBounds (s : State) : InBounds (s.leaveFooting).events ↔ InBounds s.events := by simp [State.leaveFooting]

end Sys2Proof.Proofs
end

section
/-! What the operations of heads, mirroring and replication do to the events (R88, R429). -/

namespace Sys2Proof.Proofs
open Sys2Proof.Machine Sys2Proof.Laws

/-! ### Heads and the ring -/

@[simp] theorem configured_inBounds {p : Packet} {f : State → State} {s : State} (hf : InBounds (f s).events ↔ InBounds s.events) :
    InBounds (s.configured p f).events ↔ InBounds s.events := by
  simp only [State.configured]
  split <;> simp [hf]

@[simp] theorem noteOwners_events (h owned : Nat) (s : State) : (s.noteOwners h owned).events = s.events := by simp [State.noteOwners]

@[simp] theorem missBeat_inBounds (h d : Nat) (s : State) : InBounds (s.missBeat h d).events ↔ InBounds s.events := by simp [State.missBeat]

@[simp] theorem missedBeats_inBounds (h d n : Nat) (s : State) : InBounds (s.missedBeats h d n).events ↔ InBounds s.events := by
  induction n generalizing s with
  | zero => rfl
  | succ n ih => simp only [State.missedBeats]; split <;> simp [ih]

@[simp] theorem beatCounts_events (h d : Nat) (s : State) : (s.beatCounts h d).events = s.events := by simp [State.beatCounts]

@[simp] theorem finishRelease_inBounds (d : Nat) (s : State) : InBounds (s.finishRelease d).events ↔ InBounds s.events := by
  simp [State.finishRelease]

/-! ### The packets of class 0x06 -/

@[simp] theorem onNs_inBounds {p : Packet} {f : Nat → Namespace → State → State} {s : State}
    (hf : ∀ n x, InBounds (f n x s).events ↔ InBounds s.events) : InBounds (s.onNs p f).events ↔ InBounds s.events := by
  simp only [State.onNs]
  split <;> simp [hf]

@[simp] theorem stageLayer_inBounds (p : Packet) (nsid op target : Nat) (n : Namespace) (s : State) :
    InBounds (s.stageLayer p nsid op target n).events ↔ InBounds s.events := by simp [State.stageLayer]

/-! ### Mirroring and takeover -/

@[simp] theorem mirrorAck_events (h lane : Nat) (m : PeerMsg) (status : Nat) (s : State) :
    (s.mirrorAck h lane m status).events = s.events := by simp [State.mirrorAck]

@[simp] theorem freeTail_events (i tailUnit tailWsn : Nat) (s : State) : (s.freeTail i tailUnit tailWsn).events = s.events := by
  simp [State.freeTail]

@[simp] theorem mirrorHeld_inBounds (w : MirrorMsg) (s : State) : InBounds (s.mirrorHeld w).events ↔ InBounds s.events := by
  simp only [State.mirrorHeld]
  split <;> simp

@[simp] theorem mirrorAgain_inBounds (w : MirrorMsg) (sends : Nat) (s : State) :
    InBounds (s.mirrorAgain w sends).events ↔ InBounds s.events := by
  simp only [State.mirrorAgain]
  (repeat' split) <;> simp

@[simp] theorem mirrorFailed_inBounds (w : MirrorMsg) (s : State) : InBounds (s.mirrorFailed w).events ↔ InBounds s.events := by
  simp [State.mirrorFailed]

@[simp] theorem replayMirror_inBounds (i d : Nat) (rec_ : Nat × Nat × Nat × Nat) (s : State) :
    InBounds (s.replayMirror i d rec_).events ↔ InBounds s.events := by simp [State.replayMirror]

@[simp] theorem replayRecords_inBounds (i d : Nat) (rs : List (Nat × Nat × Nat × Nat)) (n : Nat) (s : State) :
    InBounds (s.replayRecords i d rs n).2.2.events ↔ InBounds s.events := by
  induction rs generalizing n s with
  | nil => rfl
  | cons r rs ih => simp only [State.replayRecords]; split <;> simp [ih]

/-! ### Supply, drain, islands, clocks, reset and sideband -/

@[simp] theorem setClock_events (clock : Nat) (lost : Bool) (s : State) : (s.setClock clock lost).events = s.events := by
  simp [State.setClock]

@[simp] theorem clockDown_inBounds (clock : Nat) (s : State) : InBounds (s.clockDown clock).events ↔ InBounds s.events := by
  simp [State.clockDown]

@[simp] theorem setTemp_events (sensor : Nat) (temp : W16) (s : State) : (s.setTemp sensor temp).events = s.events := by
  simp [State.setTemp]

/-! ### The packets of class 0x04 -/

@[simp] theorem askSettings_events (p : Packet) (d : Nat) (r : ReduceDomain) (s : State) : (s.askSettings p d r).events = s.events := by
  simp [State.askSettings]

/-! ### Replication -/

@[simp] theorem sessionPop_events (i : Nat) (s : State) : (s.sessionPop i).events = s.events := by
  simp only [State.sessionPop]
  split <;> simp

@[simp] theorem onSession_inBounds {p : Packet} {f : Nat → Session → State → State} {s : State}
    (hf : ∀ i x, InBounds (f i x s).events ↔ InBounds s.events) : InBounds (s.onSession p f).events ↔ InBounds s.events := by
  refine configured_inBounds ?_
  dsimp only
  split
  · simp
  · exact ownerOnly_inBounds (hf ..)

@[simp] theorem rollTarget_inBounds (i : Nat) (s : State) : InBounds (s.rollTarget i).events ↔ InBounds s.events := by
  simp only [State.rollTarget]
  split <;> simp

@[simp] theorem readNeeds_inBounds (i seq need : Nat) (s : State) : InBounds (s.readNeeds i seq need).events ↔ InBounds s.events := by
  simp [State.readNeeds]

@[simp] theorem abortDelta_events (i status : Nat) (s : State) : (s.abortDelta i status).events = s.events := by simp [State.abortDelta]

@[simp] theorem stageTarget_inBounds (i kind : Nat) (ds : List Delta) (fps extents : List (List Byte)) (s : State) :
    InBounds (s.stageTarget i kind ds fps extents).2.events ↔ InBounds s.events := by simp [State.stageTarget]

@[simp] theorem readIndexPages_inBounds (i : Nat) (ps : List Nat) (s : State) :
    InBounds (s.readIndexPages i ps).events ↔ InBounds s.events := by simp [State.readIndexPages]

theorem stagePlain_inBounds {s t : State} {i w : Nat} {r : DeltaRec} (hstage : s.stagePlain i r = some (w, t)) :
    InBounds t.events ↔ InBounds s.events := by
  simp only [State.stagePlain] at hstage
  split_ifs at hstage
  · cases hstage; simp
  · cases hstage; simp
  · cases hstage; simp
  all_goals
    split at hstage <;> cases hstage
    simp

theorem stageExtent_inBounds {s t : State} {i w : Nat} {r : DeltaRec} {b : List Byte} (hstage : s.stageExtent i r b = some (w, t)) :
    InBounds t.events ↔ InBounds s.events := by
  simp only [State.stageExtent] at hstage
  split at hstage
  · cases hstage
  · split_ifs at hstage
    all_goals
      cases hstage
      simp

@[simp] theorem takeRecords_inBounds (i : Nat) (rs : List DeltaRec) (s : State) :
    InBounds (s.takeRecords i rs).2.2.events ↔ InBounds s.events := by
  simp only [State.takeRecords]
  rw [foldl_snd_snd_inBounds]
  intro x r
  split
  next hstage => exact stagePlain_inBounds (t := _) hstage
  next => rfl

end Sys2Proof.Proofs
end

section
/-! What every command does to the bounds: it answers a next state, and the bounds hold of it when they held before (R88, R429). -/

namespace Sys2Proof.Proofs
open Sys2Proof.Machine Sys2Proof.Laws

/-! ### The operations that empty the backlog or the log: posting and resets (R53, R54, R88) -/

theorem cleared_inBounds (powerOn : Bool) (s : State) : InBounds (s.cleared powerOn).events := ⟨Nat.zero_le _, Nat.zero_le _⟩

@[simp] theorem enterReset_inBounds (refresh : Bool) (s : State) : InBounds (s.enterReset refresh).events := by
  simp only [State.enterReset, wakeAll_events, setPower_events]
  exact cleared_inBounds ..

@[simp] theorem enterStandby_inBounds (refresh trip : Bool) (s : State) : InBounds (s.enterStandby refresh trip).events := by
  simp [State.enterStandby]

section reset
variable {s : State} (hs : InBounds s.events)
include hs

theorem beginReset_inBounds : InBounds s.beginReset.events := by
  simp only [State.beginReset]
  split <;> simp [hs]

theorem takeReset_inBounds (which : Nat) : InBounds (s.takeReset which).events := by
  simp only [State.takeReset]
  split_ifs
  · simpa using hs
  · exact hs
  · exact beginReset_inBounds hs

theorem enterDrained_inBounds : InBounds s.enterDrained.events := by
  simp only [State.enterDrained]
  split
  · exact beginReset_inBounds (by simp [hs])
  · simp [hs]

theorem silentReset_inBounds (cause loc : Nat) : InBounds (s.silentReset cause loc).events := by
  simp only [State.silentReset]
  split
  · exact enterReset_inBounds ..
  · exact beginReset_inBounds (by simp [hs])

theorem postEvent_inBounds : InBounds s.postEvent.events := by
  unfold State.postEvent
  split
  · exact hs
  next e rest hbacklog =>
    obtain ⟨hlength, herrors⟩ := hs
    have hshorter : rest.length ≤ backlogLimit := by
      rw [hbacklog] at hlength
      exact Nat.le_of_succ_le hlength
    dsimp only
    split
    · rw [notify_events]
      exact ⟨hshorter, herrors⟩
    · exact ⟨hshorter, herrors⟩

end reset

/-! ### The forms of a command's outcome -/

/-- The command answers a next state, of which the bounds hold when they hold of `s`. -/
def Answers (s : State) (r : Result) : Prop := ∃ t, r = .next t ∧ (InBounds s.events → InBounds t.events)

@[simp] theorem answers_next {s t : State} : Answers s (.next t) ↔ (InBounds s.events → InBounds t.events) := by
  simp [Answers]

@[simp] theorem answers_onlyIf {s t u : State} {c : Bool} :
    Answers s (onlyIf c u t) ↔ (InBounds s.events → InBounds (if c then t else u).events) := by
  rw [onlyIf_next, answers_next]

@[simp] theorem answers_dataIf {s t u : State} {c : Bool} :
    Answers s (dataIf c u t) ↔ (InBounds s.events → InBounds (if u.runs && c then t else u).events) := by
  rw [dataIf_next, answers_next]

@[simp] theorem answers_ite {s : State} {c : Prop} [Decidable c] {r q : Result} :
    Answers s (if c then r else q) ↔ if c then Answers s r else Answers s q := by split <;> rfl

/-- A packet's command: its effect is what may touch the bounds. -/
@[simp] theorem packetRun_answers {opcode : Nat} {op : PktOp} {s : State} {effect : Packet → State → State}
    (heffect : ∀ p, InBounds s.events → InBounds (effect p s).events) : Answers s (packetRun opcode op s effect) := by
  rcases packetRun_cases opcode op s effect with ⟨-, h⟩ | ⟨p, loc, -, -, h⟩ | ⟨p, -, -, h⟩ | ⟨p, -, h⟩ <;> rw [h]
  · simp
  · simp
  · simp
  · simpa using heffect p

@[simp] theorem vaultRun_answers {opcode : Nat} {op : PktOp} {s : State} {effect : Packet → State → State}
    (heffect : ∀ p, InBounds s.events → InBounds (effect p s).events) : Answers s (vaultRun opcode op s effect) := by
  refine packetRun_answers fun p => ?_
  split
  · simp
  · exact heffect p

@[simp] theorem ioRun_answers {conn opcode : Nat} {s : State} {effect : List Byte → Nat → Nat → State → State}
    (heffect : ∀ cap c k t, InBounds t.events → InBounds (effect cap c k t).events) : Answers s (ioRun conn opcode s effect) := by
  simp only [ioRun]
  split
  next cap c _ _ =>
    have hrun : InBounds s.events → InBounds (effect cap c s.now (s.granted.popCapsule conn)).events := fun hs =>
      heffect _ _ _ _ (by simpa using hs)
    (repeat' split) <;> simp
    simpa using hrun
  next => simp

@[simp] theorem adminRun_answers {conn : Nat} {fits : List Byte → Bool} {s : State} {effect : List Byte → Nat → Controller → State → State}
    (heffect : ∀ cap c x t, InBounds t.events → InBounds (effect cap c x t).events) : Answers s (adminRun conn fits s effect) := by
  simp only [adminRun]
  (repeat' split) <;> simp
  exact fun hs => heffect _ _ _ _ (by simpa using hs)

@[simp] theorem peerRun_answers {conn kind : Nat} {s : State} {effect : Nat → Nat → PeerMsg → State → State}
    (heffect : ∀ h lane m t, InBounds t.events → InBounds (effect h lane m t).events) : Answers s (peerRun conn kind s effect) := by
  simp only [peerRun]
  (repeat' split) <;> simp
  exact fun hs => heffect _ _ _ _ (by simpa using hs)

@[simp] theorem ringRun_answers {typ : Nat} {f : RingFrame} {s : State} {later act : State → State}
    (hlater : ∀ t, InBounds t.events → InBounds (later t).events) (hact : ∀ t, InBounds t.events → InBounds (act t).events) :
    Answers s (ringRun typ f s later act) := by
  simp only [ringRun]
  split
  · simp
  · generalize hsent : @ite State (2 ≤ f.ttl) _ _ _ = u
    have hu : u.events = s.events := by rw [← hsent]; split <;> simp
    split
    · simp [hu]
    · split
      · exact answers_next.mpr fun hs => hlater u (by rwa [hu])
      · exact answers_next.mpr fun hs => hact _ (by rwa [updPeer_events, hu])

@[simp] theorem replRun_answers {i kind : Nat} {s : State} {effect : PeerMsg → State → Bool × State}
    (heffect : ∀ m, InBounds s.events → InBounds (effect m s).2.events) : Answers s (replRun i kind s effect) := by
  simp only [replRun]
  (repeat' split) <;> simp
  all_goals exact heffect _

end Sys2Proof.Proofs
end

section
/-! Every command of rings, packets of the common class, registers and the fabric answers a next state and keeps the bounds (R88, R429). -/

namespace Sys2Proof.Proofs
open Sys2Proof.Machine Sys2Proof.Laws

/-! ### The commands of the rings, the event ring and MSI-X, and the common packets -/

theorem execSqTailDb_answers (n : Nat) (v : W32) (s : State) : Answers s (execSqTailDb n v s) := by simp [execSqTailDb]

theorem execRqHeadDb_answers (n : Nat) (v : W32) (s : State) : Answers s (execRqHeadDb n v s) := by simp [execRqHeadDb]

theorem execEvqHeadDb_answers (v : W32) (s : State) : Answers s (execEvqHeadDb v s) := by simp [execEvqHeadDb]

theorem execRingEnable_answers (n : Nat) (v : W32) (s : State) : Answers s (execRingEnable n v s) := by simp [execRingEnable]

theorem execRingStop_answers (n : Nat) (v : W32) (s : State) : Answers s (execRingStop n v s) := by simp [execRingStop]

theorem execRingStopDrained_answers (n : Nat) (s : State) : Answers s (execRingStopDrained n s) := by simp [execRingStopDrained]

theorem execEvqEnable_answers (v : W32) (s : State) : Answers s (execEvqEnable v s) := by simp [execEvqEnable]

theorem execEvqDisable_answers (v : W32) (s : State) : Answers s (execEvqDisable v s) := by simp [execEvqDisable]

theorem execPacketFetch_answers (slot : SlotRead) (s : State) : Answers s (execPacketFetch slot s) := by
  simp only [execPacketFetch]
  split <;> simp

theorem execReplyWriteRefused_answers (n : Nat) (s : State) : Answers s (execReplyWriteRefused n s) := by
  simp [execReplyWriteRefused]

theorem execEventPost_answers (s : State) : Answers s (execEventPost s) := by
  refine answers_onlyIf.mpr fun hs => ?_
  split
  · exact postEvent_inBounds hs
  · exact hs

theorem execEventWriteRefused_answers (s : State) : Answers s (execEventWriteRefused s) := by simp [execEventWriteRefused]

theorem execMsixIntervalExpiry_answers (vec : Nat) (s : State) : Answers s (execMsixIntervalExpiry vec s) := by
  simp [execMsixIntervalExpiry]

theorem execNop_answers (op : PktOp) (s : State) : Answers s (execNop op s) := by simp [execNop]

theorem execStampRead_answers (op : PktOp) (s : State) : Answers s (execStampRead op s) := by simp [execStampRead]

theorem execEventConfig_answers (op : PktOp) (s : State) : Answers s (execEventConfig op s) := by
  refine packetRun_answers fun p hs => ?_
  rw [replyOk_inBounds]
  exact hs

theorem execEventCounts_answers (op : PktOp) (s : State) : Answers s (execEventCounts op s) := by simp [execEventCounts]

/-! ### Registers and the PCIe reset -/

theorem execStampLoRead_answers (s : State) : Answers s (execStampLoRead s) := by simp [execStampLoRead]

theorem execDumpWindowBaseWrite_answers (v : W64) (s : State) : Answers s (execDumpWindowBaseWrite v s) := by
  simp [execDumpWindowBaseWrite]

theorem execRegisterWrite_answers (bar off size : Nat) (v : W64) (s : State) :
    Answers s (execRegisterWrite bar off size v s) := by simp [execRegisterWrite]

theorem execBusMasterOrDStateChange_answers (bme d0 : Bool) (s : State) : Answers s (execBusMasterOrDStateChange bme d0 s) := by
  simp [execBusMasterOrDStateChange]

theorem execPcieReset_answers (kind : PcieResetKind) (s : State) : Answers s (execPcieReset kind s) := by simp [execPcieReset]

theorem execChipIdentify_answers (op : PktOp) (s : State) : Answers s (execChipIdentify op s) := by simp [execChipIdentify]

theorem execChipStateHeartbeatTick_answers (s : State) : Answers s (execChipStateHeartbeatTick s) := by
  simp [execChipStateHeartbeatTick]

/-! ### Keystone arbiters and the mortar fabric -/

theorem execKsPrioWrite_answers (a : Nat) (v : W32) (s : State) : Answers s (execKsPrioWrite a v s) := by simp [execKsPrioWrite]

theorem execArbiterContest_answers (a : Nat) (arrivals : List KsRequest) (s : State) :
    Answers s (execArbiterContest a arrivals s) := by
  simp only [execArbiterContest]
  split <;> simp

theorem execKsStarvationExpiry_answers (a rank : Nat) (s : State) : Answers s (execKsStarvationExpiry a rank s) := by
  simp only [execKsStarvationExpiry]
  split <;> simp

theorem execJointFlitRefused_answers (joint symbols : Nat) (first : Bool) (s : State) :
    Answers s (execJointFlitRefused joint symbols first s) := by simp [execJointFlitRefused]

theorem execDqsOscillatorCheck_answers (channel oscillator drift : Nat) (s : State) :
    Answers s (execDqsOscillatorCheck channel oscillator drift s) := by simp [execDqsOscillatorCheck]

theorem execDramConfig_answers (op : PktOp) (s : State) : Answers s (execDramConfig op s) := by simp [execDramConfig]

theorem execDramStatus_answers (op : PktOp) (s : State) : Answers s (execDramStatus op s) := by simp [execDramStatus]

theorem execDramRepairList_answers (op : PktOp) (s : State) : Answers s (execDramRepairList op s) := by simp [execDramRepairList]

theorem execLatencyConfig_answers (op : PktOp) (s : State) : Answers s (execLatencyConfig op s) := by simp [execLatencyConfig]

theorem execLatencyStatus_answers (op : PktOp) (s : State) : Answers s (execLatencyStatus op s) := by simp [execLatencyStatus]

theorem execKsWatchRead_answers (op : PktOp) (s : State) : Answers s (execKsWatchRead op s) := by simp [execKsWatchRead]

theorem execFabricCounters_answers (op : PktOp) (s : State) : Answers s (execFabricCounters op s) := by simp [execFabricCounters]

/-! ### The commands of the digest channels -/

theorem execDgStart_answers (op : PktOp) (s : State) : Answers s (execDgStart op s) := by simp [execDgStart]

theorem execDgUpdate_answers (op : PktOp) (s : State) : Answers s (execDgUpdate op s) := by
  refine packetRun_answers (fun _ => ?_)
  dsimp only
  (repeat' split) <;> simp

theorem execDgFinish_answers (op : PktOp) (s : State) : Answers s (execDgFinish op s) := by
  refine packetRun_answers (fun _ => ?_)
  dsimp only
  (repeat' split) <;> simp

theorem execDgSuspend_answers (op : PktOp) (s : State) : Answers s (execDgSuspend op s) := by
  refine packetRun_answers (fun _ => ?_)
  dsimp only
  (repeat' split) <;> simp

theorem execDgResume_answers (op : PktOp) (s : State) : Answers s (execDgResume op s) := by simp [execDgResume]

theorem execDgAbandon_answers (op : PktOp) (s : State) : Answers s (execDgAbandon op s) := by
  refine packetRun_answers (fun _ => ?_)
  dsimp only
  (repeat' split) <;> simp

theorem execDgStatus_answers (op : PktOp) (s : State) : Answers s (execDgStatus op s) := by simp [execDgStatus]

theorem execDgQueueDeadlineExpiry_answers (acc : Nat) (s : State) : Answers s (execDgQueueDeadlineExpiry acc s) := by
  simp only [execDgQueueDeadlineExpiry]
  split <;> simp

theorem execDgLwDataWrite_answers (c : Nat) (v : W64) (s : State) : Answers s (execDgLwDataWrite c v s) := by
  simp [execDgLwDataWrite]

theorem execDgLwCtrlWrite_answers (c : Nat) (v : W32) (s : State) : Answers s (execDgLwCtrlWrite c v s) := by
  simp [execDgLwCtrlWrite]

theorem execLastWordWaitExpiry_answers (c : Nat) (s : State) : Answers s (execLastWordWaitExpiry c s) := by
  simp [execLastWordWaitExpiry]

/-! ### Key slots and the cipher engine -/

theorem execKeyLoad_answers (op : PktOp) (s : State) : Answers s (execKeyLoad op s) := by
  refine packetRun_answers (fun _ => ?_)
  dsimp only
  split <;> simp

theorem execKeyGenerate_answers (op : PktOp) (s : State) : Answers s (execKeyGenerate op s) := by simp [execKeyGenerate]

theorem execKeyDerive_answers (op : PktOp) (s : State) : Answers s (execKeyDerive op s) := by simp [execKeyDerive]

theorem execKeyExport_answers (op : PktOp) (s : State) : Answers s (execKeyExport op s) := by
  refine packetRun_answers (fun _ => ?_)
  dsimp only
  (repeat' split) <;> simp

theorem execKeyDestroy_answers (op : PktOp) (s : State) : Answers s (execKeyDestroy op s) := by simp [execKeyDestroy]

theorem execKeyQuery_answers (op : PktOp) (s : State) : Answers s (execKeyQuery op s) := by simp [execKeyQuery]

theorem execKeyPolicy_answers (op : PktOp) (s : State) : Answers s (execKeyPolicy op s) := by simp [execKeyPolicy]

theorem execGcmJob_answers (op : PktOp) (s : State) : Answers s (execGcmJob op s) := by
  refine packetRun_answers (fun _ => ?_)
  dsimp only
  (repeat' split) <;> simp

theorem execEntropyTestFail_answers (test : Nat) (s : State) : Answers s (execEntropyTestFail test s) := by
  simp [execEntropyTestFail]

theorem execEntropyTestPass_answers (s : State) : Answers s (execEntropyTestPass s) := by simp [execEntropyTestPass]

end Sys2Proof.Proofs
end

section
/-! Every command of supply, reset, start-up, Vault, templates, faults and dumps answers a next state and keeps the bounds (R88, R429). -/

namespace Sys2Proof.Proofs
open Sys2Proof.Machine Sys2Proof.Laws

/-! ### Supply, drain, islands, clocks, reset and sideband -/

theorem execPowerOn_answers (vbus : Nat) (s : State) : Answers s (execPowerOn vbus s) := by
  refine answers_onlyIf.mpr fun hs => ?_
  split
  · exact by simpa using cleared_inBounds true s
  · exact hs

theorem execCoreRailsInRegulation_answers (s : State) : Answers s (execCoreRailsInRegulation s) := by
  simp [execCoreRailsInRegulation]

theorem execAutoResetRelease_answers (straps : BitVec 6) (s : State) : Answers s (execAutoResetRelease straps s) := by
  simp only [execAutoResetRelease]
  split <;> simp

theorem execVbusLow_answers (vbus : Nat) (s : State) : Answers s (execVbusLow vbus s) := by simp [execVbusLow]

theorem execVbusRiseAbove9v5_answers (vbus : Nat) (s : State) : Answers s (execVbusRiseAbove9v5 vbus s) := by
  simp [execVbusRiseAbove9v5]

theorem execBrownout_answers (vbus : Nat) (s : State) : Answers s (execBrownout vbus s) := by simp [execBrownout]

theorem execBrownoutRelease_answers (vbus : Nat) (s : State) : Answers s (execBrownoutRelease vbus s) := by
  simp [execBrownoutRelease]

theorem execVbusStop_answers (vbus : Nat) (s : State) : Answers s (execVbusStop vbus s) := by
  refine answers_onlyIf.mpr fun hs => ?_
  split
  · exact by simpa using cleared_inBounds true (s.setBypass true)
  · exact hs

theorem execVbusFail_answers (s : State) : Answers s (execVbusFail s) := by simp [execVbusFail]

theorem execDrainQuiesceEnd_answers (s : State) : Answers s (execDrainQuiesceEnd s) := by simp [execDrainQuiesceEnd]

theorem execDrainedStateEnter_answers (s : State) : Answers s (execDrainedStateEnter s) := by
  refine answers_onlyIf.mpr fun hs => ?_
  split
  · exact enterDrained_inBounds hs
  · exact hs

theorem execLoadBandCrossing_answers (band : Nat) (s : State) : Answers s (execLoadBandCrossing band s) := by
  simp [execLoadBandCrossing]

theorem execPhasePlanRederived_answers (s : State) : Answers s (execPhasePlanRederived s) := by simp [execPhasePlanRederived]

theorem execIslandWakeAdmit_answers (s : State) : Answers s (execIslandWakeAdmit s) := by
  simp only [execIslandWakeAdmit]
  split <;> simp

theorem execIslandRampEnd_answers (island : Nat) (s : State) : Answers s (execIslandRampEnd island s) := by
  simp only [execIslandRampEnd]
  split <;> simp

theorem execIslandPower_answers (op : PktOp) (s : State) : Answers s (execIslandPower op s) := by simp [execIslandPower]

theorem execPowerStatus_answers (op : PktOp) (s : State) : Answers s (execPowerStatus op s) := by simp [execPowerStatus]

theorem execHoldupConfig_answers (op : PktOp) (s : State) : Answers s (execHoldupConfig op s) := by simp [execHoldupConfig]

theorem execChipPowerDown_answers (op : PktOp) (s : State) : Answers s (execChipPowerDown op s) := by simp [execChipPowerDown]

theorem execPowerDownCommandsSettled_answers (s : State) : Answers s (execPowerDownCommandsSettled s) := by
  simp [execPowerDownCommandsSettled]

theorem execPowerDownDrainDone_answers (s : State) : Answers s (execPowerDownDrainDone s) := by
  refine answers_onlyIf.mpr fun hs => ?_
  split
  · exact enterStandby_inBounds ..
  · exact hs

theorem execChipReset_answers (op : PktOp) (s : State) : Answers s (execChipReset op s) := by simp [execChipReset]

theorem execSoftwareResetExpiry_answers (s : State) : Answers s (execSoftwareResetExpiry s) := by
  simp only [execSoftwareResetExpiry]
  split
  · refine answers_onlyIf.mpr fun hs => ?_
    split
    · exact takeReset_inBounds (by simpa using hs) 1
    · exact hs
  · simp

theorem execResetPinAssert_answers (s : State) : Answers s (execResetPinAssert s) := by
  refine answers_onlyIf.mpr fun hs => ?_
  split_ifs
  · simpa using hs
  · exact takeReset_inBounds (by simpa using hs) 0
  · simpa using hs
  · exact hs

theorem execInternalResetBegin_answers (s : State) : Answers s (execInternalResetBegin s) := by
  refine answers_onlyIf.mpr fun hs => ?_
  split
  · exact enterReset_inBounds ..
  · exact hs

theorem execResetPinRelease_answers (straps : BitVec 6) (s : State) : Answers s (execResetPinRelease straps s) := by
  simp [execResetPinRelease]

theorem execPciePerstLRise_answers (s : State) : Answers s (execPciePerstLRise s) := by simp [execPciePerstLRise]

theorem execClockLoss_answers (clock : Nat) (s : State) : Answers s (execClockLoss clock s) := by simp [execClockLoss]

theorem execClockRestored_answers (clock : Nat) (s : State) : Answers s (execClockRestored clock s) := by simp [execClockRestored]

theorem execThermalAlertAssert_answers (sensor : Nat) (temp : W16) (s : State) :
    Answers s (execThermalAlertAssert sensor temp s) := by simp [execThermalAlertAssert]

theorem execThermalAlertRelease_answers (temps : List W16) (s : State) : Answers s (execThermalAlertRelease temps s) := by
  simp [execThermalAlertRelease]

theorem execThermalTrip_answers (sensor : Nat) (temp : W16) (s : State) : Answers s (execThermalTrip sensor temp s) := by
  refine answers_onlyIf.mpr fun hs => ?_
  split
  · exact enterStandby_inBounds ..
  · exact hs

theorem execSmbStatusClear_answers (value : Byte) (s : State) : Answers s (execSmbStatusClear value s) := by
  simp [execSmbStatusClear]

theorem execSmbRegisterWrite_answers (code : Nat) (value : W16) (s : State) :
    Answers s (execSmbRegisterWrite code value s) := by simp [execSmbRegisterWrite]

theorem execTapInstruction_answers (ir : Option Byte) (shiftIn : List Bool) (s : State) :
    Answers s (execTapInstruction ir shiftIn s) := by
  simp only [execTapInstruction]
  split <;> simp

/-! ### Start-up -/

theorem execBootRom_answers (lost : List Nat) (bad weak : List (Nat × Nat)) (s : State) :
    Answers s (execBootRom lost bad weak s) := by simp [execBootRom]

theorem execFieldImageStart_answers (s : State) : Answers s (execFieldImageStart s) := by simp [execFieldImageStart]

theorem execDramTraining_answers (dimms : List DimmReport) (headerOk sectionsOk : Bool) (s : State) :
    Answers s (execDramTraining dimms headerOk sectionsOk s) := by simp [execDramTraining]

theorem execSelfTest_answers (hods : List Nat) (ways : List (Nat × Nat)) (sram : Bool) (channels : List Nat) (engines : List
    (Nat × Nat)) (lanes : List Nat) (s : State) :
    Answers s (execSelfTest hods ways sram channels engines lanes s) := by simp [execSelfTest]

theorem execStartupService_answers (s : State) : Answers s (execStartupService s) := by
  simp only [execStartupService]
  (repeat' split) <;> simp

theorem execLockstepMiscompare_answers (memory : Bool) (loc : Nat) (s : State) : Answers s (execLockstepMiscompare memory loc s) := by
  refine answers_onlyIf.mpr fun hs => ?_
  split
  · exact silentReset_inBounds hs ..
  · exact hs

theorem execWatchdogExpiry_answers (s : State) : Answers s (execWatchdogExpiry s) := by
  refine answers_onlyIf.mpr fun hs => ?_
  split
  · exact silentReset_inBounds hs ..
  · exact hs

/-! ### Vault and firmware update -/

theorem execVaultStatus_answers (op : PktOp) (s : State) : Answers s (execVaultStatus op s) := by simp [execVaultStatus]

theorem execVaultRead_answers (op : PktOp) (bad : List Nat) (weak : List (Nat × Nat)) (s : State) :
    Answers s (execVaultRead op bad weak s) := by
  refine vaultRun_answers (fun _ => ?_)
  dsimp only
  (repeat' split) <;> simp

theorem execVaultProtectRaise_answers (op : PktOp) (s : State) : Answers s (execVaultProtectRaise op s) := by
  simp [execVaultProtectRaise]

theorem execVaultProtectLower_answers (op : PktOp) (s : State) : Answers s (execVaultProtectLower op s) := by
  simp [execVaultProtectLower]

theorem execVaultLoweringComplete_answers (s : State) : Answers s (execVaultLoweringComplete s) := by
  simp [execVaultLoweringComplete]

theorem execUpdateOpen_answers (op : PktOp) (s : State) : Answers s (execUpdateOpen op s) := by
  refine vaultRun_answers (fun _ => ?_)
  dsimp only
  (repeat' split) <;> simp

theorem execUpdateChunk_answers (op : PktOp) (failure : Nat) (s : State) : Answers s (execUpdateChunk op failure s) := by
  refine vaultRun_answers (fun _ => ?_)
  dsimp only
  (repeat' split) <;> simp

theorem execUpdateStatus_answers (op : PktOp) (s : State) : Answers s (execUpdateStatus op s) := by simp [execUpdateStatus]

theorem execUpdateClose_answers (op : PktOp) (s : State) : Answers s (execUpdateClose op s) := by
  refine vaultRun_answers (fun _ => ?_)
  dsimp only
  split <;> simp

theorem execUpdateAbort_answers (op : PktOp) (s : State) : Answers s (execUpdateAbort op s) := by
  refine vaultRun_answers (fun _ => ?_)
  (repeat' split) <;> simp

theorem execImageConfirm_answers (op : PktOp) (s : State) : Answers s (execImageConfirm op s) := by simp [execImageConfirm]

theorem execImageSelect_answers (op : PktOp) (s : State) : Answers s (execImageSelect op s) := by simp [execImageSelect]

theorem execSettingsReset_answers (op : PktOp) (s : State) : Answers s (execSettingsReset op s) := by simp [execSettingsReset]

theorem execStampCheckpointInterval_answers (failure : Nat) (s : State) :
    Answers s (execStampCheckpointInterval failure s) := by simp [execStampCheckpointInterval]

theorem execVaultWeakBlockCopy_answers (s : State) : Answers s (execVaultWeakBlockCopy s) := by
  simp only [execVaultWeakBlockCopy]
  (repeat' split) <;> simp

theorem execLogBlockReclaim_answers (s : State) : Answers s (execLogBlockReclaim s) := by
  simp only [execLogBlockReclaim]
  split <;> simp

/-! ### Template banks and epochs -/

theorem execTemplateLoad_answers (op : PktOp) (s : State) : Answers s (execTemplateLoad op s) := by
  refine packetRun_answers (fun _ => ?_)
  dsimp only
  (repeat' split) <;> simp

theorem execTemplateCommit_answers (op : PktOp) (s : State) : Answers s (execTemplateCommit op s) := by simp [execTemplateCommit]

theorem execTemplateBankDrained_answers (s : State) : Answers s (execTemplateBankDrained s) := by simp [execTemplateBankDrained]

theorem execTemplateDiscard_answers (op : PktOp) (s : State) : Answers s (execTemplateDiscard op s) := by simp [execTemplateDiscard]

theorem execTemplateGenerate_answers (op : PktOp) (s : State) : Answers s (execTemplateGenerate op s) := by
  simp [execTemplateGenerate]

theorem execTemplateQuery_answers (op : PktOp) (s : State) : Answers s (execTemplateQuery op s) := by simp [execTemplateQuery]

theorem execHodStatus_answers (op : PktOp) (s : State) : Answers s (execHodStatus op s) := by simp [execHodStatus]

theorem execSelfTestResult_answers (op : PktOp) (s : State) : Answers s (execSelfTestResult op s) := by simp [execSelfTestResult]

theorem execHodFindWork_answers (hod : Nat) (s : State) : Answers s (execHodFindWork hod s) := by
  simp only [execHodFindWork]
  split
  next t u hfound =>
    have hu : u.events = s.events := by
      split at hfound
      next htake =>
        cases hfound
        exact takeTask_events htake
      next => exact takeTask_events hfound
    simp [hu]
  next => simp

/-! ### Codewords and words in error -/

theorem execDramPatrolScrub_answers (channel lines : Nat) (hits : List LintelHit) (s : State) :
    Answers s (execDramPatrolScrub channel lines hits s) := by simp [execDramPatrolScrub]

theorem execSramSweep_answers (island : Nat) (hits : List LintelHit) (metadata : Option (List ParityHit)) (s : State) :
    Answers s (execSramSweep island hits metadata s) := by
  simp only [execSramSweep]
  split <;> simp

/-! ### The rubble dump and footing mode -/

theorem execRubbleDump_answers (s : State) : Answers s (execRubbleDump s) := by
  simp only [execRubbleDump]
  split <;> simp

theorem execDumpSectionsCopied_answers (faults : List (Nat × Nat)) (failed : List Nat) (s : State) :
    Answers s (execDumpSectionsCopied faults failed s) := by
  simp only [execDumpSectionsCopied]
  split <;> simp

theorem execVaultSummaryWritten_answers (s : State) : Answers s (execVaultSummaryWritten s) := by
  simp only [execVaultSummaryWritten]
  split
  · refine answers_onlyIf.mpr fun hs => ?_
    split
    · exact beginReset_inBounds (by simpa using hs)
    · exact hs
  · simp

theorem execFaultStatus_answers (op : PktOp) (s : State) : Answers s (execFaultStatus op s) := by simp [execFaultStatus]

theorem execErrorLogRead_answers (op : PktOp) (s : State) : Answers s (execErrorLogRead op s) := by simp [execErrorLogRead]

theorem execErrorLogClear_answers (op : PktOp) (s : State) : Answers s (execErrorLogClear op s) := by
  refine packetRun_answers fun p hs => (replyAt_inBounds ..).mpr ?_
  obtain ⟨hbacklog, herrors⟩ := hs
  exact ⟨hbacklog, (List.length_filter_le ..).trans herrors⟩

theorem execDumpClear_answers (op : PktOp) (s : State) : Answers s (execDumpClear op s) := by
  refine packetRun_answers (fun _ => ?_)
  dsimp only
  split <;> simp

theorem execDumpSummaryList_answers (op : PktOp) (s : State) : Answers s (execDumpSummaryList op s) := by simp [execDumpSummaryList]

theorem execFootingEnter_answers (op : PktOp) (s : State) : Answers s (execFootingEnter op s) := by simp [execFootingEnter]

theorem execFootingExit_answers (op : PktOp) (s : State) : Answers s (execFootingExit op s) := by simp [execFootingExit]

theorem execFaultInject_answers (op : PktOp) (s : State) : Answers s (execFaultInject op s) := by simp [execFaultInject]

end Sys2Proof.Proofs
end

section
/-! Every command of ports and connections answers a next state and keeps the bounds (R88, R429). -/

namespace Sys2Proof.Proofs
open Sys2Proof.Machine Sys2Proof.Laws

/-! ### Connection management -/

theorem execCmReqReceive_answers (req : CmReq) (s : State) : Answers s (execCmReqReceive req s) := by
  simp only [execCmReqReceive]
  split <;> simp

theorem execCmRepReceive_answers (conn : Nat) (rep : CmRep) (psn mtu : Nat) (s : State) :
    Answers s (execCmRepReceive conn rep psn mtu s) := by simp [execCmRepReceive]

theorem execCmRtuReceive_answers (conn : Nat) (s : State) : Answers s (execCmRtuReceive conn s) := by simp [execCmRtuReceive]

theorem execCmRejReceive_answers (conn : Nat) (s : State) : Answers s (execCmRejReceive conn s) := by simp [execCmRejReceive]

theorem execCmRetryExpiry_answers (conn : Nat) (s : State) : Answers s (execCmRetryExpiry conn s) := by simp [execCmRetryExpiry]

theorem execCmDreqReceive_answers (conn : Nat) (s : State) : Answers s (execCmDreqReceive conn s) := by simp [execCmDreqReceive]

theorem execCmDrepReceive_answers (conn : Nat) (s : State) : Answers s (execCmDrepReceive conn s) := by simp [execCmDrepReceive]

theorem execDreqRetryExpiry_answers (conn : Nat) (s : State) : Answers s (execDreqRetryExpiry conn s) := by
  simp [execDreqRetryExpiry]

theorem execTimewaitExpiry_answers (conn : Nat) (s : State) : Answers s (execTimewaitExpiry conn s) := by simp [execTimewaitExpiry]

/-! ### Ethernet ports and the packets of class 0x02 -/

theorem execPortLinkUp_answers (lport : Nat) (s : State) : Answers s (execPortLinkUp lport s) := by
  simp only [execPortLinkUp]
  generalize hlanes : List.foldl _ s _ = t
  have ht : InBounds t.events ↔ InBounds s.events := by
    rw [← hlanes, foldl_inBounds]
    intros
    split <;> simp
  simp [ht]

theorem execPortLinkDown_answers (lport : Nat) (s : State) : Answers s (execPortLinkDown lport s) := by simp [execPortLinkDown]

theorem execSerdesEnvelopeCrossing_answers (port lane : Nat) (s : State) :
    Answers s (execSerdesEnvelopeCrossing port lane s) := by
  simp only [execSerdesEnvelopeCrossing]
  split <;> simp

theorem execPfcFrameReceive_answers (lport enabled : Nat) (quanta : List Nat) (s : State) :
    Answers s (execPfcFrameReceive lport enabled quanta s) := by simp [execPfcFrameReceive]

theorem execPfcPauseExpiry_answers (lport prio : Nat) (s : State) : Answers s (execPfcPauseExpiry lport prio s) := by
  simp [execPfcPauseExpiry]

theorem execPfcPauseLongExpiry_answers (lport prio : Nat) (s : State) : Answers s (execPfcPauseLongExpiry lport prio s) := by
  simp [execPfcPauseLongExpiry]

theorem execFrameReceive_answers (lport : Nat) (frame : EthFrame) (s : State) : Answers s (execFrameReceive lport frame s) := by
  simp [execFrameReceive]

theorem execPortConfig_answers (op : PktOp) (s : State) : Answers s (execPortConfig op s) := by
  refine packetRun_answers (fun _ => ?_)
  dsimp only
  split <;> simp

theorem execTransportConfig_answers (op : PktOp) (s : State) : Answers s (execTransportConfig op s) := by simp [execTransportConfig]

theorem execConnQuery_answers (op : PktOp) (s : State) : Answers s (execConnQuery op s) := by
  refine packetRun_answers (fun _ => ?_)
  (repeat' split) <;> simp

theorem execConnPin_answers (op : PktOp) (s : State) : Answers s (execConnPin op s) := by
  refine packetRun_answers (fun _ => ?_)
  dsimp only
  split <;> simp

theorem execPortStatus_answers (op : PktOp) (s : State) : Answers s (execPortStatus op s) := by simp [execPortStatus]

theorem execPortCounters_answers (op : PktOp) (s : State) : Answers s (execPortCounters op s) := by simp [execPortCounters]

theorem execCtrlFrameSend_answers (op : PktOp) (s : State) : Answers s (execCtrlFrameSend op s) := by simp [execCtrlFrameSend]

theorem execCtrlFrameRecv_answers (op : PktOp) (s : State) : Answers s (execCtrlFrameRecv op s) := by
  refine packetRun_answers (fun _ => ?_)
  (repeat' split) <;> simp

theorem execTransportCounters_answers (op : PktOp) (s : State) : Answers s (execTransportCounters op s) := by
  simp [execTransportCounters]

theorem execConnDisconnect_answers (op : PktOp) (s : State) : Answers s (execConnDisconnect op s) := by
  refine packetRun_answers (fun _ => ?_)
  (repeat' split) <;> simp

/-! ### The RC transport -/

theorem rcRun_answers (p : RcPacket) (fits : Bool) (s : State) : Answers s (rcRun p fits s) := by
  simp [rcRun]

theorem execRcRequestReceive_answers (pkt : RcPacket) (s : State) : Answers s (execRcRequestReceive pkt s) := by
  exact rcRun_answers ..

theorem execRcAckReceive_answers (pkt : RcPacket) (s : State) : Answers s (execRcAckReceive pkt s) := by exact rcRun_answers ..

theorem execRcSeqNakReceive_answers (pkt : RcPacket) (s : State) : Answers s (execRcSeqNakReceive pkt s) := by
  exact rcRun_answers ..

theorem execRcRnrNakReceive_answers (pkt : RcPacket) (s : State) : Answers s (execRcRnrNakReceive pkt s) := by
  exact rcRun_answers ..

theorem execRcErrorNakReceive_answers (pkt : RcPacket) (s : State) : Answers s (execRcErrorNakReceive pkt s) := by
  exact rcRun_answers ..

theorem execRdmaReadResponseReceive_answers (pkt : RcPacket) (s : State) : Answers s (execRdmaReadResponseReceive pkt s) := by
  exact rcRun_answers ..

theorem execContextFetchComplete_answers (conn : Nat) (s : State) : Answers s (execContextFetchComplete conn s) := by
  simp [execContextFetchComplete]

theorem execAckCoalesceExpiry_answers (conn : Nat) (s : State) : Answers s (execAckCoalesceExpiry conn s) := by
  simp [execAckCoalesceExpiry]

theorem execRnrTimerExpiry_answers (conn : Nat) (s : State) : Answers s (execRnrTimerExpiry conn s) := by simp [execRnrTimerExpiry]

theorem execRetransmitTimerExpiry_answers (conn : Nat) (s : State) : Answers s (execRetransmitTimerExpiry conn s) := by
  simp [execRetransmitTimerExpiry]

theorem execCnpReceive_answers (lport : Nat) (cnp : CnpPacket) (s : State) : Answers s (execCnpReceive lport cnp s) := by
  simp [execCnpReceive]

theorem execRateTimerExpiry_answers (conn : Nat) (s : State) : Answers s (execRateTimerExpiry conn s) := by
  simp [execRateTimerExpiry]

theorem execAlphaTimerExpiry_answers (conn : Nat) (s : State) : Answers s (execAlphaTimerExpiry conn s) := by
  simp [execAlphaTimerExpiry]

end Sys2Proof.Proofs
end

section
/-! Every command of the NVMe target and the write path answers a next state and keeps the bounds (R88, R429). -/

namespace Sys2Proof.Proofs
open Sys2Proof.Machine Sys2Proof.Laws

/-! ### The write path -/

theorem execWriteZeroes_answers (conn : Nat) (s : State) : Answers s (execWriteZeroes conn s) := by
  refine ioRun_answers (fun _ _ _ _ => ?_)
  dsimp only
  split <;> simp

theorem execDatasetManagement_answers (conn : Nat) (s : State) : Answers s (execDatasetManagement conn s) := by
  refine ioRun_answers (fun _ _ _ _ => ?_)
  (repeat' split) <;> simp

theorem execWriteAdmit_answers (s : State) : Answers s (execWriteAdmit s) := by simp [execWriteAdmit]

theorem execWriteStalledExpiry_answers (rank : Nat) (s : State) : Answers s (execWriteStalledExpiry rank s) := by
  simp only [execWriteStalledExpiry]
  split <;> simp

theorem execMergeReadIssue_answers (cmd sett : Nat) (s : State) : Answers s (execMergeReadIssue cmd sett s) := by
  simp only [execMergeReadIssue]
  split <;> simp

theorem execIndexLookup_answers (cmd unit : Nat) (ashlar : Bool) (s : State) :
    Answers s (execIndexLookup cmd unit ashlar s) := by
  simp only [execIndexLookup]
  (repeat' split) <;> simp

theorem execByteCompareVerify_answers (cmd unit : Nat) (ashlar : Bool) (s : State) :
    Answers s (execByteCompareVerify cmd unit ashlar s) := by
  simp only [execByteCompareVerify]
  (repeat' split) <;> simp

theorem execCompressionJobEnd_answers (cmd unit : Nat) (ashlar : Bool) (s : State) :
    Answers s (execCompressionJobEnd cmd unit ashlar s) := by
  simp only [execCompressionJobEnd]
  split <;> simp

theorem execStagingPlace_answers (cmd : Nat) (s : State) : Answers s (execStagingPlace cmd s) := by
  simp only [execStagingPlace]
  split <;> simp

theorem execIndexPageRebuild_answers (domain page : Nat) (s : State) : Answers s (execIndexPageRebuild domain page s) := by
  simp [execIndexPageRebuild]

/-! ### The NVMe target -/

theorem execFabricsConnect_answers (conn : Nat) (s : State) : Answers s (execFabricsConnect conn s) := by
  simp only [execFabricsConnect]
  split <;> simp

theorem execPropertySet_answers (conn : Nat) (s : State) : Answers s (execPropertySet conn s) := by simp [execPropertySet]

theorem execShutdownComplete_answers (cntlid : Nat) (s : State) : Answers s (execShutdownComplete cntlid s) := by
  simp only [execShutdownComplete]
  split <;> simp

theorem execPropertyGet_answers (conn : Nat) (s : State) : Answers s (execPropertyGet conn s) := by
  refine adminRun_answers (fun _ _ _ _ => ?_)
  (repeat' split) <;> simp

theorem execGetLogPage_answers (conn : Nat) (s : State) : Answers s (execGetLogPage conn s) := by
  refine adminRun_answers (fun _ _ _ _ => ?_)
  dsimp only
  split <;> simp

/-- A command that may first have to read map pages in. -/
theorem answers_of_fetched {s : State} {pages : List Nat} {rank : Nat} {r : Result} (hr : Answers s r) :
    Answers s (if !pages.isEmpty then .next (s.fetchPages pages rank) else r) := by
  split
  · simp
  · exact hr

theorem execNvmeIdentify_answers (conn : Nat) (s : State) : Answers s (execNvmeIdentify conn s) := by
  refine answers_of_fetched (adminRun_answers fun cap c x t => ?_)
  split <;> simp

theorem execAbort_answers (conn : Nat) (s : State) : Answers s (execAbort conn s) := by simp [execAbort]

theorem execSetFeatures_answers (conn : Nat) (s : State) : Answers s (execSetFeatures conn s) := by simp [execSetFeatures]

theorem execGetFeatures_answers (conn : Nat) (s : State) : Answers s (execGetFeatures conn s) := by
  refine adminRun_answers (fun _ _ _ _ => ?_)
  (repeat' split) <;> simp

theorem execAsyncEventRequest_answers (conn : Nat) (s : State) : Answers s (execAsyncEventRequest conn s) := by
  simp [execAsyncEventRequest]

theorem execKeepAlive_answers (conn : Nat) (s : State) : Answers s (execKeepAlive conn s) := by simp [execKeepAlive]

theorem execKeepAliveExpiry_answers (cntlid : Nat) (s : State) : Answers s (execKeepAliveExpiry cntlid s) := by
  simp only [execKeepAliveExpiry]
  split <;> simp

theorem execFormatNvm_answers (conn : Nat) (s : State) : Answers s (execFormatNvm conn s) := by
  refine answers_of_fetched (adminRun_answers fun cap c x t => ?_)
  dsimp only
  (repeat' split) <;> simp

theorem sanitizeRun_answers (conn action : Nat) (s : State) : Answers s (sanitizeRun conn action s) := by
  refine answers_of_fetched (adminRun_answers fun cap c x t => ?_)
  dsimp only
  split <;> simp

theorem execSanitizeBlockErase_answers (conn : Nat) (s : State) : Answers s (execSanitizeBlockErase conn s) := sanitizeRun_answers conn _ s

theorem execSanitizeCryptoErase_answers (conn : Nat) (s : State) : Answers s (execSanitizeCryptoErase conn s) := sanitizeRun_answers conn _ s

theorem execSanitizeExitFailure_answers (conn : Nat) (s : State) : Answers s (execSanitizeExitFailure conn s) := by
  simp [execSanitizeExitFailure]

theorem execEraseOperationStep_answers (index : Nat) (s : State) : Answers s (execEraseOperationStep index s) := by
  simp only [execEraseOperationStep]
  split <;> simp

theorem execEraseOperationEnd_answers (index : Nat) (s : State) : Answers s (execEraseOperationEnd index s) := by
  simp only [execEraseOperationEnd]
  split <;> simp

theorem execNvmeFlush_answers (conn : Nat) (s : State) : Answers s (execNvmeFlush conn s) := by simp [execNvmeFlush]

theorem execFlushComplete_answers (cmd : Nat) (s : State) : Answers s (execFlushComplete cmd s) := by simp [execFlushComplete]

theorem execNvmeWrite_answers (conn : Nat) (s : State) : Answers s (execNvmeWrite conn s) := by
  refine ioRun_answers (fun _ _ _ _ => ?_)
  dsimp only
  split <;> simp

theorem execNvmeRead_answers (conn : Nat) (s : State) : Answers s (execNvmeRead conn s) := by
  refine ioRun_answers (fun _ _ _ _ => ?_)
  dsimp only
  split <;> simp

theorem execAnattExpiry_answers (domain : Nat) (s : State) : Answers s (execAnattExpiry domain s) := by simp [execAnattExpiry]

/-! ### The packets of class 0x03 -/

theorem execSubsysConfig_answers (op : PktOp) (s : State) : Answers s (execSubsysConfig op s) := by simp [execSubsysConfig]

theorem execSubsysDelete_answers (op : PktOp) (s : State) : Answers s (execSubsysDelete op s) := by simp [execSubsysDelete]

theorem execSubsysHosts_answers (op : PktOp) (s : State) : Answers s (execSubsysHosts op s) := by simp [execSubsysHosts]

theorem execNsCreate_answers (op : PktOp) (s : State) : Answers s (execNsCreate op s) := by simp [execNsCreate]

theorem execNsDelete_answers (op : PktOp) (s : State) : Answers s (execNsDelete op s) := by simp [execNsDelete]

theorem execNsResize_answers (op : PktOp) (s : State) : Answers s (execNsResize op s) := by
  refine packetRun_answers fun p => (onNamespace_inBounds fun nsid n => ?_).mpr
  dsimp only
  (repeat' split) <;> simp

theorem execNsSetClass_answers (op : PktOp) (s : State) : Answers s (execNsSetClass op s) := by simp [execNsSetClass]

theorem execNsQuery_answers (op : PktOp) (s : State) : Answers s (execNsQuery op s) := by simp [execNsQuery]

theorem execCtrlQuery_answers (op : PktOp) (s : State) : Answers s (execCtrlQuery op s) := by
  refine packetRun_answers (fun _ => ?_)
  dsimp only
  split <;> simp

theorem execCtrlTeardown_answers (op : PktOp) (s : State) : Answers s (execCtrlTeardown op s) := by
  refine packetRun_answers (fun _ => ?_)
  (repeat' split) <;> simp

theorem execHealthSet_answers (op : PktOp) (s : State) : Answers s (execHealthSet op s) := by simp [execHealthSet]

theorem execEraseStart_answers (op : PktOp) (s : State) : Answers s (execEraseStart op s) := by
  refine packetRun_answers (fun _ => ?_)
  dsimp only
  (repeat' split) <;> simp

theorem execEraseStatus_answers (op : PktOp) (s : State) : Answers s (execEraseStatus op s) := by simp [execEraseStatus]

theorem execDiscLogSet_answers (op : PktOp) (s : State) : Answers s (execDiscLogSet op s) := by simp [execDiscLogSet]

/-! ### The packets of class 0x04 -/

theorem execReduceConfig_answers (op : PktOp) (s : State) : Answers s (execReduceConfig op s) := by simp [execReduceConfig]

theorem execIndexConfig_answers (op : PktOp) (s : State) : Answers s (execIndexConfig op s) := by
  refine packetRun_answers (fun _ => ?_)
  dsimp only
  simp

theorem execCompJob_answers (op : PktOp) (s : State) : Answers s (execCompJob op s) := by simp [execCompJob]

theorem execDecompJob_answers (op : PktOp) (s : State) : Answers s (execDecompJob op s) := by
  refine packetRun_answers (fun _ => ?_)
  dsimp only
  split <;> simp

theorem execReduceStatus_answers (op : PktOp) (s : State) : Answers s (execReduceStatus op s) := by simp [execReduceStatus]

theorem execReduceCounters_answers (op : PktOp) (s : State) : Answers s (execReduceCounters op s) := by simp [execReduceCounters]

theorem execIndexQuery_answers (op : PktOp) (s : State) : Answers s (execIndexQuery op s) := by
  refine packetRun_answers (fun _ => ?_)
  dsimp only
  split <;> simp

theorem execReduceConfigChip_answers (op : PktOp) (s : State) : Answers s (execReduceConfigChip op s) := by
  simp [execReduceConfigChip]

end Sys2Proof.Proofs
end

section
/-! Every command of the map, the stripes and the Plinth links answers a next state and keeps the bounds (R88, R429). -/

namespace Sys2Proof.Proofs
open Sys2Proof.Machine Sys2Proof.Laws

/-! ### The map engine -/

theorem execMapPageReadComplete_answers (page : Nat) (s : State) : Answers s (execMapPageReadComplete page s) := by
  simp only [execMapPageReadComplete]
  split <;> simp

theorem execMapApplyRecord_answers (wsn : Nat) (s : State) : Answers s (execMapApplyRecord wsn s) := by
  simp only [execMapApplyRecord]
  split <;> simp

theorem execColdMergeSweep_answers (nsid ashlar : Nat) (s : State) : Answers s (execColdMergeSweep nsid ashlar s) := by
  simp only [execColdMergeSweep]
  (repeat' split) <;> simp

theorem execWritebackAgeExpiry_answers (page : Nat) (s : State) : Answers s (execWritebackAgeExpiry page s) := by
  simp [execWritebackAgeExpiry]

theorem execMapPageEvict_answers (s : State) : Answers s (execMapPageEvict s) := by
  simp only [execMapPageEvict]
  split <;> simp

theorem execSpoilDrainAck_answers (seq : Nat) (s : State) : Answers s (execSpoilDrainAck seq s) := by
  simp only [execSpoilDrainAck]
  split <;> simp

theorem execMapPinComplete_answers (nsid : Nat) (s : State) : Answers s (execMapPinComplete nsid s) := by
  simp only [execMapPinComplete]
  (repeat' split) <;> simp

theorem execLostSweep_answers (stripe : Nat) (s : State) : Answers s (execLostSweep stripe s) := by
  simp only [execLostSweep]
  split <;> simp

theorem execLayerReleaseEnd_answers (domain layer : Nat) (s : State) : Answers s (execLayerReleaseEnd domain layer s) := by
  simp only [execLayerReleaseEnd]
  split <;> simp

theorem execMapCheckEnd_answers (domain : Nat) (s : State) : Answers s (execMapCheckEnd domain s) := by
  simp only [execMapCheckEnd]
  split <;> simp

theorem execAshlarRecheckRun_answers (nsid ashlar : Nat) (s : State) : Answers s (execAshlarRecheckRun nsid ashlar s) := by
  simp only [execAshlarRecheckRun]
  split <;> simp

/-! ### The packets of class 0x06 -/

theorem execMapConfig_answers (op : PktOp) (s : State) : Answers s (execMapConfig op s) := by simp [execMapConfig]

theorem execSnapCreate_answers (op : PktOp) (s : State) : Answers s (execSnapCreate op s) := by simp [execSnapCreate]

theorem execSnapDelete_answers (op : PktOp) (s : State) : Answers s (execSnapDelete op s) := by
  refine packetRun_answers fun p => (ownerOnly_inBounds ?_).mpr
  (repeat' split) <;> simp

theorem execCloneAttach_answers (op : PktOp) (s : State) : Answers s (execCloneAttach op s) := by
  refine packetRun_answers fun p => (onNs_inBounds fun nsid n => ?_).mpr
  dsimp only
  (repeat' split) <;> simp

theorem execSnapRollback_answers (op : PktOp) (s : State) : Answers s (execSnapRollback op s) := by
  refine packetRun_answers fun p => (onNs_inBounds fun nsid n => ?_).mpr
  (repeat' split) <;> simp

theorem execLayerQuery_answers (op : PktOp) (s : State) : Answers s (execLayerQuery op s) := by
  refine packetRun_answers (fun _ => ?_)
  dsimp only
  split <;> simp

theorem execLayerList_answers (op : PktOp) (s : State) : Answers s (execLayerList op s) := by simp [execLayerList]

theorem execMapLookup_answers (op : PktOp) (s : State) : Answers s (execMapLookup op s) := by
  refine packetRun_answers (fun _ => ?_)
  dsimp only
  split <;> simp

theorem execMapCheck_answers (op : PktOp) (s : State) : Answers s (execMapCheck op s) := by simp [execMapCheck]

theorem execMapStatus_answers (op : PktOp) (s : State) : Answers s (execMapStatus op s) := by simp [execMapStatus]

theorem execMapCounters_answers (op : PktOp) (s : State) : Answers s (execMapCounters op s) := by simp [execMapCounters]

theorem execAshlarRecheck_answers (op : PktOp) (s : State) : Answers s (execAshlarRecheck op s) := by simp [execAshlarRecheck]

/-! ### Stripes, the journal, garbage collection and rebuild -/

theorem execSegmentOpen_answers (domain stream : Nat) (s : State) : Answers s (execSegmentOpen domain stream s) := by
  simp only [execSegmentOpen]
  (repeat' split) <;> simp

theorem execFreePoolReplenish_answers (domain : Nat) (s : State) : Answers s (execFreePoolReplenish domain s) := by
  simp only [execFreePoolReplenish]
  (repeat' split) <;> simp

theorem execStripeProgramsDone_answers (stripe : Nat) (s : State) : Answers s (execStripeProgramsDone stripe s) := by
  simp [execStripeProgramsDone]

theorem execCloseAgeExpiry_answers (stripe : Nat) (s : State) : Answers s (execCloseAgeExpiry stripe s) := by
  simp [execCloseAgeExpiry]

theorem execJournalFrameSend_answers (domain : Nat) (s : State) : Answers s (execJournalFrameSend domain s) := by
  simp [execJournalFrameSend]

theorem execJournalRecordDurable_answers (domain : Nat) (s : State) : Answers s (execJournalRecordDurable domain s) := by
  simp [execJournalRecordDurable]

theorem execJournalDegraded_answers (domain : Nat) (s : State) : Answers s (execJournalDegraded domain s) := by
  simp only [execJournalDegraded]
  (repeat' split) <;> simp

theorem execJournalRepairEnd_answers (domain : Nat) (s : State) : Answers s (execJournalRepairEnd domain s) := by
  simp only [execJournalRepairEnd]
  split <;> simp

theorem execJournalCheckpoint_answers (domain : Nat) (s : State) : Answers s (execJournalCheckpoint domain s) := by
  simp [execJournalCheckpoint]

theorem execJournalReplay_answers (domain : Nat) (image : LedgerImage) (s : State) :
    Answers s (execJournalReplay domain image s) := by
  simp only [execJournalReplay]
  split <;> simp

theorem execGcVictimStart_answers (domain : Nat) (s : State) : Answers s (execGcVictimStart domain s) := by
  simp only [execGcVictimStart]
  (repeat' split) <;> simp

theorem execGcSegmentErase_answers (segment : Nat) (s : State) : Answers s (execGcSegmentErase segment s) := by
  simp [execGcSegmentErase]

theorem execRebuildStart_answers (module : Nat) (s : State) : Answers s (execRebuildStart module s) := by simp [execRebuildStart]

theorem execRebuildRow_answers (segment : Nat) (s : State) : Answers s (execRebuildRow segment s) := by simp [execRebuildRow]

theorem execRebuildFloorWindowEnd_answers (s : State) : Answers s (execRebuildFloorWindowEnd s) := by
  simp [execRebuildFloorWindowEnd]

theorem execFloorGateOpen_answers (s : State) : Answers s (execFloorGateOpen s) := by simp [execFloorGateOpen]

/-! ### The packets of class 0x07 -/

theorem execStripeConfig_answers (op : PktOp) (s : State) : Answers s (execStripeConfig op s) := by simp [execStripeConfig]

theorem execRebuildConfig_answers (op : PktOp) (s : State) : Answers s (execRebuildConfig op s) := by simp [execRebuildConfig]

theorem execStripeQuery_answers (op : PktOp) (s : State) : Answers s (execStripeQuery op s) := by simp [execStripeQuery]

theorem execSegmentQuery_answers (op : PktOp) (s : State) : Answers s (execSegmentQuery op s) := by simp [execSegmentQuery]

theorem execRebuildStatus_answers (op : PktOp) (s : State) : Answers s (execRebuildStatus op s) := by simp [execRebuildStatus]

theorem execLostList_answers (op : PktOp) (s : State) : Answers s (execLostList op s) := by simp [execLostList]

theorem execLostClear_answers (op : PktOp) (s : State) : Answers s (execLostClear op s) := by
  refine packetRun_answers fun p => (ownerOnly_inBounds ?_).mpr
  (repeat' split) <;> simp

theorem execGcControl_answers (op : PktOp) (s : State) : Answers s (execGcControl op s) := by simp [execGcControl]

theorem execModuleRetire_answers (op : PktOp) (s : State) : Answers s (execModuleRetire op s) := by simp [execModuleRetire]

theorem execJournalStatus_answers (op : PktOp) (s : State) : Answers s (execJournalStatus op s) := by simp [execJournalStatus]

theorem execStripeCounters_answers (op : PktOp) (s : State) : Answers s (execStripeCounters op s) := by simp [execStripeCounters]

/-! ### Plinth links, schedule slots, responses, modules and the scrub -/

theorem execPlinthLinkTrained_answers (link : Nat) (s : State) : Answers s (execPlinthLinkTrained link s) := by
  simp [execPlinthLinkTrained]

theorem execHelloInterval_answers (link : Nat) (s : State) : Answers s (execHelloInterval link s) := by simp [execHelloInterval]

theorem execPlinthHelloAnswer_answers (link module credits session : Nat) (s : State) :
    Answers s (execPlinthHelloAnswer link module credits session s) := by simp [execPlinthHelloAnswer]

theorem execPlinthLinkLoss_answers (link cause : Nat) (s : State) : Answers s (execPlinthLinkLoss link cause s) := by
  simp [execPlinthLinkLoss]

theorem execPlinthSilenceExpiry_answers (link : Nat) (s : State) : Answers s (execPlinthSilenceExpiry link s) := by
  simp [execPlinthSilenceExpiry]

theorem execKeepaliveInterval_answers (link : Nat) (s : State) : Answers s (execKeepaliveInterval link s) := by
  simp [execKeepaliveInterval]

theorem execCreditInterval_answers (link : Nat) (s : State) : Answers s (execCreditInterval link s) := by simp [execCreditInterval]

theorem execPlinthCreditReceive_answers (link : Nat) (keepalive : Bool) (value : Nat) (s : State) :
    Answers s (execPlinthCreditReceive link keepalive value s) := by simp [execPlinthCreditReceive]

theorem execPlinthEnvelopeCrossing_answers (link tjBand loadBand : Nat) (s : State) :
    Answers s (execPlinthEnvelopeCrossing link tjBand loadBand s) := by simp [execPlinthEnvelopeCrossing]

theorem execReadIssue_answers (module die : Nat) (s : State) : Answers s (execReadIssue module die s) := by
  simp only [execReadIssue]
  split <;> simp

theorem execSuspendTrigger_answers (module die : Nat) (s : State) : Answers s (execSuspendTrigger module die s) := by
  simp only [execSuspendTrigger]
  split <;> simp

theorem execSuspendAgeExpiry_answers (module die : Nat) (s : State) : Answers s (execSuspendAgeExpiry module die s) := by
  simp [execSuspendAgeExpiry]

theorem execLinksDownReadExpiry_answers (module : Nat) (s : State) : Answers s (execLinksDownReadExpiry module s) := by
  simp [execLinksDownReadExpiry]

theorem execScheduleFrameStart_answers (s : State) : Answers s (execScheduleFrameStart s) := by simp [execScheduleFrameStart]

theorem execSlotStart_answers (module slot : Nat) (s : State) : Answers s (execSlotStart module slot s) := by simp [execSlotStart]

theorem execPlinthReadData_answers (link module cmdId attempt index : Nat) (bytes : List Byte) (s : State) :
    Answers s (execPlinthReadData link module cmdId attempt index bytes s) := by
  simp only [execPlinthReadData]
  (repeat' split) <;> simp

theorem execPlinthReadResponse_answers (r : PlResponse) (s : State) : Answers s (execPlinthReadResponse r s) := by
  refine answers_next.mpr (answer_inBounds (fun c t => ?_) s).mpr
  dsimp only
  (repeat' split) <;> simp

theorem execPlinthProgramResponse_answers (r : PlResponse) (s : State) : Answers s (execPlinthProgramResponse r s) := by
  refine answers_next.mpr (answer_inBounds (fun c t => ?_) s).mpr
  dsimp only
  (repeat' split) <;> simp

theorem execPlinthEraseResponse_answers (r : PlResponse) (s : State) : Answers s (execPlinthEraseResponse r s) := by
  refine answers_next.mpr (answer_inBounds (fun c t => ?_) s).mpr
  dsimp only
  (repeat' split) <;> simp

theorem execPlinthJournalAppendResponse_answers (r : PlResponse) (s : State) : Answers s (execPlinthJournalAppendResponse r s) := by
  refine answers_next.mpr (answer_inBounds (fun c t => ?_) s).mpr
  dsimp only
  (repeat' split) <;> simp

theorem execPlinthClaimPresentResponse_answers (r : PlResponse) (s : State) : Answers s (execPlinthClaimPresentResponse r s) := by
  refine answers_next.mpr (answer_inBounds (fun c t => ?_) s).mpr
  dsimp only
  (repeat' split) <;> simp

theorem execPlinthBlockCommandResponse_answers (r : PlResponse) (s : State) : Answers s (execPlinthBlockCommandResponse r s) := by
  refine answers_next.mpr (answer_inBounds (fun c t => ?_) s).mpr
  dsimp only
  (repeat' split) <;> simp

theorem execPlinthSuspendResponse_answers (r : PlResponse) (s : State) : Answers s (execPlinthSuspendResponse r s) := by
  simp [execPlinthSuspendResponse]

theorem execPlinthInfoResponse_answers (r : PlResponse) (data : List (List Byte)) (s : State) :
    Answers s (execPlinthInfoResponse r data s) := by
  refine answers_next.mpr (answer_inBounds (fun c t => ?_) s).mpr
  dsimp only
  (repeat' split) <;> simp

theorem execPlinthResponseExpiry_answers (module cmdId : Nat) (s : State) :
    Answers s (execPlinthResponseExpiry module cmdId s) := by
  simp only [execPlinthResponseExpiry]
  split <;> simp

theorem execRestartScan_answers (target : ScanTarget) (s : State) : Answers s (execRestartScan target s) := by
  simp only [execRestartScan]
  split <;> simp

theorem execModuleAttach_answers (module : Nat) (s : State) : Answers s (execModuleAttach module s) := by simp [execModuleAttach]

theorem execModuleDetach_answers (module cause : Nat) (s : State) : Answers s (execModuleDetach module cause s) := by
  simp [execModuleDetach]

theorem execFlashScrubVisit_answers (s : State) : Answers s (execFlashScrubVisit s) := by
  simp only [execFlashScrubVisit]
  split <;> simp

/-! ### The packets of class 0x08 -/

theorem execFlashConfig_answers (op : PktOp) (s : State) : Answers s (execFlashConfig op s) := by simp [execFlashConfig]

theorem execLinkConfig_answers (op : PktOp) (s : State) : Answers s (execLinkConfig op s) := by simp [execLinkConfig]

theorem execLinkStatus_answers (op : PktOp) (s : State) : Answers s (execLinkStatus op s) := by simp [execLinkStatus]

theorem execModuleQuery_answers (op : PktOp) (s : State) : Answers s (execModuleQuery op s) := by simp [execModuleQuery]

theorem execBlockQuery_answers (op : PktOp) (s : State) : Answers s (execBlockQuery op s) := by simp [execBlockQuery]

theorem execReadLevelQuery_answers (op : PktOp) (s : State) : Answers s (execReadLevelQuery op s) := by simp [execReadLevelQuery]

theorem execScheduleStatus_answers (op : PktOp) (s : State) : Answers s (execScheduleStatus op s) := by simp [execScheduleStatus]

theorem execFlashCounters_answers (op : PktOp) (s : State) : Answers s (execFlashCounters op s) := by simp [execFlashCounters]

end Sys2Proof.Proofs
end

section
/-! Every command of heads, mirroring and replication answers a next state and keeps the bounds (R88, R429). -/

namespace Sys2Proof.Proofs
open Sys2Proof.Machine Sys2Proof.Laws

/-! ### Heads and the ring -/

theorem execHeadConfig_answers (op : PktOp) (s : State) : Answers s (execHeadConfig op s) := by simp [execHeadConfig]

theorem execPeerTable_answers (op : PktOp) (s : State) : Answers s (execPeerTable op s) := by
  refine packetRun_answers (fun _ => ?_)
  dsimp only
  (repeat' split) <;> simp

theorem execPeerConnectRetry_answers (head lane : Nat) (s : State) : Answers s (execPeerConnectRetry head lane s) := by
  simp [execPeerConnectRetry]

theorem execRingJoin_answers (op : PktOp) (s : State) : Answers s (execRingJoin op s) := by simp [execRingJoin]

theorem execRingLeave_answers (op : PktOp) (s : State) : Answers s (execRingLeave op s) := by simp [execRingLeave]

theorem execHeartbeatInterval_answers (s : State) : Answers s (execHeartbeatInterval s) := by simp [execHeartbeatInterval]

theorem execHeartbeat_answers (frame : RingFrame) (s : State) : Answers s (execHeartbeat frame s) := by simp [execHeartbeat]

theorem execHeartbeatMissExpiry_answers (head direction : Nat) (s : State) :
    Answers s (execHeartbeatMissExpiry head direction s) := by simp [execHeartbeatMissExpiry]

theorem execJoin_answers (frame : RingFrame) (s : State) : Answers s (execJoin frame s) := by simp [execJoin]

theorem execLeave_answers (frame : RingFrame) (s : State) : Answers s (execLeave frame s) := by simp [execLeave]

theorem execClaimIntent_answers (frame : RingFrame) (s : State) : Answers s (execClaimIntent frame s) := by simp [execClaimIntent]

theorem execClaimDone_answers (frame : RingFrame) (s : State) : Answers s (execClaimDone frame s) := by simp [execClaimDone]

theorem execRelease_answers (frame : RingFrame) (s : State) : Answers s (execRelease frame s) := by simp [execRelease]

theorem execFailed_answers (frame : RingFrame) (s : State) : Answers s (execFailed frame s) := by simp [execFailed]

theorem execDomainAcquire_answers (op : PktOp) (s : State) : Answers s (execDomainAcquire op s) := by simp [execDomainAcquire]

theorem execDomainRelease_answers (op : PktOp) (s : State) : Answers s (execDomainRelease op s) := by
  simp only [execDomainRelease]
  split <;> simp

theorem execDomainQuery_answers (op : PktOp) (s : State) : Answers s (execDomainQuery op s) := by simp [execDomainQuery]

theorem execHeadStatus_answers (op : PktOp) (s : State) : Answers s (execHeadStatus op s) := by simp [execHeadStatus]

theorem execFailoverForce_answers (op : PktOp) (s : State) : Answers s (execFailoverForce op s) := by simp [execFailoverForce]

/-! ### Mirroring and takeover -/

theorem execMirrorNote_answers (conn : Nat) (s : State) : Answers s (execMirrorNote conn s) := by
  refine peerRun_answers (fun _ _ _ _ => ?_)
  dsimp only
  split <;> simp

theorem execJournalMirror_answers (conn : Nat) (s : State) : Answers s (execJournalMirror conn s) := by
  refine peerRun_answers (fun _ _ _ _ => ?_)
  dsimp only
  split <;> simp

theorem execProgressMirror_answers (conn : Nat) (s : State) : Answers s (execProgressMirror conn s) := by simp [execProgressMirror]

theorem execTail_answers (conn : Nat) (s : State) : Answers s (execTail conn s) := by
  refine peerRun_answers (fun _ _ _ _ => ?_)
  (repeat' split) <;> simp

theorem execMirrorBind_answers (conn : Nat) (s : State) : Answers s (execMirrorBind conn s) := by
  refine peerRun_answers (fun _ _ _ _ => ?_)
  dsimp only
  (repeat' split) <;> simp

theorem execResyncQuery_answers (conn : Nat) (s : State) : Answers s (execResyncQuery conn s) := by
  refine peerRun_answers (fun _ _ _ _ => ?_)
  dsimp only
  split <;> simp

theorem execMirrorAck_answers (conn : Nat) (s : State) : Answers s (execMirrorAck conn s) := by
  refine peerRun_answers (fun _ _ _ _ => ?_)
  dsimp only
  (repeat' split) <;> simp

theorem execMirrorAckExpiry_answers (lane seq : Nat) (s : State) : Answers s (execMirrorAckExpiry lane seq s) := by
  simp only [execMirrorAckExpiry]
  split <;> simp

theorem execTailInterval_answers (s : State) : Answers s (execTailInterval s) := by simp [execTailInterval]

theorem execBindReply_answers (conn : Nat) (s : State) : Answers s (execBindReply conn s) := by simp [execBindReply]

theorem execMirrorBindRetry_answers (s : State) : Answers s (execMirrorBindRetry s) := by simp [execMirrorBindRetry]

theorem execResilverComplete_answers (s : State) : Answers s (execResilverComplete s) := by simp [execResilverComplete]

theorem execResyncReply_answers (conn : Nat) (s : State) : Answers s (execResyncReply conn s) := by simp [execResyncReply]

theorem execTakeoverDelayExpiry_answers (head : Nat) (s : State) : Answers s (execTakeoverDelayExpiry head s) := by
  simp only [execTakeoverDelayExpiry]
  (repeat' split) <;> simp

theorem execMirrorReplay_answers (domain : Nat) (s : State) : Answers s (execMirrorReplay domain s) := by
  simp only [execMirrorReplay]
  split <;> simp

theorem execTakeoverDone_answers (head : Nat) (s : State) : Answers s (execTakeoverDone head s) := by
  simp only [execTakeoverDone]
  (repeat' split) <;> simp

/-! ### Replication -/

theorem execReplOpen_answers (op : PktOp) (s : State) : Answers s (execReplOpen op s) := by
  refine packetRun_answers fun p => (configured_inBounds ?_).mpr
  dsimp only
  split
  · simp
  · refine ownerOnly_inBounds ?_
    (repeat' split) <;> simp

theorem execReplClose_answers (op : PktOp) (s : State) : Answers s (execReplClose op s) := by
  refine packetRun_answers fun p => (onSession_inBounds fun i x => ?_).mpr
  dsimp only
  (repeat' split) <;> simp

theorem execReplSend_answers (op : PktOp) (s : State) : Answers s (execReplSend op s) := by
  refine packetRun_answers fun p => (onSession_inBounds fun i x => ?_).mpr
  dsimp only
  (repeat' split) <;> simp

theorem execReplStatus_answers (op : PktOp) (s : State) : Answers s (execReplStatus op s) := by simp [execReplStatus]

theorem execReplPump_answers (op : PktOp) (s : State) : Answers s (execReplPump op s) := by
  refine packetRun_answers fun p => (onSession_inBounds fun i x => ?_).mpr
  dsimp only
  (repeat' split) <;> simp

theorem execNeeds_answers (session : Nat) (s : State) : Answers s (execNeeds session s) := by
  refine replRun_answers (fun _ => ?_)
  dsimp only
  split <;> simp

theorem execDeltaDone_answers (session : Nat) (s : State) : Answers s (execDeltaDone session s) := by
  refine replRun_answers (fun _ => ?_)
  dsimp only
  (repeat' split) <;> simp

theorem execSyncAck_answers (session : Nat) (s : State) : Answers s (execSyncAck session s) := by
  refine replRun_answers (fun _ => ?_)
  dsimp only
  (repeat' split) <;> simp

theorem execSyncTimeoutExpiry_answers (session seq : Nat) (s : State) : Answers s (execSyncTimeoutExpiry session seq s) := by
  simp only [execSyncTimeoutExpiry]
  split <;> simp

theorem execDeltaBegin_answers (session : Nat) (s : State) : Answers s (execDeltaBegin session s) := by
  refine replRun_answers (fun _ => ?_)
  dsimp only
  (repeat' split) <;> simp

theorem execOffers_answers (session : Nat) (s : State) : Answers s (execOffers session s) := by
  refine replRun_answers (fun _ => ?_)
  dsimp only
  (repeat' split) <;> simp

theorem execExtent_answers (session : Nat) (s : State) : Answers s (execExtent session s) := by
  refine replRun_answers fun m => ?_
  dsimp only
  split
  next ks r _ _ =>
    split
    · simp
    · split
      · simp
      · split
        · split <;> simp
        next y hy =>
          obtain ⟨b, -, hstage⟩ := Option.bind_eq_some_iff.mp hy
          simp [stageExtent_inBounds (t := y.2) hstage]
  next => simp

theorem execDeltaEnd_answers (session : Nat) (s : State) : Answers s (execDeltaEnd session s) := by
  refine replRun_answers (fun _ => ?_)
  dsimp only
  (repeat' split) <;> simp

theorem execSyncWrite_answers (session : Nat) (s : State) : Answers s (execSyncWrite session s) := by
  refine replRun_answers fun m => ?_
  dsimp only
  split
  · simp
  next rs es _ =>
    generalize hstaged : List.foldl _ (true, _, _) _ = z
    have hz : InBounds z.2.2.events ↔ InBounds s.events := by
      rw [← hstaged, foldl_snd_snd_inBounds]
      · simp
      · intro acc e
        split
        next w hw =>
          obtain ⟨b, -, hstage⟩ := Option.bind_eq_some_iff.mp hw
          exact stageExtent_inBounds (t := w.2) hstage
        next => rfl
    (repeat' split) <;> simp [hz]

end Sys2Proof.Proofs
end

section
/-! A step, whatever command is at the front of the queue (R88, R429, log entry 1). -/

namespace Sys2Proof.Proofs
open Sys2Proof.Machine Sys2Proof.Laws

/-- Every command answers a next state and keeps the bounds: one lemma per constructor of `Instr`. -/
theorem exec_answers (i : Instr) (s : State) : Answers s (exec i s) := by
  cases i with
  | powerOn vbus => exact execPowerOn_answers vbus s
  | coreRailsInRegulation => exact execCoreRailsInRegulation_answers s
  | autoResetRelease straps => exact execAutoResetRelease_answers straps s
  | vbusLow vbus => exact execVbusLow_answers vbus s
  | brownout vbus => exact execBrownout_answers vbus s
  | brownoutRelease vbus => exact execBrownoutRelease_answers vbus s
  | vbusStop vbus => exact execVbusStop_answers vbus s
  | vbusFail => exact execVbusFail_answers s
  | drainQuiesceEnd => exact execDrainQuiesceEnd_answers s
  | drainedStateEnter => exact execDrainedStateEnter_answers s
  | loadBandCrossing band => exact execLoadBandCrossing_answers band s
  | phasePlanRederived => exact execPhasePlanRederived_answers s
  | islandWakeAdmit => exact execIslandWakeAdmit_answers s
  | islandRampEnd island => exact execIslandRampEnd_answers island s
  | clockLoss clock => exact execClockLoss_answers clock s
  | clockRestored clock => exact execClockRestored_answers clock s
  | resetPinAssert => exact execResetPinAssert_answers s
  | internalResetBegin => exact execInternalResetBegin_answers s
  | resetPinRelease straps => exact execResetPinRelease_answers straps s
  | pcieReset kind => exact execPcieReset_answers kind s
  | busMasterOrDStateChange bme d0 => exact execBusMasterOrDStateChange_answers bme d0 s
  | thermalAlertAssert sensor temp => exact execThermalAlertAssert_answers sensor temp s
  | thermalAlertRelease temps => exact execThermalAlertRelease_answers temps s
  | thermalTrip sensor temp => exact execThermalTrip_answers sensor temp s
  | smbStatusClear value => exact execSmbStatusClear_answers value s
  | smbRegisterWrite code value => exact execSmbRegisterWrite_answers code value s
  | tapInstruction ir shiftIn => exact execTapInstruction_answers ir shiftIn s
  | islandPower op => exact execIslandPower_answers op s
  | powerStatus op => exact execPowerStatus_answers op s
  | holdupConfig op => exact execHoldupConfig_answers op s
  | chipPowerDown op => exact execChipPowerDown_answers op s
  | powerDownCommandsSettled => exact execPowerDownCommandsSettled_answers s
  | powerDownDrainDone => exact execPowerDownDrainDone_answers s
  | chipReset op => exact execChipReset_answers op s
  | softwareResetExpiry => exact execSoftwareResetExpiry_answers s
  | stampCheckpointInterval failure => exact execStampCheckpointInterval_answers failure s
  | sqTailDb n v => exact execSqTailDb_answers n v s
  | rqHeadDb n v => exact execRqHeadDb_answers n v s
  | evqHeadDb v => exact execEvqHeadDb_answers v s
  | ringEnable n v => exact execRingEnable_answers n v s
  | ringStop n v => exact execRingStop_answers n v s
  | ringStopDrained n => exact execRingStopDrained_answers n s
  | evqEnable v => exact execEvqEnable_answers v s
  | evqDisable v => exact execEvqDisable_answers v s
  | registerWrite bar off size v => exact execRegisterWrite_answers bar off size v s
  | packetFetch slot => exact execPacketFetch_answers slot s
  | replyWriteRefused n => exact execReplyWriteRefused_answers n s
  | eventPost => exact execEventPost_answers s
  | eventWriteRefused => exact execEventWriteRefused_answers s
  | nop op => exact execNop_answers op s
  | chipIdentify op => exact execChipIdentify_answers op s
  | stampRead op => exact execStampRead_answers op s
  | eventConfig op => exact execEventConfig_answers op s
  | eventCounts op => exact execEventCounts_answers op s
  | stampLoRead => exact execStampLoRead_answers s
  | dumpWindowBaseWrite v => exact execDumpWindowBaseWrite_answers v s
  | ksPrioWrite a v => exact execKsPrioWrite_answers a v s
  | dgLwDataWrite c v => exact execDgLwDataWrite_answers c v s
  | dgLwCtrlWrite c v => exact execDgLwCtrlWrite_answers c v s
  | portLinkUp lport => exact execPortLinkUp_answers lport s
  | portLinkDown lport => exact execPortLinkDown_answers lport s
  | serdesEnvelopeCrossing port lane => exact execSerdesEnvelopeCrossing_answers port lane s
  | frameReceive lport frame => exact execFrameReceive_answers lport frame s
  | pfcFrameReceive lport enabled quanta => exact execPfcFrameReceive_answers lport enabled quanta s
  | pfcPauseExpiry lport prio => exact execPfcPauseExpiry_answers lport prio s
  | pfcPauseLongExpiry lport prio => exact execPfcPauseLongExpiry_answers lport prio s
  | cmReqReceive req => exact execCmReqReceive_answers req s
  | cmRepReceive conn rep psn mtu => exact execCmRepReceive_answers conn rep psn mtu s
  | cmRtuReceive conn => exact execCmRtuReceive_answers conn s
  | cmRejReceive conn => exact execCmRejReceive_answers conn s
  | cmRetryExpiry conn => exact execCmRetryExpiry_answers conn s
  | cmDreqReceive conn => exact execCmDreqReceive_answers conn s
  | cmDrepReceive conn => exact execCmDrepReceive_answers conn s
  | dreqRetryExpiry conn => exact execDreqRetryExpiry_answers conn s
  | timewaitExpiry conn => exact execTimewaitExpiry_answers conn s
  | rcRequestReceive pkt => exact execRcRequestReceive_answers pkt s
  | ackCoalesceExpiry conn => exact execAckCoalesceExpiry_answers conn s
  | rcAckReceive pkt => exact execRcAckReceive_answers pkt s
  | rcSeqNakReceive pkt => exact execRcSeqNakReceive_answers pkt s
  | rcRnrNakReceive pkt => exact execRcRnrNakReceive_answers pkt s
  | rcErrorNakReceive pkt => exact execRcErrorNakReceive_answers pkt s
  | rnrTimerExpiry conn => exact execRnrTimerExpiry_answers conn s
  | rdmaReadResponseReceive pkt => exact execRdmaReadResponseReceive_answers pkt s
  | retransmitTimerExpiry conn => exact execRetransmitTimerExpiry_answers conn s
  | cnpReceive lport cnp => exact execCnpReceive_answers lport cnp s
  | rateTimerExpiry conn => exact execRateTimerExpiry_answers conn s
  | alphaTimerExpiry conn => exact execAlphaTimerExpiry_answers conn s
  | contextFetchComplete conn => exact execContextFetchComplete_answers conn s
  | portConfig op => exact execPortConfig_answers op s
  | transportConfig op => exact execTransportConfig_answers op s
  | connQuery op => exact execConnQuery_answers op s
  | connPin op => exact execConnPin_answers op s
  | portStatus op => exact execPortStatus_answers op s
  | portCounters op => exact execPortCounters_answers op s
  | ctrlFrameSend op => exact execCtrlFrameSend_answers op s
  | ctrlFrameRecv op => exact execCtrlFrameRecv_answers op s
  | transportCounters op => exact execTransportCounters_answers op s
  | connDisconnect op => exact execConnDisconnect_answers op s
  | fabricsConnect conn => exact execFabricsConnect_answers conn s
  | propertySet conn => exact execPropertySet_answers conn s
  | shutdownComplete cntlid => exact execShutdownComplete_answers cntlid s
  | propertyGet conn => exact execPropertyGet_answers conn s
  | getLogPage conn => exact execGetLogPage_answers conn s
  | nvmeIdentify conn => exact execNvmeIdentify_answers conn s
  | abort conn => exact execAbort_answers conn s
  | setFeatures conn => exact execSetFeatures_answers conn s
  | getFeatures conn => exact execGetFeatures_answers conn s
  | asyncEventRequest conn => exact execAsyncEventRequest_answers conn s
  | keepAlive conn => exact execKeepAlive_answers conn s
  | keepAliveExpiry cntlid => exact execKeepAliveExpiry_answers cntlid s
  | formatNvm conn => exact execFormatNvm_answers conn s
  | sanitizeBlockErase conn => exact execSanitizeBlockErase_answers conn s
  | sanitizeCryptoErase conn => exact execSanitizeCryptoErase_answers conn s
  | sanitizeExitFailure conn => exact execSanitizeExitFailure_answers conn s
  | eraseOperationStep index => exact execEraseOperationStep_answers index s
  | eraseOperationEnd index => exact execEraseOperationEnd_answers index s
  | nvmeFlush conn => exact execNvmeFlush_answers conn s
  | flushComplete cmd => exact execFlushComplete_answers cmd s
  | nvmeWrite conn => exact execNvmeWrite_answers conn s
  | nvmeRead conn => exact execNvmeRead_answers conn s
  | writeZeroes conn => exact execWriteZeroes_answers conn s
  | datasetManagement conn => exact execDatasetManagement_answers conn s
  | subsysConfig op => exact execSubsysConfig_answers op s
  | subsysDelete op => exact execSubsysDelete_answers op s
  | subsysHosts op => exact execSubsysHosts_answers op s
  | nsCreate op => exact execNsCreate_answers op s
  | nsDelete op => exact execNsDelete_answers op s
  | nsResize op => exact execNsResize_answers op s
  | nsSetClass op => exact execNsSetClass_answers op s
  | nsQuery op => exact execNsQuery_answers op s
  | ctrlQuery op => exact execCtrlQuery_answers op s
  | ctrlTeardown op => exact execCtrlTeardown_answers op s
  | healthSet op => exact execHealthSet_answers op s
  | eraseStart op => exact execEraseStart_answers op s
  | eraseStatus op => exact execEraseStatus_answers op s
  | discLogSet op => exact execDiscLogSet_answers op s
  | writeAdmit => exact execWriteAdmit_answers s
  | writeStalledExpiry rank => exact execWriteStalledExpiry_answers rank s
  | mergeReadIssue cmd sett => exact execMergeReadIssue_answers cmd sett s
  | indexLookup cmd unit ashlar => exact execIndexLookup_answers cmd unit ashlar s
  | byteCompareVerify cmd unit ashlar => exact execByteCompareVerify_answers cmd unit ashlar s
  | compressionJobEnd cmd unit ashlar => exact execCompressionJobEnd_answers cmd unit ashlar s
  | stagingPlace cmd => exact execStagingPlace_answers cmd s
  | indexPageRebuild domain page => exact execIndexPageRebuild_answers domain page s
  | reduceConfig op => exact execReduceConfig_answers op s
  | indexConfig op => exact execIndexConfig_answers op s
  | compJob op => exact execCompJob_answers op s
  | decompJob op => exact execDecompJob_answers op s
  | reduceStatus op => exact execReduceStatus_answers op s
  | reduceCounters op => exact execReduceCounters_answers op s
  | indexQuery op => exact execIndexQuery_answers op s
  | reduceConfigChip op => exact execReduceConfigChip_answers op s
  | dgStart op => exact execDgStart_answers op s
  | dgUpdate op => exact execDgUpdate_answers op s
  | dgFinish op => exact execDgFinish_answers op s
  | dgSuspend op => exact execDgSuspend_answers op s
  | dgResume op => exact execDgResume_answers op s
  | dgAbandon op => exact execDgAbandon_answers op s
  | dgStatus op => exact execDgStatus_answers op s
  | dgQueueDeadlineExpiry acc => exact execDgQueueDeadlineExpiry_answers acc s
  | keyLoad op => exact execKeyLoad_answers op s
  | keyGenerate op => exact execKeyGenerate_answers op s
  | keyDerive op => exact execKeyDerive_answers op s
  | keyExport op => exact execKeyExport_answers op s
  | keyDestroy op => exact execKeyDestroy_answers op s
  | keyQuery op => exact execKeyQuery_answers op s
  | keyPolicy op => exact execKeyPolicy_answers op s
  | gcmJob op => exact execGcmJob_answers op s
  | entropyTestFail test => exact execEntropyTestFail_answers test s
  | mapPageReadComplete page => exact execMapPageReadComplete_answers page s
  | mapApplyRecord wsn => exact execMapApplyRecord_answers wsn s
  | coldMergeSweep nsid ashlar => exact execColdMergeSweep_answers nsid ashlar s
  | writebackAgeExpiry page => exact execWritebackAgeExpiry_answers page s
  | mapPageEvict => exact execMapPageEvict_answers s
  | spoilDrainAck seq => exact execSpoilDrainAck_answers seq s
  | mapPinComplete nsid => exact execMapPinComplete_answers nsid s
  | lostSweep stripe => exact execLostSweep_answers stripe s
  | layerReleaseEnd domain layer => exact execLayerReleaseEnd_answers domain layer s
  | mapConfig op => exact execMapConfig_answers op s
  | snapCreate op => exact execSnapCreate_answers op s
  | snapDelete op => exact execSnapDelete_answers op s
  | cloneAttach op => exact execCloneAttach_answers op s
  | snapRollback op => exact execSnapRollback_answers op s
  | layerQuery op => exact execLayerQuery_answers op s
  | layerList op => exact execLayerList_answers op s
  | mapLookup op => exact execMapLookup_answers op s
  | mapCheck op => exact execMapCheck_answers op s
  | mapCheckEnd domain => exact execMapCheckEnd_answers domain s
  | mapStatus op => exact execMapStatus_answers op s
  | mapCounters op => exact execMapCounters_answers op s
  | ashlarRecheck op => exact execAshlarRecheck_answers op s
  | ashlarRecheckRun nsid ashlar => exact execAshlarRecheckRun_answers nsid ashlar s
  | segmentOpen domain stream => exact execSegmentOpen_answers domain stream s
  | freePoolReplenish domain => exact execFreePoolReplenish_answers domain s
  | stripeProgramsDone stripe => exact execStripeProgramsDone_answers stripe s
  | closeAgeExpiry stripe => exact execCloseAgeExpiry_answers stripe s
  | journalFrameSend domain => exact execJournalFrameSend_answers domain s
  | journalRecordDurable domain => exact execJournalRecordDurable_answers domain s
  | journalDegraded domain => exact execJournalDegraded_answers domain s
  | journalRepairEnd domain => exact execJournalRepairEnd_answers domain s
  | journalCheckpoint domain => exact execJournalCheckpoint_answers domain s
  | journalReplay domain image => exact execJournalReplay_answers domain image s
  | gcVictimStart domain => exact execGcVictimStart_answers domain s
  | gcSegmentErase segment => exact execGcSegmentErase_answers segment s
  | rebuildStart module => exact execRebuildStart_answers module s
  | rebuildRow segment => exact execRebuildRow_answers segment s
  | rebuildFloorWindowEnd => exact execRebuildFloorWindowEnd_answers s
  | floorGateOpen => exact execFloorGateOpen_answers s
  | stripeConfig op => exact execStripeConfig_answers op s
  | rebuildConfig op => exact execRebuildConfig_answers op s
  | stripeQuery op => exact execStripeQuery_answers op s
  | segmentQuery op => exact execSegmentQuery_answers op s
  | rebuildStatus op => exact execRebuildStatus_answers op s
  | lostList op => exact execLostList_answers op s
  | lostClear op => exact execLostClear_answers op s
  | gcControl op => exact execGcControl_answers op s
  | moduleRetire op => exact execModuleRetire_answers op s
  | journalStatus op => exact execJournalStatus_answers op s
  | stripeCounters op => exact execStripeCounters_answers op s
  | plinthLinkTrained link => exact execPlinthLinkTrained_answers link s
  | helloInterval link => exact execHelloInterval_answers link s
  | plinthHelloAnswer link module credits session => exact execPlinthHelloAnswer_answers link module credits session s
  | plinthLinkLoss link cause => exact execPlinthLinkLoss_answers link cause s
  | plinthSilenceExpiry link => exact execPlinthSilenceExpiry_answers link s
  | keepaliveInterval link => exact execKeepaliveInterval_answers link s
  | creditInterval link => exact execCreditInterval_answers link s
  | plinthCreditReceive link keepalive value => exact execPlinthCreditReceive_answers link keepalive value s
  | readIssue module die => exact execReadIssue_answers module die s
  | scheduleFrameStart => exact execScheduleFrameStart_answers s
  | slotStart module slot => exact execSlotStart_answers module slot s
  | suspendTrigger module die => exact execSuspendTrigger_answers module die s
  | suspendAgeExpiry module die => exact execSuspendAgeExpiry_answers module die s
  | plinthReadData link module cmdId attempt index bytes => exact execPlinthReadData_answers link module cmdId attempt index bytes s
  | plinthReadResponse r => exact execPlinthReadResponse_answers r s
  | plinthProgramResponse r => exact execPlinthProgramResponse_answers r s
  | plinthEraseResponse r => exact execPlinthEraseResponse_answers r s
  | plinthJournalAppendResponse r => exact execPlinthJournalAppendResponse_answers r s
  | plinthClaimPresentResponse r => exact execPlinthClaimPresentResponse_answers r s
  | plinthBlockCommandResponse r => exact execPlinthBlockCommandResponse_answers r s
  | plinthSuspendResponse r => exact execPlinthSuspendResponse_answers r s
  | plinthInfoResponse r data => exact execPlinthInfoResponse_answers r data s
  | plinthResponseExpiry module cmdId => exact execPlinthResponseExpiry_answers module cmdId s
  | restartScan target => exact execRestartScan_answers target s
  | moduleAttach module => exact execModuleAttach_answers module s
  | moduleDetach module cause => exact execModuleDetach_answers module cause s
  | linksDownReadExpiry module => exact execLinksDownReadExpiry_answers module s
  | plinthEnvelopeCrossing link tjBand loadBand => exact execPlinthEnvelopeCrossing_answers link tjBand loadBand s
  | flashScrubVisit => exact execFlashScrubVisit_answers s
  | flashConfig op => exact execFlashConfig_answers op s
  | linkConfig op => exact execLinkConfig_answers op s
  | linkStatus op => exact execLinkStatus_answers op s
  | moduleQuery op => exact execModuleQuery_answers op s
  | blockQuery op => exact execBlockQuery_answers op s
  | readLevelQuery op => exact execReadLevelQuery_answers op s
  | scheduleStatus op => exact execScheduleStatus_answers op s
  | flashCounters op => exact execFlashCounters_answers op s
  | headConfig op => exact execHeadConfig_answers op s
  | peerTable op => exact execPeerTable_answers op s
  | peerConnectRetry head lane => exact execPeerConnectRetry_answers head lane s
  | ringJoin op => exact execRingJoin_answers op s
  | ringLeave op => exact execRingLeave_answers op s
  | domainAcquire op => exact execDomainAcquire_answers op s
  | domainRelease op => exact execDomainRelease_answers op s
  | domainQuery op => exact execDomainQuery_answers op s
  | headStatus op => exact execHeadStatus_answers op s
  | failoverForce op => exact execFailoverForce_answers op s
  | heartbeatInterval => exact execHeartbeatInterval_answers s
  | heartbeat frame => exact execHeartbeat_answers frame s
  | heartbeatMissExpiry head direction => exact execHeartbeatMissExpiry_answers head direction s
  | join frame => exact execJoin_answers frame s
  | leave frame => exact execLeave_answers frame s
  | claimIntent frame => exact execClaimIntent_answers frame s
  | claimDone frame => exact execClaimDone_answers frame s
  | release frame => exact execRelease_answers frame s
  | failed frame => exact execFailed_answers frame s
  | takeoverDelayExpiry head => exact execTakeoverDelayExpiry_answers head s
  | mirrorReplay domain => exact execMirrorReplay_answers domain s
  | takeoverDone head => exact execTakeoverDone_answers head s
  | mirrorNote conn => exact execMirrorNote_answers conn s
  | mirrorAck conn => exact execMirrorAck_answers conn s
  | mirrorAckExpiry lane seq => exact execMirrorAckExpiry_answers lane seq s
  | journalMirror conn => exact execJournalMirror_answers conn s
  | progressMirror conn => exact execProgressMirror_answers conn s
  | tail conn => exact execTail_answers conn s
  | tailInterval => exact execTailInterval_answers s
  | mirrorBind conn => exact execMirrorBind_answers conn s
  | bindReply conn => exact execBindReply_answers conn s
  | mirrorBindRetry => exact execMirrorBindRetry_answers s
  | resilverComplete => exact execResilverComplete_answers s
  | resyncQuery conn => exact execResyncQuery_answers conn s
  | resyncReply conn => exact execResyncReply_answers conn s
  | replOpen op => exact execReplOpen_answers op s
  | replClose op => exact execReplClose_answers op s
  | replSend op => exact execReplSend_answers op s
  | replStatus op => exact execReplStatus_answers op s
  | replPump op => exact execReplPump_answers op s
  | deltaBegin session => exact execDeltaBegin_answers session s
  | offers session => exact execOffers_answers session s
  | needs session => exact execNeeds_answers session s
  | extent session => exact execExtent_answers session s
  | deltaEnd session => exact execDeltaEnd_answers session s
  | deltaDone session => exact execDeltaDone_answers session s
  | syncWrite session => exact execSyncWrite_answers session s
  | syncAck session => exact execSyncAck_answers session s
  | syncTimeoutExpiry session seq => exact execSyncTimeoutExpiry_answers session seq s
  | dramTraining dimms headerOk sectionsOk => exact execDramTraining_answers dimms headerOk sectionsOk s
  | dqsOscillatorCheck channel oscillator drift => exact execDqsOscillatorCheck_answers channel oscillator drift s
  | dramPatrolScrub channel lines hits => exact execDramPatrolScrub_answers channel lines hits s
  | sramSweep island hits metadata => exact execSramSweep_answers island hits metadata s
  | jointFlitRefused joint symbols first => exact execJointFlitRefused_answers joint symbols first s
  | arbiterContest a arrivals => exact execArbiterContest_answers a arrivals s
  | ksStarvationExpiry a rank => exact execKsStarvationExpiry_answers a rank s
  | dramConfig op => exact execDramConfig_answers op s
  | dramStatus op => exact execDramStatus_answers op s
  | dramRepairList op => exact execDramRepairList_answers op s
  | latencyConfig op => exact execLatencyConfig_answers op s
  | latencyStatus op => exact execLatencyStatus_answers op s
  | ksWatchRead op => exact execKsWatchRead_answers op s
  | fabricCounters op => exact execFabricCounters_answers op s
  | bootRom lost bad weak => exact execBootRom_answers lost bad weak s
  | lockstepMiscompare memory loc => exact execLockstepMiscompare_answers memory loc s
  | watchdogExpiry => exact execWatchdogExpiry_answers s
  | fieldImageStart => exact execFieldImageStart_answers s
  | selfTest hods ways sram channels engines lanes => exact execSelfTest_answers hods ways sram channels engines lanes s
  | startupService => exact execStartupService_answers s
  | hodFindWork hod => exact execHodFindWork_answers hod s
  | vaultWeakBlockCopy => exact execVaultWeakBlockCopy_answers s
  | logBlockReclaim => exact execLogBlockReclaim_answers s
  | vaultLoweringComplete => exact execVaultLoweringComplete_answers s
  | templateLoad op => exact execTemplateLoad_answers op s
  | templateCommit op => exact execTemplateCommit_answers op s
  | templateBankDrained => exact execTemplateBankDrained_answers s
  | templateDiscard op => exact execTemplateDiscard_answers op s
  | templateGenerate op => exact execTemplateGenerate_answers op s
  | templateQuery op => exact execTemplateQuery_answers op s
  | hodStatus op => exact execHodStatus_answers op s
  | selfTestResult op => exact execSelfTestResult_answers op s
  | vaultStatus op => exact execVaultStatus_answers op s
  | vaultRead op bad weak => exact execVaultRead_answers op bad weak s
  | vaultProtectRaise op => exact execVaultProtectRaise_answers op s
  | vaultProtectLower op => exact execVaultProtectLower_answers op s
  | updateOpen op => exact execUpdateOpen_answers op s
  | updateChunk op failure => exact execUpdateChunk_answers op failure s
  | updateStatus op => exact execUpdateStatus_answers op s
  | updateClose op => exact execUpdateClose_answers op s
  | updateAbort op => exact execUpdateAbort_answers op s
  | imageConfirm op => exact execImageConfirm_answers op s
  | imageSelect op => exact execImageSelect_answers op s
  | settingsReset op => exact execSettingsReset_answers op s
  | rubbleDump => exact execRubbleDump_answers s
  | dumpSectionsCopied faults failed => exact execDumpSectionsCopied_answers faults failed s
  | vaultSummaryWritten => exact execVaultSummaryWritten_answers s
  | faultStatus op => exact execFaultStatus_answers op s
  | errorLogRead op => exact execErrorLogRead_answers op s
  | errorLogClear op => exact execErrorLogClear_answers op s
  | dumpClear op => exact execDumpClear_answers op s
  | dumpSummaryList op => exact execDumpSummaryList_answers op s
  | footingEnter op => exact execFootingEnter_answers op s
  | footingExit op => exact execFootingExit_answers op s
  | faultInject op => exact execFaultInject_answers op s
  | anattExpiry domain => exact execAnattExpiry_answers domain s
  | lastWordWaitExpiry c => exact execLastWordWaitExpiry_answers c s
  | entropyTestPass => exact execEntropyTestPass_answers s
  | chipStateHeartbeatTick => exact execChipStateHeartbeatTick_answers s
  | msixIntervalExpiry vec => exact execMsixIntervalExpiry_answers vec s
  | vbusRiseAbove9v5 vbus => exact execVbusRiseAbove9v5_answers vbus s
  | pciePerstLRise => exact execPciePerstLRise_answers s

theorem step_answers (s : State) : Answers s (step s) := by
  unfold step
  split
  case h_1 => simp
  case h_2 c rest _ => exact exec_answers c { s with pending := rest }

/-- Settles O48, by `step_answers`. -/
theorem everyStepAnswersANextState : Obligations.EveryStepAnswersANextState := by
  unfold Obligations.EveryStepAnswersANextState
  intro s
  obtain ⟨t, hstep, -⟩ := step_answers s
  exact ⟨t, hstep⟩

/-- Settles O47, by `step_answers`. -/
theorem everyStepKeepsTheEventBounds : Obligations.EveryStepKeepsTheEventBounds := by
  unfold Obligations.EveryStepKeepsTheEventBounds
  intro s t hs hstep
  obtain ⟨u, hanswer, hkeeps⟩ := step_answers s
  obtain rfl : u = t := Host.Outcome.next.inj (hanswer.symm.trans hstep)
  exact hkeeps hs

end Sys2Proof.Proofs
end
